-- ==== Sys2Proof/Machine/SMap.lean ====
section
/-! DEFINITION. Sparse tables with number keys: a list of pairs in strictly rising key order.  A table with a
default never lists an entry equal to its default, so equal tables are equal lists. -/

namespace Sys2Proof.Machine

/-- A table from numbers to values, as plain data. -/
abbrev SMap (V : Type) := List (Nat × V)

/-- The listed value at a key, if the key is listed. -/
def SMap.find {V : Type} : SMap V → Nat → Option V
  | [], _ => none
  | (k', v) :: m, k => if k = k' then some v else SMap.find m k

/-- The table lists a value at a key. -/
def SMap.holds {V : Type} [DecidableEq V] (m : SMap V) (k : Nat) (v : V) : Bool :=
  match SMap.find m k with
  | some x => decide (x = v)
  | none => false

/-- The table with a value put at a key, keeping the keys in rising order. -/
def SMap.put {V : Type} : SMap V → Nat → V → SMap V
  | [], k, v => [(k, v)]
  | (k', v') :: m, k, v =>
    if k < k' then (k, v) :: (k', v') :: m
    else if k = k' then (k, v) :: m
    else (k', v') :: SMap.put m k v

/-- The table without a key. -/
def SMap.del {V : Type} : SMap V → Nat → SMap V
  | [], _ => []
  | (k', v') :: m, k => if k = k' then SMap.del m k else (k', v') :: SMap.del m k

/-- Reading a table whose unlisted keys read as a default. -/
def SMap.get {V : Type} (d : Nat → V) (m : SMap V) (k : Nat) : V := (SMap.find m k).getD (d k)

/-- Writing a table whose unlisted keys read as a default: the default itself is never listed. -/
def SMap.set {V : Type} [DecidableEq V] (d : Nat → V) (m : SMap V) (k : Nat) (v : V) : SMap V :=
  if v = d k then SMap.del m k else SMap.put m k v

/-- The keys rise strictly. -/
def SMap.sorted {V : Type} : SMap V → Bool
  | [] => true
  | [_] => true
  | (k, _) :: (k', v') :: m => decide (k < k') && SMap.sorted ((k', v') :: m)

/-- The canonical form of a table with a default. -/
def SMap.wf {V : Type} [DecidableEq V] (d : Nat → V) (m : SMap V) : Bool :=
  SMap.sorted m && m.all (fun e => decide (e.2 ≠ d e.1))

end Sys2Proof.Machine
end

