-- ==== Sys2Proof/Word.lean ====
section
/-! DEFINITION. The register word, its fields, and the descriptors of registers and fields (R5, R6). -/

namespace Sys2Proof

/-- A device register (R34): 32 bits. -/
abbrev Word := BitVec 32

/-- A byte of a memory structure. -/
abbrev Byte := BitVec 8

/-- A string of bytes, lowest address first (R5: little-endian in memory unless a table says otherwise). -/
abbrev Bytes := List Byte

namespace Machine

/-- The access types of R6.  A bit that no field covers is RSV. -/
inductive Acc where
  | ro | rw | rwh | wo | w1c | w1s | rc | rwc
  deriving DecidableEq, Repr

/-- One field of a register table: name, highest bit, lowest bit, access type. -/
structure Fld where
  name : String
  hi : Nat
  lo : Nat
  acc : Acc
  deriving DecidableEq, Repr

/-- One register of the captions: name, offset in its page, copies, their stride, reset value, fields. -/
structure RegDesc where
  name : String
  off : Nat
  count : Nat
  stride : Nat
  reset : Nat
  fields : List Fld
  deriving DecidableEq, Repr

/-- A field in BAR2: the register's offset, the lowest bit and the width. -/
structure FRef where
  off : Nat
  lo : Nat
  wd : Nat
  deriving DecidableEq, Repr

end Machine

/-- The bits `[lo + wd - 1 : lo]` of a word, as a number. -/
def Word.fld (w : Word) (lo wd : Nat) : Nat := (w.toNat / 2 ^ lo) % 2 ^ wd

/-- The word with the number `v` (modulo its width) in the bits `[lo + wd - 1 : lo]`. -/
def Word.setFld (w : Word) (lo wd v : Nat) : Word :=
  BitVec.ofNat 32 (w.toNat % 2 ^ lo + (v % 2 ^ wd) * 2 ^ lo + (w.toNat / 2 ^ (lo + wd)) * 2 ^ (lo + wd))

/-- Bit `i` of a word. -/
def Word.bit (w : Word) (i : Nat) : Bool := w.getLsbD i

/-- A word with one bit set. -/
def Word.setBit (w : Word) (i : Nat) : Word := w.setFld i 1 1

/-- 1 for true and 0 for false, the way a one-bit field shows it. -/
def b2n (b : Bool) : Nat := if b then 1 else 0

/-- An increment that stops at a ceiling (the saturating counters of the register tables). -/
def satAdd (cap a b : Nat) : Nat := min cap (a + b)

/-- The number whose little-endian bytes these are. -/
def leNat : Bytes → Nat
  | [] => 0
  | b :: bs => b.toNat + 256 * leNat bs

/-- The `n` little-endian bytes of a number. -/
def leBytes : Nat → Nat → Bytes
  | 0, _ => []
  | n + 1, v => BitVec.ofNat 8 v :: leBytes n (v / 256)

/-- The number whose big-endian bytes these are (wire order, R5). -/
def beNat (bs : Bytes) : Nat := bs.foldl (fun a b => a * 256 + b.toNat) 0

/-- The `n` big-endian bytes of a number. -/
def beBytes (n v : Nat) : Bytes := (leBytes n v).reverse

/-- Division rounding up. -/
def cdiv (a b : Nat) : Nat := (a + b - 1) / b

end Sys2Proof
end

