-- ==== Sys2Proof/Machine/Types.lean ====
section
/-! DEFINITION. The small data types that commands and state share: who asks, fault messages, and what the part
sends to the outside. -/

namespace Sys2Proof.Machine

/-- A requester of register accesses (R38, R39): the host or one of the four control cores. -/
inductive Requester where
  | host
  | core (c : Fin 4)
  deriving DecidableEq, Repr

/-- The number under which a requester's latches and copies are kept: the host is 4. -/
def Requester.idx : Requester → Nat
  | .host => 4
  | .core c => c.val

/-- The fault classes of R548. -/
inductive FaultClass where
  | c | u | f
  deriving DecidableEq, Repr

/-- The CLASS code of R548: 0b01 C, 0b10 U, 0b11 F. -/
def FaultClass.code : FaultClass → Nat
  | .c => 1
  | .u => 2
  | .f => 3

/-- A 128-bit fault message by its fields (R548). -/
structure FaultMsg where
  src : Nat
  kind : Nat
  cls : FaultClass
  loc : Nat
  time : Nat
  deriving DecidableEq, Repr

/-- The 128 bits of a fault message (R548). -/
def FaultMsg.bits (m : FaultMsg) : Nat :=
  m.src % 2 ^ 12 + (m.kind % 2 ^ 8) * 2 ^ 12 + m.cls.code * 2 ^ 20 + (m.loc % 2 ^ 44) * 2 ^ 22
    + (m.time % 2 ^ 62) * 2 ^ 66

/-- One record of the fault ring or of a first-fault slot (R556). -/
structure FaultRec where
  msg : FaultMsg
  seq : Nat
  same : Bool
  own : Bool
  acked : Bool
  n : Nat
  deriving DecidableEq, Repr

/-- An access to a register page (R34): who, BAR2 offset, its bytes (1, 2 or 4), whether a write, and the word written. -/
structure Access where
  req : Requester
  off : Nat
  size : Nat
  write : Bool
  val : Word
  deriving DecidableEq, Repr

/-- A DMA descriptor by its fields (R508). -/
structure Desc where
  own : Bool
  op : Nat
  irq : Bool
  fence : Bool
  group : Bool
  resv : Bool
  srcT : Nat
  dstT : Nat
  len : Nat
  src : Nat
  dst : Nat
  pattern : Nat
  deriving DecidableEq, Repr

/-- What a unit of the cipher engine asks for (R518): single blocks under a handle, or one 4 KiB data unit in the
at-rest construction of a namespace (0 content, 1 block) with its tweak value (R522). -/
inductive CiphOp where
  | block (handle : Nat) (dec : Bool)
  | atRest (ns : Nat) (dec : Bool) (tweak : Nat)
  deriving DecidableEq, Repr

/-- A unit in a port queue of the cipher engine (R518): port, operation, data, the staging slot its result goes to, if
one takes it, and whether it arrived while a write to its key slot waited (R520). -/
structure CiphUnit where
  port : Nat
  op : CiphOp
  data : Bytes
  slot : Option Nat
  late : Bool
  deriving DecidableEq, Repr

/-- For whom flash is read (R143): an NVMe command, an IST flow, relocation, a verify pass, patrol, a read-disturb
check, recovery, a Tarragon job, the object index, or firmware. -/
inductive ReadFor where
  | nvm (cmd : Nat)
  | flow (id : Nat)
  | reloc (sb : Nat)
  | verify (sb : Nat)
  | patrol (sb : Nat)
  | rdCheck (sb : Nat)
  | recovery
  | tgn (job : Nat)
  | index
  | firmware
  deriving DecidableEq, Repr

/-- What a channel operation is for: a read of `n` codewords from a PSA (for a ladder, if one runs), a PU, a parity PU,
a journal or intent chunk, a brace write (the KIND of its page tag and the numbers of the tag), an erase, the channel's own
operations, or an FW operation of a code. -/
inductive OpUse where
  | read (who : ReadFor) (ladder : Option Nat) (psa n : Nat)
  | pu (sb pos : Nat)
  | parity (sb row : Nat)
  | chunk (no : Nat)
  | ichunk (no : Nat)
  | tail (kind : Nat) (ref : List Nat)
  | erase (sb : Nat)
  | temp
  | feature
  | fw (opc : Nat)
  deriving DecidableEq, Repr

/-- An operation of a channel's command queue (R60): operation code, class BRACE, local die, block, page, plane mask,
senses of a READ_SOFT, read offsets by number, SLC offsets, the staging slots of a program's data or of a raw read, its
use, and the data of a program that does not come from staging. -/
structure OpReq where
  code : Nat
  brace : Bool
  die : Nat
  block : Nat
  page : Nat
  planes : Nat
  senses : Nat
  ofs : Nat
  slc : Bool
  slots : List Nat
  use : OpUse
  data : Bytes
  deriving DecidableEq, Repr

/-- What discovery finds on a die (R55, R56): the ONFI signature of its target, a parameter page copy with a valid CRC,
the rates of NV-LPDDR4 it supports (bit k for CFG.RATE code k), its LUNs, planes, pages per block, blocks per plane,
bytes of a page, multi-plane operation across all planes, the result of training, suspend support, the loop-limit
readback, and its temperature reading. -/
structure DieFacts where
  signature : Bool
  crcOk : Bool
  rates : Nat
  luns : Nat
  planes : Nat
  ppb : Nat
  bpp : Nat
  pageBytes : Nat
  multiPlane : Bool
  trained : Bool
  suspends : Bool
  loopOk : Bool
  temp : Option Nat
  deriving DecidableEq, Repr

/-- For whom a PU is written: nobody who waits for it, an NVMe command, an IST PUT, a segment of the object index, or a
parity IU that Tarragon holds. -/
inductive WriteFor where
  | nobody
  | nvm (cmd : Nat)
  | put (id : Nat)
  | index (seg : Nat)
  | share (id : Nat)
  deriving DecidableEq, Repr

/-- What a writer hears of a PU: it has been placed and issued, its data could not be read (R541), its programs have
completed, or one of them failed. -/
inductive PuNews where
  | placed (psa : Nat)
  | unread
  | durable (psa : Nat)
  | failed
  deriving DecidableEq, Repr

/-- A PU given to placement (R99): the KIND of its page tag (R164), namespace (0 for NSID 1, 1 for NSID 2), class, the IUs
it carries (one for content, up to 16 for the block namespace), written by relocation or repair, the PSA that each IU's
entry must still hold (R85), the atomic group it belongs to (R156), placed for a host or an IST PUT, the staging slots of
its data, further numbers (the segments of a MAP PU and their SEG_SEQs, a directory index, or a superblock and row), and
data that does not come from staging, and for whom it is written. -/
structure PuReq where
  kind : Nat
  ns : Nat
  cls : Nat
  ius : List (Option Nat)
  reloc : Bool
  old : List (Option Nat)
  grp : Option Nat
  host : Bool
  slots : List Nat
  ref : List Nat
  data : Bytes
  who : WriteFor
  deriving DecidableEq, Repr

/-- A change of the map (R83, R85, R142): an IU moved to a PSA (where the condition holds), IUs unmapped, an entry
marked LOST (2) or REMOTE (3), or a mapping that a program already numbered. -/
inductive MapUpd where
  | map (ns iu psa : Nat) (cond : Option Nat) (seq : Option Nat) (grp last : Bool)
  | trim (ns iu count : Nat)
  | mark (ns iu st : Nat) (cond : Option Nat)
  deriving DecidableEq, Repr

/-- A record of the stripe-intent journal (R258): TYPE, SET, CLASS, SLOT, ROLE, PSLOT, QSLOT, WHERE, GEN, SEQ. -/
structure IntentRec where
  type : Nat
  set : Nat
  cls : Nat
  slot : Nat
  role : Nat
  pslot : Nat
  qslot : Nat
  where_ : Nat
  gen : Nat
  seq : Nat
  deriving DecidableEq, Repr

/-- A journal entry (R153) with its full sequence number. -/
structure JEntry where
  type : Nat
  ns : Nat
  grp : Bool
  last : Bool
  addr : Nat
  value : Nat
  seq : Nat
  deriving DecidableEq, Repr

/-- What recovery finds on flash (R177 to R180): its RESULT, the intact copies of map segments (number, PSA × 4 + slot,
SEG_SEQ, bytes), the journal's entries in order, the next chunk number, the kind of the brace whose END chunk ends the
journal, the TIME of the newest valid chunk, the valid tags of the scan with RELOC = 0 (namespace, IU, PSA, SEQ), and the
damaged PUs (superblock, position, rebuilt). -/
structure RecFacts where
  result : Nat
  segs : List (Nat × Nat × Nat × Bytes)
  ents : List JEntry
  chunkNo : Nat
  lastBrace : Nat
  time : Option Nat
  tags : List (Nat × Nat × Nat × Nat)
  damaged : List (Nat × Nat × Bool)
  deriving DecidableEq, Repr

/-- What the environment tells of one word: whether its condition holds, and the register target of a Chervil branch. -/
structure WordFact where
  cond : Bool
  reg : Nat
  deriving DecidableEq, Repr

/-- How the serial NOR behaves while an image is read (R446): it answers, it does not answer or reports a read error, or
damaged data arrive, at block `b` of the image (0 is the header). -/
inductive NorFact where
  | ok
  | silent (b : Nat)
  | garbled (b : Nat)
  deriving DecidableEq, Repr

/-- A correspondent on the network: port, address family, IP address and UDP port. -/
structure NetAddr where
  port : Nat
  v6 : Bool
  ip : Nat
  udp : Nat
  deriving DecidableEq, Repr

/-- A received frame (R186 to R190) by what the port checks: port, bytes, room in the receive queue, FCS, destination MAC,
EtherType behind its tags, the VIDs of its tags, an IP header that R188 accepts (IHL 5 and checksum, or no extension
header), a fragment, the length of the IP packet, addresses, protocol, the UDP checksum (0 right, 1 zero, 2 wrong), UDP ports
and UDP payload. -/
structure Frame where
  port : Fin 2
  size : Nat
  room : Bool
  fcs : Bool
  dst : BitVec 48
  etype : BitVec 16
  tags : List (BitVec 12)
  hdr : Bool
  frag : Bool
  ipLen : Nat
  dstIp : BitVec 128
  srcIp : BitVec 128
  proto : Byte
  csum : Fin 3
  srcPort : BitVec 16
  dstPort : BitVec 16
  data : Bytes
  deriving DecidableEq, Repr

/-- A datagram to be sent: to whom, and its UDP payload. -/
structure Dgram where
  to_ : NetAddr
  data : Bytes
  deriving DecidableEq, Repr

/-- What the part sends or shows to the outside. -/
inductive Out where
  /-- the data of a register read -/
  | readData (r : Requester) (off : Nat) (v : Nat)
  /-- the data of a host read of BAR0 (`four` false) or BAR4 -/
  | barData (four : Bool) (off v : Nat)
  /-- an MSI-X message on a vector (R49, R352): address and data of the table entry -/
  | msix (vec : Nat) (addr : Nat) (data : Nat)
  /-- an Assert_INTA or Deassert_INTA message (R353) -/
  | inta (on : Bool)
  /-- a pulse of an event-pulse output (R50) -/
  | eventPulse (k : Nat)
  /-- a posted write to host memory (R342): address, bytes, and whether its TLPs carry EP = 1 (R349) -/
  | hostWrite (addr : Nat) (data : Bytes) (ep : Bool)
  /-- a DMA channel of the NVMe engine reports a descriptor to the engine (R507): channel and completion code -/
  | dmaReport (ch : Nat) (code : Nat)
  /-- the result of a cipher unit handed back to its port (R518) -/
  | cipherOut (port : Nat) (data : Bytes)
  /-- a bus error handed back to a requester of the cipher engine (R521) -/
  | cipherRefused (port : Nat) (why : Nat)
  /-- the DRAM front end returns a read to a port (R491): port, DRAM address, data, poison mark -/
  | dramData (port : Nat) (addr : Nat) (data : Bytes) (poison : Bool)
  /-- the DRAM front end completes a write of a port -/
  | dramDone (port : Nat) (addr : Nat)
  /-- an access of a port ends as a bus error (R496, R538, R541) -/
  | dramError (port : Nat) (addr : Nat)
  /-- a read request to host memory (R343): tag, address, bytes -/
  | hostRead (tag : Nat) (addr : Nat) (len : Nat)
  /-- a channel operation sent to a die (R63): channel, local die, operation code, block, page, planes, data and the
  32-byte page tag of a program -/
  | nand (n die code block page planes : Nat) (data tag : Bytes)
  /-- a suspend (true) or resume command to a die (R68, R69) -/
  | nandSuspend (n die : Nat) (on : Bool)
  /-- Reset LUN to a die (R66) -/
  | nandReset (n die : Nat)
  /-- a channel operation completes to its requester (R60): channel, operation, code -/
  | opDone (n id code : Nat)
  /-- a HELD notice (R70): channel, operation, the die's expected remaining busy time -/
  | held (n id busy : Nat)
  /-- a map lookup answers (R87): namespace, IU, entry; none where it is out of range or uncorrectable (R120, R541) -/
  | mapEntry (ns iu : Nat) (entry : Option Nat)
  /-- the TAP selects an instruction (R453) -/
  | tapSelect (code : Nat)
  /-- the TAP shifts out a data register: bits and value (R453) -/
  | tapOut (bits : Nat) (v : Nat)
  /-- a datagram sent by a port (R187 to R189): port, destination MAC, VLAN tag, addresses and UDP ports, hop limit, DSCP and
  UDP payload; the UDP checksum is right and IPv4 carries DF = 1 -/
  | datagram (port mac : Nat) (vlan : Option Nat) (v6 : Bool) (src dst srcUdp dstUdp hop dscp : Nat) (data : Bytes)
  /-- an answer to an ARP request or a Neighbour Solicitation: port, to which MAC and IP, the port's MAC and IP (R189) -/
  | neighReply (port : Nat) (v6 : Bool) (toMac toIp mac ip : Nat)
  /-- an ARP request or Neighbour Solicitation for a gateway (R189) -/
  | neighAsk (port : Nat) (v6 : Bool) (ip : Nat)
  /-- a PME message (R356), and an LTR message: µs, none for no requirement (R355) -/
  | pme
  | ltr (us : Option Nat)
  /-- the answer to an SMBus transfer: acknowledged, and the bytes read with their PEC (R324, R378, R405) -/
  | smbus (ack : Bool) (data : Bytes)
  /-- a completion of a configuration request (R337): Request Retry Status, or the dword read -/
  | config (retry : Bool) (v : Nat)
  deriving DecidableEq, Repr

end Sys2Proof.Machine
end

