-- ==== Sys2Proof/Syntax.lean ====
section
/-! DEFINITION. The commands of the part: one constructor per row of spec/opcode_table.json, with the rule the
row names and the operands that the event or access carries. -/

namespace Sys2Proof

open Machine

/-- The steps of the part (spec/opcode_table.json). -/
inductive Instr where
  /-- REGISTER_WRITE, R7: A software write to a register that has no row of its own; it is checked in the
      order of R9 and is either applied or rejected and recorded in REJECT. -/
  | registerWrite (r : Requester) (bar : Fin 3) (off : Nat) (data : Bytes)
  /-- RC_FIELD_READ, R6: A 4- or 8-byte read that covers an RC field returns the field and then clears it. -/
  | rcFieldRead (r : Requester) (bar : Fin 3) (off : Nat) (size : Nat)
  /-- COUNTER_PAIR_READ, R39: A read of a 48-bit counter pair latches the high word on a low-word read, or
      releases the latch on a high-word read, separately for each requester. -/
  | counterPairRead (r : Requester) (off : Nat) (size : Nat)
  /-- COUNTER_PAIR_WRITE, R39: A write to a 48-bit counter pair holds the low word, or presets the count on a
      high-word or 8-byte write. -/
  | counterPairWrite (r : Requester) (off : Nat) (data : Bytes)
  /-- DEAD_ACCESS, R36: An access to an unmapped offset, a write to the Ledger, an access to a powered-off
      page or an unaligned read completes with no effect and is recorded in SYS.DEAD_ACC. -/
  | deadAccess (r : Requester) (off : Nat) (size : Nat) (write : Bool)
  /-- HELD_ACCESS_SERVED, R37: An access that was held while its block's clock or power domain came on is
      served once the clock runs. -/
  | heldAccessServed
  /-- PAGE_ENABLE, R584: A write of PAGE_CTL.EN = 1 starts the block's start-up state. -/
  | pageEnable (r : Requester) (page : Fin 16384) (v : Word)
  /-- PAGE_DISABLE, R584: A write of PAGE_CTL.EN = 0 stops the block, and RUNNING clears once the block has
      stopped. -/
  | pageDisable (r : Requester) (page : Fin 16384) (v : Word)
  /-- BLOCK_STARTUP_END, R584: The block leaves its start-up state and PAGE_STS.RUNNING sets. -/
  | blockStartupEnd (page : Fin 16384)
  /-- PAGE_LOCK, R43: A write that sets PAGE_CTL.LOCK applies its other fields first and then locks the page. -/
  | pageLock (r : Requester) (page : Fin 16384) (v : Word)
  /-- CLOCK_REQUEST, R390: A block's request for its fast clock opens its branch and, if the PLL is switched
      off, switches the PLL on. -/
  | clockRequest (page : Fin 16384)
  /-- IDLE_CLOCK_RELEASE, R390: Under the on-demand policy, a block releases its fast clock after 2^IDLE_HOLD
      µs without work. -/
  | idleClockRelease (page : Fin 16384)
  /-- EVENT_RAISE, R47: An event source pulses or becomes active, which sets its pending bit and drives its
      routes and counters. -/
  | eventRaise (src : Fin 640) (on : Bool)
  /-- PEND_CLEAR, R47: A W1C write to EVC.PEND_w clears pending bits, and a level source that is still active
      sets its bit again. -/
  | pendClear (r : Requester) (w : Fin 20) (v : Word)
  /-- SNAP, R51: EVC_CTL.SNAP copies the eight global counts into GSNAP_0 to GSNAP_7. -/
  | snap (r : Requester)
  /-- SW_RAISE, R46: A write to EVC.SW_RAISE pulses software event source 512 + INDEX. -/
  | swRaise (r : Requester) (i : Fin 128)
  /-- DISC_START, R55: DISC_CTL.START begins discovery of the channel's dies. -/
  | discStart (r : Requester) (n : Fin 32)
  /-- DIE_PROBE_DONE, R56: The discovery of one die ends with the die ACTIVE, EXCLUDED or ABSENT, and the next
      die starts; DISC_DONE follows after the last die. -/
  | dieProbeDone (n : Fin 32) (f : DieFacts)
  /-- TMO_DISC, R57: A die that overruns 12.5 ms of discovery becomes EXCLUDED, and discovery moves on. -/
  | tmoDisc (n : Fin 32)
  /-- OP_ENQUEUE, R60: A requester places a read, program, erase or other operation in a channel's command
      queue, spending one credit of its class. -/
  | opEnqueue (n : Fin 32) (o : OpReq)
  /-- OP_CANCEL, R70: A requester cancels an unissued operation, which completes with CANCELLED unless its
      issue falls in the same cycle. -/
  | opCancel (n : Fin 32) (id : Nat)
  /-- DIE_PICK, R63: When the ONFI bus falls free, the channel chooses the next die and bus action by rotating
      pick, subject to precedence, in-flight limits and credits. -/
  | diePick (n : Fin 32) (sensed : BitVec 32)
  /-- MIN_RUN_REACHED, R70: A waiting read reaches MIN_RUN of its die's running operation, and the operation
      is suspended for it. -/
  | minRunReached (n : Fin 32) (die : Fin 32)
  /-- DIE_SUSPENDED, R69: The die reports the operation suspended, and the channel issues the counting reads,
      up to RD_PER_SUSP. -/
  | dieSuspended (n : Fin 32) (die : Fin 32)
  /-- READ_COMPLETE, R61: A read or soft sense finishes its data transfer to the hard decoder or staging. -/
  | readComplete (n : Fin 32) (id : Nat) (data : Bytes)
  /-- PROGRAM_COMPLETE, R65: A program ends, its status is read, and it completes OK or FAIL with the
      consequences of R65. -/
  | programComplete (n : Fin 32) (id : Nat) (fail : Option (BitVec 4))
  /-- ERASE_COMPLETE, R65: An erase ends, its status is read, and it completes OK or FAIL. -/
  | eraseComplete (n : Fin 32) (id : Nat) (fail : Option (BitVec 4))
  /-- OP_TIMEOUT, R66: An operation runs longer than its TMO, so Reset LUN is issued and the operation
      completes TIMEOUT. -/
  | opTimeout (n : Fin 32) (id : Nat)
  /-- RESET_LUN_DONE, R66: After Reset LUN the die is ready within 1 ms, stays ACTIVE and is retrained. -/
  | resetLunDone (n : Fin 32) (die : Fin 32) (loopOk : Bool)
  /-- RESET_LUN_FAIL, R66: A die that is not ready within 1 ms of Reset LUN, or times out twice in 1 s,
      becomes OFFLINE. -/
  | resetLunFail (n : Fin 32) (die : Fin 32)
  /-- TEMP_DUE, R75: A die's temperature sample falls due, and a TEMP operation is queued for its next idle
      moment. -/
  | tempDue (n : Fin 32) (die : Fin 32)
  /-- WINDOW_BOUNDARY, R365: The 100 µs device-wide tick begins a window, refills the rail pools and egress
      caps, and starts a governor sample. -/
  | windowBoundary (y0 : Word) (age : Nat) (pkg : Word) (iflash : Word)
  /-- QUIESCE_WRITE, R77: Firmware writes CHAN_n.QUIESCE.MODE to quiesce a channel in FINISH or ABORT mode, or
      to release it. -/
  | quiesceWrite (r : Requester) (n : Fin 32) (mode : BitVec 2)
  /-- FW_RESET_LUN, R66: FW_CTL.GO with OPC 0x0 sends Reset LUN to one die. -/
  | fwResetLun (r : Requester) (n : Fin 32) (slot : BitVec 14)
  /-- FW_READ_ID, R60: FW_CTL.GO with OPC 0x1 sends Read ID to one die and returns the ID bytes in FW_DATA. -/
  | fwReadId (r : Requester) (n : Fin 32) (slot : BitVec 14)
  /-- FW_GET_FEATURES, R60: FW_CTL.GO with OPC 0x2 reads a feature of one die into FW_DATA. -/
  | fwGetFeatures (r : Requester) (n : Fin 32) (slot : BitVec 14)
  /-- FW_SET_FEATURES, R60: FW_CTL.GO with OPC 0x3 writes FW_DATA to a feature of one die. -/
  | fwSetFeatures (r : Requester) (n : Fin 32) (slot : BitVec 14)
  /-- FW_READ_STATUS, R60: FW_CTL.GO with OPC 0x4 returns Read Status Enhanced in FW_DATA. -/
  | fwReadStatus (r : Requester) (n : Fin 32) (slot : BitVec 14)
  /-- FW_RAW_READ, R62: FW_CTL.GO with OPC 0x5 reads one raw plane page at FW_ROW into a staging slot. -/
  | fwRawRead (r : Requester) (n : Fin 32) (slot : BitVec 14)
  /-- MAP_LOOKUP, R87: The FTL returns a map entry as it stands when the lookup reads it. -/
  | mapLookup (ns : Fin 2) (iu : Nat)
  /-- MAP_UPDATE, R85: A write, deallocation, relocation or repair changes a map entry in sequence order and
      moves VALID counts between superblocks. -/
  | mapUpdate (u : MapUpd)
  /-- PU_PLACE, R99: Placement assigns a PU to an open superblock of its class and issues its program, opening
      a superblock if needed. -/
  | puPlace (u : PuReq)
  /-- IDLE_PAD, R100: An OPEN superblock idle for IDLE_PAD minutes is padded and moves to CLOSING. -/
  | idlePad (k : Nat)
  /-- VERIFY_PASS_DONE, R104: A CLOSING superblock's verify pass ends, and the superblock moves to VERIFIED
      with its parity released, or to RELOCATING. -/
  | verifyPassDone (k : Nat) (ok : Bool)
  /-- SB_ERASE_START, R113: A FREE superblock is erased once no read of it is in flight and its freeing entry
      has been flushed. -/
  | sbEraseStart (k : Nat)
  /-- GC_VICTIM_SELECT, R111: While FREE is below FREE_LOW, garbage collection chooses the lowest-scoring
      VERIFIED superblock as its victim. -/
  | gcVictimSelect
  /-- GC_SCORE_UPDATE, R111: The victim score is recomputed once a minute. -/
  | gcScoreUpdate
  /-- RELOCATE_IU, R112: A relocation read of a victim position moves the IUs that are still valid to their
      class. -/
  | relocateIu (k : Nat) (p : Nat) (ns : Fin 2) (ius : List (Option Nat)) (data : Bytes)
  /-- WEAR_LEVEL_RELOCATE, R114: Static wear levelling relocates the lowest-PE VERIFIED superblock when the PE
      spread exceeds SPREAD. -/
  | wearLevelRelocate
  /-- CLASS_DROP, R108: The FTL command that unmaps a whole content class and frees its superblocks. -/
  | classDrop (r : Requester) (cls : BitVec 7)
  /-- SB_CLOSE, R100: The FTL command that pads and closes an OPEN superblock. -/
  | sbClose (r : Requester)
  /-- SB_RELOCATE, R93: The FTL command that moves a VERIFIED superblock to RELOCATING. -/
  | sbRelocate (r : Requester)
  /-- SB_RETIRE, R93: The FTL command that retires a FREE superblock. -/
  | sbRetire (r : Requester)
  /-- DIE_LOST, R117: The FTL command, or a die going OFFLINE, that rebuilds or marks REMOTE or LOST every
      entry on the lost die. -/
  | dieLost (r : Option Requester) (d : Fin 1024)
  /-- SB_REC_SNAPSHOT, R92: A read of SB_REC_0 takes one consistent copy of the record named by SB_IDX. -/
  | sbRecSnapshot (r : Requester)
  /-- CODEWORD_DECODE, R126: A decoder finishes a codeword, which decodes when its syndrome is zero and its
      CRC matches, or otherwise enters the retry ladder. -/
  | codewordDecode (psa : BitVec 37) (soft : Bool) (syn : Bool) (data : Bytes) (crc : Word) (bits : Nat) (unsat : Nat)
  /-- LADDER_STEP, R136: A ladder enters its next step whose entry condition holds: re-read, soft read, parity
      rebuild or peer reconstruct. -/
  | ladderStep (psa : BitVec 37)
  /-- PARITY_REBUILD_DONE, R139: A step 4 rebuild from open-block parity ends with a rebuilt codeword or a
      failure. -/
  | parityRebuildDone (psa : BitVec 37) (ok : Bool) (data : Bytes)
  /-- READ_DISTURB_CHECK, R146: A block's read counter reaches a multiple of CHECK × 1,024, and RDP checks
      every 64th PU of the block. -/
  | readDisturbCheck
  /-- PATROL_READ, R147: Patrol reads the next position of a due VERIFIED superblock, paced to PAT_CFG.RATE. -/
  | patrolRead
  /-- WEAK_POP, R148: A read of RDP.WEAK returns and removes the oldest WEAK entry. -/
  | weakPop (r : Requester)
  /-- UNC_RECORD_READ, R150: A read of UNC_PSA freezes the uncorrectable record for that requester until it
      reads UNC_INFO. -/
  | uncRecordRead (r : Requester) (w : Fin 3)
  /-- JOURNAL_FLUSH, R158: A flush writes the unflushed entries as chunks when FLUSH_US or FLUSH_ENT is
      reached. -/
  | journalFlush
  /-- JOURNAL_CHUNK_DONE, R158: A chunk's program completes and its entries count as flushed, or the chunk is
      rewritten after a fail. -/
  | journalChunkDone
  /-- SEGMENT_WRITEBACK, R161: A map segment that has been dirty for WB_AGE × 10 ms is copied to a MAP-class
      PU. -/
  | segmentWriteback
  /-- PF_ASSERT, R166: PLJ recognises PFAIL_N low, sets SEEN and starts a full, short or null brace. -/
  | pfAssert
  /-- PF_DEASSERT, R166: PFAIL_N has been high for DEBOUNCE × 10 µs, so the deassertion is recognised and the
      dead time starts. -/
  | pfDeassert
  /-- BRACE_TAILS_WRITTEN, R167: When all tail writes have completed, PLJ writes the END chunk, cancels queued
      operations and starts the rail switch-off. -/
  | braceTailsWritten
  /-- BRACE_RAIL_STEP, R420: The brace or HALT switches off the next driven rail group, at least 100 µs after
      the one before. -/
  | braceRailStep
  /-- BRACED, R167: The last group is off, DRAM enters self-refresh and PF_STS.STATE becomes BRACED. -/
  | braced
  /-- DEAD_TIME_END, R172: DEAD_T has run out since the deassertion or cold reset, and PF_STS.DEAD clears. -/
  | deadTimeEnd
  /-- SEEN_CLEAR, R174: A write of 1 to PF_STS.SEEN clears it, or is rejected while PFAIL_N is asserted. -/
  | seenClear (r : Requester)
  /-- READMIT, R176: PF_CTL.READMIT returns PLJ from BRACED to IDLE and reopens admission. -/
  | readmit (r : Requester)
  /-- REC_START, R177: REC_CTL.START begins recovery: locate, journal, map load, replay, scan and finish. -/
  | recStart (r : Requester)
  /-- RECOVERY_DONE, R177: Recovery finishes, REC_STS.STEP reads 7 and source 355 pulses. -/
  | recoveryDone (f : RecFacts)
  /-- RESERVE_DESIGNATE, R168: PLJ designates a new reserve superblock with a RESERVE entry. -/
  | reserveDesignate
  /-- FRAME_RECEIVE, R190: A received frame that is not an IST message, ARP or neighbour discovery is dropped
      and counted. -/
  | frameReceive (f : Frame)
  /-- ARP_REQUEST, R189: The port answers an ARP request or IPv6 Neighbour Solicitation for its own addresses. -/
  | arpRequest (n : Fin 2) (v6 : Bool) (target : BitVec 128) (mac : BitVec 48) (ip : BitVec 128)
  /-- GATEWAY_REPLY, R189: A neighbour reply resolves or updates a gateway MAC and pulses GW_CHANGE. -/
  | gatewayReply (n : Fin 2) (v6 : Bool) (ip : BitVec 128) (mac : BitVec 48)
  /-- NEIGH_REFRESH, R189: Every REFRESH seconds, at enable and after link-up, the port resolves GW4 and GW6. -/
  | neighRefresh (n : Fin 2)
  /-- NET_LINK_UP, R239: A NET port's link comes up. -/
  | netLinkUp (n : Fin 2) (sig : BitVec 4)
  /-- NET_LINK_DOWN, R239: A NET port's link goes down. -/
  | netLinkDown (n : Fin 2) (sig : BitVec 4)
  /-- GET, R216: An authenticated GET is admitted and looked up, and it starts a flow for the whole object or
      receives a single response. -/
  | get (f : Frame)
  /-- GET_RANGE, R216: An authenticated GET_RANGE is admitted and looked up, and it starts a flow for OFFSET
      and LENGTH or receives a single response. -/
  | getRange (f : Frame)
  /-- PUT, R232: A PUT request is checked, its IUs are allocated and its entry is written WRITING, and the
      controller answers with a window. -/
  | put (f : Frame)
  /-- PUT_DATA, R233: A PUT data packet within the window is stored, and each complete IU is handed to
      placement. -/
  | putData (f : Frame)
  /-- STAT, R194: A STAT request returns an object's length, class, set, write time and key flags. -/
  | stat (f : Frame)
  /-- ACK, R221: An ACK advances CUM and the selective bitmap of a flow and may declare PSNs lost. -/
  | ack (f : Frame)
  /-- CREDIT, R228: A CREDIT replaces a flow's advertised rate and window. -/
  | credit (f : Frame)
  /-- WAKE, R237: A WAKE frame whose token matches wakes the controller from NAP; in any other state it is
      dropped. -/
  | wake (f : Frame)
  /-- FLOW_READ_ISSUE, R217: A flow issues the read of its next IU once the pacer's lead, its slot limit and
      the free-slot floor allow. -/
  | flowReadIssue (i : Nat)
  /-- FLOW_DATA_STAGED, R217: Data for a flow that left the wheel arrives in staging, and the flow returns to
      the wheel. -/
  | flowDataStaged (i : Nat)
  /-- PACER_SLOT, R226: In each 1 µs wheel slot the port sends retransmissions, messages without data and due
      flows, within its caps. -/
  | pacerSlot (p : Fin 2)
  /-- UNREADABLE_END, R220: A flow meets an unreadable unit, sends the bytes before it and then a LAST packet
      with status UNREADABLE. -/
  | unreadableEnd (i : Nat)
  /-- STAGING_EVICT, R17: While free slots are below LOW_WATER, the pacer evicts the oldest sent but
      unacknowledged slots. -/
  | stagingEvict
  /-- RTO_EXPIRE, R222: A flow's retransmission timer expires, and its oldest unacknowledged PSN is declared
      lost. -/
  | rtoExpire (i : Nat)
  /-- FLOW_IDLE_EXPIRE, R225: A flow whose client holds its rate or window at 0 for FLOW_IDLE ms is aborted. -/
  | flowIdleExpire (i : Nat)
  /-- PUT_TMO_EXPIRE, R235: A PUT that receives no data for PUT_TMO ms ends with ABORTED and its IUs are
      deallocated. -/
  | putTmoExpire (i : Nat)
  /-- PUT_FINAL_RESPONSE, R234: When every IU is committed, protected, entered VALID and its index segment
      programmed, the final OK response is sent. -/
  | putFinalResponse (i : Nat)
  /-- INDEX_SEG_WRITEBACK, R211: An index segment dirty for WB_US is copied to a class-67 PU, and its
      directory entry moves on completion. -/
  | indexSegWriteback
  /-- PURGE, R214: The IST command that marks a class purged, tombstones its entries and frees its extents. -/
  | purge (r : Requester) (cls : BitVec 6)
  /-- REOPEN, R214: The IST command that clears a class's PURGED bit. -/
  | reopen (r : Requester) (cls : BitVec 6)
  /-- INSERT, R215: The IST command that writes the entry image in ENT_0 to ENT_7 into the index as VALID. -/
  | insert (r : Requester)
  /-- REMOVE, R215: The IST command that makes the matching entry TOMB and deallocates IST-range IUs. -/
  | remove (r : Requester)
  /-- IDX_LOAD, R212: The IST command that loads the object index from class-67 copies and sets IST.STS.READY. -/
  | idxLoad (r : Requester) (segs : List (Nat × Nat × Bytes)) (lost : List Nat)
  /-- SHARE_SEND, R251: Once an IU has met R19 and its intent is durable, the contributor sends SHARE_P and
      SHARE_Q to the holders. -/
  | shareSend (set : Fin 16) (cls : Fin 64) (slot : Fin 64) (q : Bool)
  /-- PUT_SHARD, R252: A holder accepts an in-order share at its high-water and XORs it into parity, or
      answers RANGE or BUSY. -/
  | putShard (f : Frame)
  /-- SHARE_HOLD_EXPIRE, R253: A parity IU whose oldest share has waited HOLD ms is written through the FTL. -/
  | shareHoldExpire (iu : Nat)
  /-- PARITY_IU_WRITTEN, R253: A holder's parity program completes, a HOLD record is appended and, once
      durable, the final response is sent. -/
  | parityIuWritten (iu : Nat)
  /-- SHARE_RESEND, R253: A share with no final response after RESEND ms is sent again. -/
  | shareResend (id : Nat)
  /-- INTENT_FLUSH, R259: Intent records are flushed every FLUSH_US µs, or once 510 are waiting. -/
  | intentFlush
  /-- REGION_CLEAN, R257: A dirty region idle for REGION_IDLE × 10 ms gets a CLEAN record and its bit clears. -/
  | regionClean (set : Fin 16) (cls : Fin 64) (region : Nat)
  /-- GET_SHARD, R250: A member serves READ_DATA, READ_P, READ_Q, READ_HW or READ_HELD for a peer. -/
  | getShard (f : Frame)
  /-- SHARD_RESPONSE, R262: A GET_SHARD response arrives, and the reconstructor solves once it has enough
      equations. -/
  | shardResponse (f : Frame) (crcOk : Bool)
  /-- HEDGE_EXPIRE, R261: A read's hedge timer expires, and the one unsent parity read is sent. -/
  | hedgeExpire (id : Nat) (pos : Nat)
  /-- RECON_TMO_EXPIRE, R263: A reconstruct that has not solved within RECON_CFG.TMO fails. -/
  | reconTmoExpire (id : Nat)
  /-- EPOCH, R267: A member receives an EPOCH, applies it in order and forwards it to its children, or fetches
      the missing epochs. -/
  | epoch (f : Frame)
  /-- EPOCH_BEAT, R268: The acting root sends the present epoch as a beat every BEAT ms. -/
  | epochBeat
  /-- EPOCH_ISSUE, R268: The acting root issues a new epoch with up to 16 queued changes, at most once per
      GAP. -/
  | epochIssue
  /-- PARENT_SILENT, R268: After MISS × BEAT ms without hearing its parent or root, a member reports a suspect
      or probes the root. -/
  | parentSilent (root : Bool)
  /-- ROOT_TAKEOVER, R268: When the root does not answer within SEED_TMO, the lowest live member of 0 to 16
      becomes acting root. -/
  | rootTakeover
  /-- HELLO, R271: A member answers a HELLO probe, JOIN, QUERY, SUSPECT or LEAVE request. -/
  | hello (f : Frame)
  /-- HELLO_RESPONSE, R270: A HELLO response arrives, giving the epoch, the root, the cluster size and
      possibly device time. -/
  | helloResponse (f : Frame)
  /-- SUSPECT_PROBE_EXPIRE, R269: A suspect that does not answer within SEED_TMO is made DOWN in the next
      epoch. -/
  | suspectProbeExpire (m : Nat)
  /-- MEMBER_REMOVE_DUE, R269: A member DOWN for REB_CFG.DELAY seconds is made REMOVED. -/
  | memberRemoveDue (m : Nat)
  /-- JOIN, R273: JOIN_CTL.JOIN starts the back-off, seeding and join with the acting root. -/
  | join (r : Requester)
  /-- JOIN_BACKOFF_END, R273: The join back-off ends, and HELLO is sent to the seeds. -/
  | joinBackoffEnd
  /-- SEED_TMO_EXPIRE, R273: A seed does not answer within SEED_TMO, and the next seed is tried or the back-
      off doubles. -/
  | seedTmoExpire
  /-- LEAVE, R271: JOIN_CTL.LEAVE sends a LEAVE HELLO to the acting root. -/
  | leave (r : Requester)
  /-- SET_ENABLE, R243: A write of SET_n.CFG.EN = 1 checks the set region's CRC and rows and enables the set. -/
  | setEnable (r : Requester) (n : Fin 16) (v : Word)
  /-- LOAD, R260: The TGN command that rebuilds the HW table and lists open intents and dirty regions. -/
  | load (r : Requester) (hws : List (Nat × Nat)) (ints : List IntentRec) (recNo : Nat)
  /-- REPAIR, R140: The TGN command that reconstructs every REMOTE IU of a set's classes. -/
  | repair (r : Requester) (set : Fin 16)
  /-- LOSS_SCAN, R278: The TGN command that walks the index and pushes LOSS entries for objects in stripes
      with three or more lost positions. -/
  | lossScan (r : Requester) (set : Fin 16)
  /-- BACKFILL, R276: The TGN command that copies a slot's chunks from its stand-ins to a new member. -/
  | backfill (r : Requester) (set : Fin 16)
  /-- LOSS_ENTRY_READ, R280: A read of LOSS_LO freezes the oldest LOSS entry, and the read of LOSS_HI removes
      it. -/
  | lossEntryRead (r : Requester) (hi : Bool)
  /-- SQ_DOORBELL, R286: The host writes an SQ tail doorbell. -/
  | sqDoorbell (y : Fin 129) (v : BitVec 16)
  /-- CQ_DOORBELL, R283: The host writes a CQ head doorbell, consuming completion entries. -/
  | cqDoorbell (y : Fin 129) (v : BitVec 16)
  /-- SQ_FETCH, R286: The engine fetches a submission entry from the admin SQ or by rotating pick, taking a
      context and range locks. -/
  | sqFetch (sqe : Option Bytes) (ranges : Bytes)
  /-- CC_ENABLE, R284: CC.EN going from 0 to 1 checks CC and sets RDY when recovery, the index and firmware
      allow. -/
  | ccEnable (cc : Word)
  /-- CONTROLLER_RESET, R321: CC.EN going from 1 to 0 ends every outstanding command without completion and
      deletes the I/O queues. -/
  | controllerReset (cc : Word)
  /-- SHUTDOWN_NORMAL, R320: CC.SHN = 0b01 lets fetched commands complete and then runs a full brace. -/
  | shutdownNormal
  /-- SHUTDOWN_ABRUPT, R320: CC.SHN = 0b10 runs a full brace at once. -/
  | shutdownAbrupt
  /-- NVM_FLUSH, R288: The Flush command completes at once with success. -/
  | nvmFlush (id : Nat)
  /-- NVM_WRITE, R289: The Write command is placed through the write chain, with read-modify-write for
      unaligned NSID 1 writes. -/
  | nvmWrite (id : Nat) (list : List Nat) (data : Bytes) (poison : Option Nat) (err : Bool)
  /-- NVM_READ, R289: The Read command is served through the host read chain. -/
  | nvmRead (id : Nat) (list : List Nat) (err : Bool)
  /-- DATASET_MANAGEMENT, R296: The Dataset Management command with AD deallocates its ranges as logged map
      updates. -/
  | datasetManagement (id : Nat) (err : Bool)
  /-- COMPLETION_POST, R19: When a command's chain has finished, its completion entry is posted and its range
      locks are released. -/
  | completionPost (id : Nat)
  /-- CREATE_IO_SQ, R285: The admin command that creates an I/O submission queue. -/
  | createIoSq
  /-- CREATE_IO_CQ, R285: The admin command that creates an I/O completion queue. -/
  | createIoCq
  /-- DELETE_IO_SQ, R285: The admin command that deletes an I/O submission queue and aborts its commands. -/
  | deleteIoSq
  /-- DELETE_IO_CQ, R285: The admin command that deletes an I/O completion queue. -/
  | deleteIoCq
  /-- GET_LOG_PAGE, R302: The admin command that returns the Error, SMART, Firmware Slot or vendor log pages. -/
  | getLogPage (list : List Nat)
  /-- IDENTIFY, R299: The admin command that returns the Identify data for the supported CNS values. -/
  | identify (list : List Nat)
  /-- ABORT, R314: The admin command Abort completes with success without aborting anything. -/
  | abort
  /-- ASYNC_EVENT_REQUEST, R315: The admin command that holds an Asynchronous Event Request for a later event. -/
  | asyncEventRequest
  /-- ASYNC_EVENT_REPORT, R315: A SMART warning or error event completes an outstanding Asynchronous Event
      Request. -/
  | asyncEventReport
  /-- GET_FEATURES, R307: The admin command that returns a supported feature's current, default or capability
      value. -/
  | getFeatures (list : List Nat)
  /-- SET_ARBITRATION, R307: Set Features FID 0x01 sets the arbitration burst. -/
  | setArbitration
  /-- SET_POWER_MANAGEMENT, R318: Set Features FID 0x02 posts its completion and moves the controller to the
      power state. -/
  | setPowerManagement (tck : Bool)
  /-- SET_TEMPERATURE_THRESHOLD, R307: Set Features FID 0x04 sets a temperature threshold. -/
  | setTemperatureThreshold
  /-- SET_NUMBER_OF_QUEUES, R307: Set Features FID 0x07 allocates the I/O queue counts. -/
  | setNumberOfQueues
  /-- SET_INTERRUPT_COALESCING, R307: Set Features FID 0x08 sets the coalescing threshold and time. -/
  | setInterruptCoalescing
  /-- SET_INT_VECTOR_CONFIG, R307: Set Features FID 0x09 sets a vector's coalescing disable. -/
  | setIntVectorConfig
  /-- SET_WRITE_ATOMICITY, R307: Set Features FID 0x0A accepts DN with no change of behaviour. -/
  | setWriteAtomicity
  /-- SET_ASYNC_EVENT_CONFIG, R307: Set Features FID 0x0B enables SMART warning events. -/
  | setAsyncEventConfig
  /-- SET_APST, R319: Set Features FID 0x0C loads the APST table and its enable. -/
  | setApst (data : Option Bytes)
  /-- SET_TIMESTAMP, R309: Set Features FID 0x0E sets device time and clears TIME_UNKNOWN. -/
  | setTimestamp (data : Option Bytes)
  /-- SET_QUEUE_CLASS, R310: Set Features FID 0xC0 writes the placement class of an SQ. -/
  | setQueueClass
  /-- SET_CLASS_CONTROL, R310: Set Features FID 0xC1 writes a class's CLASS_CTL and expiry. -/
  | setClassControl
  /-- SET_BLOCK_NAMESPACE_SIZE, R310: Set Features FID 0xC2 sets the NSID 2 size for the next Format NVM. -/
  | setBlockNamespaceSize
  /-- SET_BOARD_POWER_CAP, R310: Set Features FID 0xC3 passes the host board power cap to the governor. -/
  | setBoardPowerCap
  /-- FIRMWARE_IMAGE_DOWNLOAD, R312: The admin command that stores one piece of a firmware package in DRAM. -/
  | firmwareImageDownload (data : Option Bytes)
  /-- FIRMWARE_COMMIT, R459: The admin command that checks, programs and verifies a package in a slot and sets
      it pending. -/
  | firmwareCommit (other : NorFact) (own : NorFact)
  /-- FORMAT_NVM, R311: The admin command that erases every superblock, resets the maps and index and sets the
      capacities. -/
  | formatNvm
  /-- CLASS_DROP_ADMIN, R316: The vendor admin command 0xC4 that runs PURGE, CLASS_DROP and REOPEN for a
      class. -/
  | classDropAdmin
  /-- INDEX_INSERT, R316: The vendor admin command 0xC5 that inserts an index entry. -/
  | indexInsert (data : Option Bytes)
  /-- INDEX_REMOVE, R316: The vendor admin command 0xC9 that removes an index entry. -/
  | indexRemove (data : Option Bytes)
  /-- ADMIN_XFER, R325: ADM_CTL.XFER moves admin data between the host buffer and ADM_BUF. -/
  | adminXfer (r : Requester) (words : BitVec 16) (list : List Nat) (data : Option Bytes)
  /-- ADMIN_DONE, R325: ADM_CTL.DONE posts the admin completion and releases the mailbox. -/
  | adminDone (r : Requester) (status : BitVec 11) (dnr : Bool)
  /-- APST_TRANSITION, R319: After ITPT of idleness the controller moves to the ITPS of the present state. -/
  | apstTransition (tck : Bool)
  /-- MI_BASIC_READ, R324: The BMC reads the NVMe-MI basic management command at SMBus address 0x6A. -/
  | miBasicRead (code : Byte)
  /-- LINK_UP, R330: The PCIe data link layer comes up after training, with the degraded check of R332. -/
  | linkUp (speed : BitVec 3) (width : BitVec 2) (flit : Bool)
  /-- LINK_DOWN, R357: The data link layer leaves DL_Active other than into L2, ending outstanding reads and
      resetting as R357 gives. -/
  | linkDown
  /-- HOT_RESET, R357: A received hot reset resets configuration space and the NVMe state. -/
  | hotReset
  /-- FUNCTION_LEVEL_RESET, R357: An FLR resets the PCI and NVM pages, all but the sticky fields, within 100
      ms. -/
  | functionLevelReset
  /-- PERST_N_ASSERT, R441: PERST_N asserted ends NVMe commands, runs a brace and then resets the pages and
      reboots. -/
  | perstNAssert
  /-- RETRAIN, R332: PCI.CTL.RETRAIN takes the link through Recovery under LINK_CFG. -/
  | retrain (r : Requester) (speed : BitVec 3) (width : BitVec 2) (flit : Bool)
  /-- L0P_WIDTH_CHANGE, R333: The controller asks to halve or restore the link width under L0p by its traffic
      thresholds. -/
  | l0pWidthChange (byHost : Bool) (width : BitVec 2)
  /-- ASPM_L1_ENTRY, R355: After 32 µs with nothing pending, the controller asks for L1. -/
  | aspmL1Entry (sub : Fin 3)
  /-- CONFIG_REQUEST, R337: A configuration read or write, answered with Request Retry Status until CFG_OPEN
      is set. -/
  | configRequest (write : Bool) (o : BitVec 10) (be : BitVec 4) (v : Word)
  /-- CFG_READY, R337: A write of PCI.CTL.CFG_READY = 1 opens configuration access. -/
  | cfgReady (r : Requester)
  /-- CFG_OPEN_TIMEOUT, R337: 1.0 s after the link first reaches L0, CFG_OPEN sets. -/
  | cfgOpenTimeout
  /-- UNSUPPORTED_REQUEST, R339: A request that hits no BAR, an I/O or Type 1 request, or a vendor message
      completes as Unsupported Request. -/
  | unsupportedRequest (h0 : Word) (h1 : Word) (h2 : Word) (h3 : Word)
  /-- READ_COMPLETION, R342: A completion for the controller's host read arrives and is reassembled by tag. -/
  | readCompletion (tag : BitVec 14) (status : BitVec 3) (data : Bytes)
  /-- COMPLETION_TIMEOUT, R346: A host read times out, ends as a bus error and holds its tag. -/
  | completionTimeout (tag : BitVec 14)
  /-- TAG_HOLD_END, R346: A held tag returns to the pool after twice the timeout. -/
  | tagHoldEnd (tag : BitVec 14)
  /-- POISONED_TLP, R348: An inbound poisoned TLP is discarded or carried with the poison mark, by kind. -/
  | poisonedTlp (tag : Option (BitVec 14)) (data : Bytes)
  /-- BUS_MASTER_CLEAR, R340: Bus Master Enable is cleared, stopping all requests from the controller. -/
  | busMasterClear
  /-- MSIX_ENABLE, R351: MSI-X Enable going to 1 deasserts INTA and sends one message per pending vector. -/
  | msixEnable
  /-- MSIX_VECTOR_UNMASK, R352: A vector or the function is unmasked, and a pended vector sends one message. -/
  | msixVectorUnmask (vec : Option (BitVec 8))
  /-- INTERRUPT_DISABLE, R353: Setting Interrupt Disable deasserts INTA. -/
  | interruptDisable
  /-- D3HOT_ENTRY, R356: Entering D3hot runs an NVMe-only shutdown and journal flush. -/
  | d3hotEntry
  /-- D0_RETURN, R356: The function returns to D0. -/
  | d0Return
  /-- L2_ENTRY, R357: After PME_Turn_Off and PME_TO_Ack the link enters L2 and nothing is reset. -/
  | l2Entry
  /-- GOVERNOR_RUN, R382: ESC.CTL.RUN starts the warm-up samples and then the loops, or stops the sample
      schedule. -/
  | governorRun (r : Requester) (run : Bool)
  /-- GOVERNOR_MODE, R381: ESC.CTL.MODE switches between AUTO and the MANUAL pin. -/
  | governorMode (r : Requester) (mode : BitVec 2)
  /-- BMC_SET_CAP, R378: The BMC writes SMBus code 0x40 to set BMC_CAP. -/
  | bmcSetCap (w : BitVec 16) (p : Byte)
  /-- BMC_SET_INLET, R378: The BMC writes SMBus code 0x41 to set T_AMB. -/
  | bmcSetInlet (w : BitVec 16) (p : Byte)
  /-- BMC_READ_BOARD_POWER, R378: The BMC reads P_BOARD with SMBus code 0x42. -/
  | bmcReadBoardPower
  /-- BMC_READ_PKG_POWER, R378: The BMC reads P_PKG with SMBus code 0x43. -/
  | bmcReadPkgPower
  /-- TRACE_ARM, R385: ESC.TRC_CTL.ARM starts one-shot or ring trace recording. -/
  | traceArm (r : Requester) (v : Word)
  /-- TRACE_TRIGGER, R385: TRIG_NOW, a winner or region change, or an event-pulse output triggers the ring
      trace. -/
  | traceTrigger (r : Requester)
  /-- SLEEP_REQUEST, R395: A PWR.CMD.GO write from firmware or the NVMe engine requests NAP or DEEP, is
      rejected, or becomes pending. -/
  | sleepRequest (who : Option Requester) (target : BitVec 2) (tck : Bool)
  /-- SLEEP_RETRY, R395: A pending NVMe sleep request is tried again at a change of its blocking condition and
      at least every 10 ms. -/
  | sleepRetry (tck : Bool)
  /-- DRAIN_TIMEOUT, R397: After DRAIN ms of entry, the flows and PUTs still live are aborted. -/
  | drainTimeout
  /-- CORE_PARK, R397: A core writes PWR.PARK bit c and waits for an interrupt. -/
  | corePark (c : Fin 4)
  /-- PARK_TIMEOUT, R397: The cores have not all parked within PARK_US, and the entry is given up. -/
  | parkTimeout
  /-- SLEEP_STATE_REACHED, R397: All cores parked, DRAM enters self-refresh, device time stops and NAP or DEEP
      is reached. -/
  | sleepStateReached
  /-- WAKE_RECOGNISED, R405: An enabled wake source is recognised and recorded, and it starts exit, or is
      latched during entry. -/
  | wakeRecognised (srcs : BitVec 12)
  /-- EXIT_COMPLETE, R398: Exit reaches RUN, admission reopens, WOKE pulses and held interrupts are delivered. -/
  | exitComplete
  /-- DOZE_ENTER, R394: All cores wait and all clocks are released, so the controller is in DOZE. -/
  | dozeEnter
  /-- DOZE_EXIT, R394: A clock request or core interrupt returns the controller to RUN. -/
  | dozeExit
  /-- DOMAIN_SWITCH_ON, R393: A DOM_ON bit written to 1 switches a power domain on and applies its repairs. -/
  | domainSwitchOn (r : Requester) (d : Fin 34) (mapOk : Bool) (up : Bool)
  /-- DOMAIN_SWITCH_OFF, R393: A DOM_ON bit written to 0 isolates the domain and switches it off. -/
  | domainSwitchOff (r : Requester) (d : Fin 34)
  /-- DOMAIN_ON_TIMEOUT, R393: A domain not stable within 200 µs raises a POWER fault. -/
  | domainOnTimeout (d : Fin 34)
  /-- PLL_UNLOCK, R391: A PLL loses lock and its branches stop until it relocks. -/
  | pllUnlock (p : Fin 8)
  /-- REF_CLOCK_LOSS, R391: REF25_IN carries no edge for 10 µs, which raises an F-class CLOCK fault. -/
  | refClockLoss
  /-- TIME_SET, R407: TIME_CTL.SET loads device time from TIME_SET and sets the uncertainty to 1,000 µs. -/
  | timeSet (r : Requester)
  /-- HS_ARM, R410: AON.HS_CTL.ARM arms a Hairspring match at HS_CMP. -/
  | hsArm (r : Requester)
  /-- HS_MATCH, R410: The Hairspring count equals HS_CMP, sets MATCH and wakes a sleeping device. -/
  | hsMatch
  /-- GPIO_EDGE, R405: The selected edge on an input GPIO sets GPIO_STS.EDGE, pulses an event and may wake. -/
  | gpioEdge (k : Fin 2) (level : Bool)
  /-- REGULATOR_GUARD, R403: The always-on load exceeds GUARD_MA on 4 consecutive samples in DEEP, and the
      device wakes. -/
  | regulatorGuard (load : Nat)
  /-- BROWNOUT, R404: The always-on regulator output falls below 0.68 V for 5 µs, causing a cold reset
      recorded in the sticky bank. -/
  | brownout
  /-- STBY_CLR, R404: AON.STBY_CLR clears CAUSE and HALTED in the sticky bank. -/
  | stbyClr (r : Requester)
  /-- COLD_RESET, R45: A power-on, main-supply cycle or brown-out returns every page to its reset values. -/
  | coldReset (stby : Bool)
  /-- RAIL_SEQUENCE, R419: RAIL.CTL.SEQ turns on the enabled OFF groups in ascending slots. -/
  | railSequence (r : Requester)
  /-- RAIL_SLOT_END, R419: A group's slot ends, the group is declared ON or locked off, and the next slot
      begins. -/
  | railSlotEnd (g : Fin 8) (settled : Bool) (peak : BitVec 16)
  /-- RAIL_SHORT, R415: A ramping group is declared shorted by the HALF or SAT cause and locked off. -/
  | railShort (g : Fin 8) (sat : Bool) (peak : BitVec 16)
  /-- RAIL_OVERCURRENT, R416: An ON group's current exceeds OC for 20 µs, and the group is locked off. -/
  | railOvercurrent (g : Fin 8) (peak : BitVec 16)
  /-- RAIL_UNDERVOLTAGE, R416: An ON group's output stays below 85 % of TARGET for 50 µs, and the group is
      locked off. -/
  | railUndervoltage (g : Fin 8) (peak : BitVec 16)
  /-- RAIL_SLEEP_UV, R422: In NAP or DEEP a group below 85 % on two ticks is locked off, and its fault is
      deferred to RUN. -/
  | railSleepUv (g : Fin 8) (peak : BitVec 16)
  /-- RAIL_RETRY, R418: After 1,000 ms in COOL, a group is ramped once more. -/
  | railRetry (g : Fin 8)
  /-- RAIL_OFF, R420: A CTL.OFF bit pulls the group's gate low. -/
  | railOff (r : Requester) (mask : Byte)
  /-- RAIL_OFF_DONE, R420: The group's output falls below 10 % of TARGET, and the group reads OFF. -/
  | railOffDone (g : Fin 8)
  /-- RAIL_STUCK, R420: The output has not fallen within 100 ms of gate discharge, and the group is locked off
      with cause STUCK. -/
  | railStuck (g : Fin 8) (peak : BitVec 16)
  /-- REBOOT, R441: Core 0 restarts at the boot ROM, which chooses a slot and loads stage-1. -/
  | reboot (norMode : Fin 3) (maps : BitVec 34) (facts : List NorFact)
  /-- LOAD_IMAGE, R447: The BOOT command LOAD checks an image from the NOR and copies its payload to DST. -/
  | loadImage (r : Requester) (kind : BitVec 2) (f : NorFact)
  /-- CHECK, R447: The BOOT command CHECK checks an image in memory. -/
  | check (r : Requester) (kind : BitVec 2)
  /-- VERIFY, R447: The BOOT command VERIFY checks an image in the NOR. -/
  | verify (r : Requester) (kind : BitVec 2) (f : NorFact)
  /-- TOKEN, R452: The BOOT command TOKEN checks an unlock token and may enter DEBUG_OPEN. -/
  | token (r : Requester)
  /-- PROVISION, R448: The BOOT command PROVISION writes an owner hash, revocation or debug-disable fuse. -/
  | provision (r : Requester) (sel : BitVec 3)
  /-- ADVANCE_SVN, R449: The BOOT command ADVANCE_SVN blows SVN bits up to SVN.ACTIVE − 1. -/
  | advanceSvn (r : Requester)
  /-- SPI_ERASE, R460: The SPI command ERASE erases 64 KiB NOR blocks. -/
  | spiErase (r : Requester) (err : Option Nat)
  /-- SPI_PROGRAM, R460: The SPI command PROGRAM writes the NOR from SPI_BUF. -/
  | spiProgram (r : Requester) (err : Option Nat)
  /-- SPI_READ, R460: The SPI command READ reads the NOR into SPI_BUF. -/
  | spiRead (r : Requester) (err : Option Nat)
  /-- BOOT_OK, R456: BOOT.CTL.BOOT_OK stops the watchdog and clears TRY.CNT. -/
  | bootOk (r : Requester)
  /-- SEAL, R458: BOOT.CTL.SEAL refuses ENC loads until reboot. -/
  | ctlSeal (r : Requester)
  /-- FAIL_SLOT, R457: BOOT.CTL.FAIL_SLOT marks the running slot skipped and reboots. -/
  | failSlot (r : Requester)
  /-- CORE_RELEASE, R458: BOOT.CTL.CORE_REL releases cores 1 to 3 once MAIN_OK is set. -/
  | coreRelease (r : Requester) (cores : BitVec 3)
  /-- WDT_HALF, R456: Half of the boot watchdog timeout passes without BOOT_OK. -/
  | wdtHalf
  /-- WDT_EXPIRE, R456: The boot watchdog expires, records WDT and reboots. -/
  | wdtExpire
  /-- DEBUG_OPEN_EXPIRE, R450: The token's DURATION passes, and DEBUG_OPEN returns to SECURE. -/
  | debugOpenExpire
  /-- TAP_EXTEST, R453: TAP instruction EXTEST selects boundary scan. -/
  | tapExtest (nor : Option (BitVec 26 × Bytes))
  /-- TAP_SAMPLE_PRELOAD, R453: TAP instruction SAMPLE/PRELOAD selects boundary scan. -/
  | tapSamplePreload
  /-- TAP_IDCODE, R453: TAP instruction IDCODE returns 0x2964_055D. -/
  | tapIdcode
  /-- TAP_CHALLENGE, R453: TAP instruction CHALLENGE shifts out the 128-bit challenge. -/
  | tapChallenge
  /-- TAP_UNLOCK, R453: TAP instruction UNLOCK shifts a token in and starts TOKEN at Update-DR. -/
  | tapUnlock (tok : Option (BitVec 1856))
  /-- TAP_DEBUG, R453: TAP instruction DEBUG opens core debug access where the security state allows. -/
  | tapDebug
  /-- TAP_BYPASS, R453: TAP instruction BYPASS selects the 1-bit bypass register. -/
  | tapBypass
  /-- MCL_LOAD, R476: The MCL command LOAD copies words into a control store. -/
  | mclLoad (r : Requester) (c : BitVec 3)
  /-- MCL_VERIFY, R476: The MCL command VERIFY compares each instance's store CRC with MCL.CRC. -/
  | mclVerify (r : Requester) (c : BitVec 3)
  /-- MCL_PATCH, R481: The MCL command PATCH applies a patch payload in two passes. -/
  | mclPatch (r : Requester)
  /-- ENGINE_INTERRUPT, R468: At a safe point an engine takes a pending fault notice or interrupt and enters
      its vector. -/
  | engineInterrupt (c : Fin 4) (i : Fin 32) (inputs : BitVec 5) (facts : List WordFact)
  /-- ENGINE_STOP, R470: An engine stops at once on STORE_UNC, POLL, ILLEGAL or CONTEXT and raises a MICROCODE
      fault. -/
  | engineStop (c : Fin 4) (i : Fin 32) (cause : Fin 5) (addr : BitVec 14) (more : Bool)
  /-- ENGINE_STOP_REQUEST, R472: Clearing EN of a running engine stops it at its next safe point. -/
  | engineStopRequest (c : Fin 4) (i : Fin 32)
  /-- DMC_INIT_DONE, R496: A channel's JESD79-5 initialisation ends, and it enters TRAIN. -/
  | dmcInitDone (n : Fin 2)
  /-- DMC_LIVE, R496: DMC_n.CTL.LIVE checks the mapping and makes the channel LIVE. -/
  | dmcLive (r : Requester) (n : Fin 2)
  /-- MR_READ, R504: MR_CMD.GO with WRITE = 0 issues an MRR and returns the results. -/
  | mrRead (r : Requester) (n : Fin 2) (mr : Byte) (rank : Fin 2) (sub : Fin 2) (devs : BitVec 40)
  /-- MR_WRITE, R504: MR_CMD.GO with WRITE = 1 issues an MRW of MR_DATA. -/
  | mrWrite (r : Requester) (n : Fin 2) (mr : Byte) (rank : Fin 2) (sub : Fin 2)
  /-- CS_TRAIN, R497: The training operation CS_TRAIN runs REPEAT samples. -/
  | csTrain (r : Requester) (n : Fin 2) (rank : Fin 2) (sub : Fin 2) (rep : Byte) (pass : BitVec 40) (errs : Nat)
  /-- CA_TRAIN, R497: The training operation CA_TRAIN runs REPEAT samples. -/
  | caTrain (r : Requester) (n : Fin 2) (rank : Fin 2) (sub : Fin 2) (rep : Byte) (pass : BitVec 40) (errs : Nat)
  /-- WLEV, R497: The training operation WLEV runs write levelling. -/
  | wlev (r : Requester) (n : Fin 2) (rank : Fin 2) (sub : Fin 2) (rep : Byte) (pass : BitVec 40) (errs : Nat)
  /-- RD_GATE, R497: The training operation RD_GATE searches the read preamble. -/
  | rdGate (r : Requester) (n : Fin 2) (rank : Fin 2) (sub : Fin 2) (rep : Byte) (pass : BitVec 40) (errs : Nat)
  /-- RD_DQ, R497: The training operation RD_DQ reads the training pattern. -/
  | rdDq (r : Requester) (n : Fin 2) (rank : Fin 2) (sub : Fin 2) (rep : Byte) (pass : BitVec 40) (errs : Nat)
  /-- WR_DQ, R497: The training operation WR_DQ writes and reads back TRAIN_PAT. -/
  | wrDq (r : Requester) (n : Fin 2) (rank : Fin 2) (sub : Fin 2) (rep : Byte) (pass : BitVec 40) (errs : Nat)
  /-- ZQ, R497: The training operation ZQ runs ZQ calibration. -/
  | zq (r : Requester) (n : Fin 2) (rank : Fin 2) (sub : Fin 2) (rep : Byte)
  /-- DRAM_FILL, R499: FILL_CTL.GO fills a range with zeros and valid code, holding accesses above the
      pointer. -/
  | dramFill (r : Requester)
  /-- DRAM_FILL_DONE, R499: The last fill line is written, DONE sets and source 139 pulses. -/
  | dramFillDone
  /-- DRAM_ACCESS, R491: A port's access is admitted by the front end and carried out close-page in line
      order. -/
  | dramAccess (port : Fin 8) (addr : BitVec 37) (len : Nat) (data : Option Bytes) (poison : Bool)
  /-- BUCKET_REFILL, R490: Every 40 ns each port's token bucket gains RATE × 4 bytes. -/
  | bucketRefill
  /-- DRAM_REFRESH, R495: A rank falls due for an all-bank refresh every REFI clocks. -/
  | dramRefresh (n : Fin 2) (rank : Fin 2) (sub : Fin 2)
  /-- MR4_POLL, R495: Every 16 ms the channel reads MR4 and sets the refresh rate. -/
  | mr4Poll (n : Fin 2) (hot : BitVec 2)
  /-- WRITE_TRACKING, R498: Every 32 ms the channel adjusts write delays, or sets DRIFT and raises a fault. -/
  | writeTracking (n : Fin 2) (lane : Fin 62) (rank : Fin 2) (sub : Fin 2) (v : BitVec 10)
  /-- ALERT_N_ASSERT, R503: A device asserts ALERT_N, and the channel replays the recent accesses after its
      deassertion. -/
  | alertNAssert (n : Fin 2)
  /-- SELF_REFRESH_ENTRY, R500: The front end drains, and each rank enters self-refresh. -/
  | selfRefreshEntry
  /-- SELF_REFRESH_EXIT, R501: The DRAM leaves self-refresh, and the ports reopen. -/
  | selfRefreshExit
  /-- DMA_TAIL_WRITE, R510: A write of DMA_n.TAIL gives descriptors to a NORMAL-mode channel. -/
  | dmaTailWrite (r : Requester) (n : Fin 32) (idx : BitVec 16)
  /-- DMA_START, R516: DMA_n.CTL.START releases HEAD to TAIL − 1 in a pulse mode. -/
  | dmaStart (r : Requester) (n : Fin 32)
  /-- DMA_TRIGGER, R516: An event-pulse output releases one descriptor of a triggered channel. -/
  | dmaTrigger (n : Fin 32)
  /-- DMA_ABORT, R517: DMA_n.CTL.ABORT ends the descriptors in progress at once. -/
  | dmaAbort (r : Requester) (n : Fin 32)
  /-- DESCRIPTOR_START, R509: The channel checks a descriptor and starts moving it, or completes it with its
      failure code. -/
  | descriptorStart (n : Fin 32)
  /-- DESCRIPTOR_COMPLETE, R512: A descriptor's transfers finish, and it completes in ring order with status
      write-back or a pulse. -/
  | descriptorComplete (n : Fin 32)
  /-- DMA_BUS_ERROR, R513: A read or write of a descriptor ends in a bus error, and the descriptor is marked
      bad. -/
  | dmaBusError (n : Fin 32) (k : Fin 4) (write : Bool) (detail : BitVec 3) (units : Nat)
  /-- CIPHER_DISPATCH, R518: A free pipeline takes the next unit by rotating pick among the ports. -/
  | cipherDispatch (units : List CiphUnit)
  /-- UNWRAP, R526: The KCMD operation UNWRAP unwraps a key blob into a slot. -/
  | unwrap (r : Requester) (long : Bool) (dom : Fin 2) (slot : Byte)
  /-- GENERATE, R527: The KCMD operation GENERATE fills a slot with a random key and writes its blob. -/
  | generate (r : Requester) (long : Bool) (use : BitVec 2) (slot : Byte) (key : Bytes) (healthy : Bool)
  /-- CLEAR, R528: The KCMD operation CLEAR empties one key slot. -/
  | clear (r : Requester) (slot : Byte)
  /-- VECTOR_ENCRYPT, R529: VCMD.GO with DEC = 0 encrypts VCNT blocks under HANDLE. -/
  | vectorEncrypt (r : Requester) (handle : BitVec 16)
  /-- VECTOR_DECRYPT, R529: VCMD.GO with DEC = 1 decrypts VCNT blocks under HANDLE. -/
  | vectorDecrypt (r : Requester) (handle : BitVec 16)
  /-- UNCORRECTABLE_READ, R541: A memory read found uncorrectable returns a bus error and is recorded, and MEM
      raises a MEMORY fault. -/
  | uncorrectableRead (cls : Fin 10) (inst : BitVec 5) (req : Fin 8) (kind : Fin 3) (addr : BitVec 37)
  /-- CORRECTED_ERROR, R543: A memory read corrects an error, which is counted and may raise a C-class fault. -/
  | correctedError (cls : Fin 10) (inst : BitVec 5) (req : Fin 8) (sym : Fin 5) (addr : BitVec 37)
  /-- MEM_RECORD_READ, R542: A read of word 0 of CE_REC or UE_REC freezes that record until word 2 is read. -/
  | memRecordRead (r : Requester) (ue : Bool) (w : Fin 3)
  /-- INJECT_ARM, R544: MEM.INJ_CTL.ARM arms one injection at INJ_ADDR. -/
  | injectArm (r : Requester) (kind : BitVec 2) (staging : Bool)
  /-- INJECTED, R544: The next whole-word write to the armed address is stored with the injected damage. -/
  | injected (port : Fin 8) (data : Bytes)
  /-- FAULT_MESSAGE, R552: A C or U fault message reaches FLT and is entered into the ring, counted or
      discarded. -/
  | faultMessage (n : Nat)
  /-- FATAL_LINE, R565: A rising fatal line or F-class FW_RAISE enters HALT. -/
  | fatalLine (msgs : List FaultMsg)
  /-- FW_RAISE, R549: FLT.FW_RAISE.GO raises a FIRMWARE fault of the given class from the writing core. -/
  | fwRaise (c : Fin 4) (cls : BitVec 2)
  /-- FAULT_ACK, R560: A write of a sequence number to FLT.ACK acknowledges pending U records. -/
  | faultAck (r : Requester) (seq : Word)
  /-- ESC_HALF, R560: The oldest pending U record has used half of ESC_T. -/
  | escHalf
  /-- ESCALATION_EXPIRE, R561: A pending U record's escalation timer reaches ESC_T, and the device enters
      LIMP. -/
  | escalationExpire
  /-- LIMP_REQUEST, R562: FLT.CTL.LIMP enters LIMP with cause FIRMWARE. -/
  | limpRequest (c : Fin 4)
  /-- FIRST_SLOT_CLEAR, R557: Writing 1 to a first-fault slot's VALID clears the slot. -/
  | firstSlotClear (r : Requester) (slot : FaultClass)
  /-- RING_RD_WRITE, R555: A write of FLT.RING_RD consumes ring records and clears FULL. -/
  | ringRdWrite (r : Requester) (pos : Byte)
  /-- FAULT_RECORD_READ, R556: A read of REC_0 or a first-fault slot's word 0 copies the record for that
      requester. -/
  | faultRecordRead (r : Requester) (slot : Option FaultClass)
  /-- PUT_SHARD_RESPONSE, R253: A contributor receives a holder's response to a PUT_SHARD: the final OK, RANGE
      with a resend index, or BUSY, which settles owed shares, protection and CLEAR records. -/
  | putShardResponse (f : Frame)
  /-- RETRY_AFTER_EXPIRE, R273: The retry-after of a BUSY answer to a JOIN or SUSPECT HELLO runs out, and the
      member repeats the request to the acting root. -/
  | retryAfterExpire
  /-- QUERY_TMO_EXPIRE, R267: A peer sent a QUERY HELLO after an epoch gap does not answer within SEED_TMO and
      is recorded DOWN. -/
  | queryTmoExpire (m : Nat)
  /-- PERST_N_RELEASE, R330: PERST_N is deasserted, and with PCI.PAGE_CTL.EN = 1 link training starts at 2.5
      GT/s. -/
  | perstNRelease
  /-- JUNCTION_TRIP, R551: A junction sensor reads 120 °C or more in two consecutive readings, raising an
      F-class THERMAL fault by hardware. -/
  | junctionTrip (temp : Nat)
  /-- ALERT_N_DEASSERT, R503: A DRAM device releases ALERT_N, and the channel replays the accesses issued in
      the 80 ns before the assertion and resumes issuing. -/
  | alertNDeassert (n : Fin 2)
  /-- PLL_RELOCK, R391: A PLL that lost lock locks again, and its clock branches run again. -/
  | pllRelock (p : Fin 8)
  /-- RAIL_RAMP_DONE, R414: A group's gate ramp reaches V_PUMP, and the group passes from RAMP to SETTLE for
      the rest of its slot. -/
  | railRampDone (g : Fin 8)
  /-- RAIL_LIMITER_CHANGE, R414: A 1 µs current sample crosses LIM.INRUSH, so the limiter engages and holds
      the gate, or releases and lets the ramp resume. -/
  | railLimiterChange (g : Fin 8) (on : Bool)
  /-- FEATURE_OP_COMPLETE, R75: A TEMP, FEATURE or FW Read ID, Get/Set Features or Read Status operation
      finishes on the die, storing its result and updating the temperature and the FW registers. -/
  | featureOpComplete (n : Fin 32) (id : Nat) (p : Word) (ok : Bool)
  /-- COALESCING_TIME_EXPIRE, R287: The Interrupt Coalescing aggregation time of a completion queue runs out,
      and its interrupt is raised. -/
  | coalescingTimeExpire (cq : Fin 129)
  /-- LINK_LAYER_ERROR, R354: The PCIe link or transaction layer detects a Receiver Error, Bad TLP, replay,
      protocol or Malformed TLP error, which is logged in AER and pulses source 148 or 149. -/
  | linkLayerError (corr : Bool) (bit : Fin 32) (h0 : Word) (h1 : Word) (h2 : Word) (h3 : Word)
  /-- FEC_UNCORRECTABLE_CODEWORD, R239: A NET port's RS-FEC meets a codeword it cannot correct, counts it in
      FEC_UNC and pulses source 442 + 16 × n. -/
  | fecUncorrectableCodeword (n : Fin 2)
  /-- TAP_RESET, R453: The TAP enters Test-Logic-Reset through TRST_N or TMS, which selects IDCODE. -/
  | tapReset
  deriving DecidableEq, Repr

end Sys2Proof
end

