-- ==== Sys2Proof/Machine/Aes.lean ====
section
/-! DEFINITION. AES (FIPS 197) with 128-bit and 256-bit keys, the key wrap of RFC 3394 and the XTS construction of IEEE
1619: the standards that R518, R522 and R525 name. -/

namespace Sys2Proof.Machine

open Sys2Proof

/-- A byte times x in GF(2^8) with the AES polynomial. -/
def xtime (a : Nat) : Nat := if a < 128 then 2 * a else (2 * a) ^^^ 0x11B

/-- The product of two bytes in GF(2^8), over the low `k` bits of the second. -/
def gmulAux : Nat → Nat → Nat → Nat
  | 0, _, _ => 0
  | k + 1, a, b => (if b % 2 = 1 then a else 0) ^^^ gmulAux k (xtime a) (b / 2)

/-- The S-box of FIPS 197: byte `a` of this number. -/
def sboxTable : Nat :=
  0x16BB54B00F2D99416842E6BF0D89A18CDF2855CEE9871E9B948ED9691198F8E19E1DC186B95735610EF6034866B53E708A8BBD4B1F74DDE8C6B4A61C2E2578BA08AE7A65EAF4566CA94ED58D6D37C8E779E4959162ACD3C25C2406490A3A32E0DB0B5EDE14B8EE4688902A22DC4F816073195D643D7EA7C41744975FEC130CCDD2F3FF1021DAB6BCF5389D928F40A351A89F3C507F02F94585334D43FBAAEFD0CF584C4A39BECB6A5BB1FC20ED00D153842FE329B3D63B52A05A6E1B1A2C830975B227EBE28012079A059618C323C7041531D871F1E5A534CCF73F362693FDB7C072A49CAFA2D4ADF04759FA7DC982CA76ABD7FE2B670130C56F6BF27B777C63

/-- The inverse S-box of FIPS 197: byte `a` of this number. -/
def invSboxTable : Nat :=
  0x7D0C2155631469E126D677BA7E042B17619953833CBBEBC8B0F52AAE4D3BE0A0EF9CC9939F7AE52D0D4AB519A97F51605FEC8027591012B131C7078833A8DD1FF45ACD78FEC0DB9A2079D2C64B3E56FC1BBE18AA0E62B76F89C5291D711AF1476EDF751CE837F9E28535ADE72274AC9673E6B4F0CECFF297EADC674F4111913A6B8A130103BDAFC1020F3FCA8F1E2CD00645B3B80558E4F70AD3BC8C00ABD890849D8DA75746155EDAB9EDFD5048706C92B6655DCC5CA4D41698688664F6F87225D18B6D49A25B76B224D92866A12E084EC3FA420B954CEE3D23C2A632947B54CBE9DEC444438E3487FF2F9B8239E37CFBD7F3819EA340BF38A53630D56A0952

/-- The S-box and its inverse. -/
def sbox (a : Nat) : Nat := sboxTable / 256 ^ a % 256

def invSbox (a : Nat) : Nat := invSboxTable / 256 ^ a % 256

/-- Lists of bytes added in GF(2^8). -/
def xorBytes (a b : List Nat) : List Nat := List.zipWith (· ^^^ ·) a b

/-- The words of the key schedule, newest first, from word `i` on. -/
def expandKey (nk : Nat) : Nat → Nat → Nat → List (List Nat) → List (List Nat)
  | 0, _, _, ws => ws
  | fuel + 1, i, rcon, ws =>
    let prev := ws.headD []
    let back := ws.getD (nk - 1) []
    let first := decide (i % nk = 0)
    let t := if first then
        let r := (prev.drop 1 ++ prev.take 1).map sbox
        xorBytes r [rcon, 0, 0, 0]
      else if nk = 8 ∧ i % 8 = 4 then prev.map sbox else prev
    expandKey nk fuel (i + 1) (if first then xtime rcon else rcon) (xorBytes back t :: ws)

/-- A list cut into groups of four. -/
def fours : Nat → List Nat → List (List Nat)
  | 0, _ => []
  | k + 1, l => l.take 4 :: fours k (l.drop 4)

/-- The round keys of a 16-byte or 32-byte key, in order. -/
def roundKeys (key : List Nat) : List (List Nat) :=
  let nk := key.length / 4
  let n := 4 * (nk + 7)
  let ws := (expandKey nk (n - nk) nk 1 (fours nk key).reverse).reverse
  (List.range (nk + 7)).map fun r => ((ws.drop (4 * r)).take 4).flatten

/-- ShiftRows by a multiple of the row number: 1 forwards, 3 backwards. -/
def shiftRows (k : Nat) (st : List Nat) : List Nat :=
  (List.range 16).map fun i => st.getD ((i + 4 * k * (i % 4)) % 16) 0

/-- MixColumns with the given first row of coefficients, which have `k` bits. -/
def mixColumns (k : Nat) (c : List Nat) (st : List Nat) : List Nat :=
  (List.range 16).map fun i =>
    (List.range 4).foldl (fun a j => a ^^^ gmulAux k (st.getD (i / 4 * 4 + j) 0) (c.getD ((j + 4 - i % 4) % 4) 0)) 0

/-- One block encrypted or decrypted. -/
def aesEncNat (key blk : List Nat) : List Nat :=
  match roundKeys key with
  | [] => blk
  | k0 :: ks =>
    let n := ks.length
    (ks.zipIdx.foldl (fun st kr =>
      let st := shiftRows 1 (st.map sbox)
      let st := if kr.2 + 1 = n then st else mixColumns 2 [2, 3, 1, 1] st
      xorBytes st kr.1) (xorBytes blk k0))

def aesDecNat (key blk : List Nat) : List Nat :=
  match (roundKeys key).reverse with
  | [] => blk
  | kn :: ks =>
    let n := ks.length
    (ks.zipIdx.foldl (fun st kr =>
      let st := xorBytes ((shiftRows 3 st).map invSbox) kr.1
      if kr.2 + 1 = n then st else mixColumns 4 [14, 11, 13, 9] st) (xorBytes blk kn))

/-- AES over bytes. -/
def aesEnc (key blk : Bytes) : Bytes := (aesEncNat (key.map (·.toNat)) (blk.map (·.toNat))).map (BitVec.ofNat 8)
def aesDec (key blk : Bytes) : Bytes := (aesDecNat (key.map (·.toNat)) (blk.map (·.toNat))).map (BitVec.ofNat 8)

/-- Byte strings combined by exclusive or. -/
def xorB (a b : Bytes) : Bytes := List.zipWith (· ^^^ ·) a b

/-! ### XTS-AES (R522) -/

/-- A tweak times α in GF(2^128), little-endian. -/
def xtsNext (t : Bytes) : Bytes :=
  let v := leNat t * 2
  leBytes 16 (if v < 2 ^ 128 then v else (v - 2 ^ 128) ^^^ 0x87)

/-- Blocks of a data unit under the data key from a tweak on. -/
def xtsBlocks (dec : Bool) (key : Bytes) : Nat → Bytes → Bytes → Bytes
  | 0, _, _ => []
  | k + 1, t, bs =>
    let x := xorB (bs.take 16) t
    xorB (if dec then aesDec key x else aesEnc key x) t ++ xtsBlocks dec key k (xtsNext t) (bs.drop 16)

/-- A data unit in the at-rest construction of R522 with tweak value `v`. -/
def xtsUnit (dec : Bool) (dataKey tweakKey : Bytes) (v : Nat) (bs : Bytes) : Bytes :=
  xtsBlocks dec dataKey (bs.length / 16) (aesEnc tweakKey (leBytes 16 v)) bs

/-! ### The key wrap of RFC 3394 (R525) -/

/-- One round of wrapping over the registers `rs`, from register `i` (from 1) of `n` in pass `j`. -/
def wrapPass (kek : Bytes) (n j : Nat) : Nat → Bytes → List Bytes → Bytes × List Bytes
  | _, a, [] => (a, [])
  | i, a, r :: rs =>
    let b := aesEnc kek (a ++ r)
    let a := xorB (b.take 8) (beBytes 8 (n * j + i))
    let x := wrapPass kek n j (i + 1) a rs
    (x.1, b.drop 8 :: x.2)

/-- The wrap of a key with the initial value `a`. -/
def keyWrap (kek a key : Bytes) : Bytes :=
  let n := key.length / 8
  let rs := (List.range n).map fun i => (key.drop (8 * i)).take 8
  let x := (List.range 6).foldl (fun x j => wrapPass kek n j 1 x.1 x.2) (a, rs)
  x.1 ++ x.2.flatten

/-- One round of unwrapping, the registers given last first. -/
def unwrapPass (kek : Bytes) (n j : Nat) : Nat → Bytes → List Bytes → Bytes × List Bytes
  | _, a, [] => (a, [])
  | i, a, r :: rs =>
    let b := aesDec kek (xorB a (beBytes 8 (n * j + i)) ++ r)
    let x := unwrapPass kek n j (i - 1) (b.take 8) rs
    (x.1, b.drop 8 :: x.2)

/-- The initial value and the key that a blob of `n + 1` registers unwraps to. -/
def keyUnwrap (kek : Bytes) (n : Nat) (blob : Bytes) : Bytes × Bytes :=
  let rs := ((List.range n).map fun i => (blob.drop (8 * (i + 1))).take 8).reverse
  let x := [5, 4, 3, 2, 1, 0].foldl (fun x j => unwrapPass kek n j n x.1 x.2) (blob.take 8, rs)
  (x.1, x.2.reverse.flatten)

end Sys2Proof.Machine
end

