-- ==== Sys2Proof/Config.lean ====
section
/-! DEFINITION. What the spec leaves open or an implementation fixes: constants without a body, so that no proof can
rest on a value of theirs. -/

namespace Sys2Proof

/-- The stream of free values: the k-th value that the spec leaves open, taken modulo the bound it states. -/
opaque Config.freeValue : Nat → Nat

/-- The part's fused identity (R443): the 64-bit UID. -/
opaque Config.uid : BitVec 64

/-- The part's fused root key (R443, R524). -/
opaque Config.rootKey : BitVec 256

/-- The device-class key (R448), the same on every revision B part. -/
opaque Config.classKey : BitVec 256

/-- Zearacen's patch keys 0 to 3, held in the boot ROM (R446): X then Y, 48 bytes each. -/
opaque Config.patchKey : Nat → Bytes

/-- Spare rows and columns that a part's repair fuses use in a power domain (R540). -/
opaque Config.spares : Nat → Nat

/-- PE_REFCLK carries edges at a moment in ns: the host stops it as it likes (CLK.REF_STS). -/
opaque Config.peRefClk : Nat → Bool

/-- The OUI of a board without a valid board configuration (R300, R444), and bytes 0 to 14 of the NGUID, which come from the device
serial in a way that the spec does not give (R301). -/
opaque Config.ieee : Bytes
opaque Config.nguid : Bytes

end Sys2Proof
end

