-- ==== Sys2Proof/Machine/RegMap.lean ====
section
/-! DEFINITION. The names of the BAR2 registers and fields that the model's operations use (R29, and the
captions of every chapter's register tables): a register's BAR2 offset, and a field's offset, lowest bit and
width.  Instances take their number `n`, numbered registers their index `i`. -/

namespace Sys2Proof.Machine

abbrev R.SYS_DEV_ID : Nat := 0x10080
abbrev R.SYS_DEV_REV : Nat := 0x10084
abbrev R.SYS_DEAD_ACC_OFFSET : FRef := ⟨0x10088, 0, 26⟩
abbrev R.SYS_DEAD_ACC_WR : FRef := ⟨0x10088, 26, 1⟩
abbrev R.SYS_DEAD_ACC_HOST : FRef := ⟨0x10088, 27, 1⟩
abbrev R.SYS_DEAD_ACC_KIND : FRef := ⟨0x10088, 28, 2⟩
abbrev R.SYS_DEAD_CNT_CNT : FRef := ⟨0x1008c, 0, 32⟩
abbrev R.AON_TIME_LO : Nat := 0x20080
abbrev R.AON_TIME_SET_LO : Nat := 0x20088
abbrev R.AON_TIME_CTL : Nat := 0x20090
abbrev R.AON_TIME_CTL_SET : FRef := ⟨0x20090, 0, 1⟩
abbrev R.AON_TIME_STS_UNKNOWN : FRef := ⟨0x20094, 0, 1⟩
abbrev R.AON_TIME_STS_SRC : FRef := ⟨0x20094, 1, 2⟩
abbrev R.AON_TIME_UNC_US : FRef := ⟨0x20098, 0, 32⟩
abbrev R.AON_UNC_THR_US : FRef := ⟨0x2009c, 0, 32⟩
abbrev R.AON_HS_LO : Nat := 0x200a0
abbrev R.AON_HS_CMP_LO : Nat := 0x200a8
abbrev R.AON_HS_CTL : Nat := 0x200b0
abbrev R.AON_HS_CTL_ARM : FRef := ⟨0x200b0, 0, 1⟩
abbrev R.AON_HS_CTL_MATCH : FRef := ⟨0x200b0, 1, 1⟩
abbrev R.AON_GPIO_CFG : Nat := 0x200b4
abbrev R.AON_GPIO_STS_IN : FRef := ⟨0x200b8, 0, 2⟩
abbrev R.AON_GPIO_STS_EDGE : FRef := ⟨0x200b8, 8, 2⟩
abbrev R.AON_STBY_REC : Nat := 0x200c0
abbrev R.AON_STBY_REC_CAUSE : FRef := ⟨0x200c0, 0, 4⟩
abbrev R.AON_STBY_REC_HALTED : FRef := ⟨0x200c0, 7, 1⟩
abbrev R.AON_STBY_CLR : Nat := 0x200c4
abbrev R.AON_REG_STS_LP : FRef := ⟨0x200c8, 0, 1⟩
abbrev R.AON_REG_STS_PEAK : FRef := ⟨0x200c8, 8, 8⟩
abbrev R.PWR_CMD : Nat := 0x30080
abbrev R.PWR_CMD_TARGET : FRef := ⟨0x30080, 0, 2⟩
abbrev R.PWR_CMD_GO : FRef := ⟨0x30080, 2, 1⟩
abbrev R.PWR_CMD_BY_NVM : FRef := ⟨0x30080, 3, 1⟩
abbrev R.PWR_ENTRY_CFG_DRAIN : FRef := ⟨0x30084, 0, 8⟩
abbrev R.PWR_ENTRY_CFG_PARK_US : FRef := ⟨0x30084, 8, 16⟩
abbrev R.PWR_DEEP_CFG_GUARD_EN : FRef := ⟨0x30088, 0, 1⟩
abbrev R.PWR_DEEP_CFG_GUARD_MA : FRef := ⟨0x30088, 8, 8⟩
abbrev R.PWR_WAKE_EN : Nat := 0x3008c
abbrev R.PWR_WAKE_EN_EN : FRef := ⟨0x3008c, 0, 12⟩
abbrev R.PWR_STATE_CUR : FRef := ⟨0x30090, 0, 3⟩
abbrev R.PWR_STATE_ENTERING : FRef := ⟨0x30090, 3, 1⟩
abbrev R.PWR_STATE_EXITING : FRef := ⟨0x30090, 4, 1⟩
abbrev R.PWR_STATE_PENDING : FRef := ⟨0x30090, 5, 1⟩
abbrev R.PWR_STATE_PEND_TGT : FRef := ⟨0x30090, 6, 2⟩
abbrev R.PWR_STATE_REFUSE : FRef := ⟨0x30090, 8, 4⟩
abbrev R.PWR_STATE_DENY : FRef := ⟨0x30090, 12, 2⟩
abbrev R.PWR_PARK : Nat := 0x30094
abbrev R.PWR_PARK_CORE : FRef := ⟨0x30094, 0, 4⟩
abbrev R.PWR_WAKE_REC_SRC : FRef := ⟨0x30098, 0, 4⟩
abbrev R.PWR_WAKE_REC_ENTRY : FRef := ⟨0x30098, 4, 1⟩
abbrev R.PWR_WAKE_REC_DEEP : FRef := ⟨0x30098, 5, 1⟩
abbrev R.PWR_WAKE_REC_EXTRA : FRef := ⟨0x30098, 8, 8⟩
abbrev R.PWR_WAKE_ALL : Nat := 0x3009c
abbrev R.PWR_WAKE_ALL_SEEN : FRef := ⟨0x3009c, 0, 12⟩
abbrev R.PWR_SLEEP_TICKS_TICKS : FRef := ⟨0x300a0, 0, 32⟩
abbrev R.PWR_DOM_ON_0 : Nat := 0x300b0
abbrev R.PWR_DOM_STS_0 : Nat := 0x300b8
abbrev R.PWR_NAP_CNT_LO : Nat := 0x30100
abbrev R.PWR_DEEP_CNT_LO : Nat := 0x30108
abbrev R.CLK_UNLOCK_SEEN : FRef := ⟨0x40088, 0, 8⟩
abbrev R.CLK_UNLOCK_CNT : FRef := ⟨0x40088, 16, 16⟩
abbrev R.RAIL_CFG_RETRY_EN : FRef := ⟨0x50080, 24, 1⟩
abbrev R.RAIL_CFG2_STAGGER : FRef := ⟨0x50084, 0, 8⟩
abbrev R.RAIL_EN_EN : FRef := ⟨0x5008c, 0, 8⟩
abbrev R.RAIL_CTL : Nat := 0x50090
abbrev R.RAIL_CTL_SEQ : FRef := ⟨0x50090, 0, 1⟩
abbrev R.RAIL_CTL_OFF : FRef := ⟨0x50090, 8, 8⟩
abbrev R.RAIL_STS : Nat := 0x50094
abbrev R.RAIL_STS_SEQ_BUSY : FRef := ⟨0x50094, 24, 1⟩
abbrev R.RAIL_STS_LIMIT : FRef := ⟨0x50094, 25, 1⟩
abbrev R.RAIL_FLT : Nat := 0x50098
abbrev R.RAIL_FLT_LOCKED : FRef := ⟨0x50098, 0, 8⟩
abbrev R.RAIL_FLT_RETRY_USED : FRef := ⟨0x50098, 8, 8⟩
abbrev R.RAIL_CAUSE : Nat := 0x5009c
abbrev R.RAIL_MEAS (i : Nat) : Nat := 0x500a0 + 4 * i
abbrev R.RAIL_LAST : Nat := 0x500c0
abbrev R.RAIL_LOCK_CNT_CNT : FRef := ⟨0x500c4, 0, 32⟩
abbrev R.FLT_CFG_ESC_T : FRef := ⟨0x60080, 0, 10⟩
abbrev R.FLT_CFG_C_LOG : FRef := ⟨0x60080, 10, 1⟩
abbrev R.FLT_CFG_C_THR : FRef := ⟨0x60080, 16, 16⟩
abbrev R.FLT_STS : Nat := 0x60084
abbrev R.FLT_STS_LIMP : FRef := ⟨0x60084, 0, 1⟩
abbrev R.FLT_STS_LIMP_CAUSE : FRef := ⟨0x60084, 1, 3⟩
abbrev R.FLT_CTL : Nat := 0x60088
abbrev R.FLT_CTL_LIMP : FRef := ⟨0x60088, 0, 1⟩
abbrev R.FLT_ACK : Nat := 0x6008c
abbrev R.FLT_SEQ_NEXT_SEQ : FRef := ⟨0x60098, 0, 32⟩
abbrev R.FLT_RING_STS_WR : FRef := ⟨0x6009c, 0, 8⟩
abbrev R.FLT_RING_STS_FULL : FRef := ⟨0x6009c, 8, 1⟩
abbrev R.FLT_RING_STS_OVF : FRef := ⟨0x6009c, 16, 16⟩
abbrev R.FLT_RING_RD : Nat := 0x600a0
abbrev R.FLT_RING_RD_POS : FRef := ⟨0x600a0, 0, 8⟩
abbrev R.FLT_RD_IDX_POS : FRef := ⟨0x600a4, 0, 8⟩
abbrev R.FLT_REC (i : Nat) : Nat := 0x600c0 + 4 * i
abbrev R.FLT_FIRST_F_7 : Nat := 0x6011c
abbrev R.FLT_FIRST_U_7 : Nat := 0x6013c
abbrev R.FLT_FIRST_C_7 : Nat := 0x6015c
abbrev R.FLT_C_CNT_LO : Nat := 0x60180
abbrev R.FLT_U_CNT_LO : Nat := 0x60188
abbrev R.FLT_DROP_CNT_LO : Nat := 0x60190
abbrev R.FLT_FW_LOC_LO_LOC : FRef := ⟨0x61080, 0, 32⟩
abbrev R.FLT_FW_LOC_HI_LOC : FRef := ⟨0x61084, 0, 12⟩
abbrev R.FLT_FW_RAISE : Nat := 0x61088
abbrev R.FLT_FW_RAISE_GO : FRef := ⟨0x61088, 2, 1⟩
abbrev R.ESC_CTL : Nat := 0x70080
abbrev R.ESC_CTL_RUN : FRef := ⟨0x70080, 0, 1⟩
abbrev R.ESC_CTL_MODE : FRef := ⟨0x70080, 1, 2⟩
abbrev R.ESC_CTL_BMC_EN : FRef := ⟨0x70080, 3, 1⟩
abbrev R.ESC_CTL_WARM : FRef := ⟨0x70080, 8, 8⟩
abbrev R.ESC_STS_RUNNING : FRef := ⟨0x70084, 0, 1⟩
abbrev R.ESC_STS_WARMING : FRef := ⟨0x70084, 1, 1⟩
abbrev R.ESC_STS_WINNER : FRef := ⟨0x70084, 2, 3⟩
abbrev R.ESC_STS_REGION : FRef := ⟨0x70084, 5, 2⟩
abbrev R.ESC_STS_PINNED : FRef := ⟨0x70084, 7, 1⟩
abbrev R.ESC_STS_CAP_UNMET : FRef := ⟨0x70084, 8, 1⟩
abbrev R.ESC_STS_SENS_LOST : FRef := ⟨0x70084, 9, 1⟩
abbrev R.ESC_STS_CRIT : FRef := ⟨0x70084, 10, 1⟩
abbrev R.ESC_U_INIT : Nat := 0x70088
abbrev R.ESC_U_MAN : Nat := 0x7008c
abbrev R.ESC_U_OUT : Nat := 0x70090
abbrev R.ESC_T_J_LIM : Nat := 0x70094
abbrev R.ESC_T_J_CRIT : Nat := 0x70098
abbrev R.ESC_T_DIE_LIM : Nat := 0x7009c
abbrev R.ESC_I_FLASH_LIM : Nat := 0x700a0
abbrev R.ESC_FLASH_V : Nat := 0x700a4
abbrev R.ESC_BOARD_OFS : Nat := 0x700a8
abbrev R.ESC_T_AMB : Nat := 0x700ac
abbrev R.ESC_HOST_CAP : Nat := 0x700b0
abbrev R.ESC_HOST_CAP_CAP : FRef := ⟨0x700b0, 0, 16⟩
abbrev R.ESC_BMC_CAP_CAP : FRef := ⟨0x700b4, 0, 16⟩
abbrev R.ESC_PS_CAP_CAP : FRef := ⟨0x700b8, 0, 16⟩
abbrev R.ESC_BUD_CFG_MIN_CRED : FRef := ⟨0x700bc, 0, 16⟩
abbrev R.ESC_BUD_CFG_FULL_CRED : FRef := ⟨0x700bc, 16, 16⟩
abbrev R.ESC_EGR_MIN_BYTES : FRef := ⟨0x700c0, 0, 23⟩
abbrev R.ESC_EGR_FULL_BYTES : FRef := ⟨0x700c4, 0, 23⟩
abbrev R.ESC_LOOP_EN : Nat := 0x700c8
abbrev R.ESC_MEAS_CFG_Y1_EN : FRef := ⟨0x700cc, 0, 1⟩
abbrev R.ESC_BUDGET_CRED (i : Nat) : FRef := ⟨0x700d0 + 4 * i, 0, 16⟩
abbrev R.ESC_EGR_OUT_BYTES (i : Nat) : FRef := ⟨0x700f0 + 4 * i, 0, 23⟩
abbrev R.ESC_TJ : Nat := 0x70100
abbrev R.ESC_TDIE : Nat := 0x70104
abbrev R.ESC_P_PKG : Nat := 0x70108
abbrev R.ESC_I_FLASH : Nat := 0x7010c
abbrev R.ESC_P_BOARD : Nat := 0x70110
abbrev R.ESC_EST_TJ : Nat := 0x70114
abbrev R.ESC_EST_DIE : Nat := 0x70118
abbrev R.ESC_EST_DIE_VALUE : FRef := ⟨0x70118, 0, 32⟩
abbrev R.ESC_E (i : Nat) : Nat := 0x70120 + 8 * i
abbrev R.ESC_I (i : Nat) : Nat := 0x70124 + 8 * i
abbrev R.ESC_CNT_WIN : FRef := ⟨0x70140, 0, 16⟩
abbrev R.ESC_CNT_SAT : FRef := ⟨0x70140, 16, 16⟩
abbrev R.ESC_BAND_T : Nat := 0x71100
abbrev R.ESC_BAND_HYST : Nat := 0x71104
abbrev R.ESC_A (i : Nat) : Nat := 0x72080 + 4 * i
abbrev R.ESC_B (i : Nat) : Nat := 0x72180 + 4 * i
abbrev R.ESC_C (i : Nat) : Nat := 0x72200 + 4 * i
abbrev R.ESC_L (i : Nat) : Nat := 0x72240 + 4 * i
abbrev R.ESC_X (i : Nat) : Nat := 0x72280 + 4 * i
abbrev R.ESC_TRC_CTL : Nat := 0x73080
abbrev R.ESC_TRC_CTL_ARM : FRef := ⟨0x73080, 0, 1⟩
abbrev R.ESC_TRC_CTL_TRIG_NOW : FRef := ⟨0x73080, 1, 1⟩
abbrev R.ESC_TRC_CTL_MODE : FRef := ⟨0x73080, 2, 1⟩
abbrev R.ESC_TRC_CTL_TRIG : FRef := ⟨0x73080, 4, 4⟩
abbrev R.ESC_TRC_CTL_PULSE : FRef := ⟨0x73080, 8, 4⟩
abbrev R.ESC_TRC_CTL_DEC : FRef := ⟨0x73080, 12, 4⟩
abbrev R.ESC_TRC_CTL_POST : FRef := ⟨0x73080, 16, 14⟩
abbrev R.ESC_TRC_SEL_0 : Nat := 0x73084
abbrev R.ESC_TRC_SEL_1 : Nat := 0x73088
abbrev R.ESC_TRC_STS_ARMED : FRef := ⟨0x7308c, 0, 1⟩
abbrev R.ESC_TRC_STS_TRIGGERED : FRef := ⟨0x7308c, 1, 1⟩
abbrev R.ESC_TRC_STS_DONE : FRef := ⟨0x7308c, 2, 1⟩
abbrev R.ESC_TRC_STS_WR_IDX : FRef := ⟨0x7308c, 16, 14⟩
abbrev R.ESC_TRC_TRIG_IDX_IDX : FRef := ⟨0x73090, 0, 14⟩
abbrev R.ESC_TRC_RD_IDX_IDX : FRef := ⟨0x73094, 0, 14⟩
abbrev R.BOOT_STS_SEC_STATE : FRef := ⟨0x80080, 0, 2⟩
abbrev R.BOOT_STS_SLOT : FRef := ⟨0x80080, 2, 2⟩
abbrev R.BOOT_STS_FELL_BACK : FRef := ⟨0x80080, 4, 1⟩
abbrev R.BOOT_STS_SEALED : FRef := ⟨0x80080, 5, 1⟩
abbrev R.BOOT_STS_MAIN_OK : FRef := ⟨0x80080, 6, 1⟩
abbrev R.BOOT_STS_BOOT_OK : FRef := ⟨0x80080, 7, 1⟩
abbrev R.BOOT_CTL : Nat := 0x80084
abbrev R.BOOT_WDT_TIMEOUT : FRef := ⟨0x80088, 0, 16⟩
abbrev R.BOOT_WDT_RUNNING : FRef := ⟨0x80088, 16, 1⟩
abbrev R.BOOT_TRY : Nat := 0x8008c
abbrev R.BOOT_TRY_CNT : FRef := ⟨0x8008c, 0, 2⟩
abbrev R.BOOT_TRY_LAST : FRef := ⟨0x8008c, 2, 2⟩
abbrev R.BOOT_TRY_SKIP : FRef := ⟨0x8008c, 4, 2⟩
abbrev R.BOOT_TRY_TOK_FAILS : FRef := ⟨0x8008c, 8, 4⟩
abbrev R.BOOT_FAIL_CODE : FRef := ⟨0x80090, 0, 8⟩
abbrev R.BOOT_FAIL_KIND : FRef := ⟨0x80090, 8, 3⟩
abbrev R.BOOT_FAIL_SLOT : FRef := ⟨0x80090, 12, 2⟩
abbrev R.BOOT_FAIL_BLOCK : FRef := ⟨0x80090, 16, 10⟩
abbrev R.BOOT_SVN_FUSED : FRef := ⟨0x80094, 0, 8⟩
abbrev R.BOOT_SVN_ACTIVE : FRef := ⟨0x80094, 8, 8⟩
abbrev R.BOOT_FUSE_STS_KEY_REVOKE : FRef := ⟨0x80098, 0, 2⟩
abbrev R.BOOT_FUSE_STS_PATCH_REVOKE : FRef := ⟨0x80098, 2, 4⟩
abbrev R.BOOT_FUSE_STS_OWNER_SET : FRef := ⟨0x80098, 6, 2⟩
abbrev R.BOOT_FUSE_STS_DBG_DISABLE : FRef := ⟨0x80098, 8, 1⟩
abbrev R.BOOT_CHAL (i : Nat) : Nat := 0x800b0 + 4 * i
abbrev R.BOOT_CMD : Nat := 0x800c0
abbrev R.BOOT_CMD_OP : FRef := ⟨0x800c0, 0, 4⟩
abbrev R.BOOT_CMD_GO : FRef := ⟨0x800c0, 4, 1⟩
abbrev R.BOOT_CMD_KIND : FRef := ⟨0x800c0, 8, 2⟩
abbrev R.BOOT_CMD_SEL : FRef := ⟨0x800c0, 12, 3⟩
abbrev R.BOOT_SRC_LO : Nat := 0x800c4
abbrev R.BOOT_DST_LO : Nat := 0x800cc
abbrev R.BOOT_CMD_STS_RESULT : FRef := ⟨0x800d4, 0, 8⟩
abbrev R.BOOT_CMD_STS_BUSY : FRef := ⟨0x800d4, 8, 1⟩
abbrev R.BOOT_CMD_STS_BLOCK : FRef := ⟨0x800d4, 16, 10⟩
abbrev R.BOOT_TOK (i : Nat) : Nat := 0x80100 + 4 * i
abbrev R.BOOT_SPI_CMD : Nat := 0x80200
abbrev R.BOOT_SPI_CMD_OP : FRef := ⟨0x80200, 0, 2⟩
abbrev R.BOOT_SPI_CMD_GO : FRef := ⟨0x80200, 2, 1⟩
abbrev R.BOOT_SPI_CMD_ERR : FRef := ⟨0x80200, 3, 1⟩
abbrev R.BOOT_SPI_ADDR_ADDR : FRef := ⟨0x80204, 0, 26⟩
abbrev R.BOOT_SPI_LEN_LEN : FRef := ⟨0x80208, 0, 25⟩
abbrev R.BOOT_SPI_BUF_LO : Nat := 0x8020c
abbrev R.MCL_CMD : Nat := 0x90080
abbrev R.MCL_CMD_GO : FRef := ⟨0x90080, 4, 1⟩
abbrev R.MCL_CMD_STORE : FRef := ⟨0x90080, 5, 3⟩
abbrev R.MCL_INST_MASK : FRef := ⟨0x90084, 0, 32⟩
abbrev R.MCL_SRC_LO : Nat := 0x90088
abbrev R.MCL_RANGE_OFFSET : FRef := ⟨0x90090, 0, 14⟩
abbrev R.MCL_RANGE_COUNT : FRef := ⟨0x90090, 16, 15⟩
abbrev R.MCL_CRC_CRC : FRef := ⟨0x90094, 0, 32⟩
abbrev R.MCL_CRC_OUT_CRC : FRef := ⟨0x90098, 0, 32⟩
abbrev R.MCL_CMD_STS_RESULT : FRef := ⟨0x9009c, 0, 4⟩
abbrev R.MCL_CMD_STS_RECORD : FRef := ⟨0x9009c, 5, 8⟩
abbrev R.MCL_CMD_STS_INSTANCE : FRef := ⟨0x9009c, 14, 5⟩
abbrev R.MCL_LOADED_0_SEQ : FRef := ⟨0x900a0, 0, 32⟩
abbrev R.MCL_LOADED_1_PAR : FRef := ⟨0x900a4, 0, 2⟩
abbrev R.MCL_LOADED_1_CHV : FRef := ⟨0x900a4, 2, 16⟩
abbrev R.MCL_LOADED_1_NANO : FRef := ⟨0x900a4, 18, 1⟩
abbrev R.MCL_PATCH_ID_LO : Nat := 0x900a8
abbrev R.MCL_ECC_CNT_CNT : FRef := ⟨0x900b0, 0, 32⟩
abbrev R.MCL_RUN_SEQ_BITS : FRef := ⟨0x91080, 0, 32⟩
abbrev R.MCL_STOP_SEQ_BITS : FRef := ⟨0x91084, 0, 32⟩
abbrev R.MCL_PAR_STS_RUN : FRef := ⟨0x91088, 0, 2⟩
abbrev R.MCL_PAR_STS_STOP : FRef := ⟨0x91088, 2, 2⟩
abbrev R.MCL_STOP_REC : Nat := 0x9108c
abbrev R.MCL_POLL_HWM_SEQ : FRef := ⟨0x91090, 0, 8⟩
abbrev R.MCL_POLL_HWM_PAR : FRef := ⟨0x91090, 8, 8⟩
abbrev R.MCL_POLL_HWM_CHV : FRef := ⟨0x91090, 16, 8⟩
abbrev R.DMA_CFG_MODE (n : Nat) : FRef := ⟨0xa0080 + 0x1000 * n, 0, 2⟩
abbrev R.DMA_CFG_OWNER (n : Nat) : FRef := ⟨0xa0080 + 0x1000 * n, 2, 1⟩
abbrev R.DMA_CFG_RING_CORE (n : Nat) : FRef := ⟨0xa0080 + 0x1000 * n, 3, 1⟩
abbrev R.DMA_CFG_TRIG (n : Nat) : FRef := ⟨0xa0080 + 0x1000 * n, 4, 4⟩
abbrev R.DMA_CFG_TRIG_EN (n : Nat) : FRef := ⟨0xa0080 + 0x1000 * n, 8, 1⟩
abbrev R.DMA_CFG_RING_LOG2 (n : Nat) : FRef := ⟨0xa0080 + 0x1000 * n, 12, 5⟩
abbrev R.DMA_RING_BASE_LO (n : Nat) : Nat := 0xa0088 + 0x1000 * n
abbrev R.DMA_HEAD_IDX (n : Nat) : FRef := ⟨0xa0090 + 0x1000 * n, 0, 16⟩
abbrev R.DMA_TAIL (n : Nat) : Nat := 0xa0094 + 0x1000 * n
abbrev R.DMA_TAIL_IDX (n : Nat) : FRef := ⟨0xa0094 + 0x1000 * n, 0, 16⟩
abbrev R.DMA_CTL (n : Nat) : Nat := 0xa0098 + 0x1000 * n
abbrev R.DMA_CTL_START (n : Nat) : FRef := ⟨0xa0098 + 0x1000 * n, 0, 1⟩
abbrev R.DMA_CTL_ABORT (n : Nat) : FRef := ⟨0xa0098 + 0x1000 * n, 1, 1⟩
abbrev R.DMA_STS_OWN_WAIT (n : Nat) : FRef := ⟨0xa009c + 0x1000 * n, 1, 1⟩
abbrev R.DMA_STS_BME_WAIT (n : Nat) : FRef := ⟨0xa009c + 0x1000 * n, 2, 1⟩
abbrev R.DMA_STS_TRIG_PEND (n : Nat) : FRef := ⟨0xa009c + 0x1000 * n, 16, 8⟩
abbrev R.DMA_ERR_INFO (n : Nat) : Nat := 0xa00a0 + 0x1000 * n
abbrev R.DMA_BAD_CNT_CNT (n : Nat) : FRef := ⟨0xa00a4 + 0x1000 * n, 0, 32⟩
abbrev R.DMA_UNITS_LO (n : Nat) : Nat := 0xa0100 + 0x1000 * n
abbrev R.DMA_DESC_LO (n : Nat) : Nat := 0xa0108 + 0x1000 * n
abbrev R.CIPH_AR_NS1 : Nat := 0xc0080
abbrev R.CIPH_AR_NS2 : Nat := 0xc0084
abbrev R.CIPH_KCMD : Nat := 0xc0090
abbrev R.CIPH_KCMD_GO : FRef := ⟨0xc0090, 2, 1⟩
abbrev R.CIPH_KCMD_KLEN : FRef := ⟨0xc0090, 3, 1⟩
abbrev R.CIPH_KCMD_USE : FRef := ⟨0xc0090, 4, 2⟩
abbrev R.CIPH_KCMD_DOMAIN : FRef := ⟨0xc0090, 6, 1⟩
abbrev R.CIPH_KCMD_SLOT : FRef := ⟨0xc0090, 8, 8⟩
abbrev R.CIPH_KADDR_LO : Nat := 0xc0098
abbrev R.CIPH_KSTS_RESULT : FRef := ⟨0xc00a0, 0, 4⟩
abbrev R.CIPH_KSTS_BUSY : FRef := ⟨0xc00a0, 4, 1⟩
abbrev R.CIPH_KSTS_HANDLE : FRef := ⟨0xc00a0, 16, 16⟩
abbrev R.CIPH_VCMD : Nat := 0xc00b0
abbrev R.CIPH_VCMD_DEC : FRef := ⟨0xc00b0, 0, 1⟩
abbrev R.CIPH_VCMD_GO : FRef := ⟨0xc00b0, 1, 1⟩
abbrev R.CIPH_VCMD_HANDLE : FRef := ⟨0xc00b0, 16, 16⟩
abbrev R.CIPH_VSRC_LO : Nat := 0xc00b8
abbrev R.CIPH_VDST_LO : Nat := 0xc00c0
abbrev R.CIPH_VCNT_BLOCKS : FRef := ⟨0xc00c8, 0, 24⟩
abbrev R.CIPH_VSTS_RESULT : FRef := ⟨0xc00cc, 0, 4⟩
abbrev R.CIPH_VSTS_BUSY : FRef := ⟨0xc00cc, 4, 1⟩
abbrev R.CIPH_VSTS_DONE : FRef := ⟨0xc00cc, 8, 24⟩
abbrev R.CIPH_SLOT_IDX_SLOT : FRef := ⟨0xc00d0, 0, 8⟩
abbrev R.CIPH_UNWRAP_FAIL_CNT : FRef := ⟨0xc00e0, 0, 32⟩
abbrev R.CIPH_BLOCKS_LO : Nat := 0xc0100
abbrev R.CIPH_UNITS_LO : Nat := 0xc0108
abbrev R.MEM_CFG_CE_THR : FRef := ⟨0xd0080, 0, 16⟩
abbrev R.MEM_CFG_CE_FLT : FRef := ⟨0xd0080, 16, 1⟩
abbrev R.MEM_CE_REC_0 : Nat := 0xd0084
abbrev R.MEM_UE_REC_0 : Nat := 0xd0090
abbrev R.MEM_UE_CNT_CNT : FRef := ⟨0xd009c, 0, 32⟩
abbrev R.MEM_POISON_CNT_CNT : FRef := ⟨0xd00a0, 0, 32⟩
abbrev R.MEM_CE_CNT_CNT (i : Nat) : FRef := ⟨0xd00c0 + 4 * i, 0, 32⟩
abbrev R.MEM_REPAIR_ERR_0 : Nat := 0xd00f0
abbrev R.MEM_REPAIR_CNT_SPARES : FRef := ⟨0xd00f8, 0, 16⟩
abbrev R.MEM_INJ_CTL : Nat := 0xd0100
abbrev R.MEM_INJ_CTL_KIND : FRef := ⟨0xd0100, 0, 2⟩
abbrev R.MEM_INJ_CTL_TARGET : FRef := ⟨0xd0100, 2, 1⟩
abbrev R.MEM_INJ_CTL_ARM : FRef := ⟨0xd0100, 3, 1⟩
abbrev R.MEM_INJ_ADDR_LO : Nat := 0xd0104
abbrev R.DMC_CFG_DENS : FRef := ⟨0xe0080, 3, 2⟩
abbrev R.DMC_CFG_RANKS : FRef := ⟨0xe0080, 5, 1⟩
abbrev R.DMC_MAP_SUB : Nat := 0xe00c0
abbrev R.DMC_PORT_RATE (i : Nat) : FRef := ⟨0xe0100 + 8 * i, 0, 11⟩
abbrev R.DMC_PORT_HARD (i : Nat) : FRef := ⟨0xe0100 + 8 * i, 11, 1⟩
abbrev R.DMC_PORT_BURST (i : Nat) : FRef := ⟨0xe0100 + 8 * i, 12, 8⟩
abbrev R.DMC_PORT_PRIO (i : Nat) : FRef := ⟨0xe0100 + 8 * i, 20, 2⟩
abbrev R.DMC_PORT_STS_WAITED (i : Nat) : FRef := ⟨0xe0104 + 8 * i, 16, 16⟩
abbrev R.DMC_FILL_BASE_LO : Nat := 0xe0140
abbrev R.DMC_FILL_LEN_LEN : FRef := ⟨0xe0148, 0, 22⟩
abbrev R.DMC_FILL_CTL : Nat := 0xe014c
abbrev R.DMC_FILL_CTL_GO : FRef := ⟨0xe014c, 0, 1⟩
abbrev R.DMC_FILL_CTL_DONE : FRef := ⟨0xe014c, 1, 1⟩
abbrev R.DMC_FILL_PTR_LO : Nat := 0xe0150
abbrev R.DMC_CTL (n : Nat) : Nat := 0xe0180 + 0x1000 * n
abbrev R.DMC_STS_STATE (n : Nat) : FRef := ⟨0xe0184 + 0x1000 * n, 0, 3⟩
abbrev R.DMC_STS_OP_BUSY (n : Nat) : FRef := ⟨0xe0184 + 0x1000 * n, 3, 1⟩
abbrev R.DMC_STS_REF_2X (n : Nat) : FRef := ⟨0xe0184 + 0x1000 * n, 4, 1⟩
abbrev R.DMC_STS_DRIFT (n : Nat) : FRef := ⟨0xe0184 + 0x1000 * n, 5, 1⟩
abbrev R.DMC_REF_EN (n : Nat) : FRef := ⟨0xe0194 + 0x1000 * n, 16, 1⟩
abbrev R.DMC_REF_TEMP_EN (n : Nat) : FRef := ⟨0xe0194 + 0x1000 * n, 17, 1⟩
abbrev R.DMC_REF_POST (n : Nat) : FRef := ⟨0xe0194 + 0x1000 * n, 18, 3⟩
abbrev R.DMC_MR_CMD (n : Nat) : Nat := 0xe0198 + 0x1000 * n
abbrev R.DMC_MR_CMD_GO (n : Nat) : FRef := ⟨0xe0198 + 0x1000 * n, 11, 1⟩
abbrev R.DMC_MR_DATA_WDATA (n : Nat) : FRef := ⟨0xe019c + 0x1000 * n, 0, 8⟩
abbrev R.DMC_TRAIN_CTL (n : Nat) : Nat := 0xe01a0 + 0x1000 * n
abbrev R.DMC_TRAIN_CTL_GO (n : Nat) : FRef := ⟨0xe01a0 + 0x1000 * n, 4, 1⟩
abbrev R.DMC_TRAIN_RES_0 (n : Nat) : Nat := 0xe01a8 + 0x1000 * n
abbrev R.DMC_TRAIN_RES_1 (n : Nat) : Nat := 0xe01ac + 0x1000 * n
abbrev R.DMC_DLY_IDX (n : Nat) : Nat := 0xe01b0 + 0x1000 * n
abbrev R.DMC_DLY_IDX_KIND (n : Nat) : FRef := ⟨0xe01b0 + 0x1000 * n, 8, 4⟩
abbrev R.DMC_ALERT_CNT_CNT (n : Nat) : FRef := ⟨0xe01b8 + 0x1000 * n, 0, 32⟩
abbrev R.DMC_MR_RES_0 (n : Nat) : Nat := 0xe01c0 + 0x1000 * n
abbrev R.DMC_MR_RES_1 (n : Nat) : Nat := 0xe01c4 + 0x1000 * n
abbrev R.DMC_RD_LINES_LO (n : Nat) : Nat := 0xe0200 + 0x1000 * n
abbrev R.DMC_WR_LINES_LO (n : Nat) : Nat := 0xe0208 + 0x1000 * n
abbrev R.DMC_ACT_LO (n : Nat) : Nat := 0xe0210 + 0x1000 * n
abbrev R.DMC_REFRESH_LO (n : Nat) : Nat := 0xe0218 + 0x1000 * n
abbrev R.PCI_ID_CFG_SUBSYS_ID : FRef := ⟨0x100080, 0, 16⟩
abbrev R.PCI_DSN_LO : Nat := 0x100084
abbrev R.PCI_DSN_HI : Nat := 0x100088
abbrev R.PCI_LINK_CFG_MAX_SPEED : FRef := ⟨0x10008c, 0, 3⟩
abbrev R.PCI_LINK_CFG_MAX_WIDTH : FRef := ⟨0x10008c, 3, 2⟩
abbrev R.PCI_LINK_CFG_FLIT_EN : FRef := ⟨0x10008c, 5, 1⟩
abbrev R.PCI_LINK_CFG_L0P_EN : FRef := ⟨0x10008c, 6, 1⟩
abbrev R.PCI_CTL : Nat := 0x100090
abbrev R.PCI_CTL_CFG_READY : FRef := ⟨0x100090, 0, 1⟩
abbrev R.PCI_CTL_RETRAIN : FRef := ⟨0x100090, 1, 1⟩
abbrev R.PCI_LINK_STS_UP : FRef := ⟨0x100094, 0, 1⟩
abbrev R.PCI_LINK_STS_SPEED : FRef := ⟨0x100094, 1, 3⟩
abbrev R.PCI_LINK_STS_WIDTH : FRef := ⟨0x100094, 4, 2⟩
abbrev R.PCI_LINK_STS_FLIT : FRef := ⟨0x100094, 6, 1⟩
abbrev R.PCI_LINK_STS_L0P_WIDTH : FRef := ⟨0x100094, 7, 2⟩
abbrev R.PCI_LINK_STS_DEGRADED : FRef := ⟨0x100094, 9, 1⟩
abbrev R.PCI_LINK_STS_CFG_OPEN : FRef := ⟨0x100094, 10, 1⟩
abbrev R.PCI_LINK_STS_LTSSM : FRef := ⟨0x100094, 16, 4⟩
abbrev R.PCI_TAG_CFG_MAX_OUT : FRef := ⟨0x100098, 0, 13⟩
abbrev R.PCI_TAG_CFG_NVM_RSV : FRef := ⟨0x100098, 16, 12⟩
abbrev R.PCI_TAG_STS_MODE : FRef := ⟨0x10009c, 0, 2⟩
abbrev R.PCI_TAG_STS_OUTST : FRef := ⟨0x10009c, 16, 13⟩
abbrev R.PCI_LTR_CFG_ACTIVE_US : FRef := ⟨0x1000a0, 0, 16⟩
abbrev R.PCI_LTR_CFG_IDLE_US : FRef := ⟨0x1000a0, 16, 16⟩
abbrev R.PCI_INT_STS_MODE : FRef := ⟨0x1000a4, 0, 2⟩
abbrev R.PCI_INT_STS_INTA : FRef := ⟨0x1000a4, 2, 1⟩
abbrev R.PCI_INT_STS_FN_MASK : FRef := ⟨0x1000a4, 3, 1⟩
abbrev R.PCI_ERR_0 : Nat := 0x1000a8
abbrev R.PCI_ERR_1 : Nat := 0x1000ac
abbrev R.PCI_ERR_2 : Nat := 0x1000b0
abbrev R.PCI_POISON_CNT : Nat := 0x1000b4
abbrev R.PCI_POISON_CNT_IN : FRef := ⟨0x1000b4, 0, 16⟩
abbrev R.PCI_POISON_CNT_OUT : FRef := ⟨0x1000b4, 16, 16⟩
abbrev R.PCI_RX_UNITS_LO : Nat := 0x100100
abbrev R.PCI_TX_UNITS_LO : Nat := 0x100108
abbrev R.PCI_CORR_ERR_LO : Nat := 0x100110
abbrev R.PCI_REPLAY_LO : Nat := 0x100118
abbrev R.NVM_CFG_CTX_MAX : FRef := ⟨0x110080, 0, 16⟩
abbrev R.NVM_CFG_MI_EN : FRef := ⟨0x110080, 16, 1⟩
abbrev R.NVM_CTL_READY : FRef := ⟨0x110084, 0, 1⟩
abbrev R.NVM_STS : Nat := 0x110088
abbrev R.NVM_STS_RDY : FRef := ⟨0x110088, 0, 1⟩
abbrev R.NVM_STS_SHST : FRef := ⟨0x110088, 1, 2⟩
abbrev R.NVM_STS_FORMAT : FRef := ⟨0x110088, 4, 1⟩
abbrev R.NVM_LOCK_STS : Nat := 0x110090
abbrev R.NVM_LOCK_STS_WAITING : FRef := ⟨0x110090, 16, 16⟩
abbrev R.NVM_ADM_SQE (i : Nat) : Nat := 0x1100a0 + 4 * i
abbrev R.NVM_ADM_BUF_LO : Nat := 0x1100e0
abbrev R.NVM_ADM_CPL : Nat := 0x1100e8
abbrev R.NVM_ADM_CTL : Nat := 0x1100ec
abbrev R.NVM_ADM_CTL_XFER : FRef := ⟨0x1100ec, 12, 1⟩
abbrev R.NVM_ADM_CTL_DONE : FRef := ⟨0x1100ec, 13, 1⟩
abbrev R.NVM_ADM_STS_PENDING : FRef := ⟨0x1100f0, 0, 1⟩
abbrev R.NVM_ADM_STS_XFER_ERR : FRef := ⟨0x1100f0, 1, 1⟩
abbrev R.NVM_ERR_CNT_CNT : FRef := ⟨0x1100f4, 0, 32⟩
abbrev R.NVM_RD_CMD_LO : Nat := 0x110100
abbrev R.NVM_WR_CMD_LO : Nat := 0x110108
abbrev R.NVM_RD_UNITS_LO : Nat := 0x110110
abbrev R.NVM_WR_UNITS_LO : Nat := 0x110118
abbrev R.NVM_RMW_LO : Nat := 0x110120
abbrev R.CHAN_CFG_RATE (n : Nat) : FRef := ⟨0x200080 + 0x1000 * n, 0, 3⟩
abbrev R.CHAN_CFG_CE_EN (n : Nat) : FRef := ⟨0x200080 + 0x1000 * n, 16, 8⟩
abbrev R.CHAN_GEOM_REF_PLANES (n : Nat) : FRef := ⟨0x200084 + 0x1000 * n, 0, 2⟩
abbrev R.CHAN_GEOM_REF_LUNS (n : Nat) : FRef := ⟨0x200084 + 0x1000 * n, 2, 2⟩
abbrev R.CHAN_GEOM_REF_PPB (n : Nat) : FRef := ⟨0x200084 + 0x1000 * n, 4, 13⟩
abbrev R.CHAN_GEOM_BLK_BPP (n : Nat) : FRef := ⟨0x200088 + 0x1000 * n, 0, 15⟩
abbrev R.CHAN_DISC_CTL (n : Nat) : Nat := 0x20008c + 0x1000 * n
abbrev R.CHAN_DISC_CTL_START (n : Nat) : FRef := ⟨0x20008c + 0x1000 * n, 0, 1⟩
abbrev R.CHAN_DISC_STS_BUSY (n : Nat) : FRef := ⟨0x200090 + 0x1000 * n, 0, 1⟩
abbrev R.CHAN_DISC_STS_DONE (n : Nat) : FRef := ⟨0x200090 + 0x1000 * n, 1, 1⟩
abbrev R.CHAN_DISC_STS_ACTIVE (n : Nat) : FRef := ⟨0x200090 + 0x1000 * n, 8, 6⟩
abbrev R.CHAN_DISC_STS_EXCLUDED (n : Nat) : FRef := ⟨0x200090 + 0x1000 * n, 16, 6⟩
abbrev R.CHAN_DISC_STS_ABSENT (n : Nat) : FRef := ⟨0x200090 + 0x1000 * n, 24, 6⟩
abbrev R.CHAN_DIE_STATE_0 (n : Nat) : Nat := 0x200094 + 0x1000 * n
abbrev R.CHAN_DIE_STATE_1 (n : Nat) : Nat := 0x200098 + 0x1000 * n
abbrev R.CHAN_DIE_IDX_IDX (n : Nat) : FRef := ⟨0x20009c + 0x1000 * n, 0, 5⟩
abbrev R.CHAN_SUSP_CFG_MIN_RUN (n : Nat) : FRef := ⟨0x2000a4 + 0x1000 * n, 0, 10⟩
abbrev R.CHAN_SUSP_CFG_MAX_SUSP (n : Nat) : FRef := ⟨0x2000a4 + 0x1000 * n, 10, 4⟩
abbrev R.CHAN_SUSP_CFG_RD_PER_SUSP (n : Nat) : FRef := ⟨0x2000a4 + 0x1000 * n, 14, 5⟩
abbrev R.CHAN_LOOP_CFG_EN (n : Nat) : FRef := ⟨0x2000a8 + 0x1000 * n, 24, 1⟩
abbrev R.CHAN_PROG_AGE_AGE (n : Nat) : FRef := ⟨0x2000ac + 0x1000 * n, 0, 16⟩
abbrev R.CHAN_COST_READ (n : Nat) : FRef := ⟨0x2000b4 + 0x1000 * n, 0, 8⟩
abbrev R.CHAN_COST_PROG (n : Nat) : FRef := ⟨0x2000b4 + 0x1000 * n, 8, 8⟩
abbrev R.CHAN_COST_ERS (n : Nat) : FRef := ⟨0x2000b4 + 0x1000 * n, 16, 8⟩
abbrev R.CHAN_BUDGET_GRP_LEFT (n : Nat) : FRef := ⟨0x2000b8 + 0x1000 * n, 0, 16⟩
abbrev R.CHAN_BUDGET_GRP_BUDGET (n : Nat) : FRef := ⟨0x2000b8 + 0x1000 * n, 16, 16⟩
abbrev R.CHAN_SPENT_LAST (n : Nat) : FRef := ⟨0x2000bc + 0x1000 * n, 0, 16⟩
abbrev R.CHAN_SPENT_WAITED (n : Nat) : FRef := ⟨0x2000bc + 0x1000 * n, 16, 16⟩
abbrev R.CHAN_TEMP_CFG_PERIOD (n : Nat) : FRef := ⟨0x2000c4 + 0x1000 * n, 0, 12⟩
abbrev R.CHAN_TEMP_CFG_EN (n : Nat) : FRef := ⟨0x2000c4 + 0x1000 * n, 12, 1⟩
abbrev R.CHAN_TEMP_CFG_BIAS (n : Nat) : FRef := ⟨0x2000c4 + 0x1000 * n, 24, 8⟩
abbrev R.CHAN_TEMP_MAX_HI (n : Nat) : FRef := ⟨0x2000c8 + 0x1000 * n, 16, 8⟩
abbrev R.CHAN_TEMP_MAX_HI_STS (n : Nat) : FRef := ⟨0x2000c8 + 0x1000 * n, 31, 1⟩
abbrev R.CHAN_FAIL_0 (n : Nat) : Nat := 0x2000cc + 0x1000 * n
abbrev R.CHAN_FAIL_1 (n : Nat) : Nat := 0x2000d0 + 0x1000 * n
abbrev R.CHAN_FAIL_CNT_CNT (n : Nat) : FRef := ⟨0x2000d4 + 0x1000 * n, 0, 32⟩
abbrev R.CHAN_QUIESCE (n : Nat) : Nat := 0x2000d8 + 0x1000 * n
abbrev R.CHAN_QUIESCE_MODE (n : Nat) : FRef := ⟨0x2000d8 + 0x1000 * n, 0, 2⟩
abbrev R.CHAN_FW_OP_OPC (n : Nat) : FRef := ⟨0x2000e0 + 0x1000 * n, 0, 4⟩
abbrev R.CHAN_FW_OP_DIE (n : Nat) : FRef := ⟨0x2000e0 + 0x1000 * n, 8, 5⟩
abbrev R.CHAN_FW_CTL (n : Nat) : Nat := 0x2000e8 + 0x1000 * n
abbrev R.CHAN_FW_CTL_GO (n : Nat) : FRef := ⟨0x2000e8 + 0x1000 * n, 0, 1⟩
abbrev R.CHAN_FW_CTL_SLOT (n : Nat) : FRef := ⟨0x2000e8 + 0x1000 * n, 4, 14⟩
abbrev R.CHAN_FW_CTL_CODE (n : Nat) : FRef := ⟨0x2000e8 + 0x1000 * n, 24, 4⟩
abbrev R.CHAN_FW_DATA (n : Nat) : Nat := 0x2000ec + 0x1000 * n
abbrev R.FTL_CFG_TIER : FRef := ⟨0x240080, 0, 2⟩
abbrev R.FTL_CFG_MIN_WIDTH : FRef := ⟨0x240080, 2, 6⟩
abbrev R.FTL_CFG_SUBST_MAX : FRef := ⟨0x240080, 8, 3⟩
abbrev R.FTL_CFG_BITS : FRef := ⟨0x240080, 12, 2⟩
abbrev R.FTL_CMAP_BASE_LO : Nat := 0x240088
abbrev R.FTL_BMAP_BASE_LO : Nat := 0x240090
abbrev R.FTL_SBT_BASE_LO : Nat := 0x240098
abbrev R.FTL_OWN_BASE_LO : Nat := 0x2400a0
abbrev R.FTL_NS_CAP_1_LO : Nat := 0x2400b0
abbrev R.FTL_NS_CAP_2_IU : FRef := ⟨0x2400b8, 0, 32⟩
abbrev R.FTL_SB_CNT_TOTAL : FRef := ⟨0x2400bc, 0, 20⟩
abbrev R.FTL_POOL_SPARE_SB : FRef := ⟨0x2400c0, 0, 16⟩
abbrev R.FTL_POOL_INT_SB : FRef := ⟨0x2400c0, 16, 16⟩
abbrev R.FTL_OPEN_CFG_OPEN_MAX : FRef := ⟨0x2400c4, 0, 7⟩
abbrev R.FTL_OPEN_CFG_CLASS_OPEN_MAX : FRef := ⟨0x2400c4, 8, 5⟩
abbrev R.FTL_OPEN_CFG_IDLE_PAD : FRef := ⟨0x2400c4, 16, 8⟩
abbrev R.FTL_GC_CFG_FREE_LOW : FRef := ⟨0x2400cc, 0, 16⟩
abbrev R.FTL_GC_CFG_FREE_HIGH : FRef := ⟨0x2400cc, 16, 16⟩
abbrev R.FTL_GC_CFG2_FREE_CRIT : FRef := ⟨0x2400d0, 0, 16⟩
abbrev R.FTL_GC_CFG2_AGE_BIAS : FRef := ⟨0x2400d0, 16, 8⟩
abbrev R.FTL_GC_CFG2_HORIZON : FRef := ⟨0x2400d0, 24, 8⟩
abbrev R.FTL_WL_CFG_SPREAD : FRef := ⟨0x2400d4, 0, 16⟩
abbrev R.FTL_WL_CFG_EN : FRef := ⟨0x2400d4, 16, 1⟩
abbrev R.FTL_PE_RATED_RATED : FRef := ⟨0x2400d8, 0, 20⟩
abbrev R.FTL_GC_STS_ACTIVE : FRef := ⟨0x2400e4, 0, 1⟩
abbrev R.FTL_PE_STS : Nat := 0x2400e8
abbrev R.FTL_PE_MEAN : Nat := 0x2400ec
abbrev R.FTL_LIFE_PCT_USED : FRef := ⟨0x2400f0, 0, 8⟩
abbrev R.FTL_LIFE_AVAIL_SPARE : FRef := ⟨0x2400f0, 8, 8⟩
abbrev R.FTL_LIFE_WEAR_PCT : FRef := ⟨0x2400f0, 16, 8⟩
abbrev R.FTL_LIFE_READ_ONLY : FRef := ⟨0x2400f0, 24, 1⟩
abbrev R.FTL_SPARE_STS_CONSUMED : FRef := ⟨0x2400f4, 0, 20⟩
abbrev R.FTL_SPARE_THR_THRESH : FRef := ⟨0x2400f8, 0, 8⟩
abbrev R.FTL_HOST_WR_LO : Nat := 0x240100
abbrev R.FTL_MEDIA_WR_LO : Nat := 0x240108
abbrev R.FTL_GC_WR_LO : Nat := 0x240110
abbrev R.FTL_PAD_WR_LO : Nat := 0x240118
abbrev R.FTL_PLOG_WR_LO : Nat := 0x240120
abbrev R.FTL_CLASS_EXP_EXPIRE (i : Nat) : FRef := ⟨0x241080 + 0x10 * i, 0, 32⟩
abbrev R.FTL_CLASS_CTL_WRITABLE (i : Nat) : FRef := ⟨0x241084 + 0x10 * i, 0, 1⟩
abbrev R.FTL_CLASS_CTL_NO_GC (i : Nat) : FRef := ⟨0x241084 + 0x10 * i, 1, 1⟩
abbrev R.FTL_CLASS_CTL_PEER (i : Nat) : FRef := ⟨0x241084 + 0x10 * i, 2, 1⟩
abbrev R.FTL_CLASS_STS_DROPPING (i : Nat) : FRef := ⟨0x241088 + 0x10 * i, 25, 1⟩
abbrev R.FTL_CLASS_VAL_MIB (i : Nat) : FRef := ⟨0x24108c + 0x10 * i, 0, 32⟩
abbrev R.FTL_CMD : Nat := 0x242080
abbrev R.FTL_CMD_OP : FRef := ⟨0x242080, 0, 4⟩
abbrev R.FTL_CMD_GO : FRef := ⟨0x242080, 4, 1⟩
abbrev R.FTL_CMD_CLASS : FRef := ⟨0x242080, 8, 7⟩
abbrev R.FTL_CMD_ARG_TARGET : FRef := ⟨0x242084, 0, 20⟩
abbrev R.FTL_CMD_STS_RESULT : FRef := ⟨0x242088, 0, 4⟩
abbrev R.FTL_CMD_STS_PROGRESS : FRef := ⟨0x242088, 4, 28⟩
abbrev R.FTL_SB_IDX_SBID : FRef := ⟨0x242090, 0, 20⟩
abbrev R.FTL_SB_REC (i : Nat) : Nat := 0x2420a0 + 4 * i
abbrev R.FTL_QCLASS_CLASS0 (i : Nat) : FRef := ⟨0x243080 + 4 * i, 0, 6⟩
abbrev R.RDP_CFG_MAX_RETRY : FRef := ⟨0x280080, 0, 3⟩
abbrev R.RDP_CFG_SOFT_EN : FRef := ⟨0x280080, 3, 1⟩
abbrev R.RDP_CFG_SOFT_LEVELS : FRef := ⟨0x280080, 4, 2⟩
abbrev R.RDP_CFG_PAR_EN : FRef := ⟨0x280080, 6, 1⟩
abbrev R.RDP_CFG_PEER_EN : FRef := ⟨0x280080, 7, 1⟩
abbrev R.RDP_TBL_BASE_LO : Nat := 0x280088
abbrev R.RDP_RD_BASE_LO : Nat := 0x280090
abbrev R.RDP_PAT_BASE_LO : Nat := 0x280098
abbrev R.RDP_REFINE_N : FRef := ⟨0x281080, 0, 12⟩
abbrev R.RDP_REFINE_EN : FRef := ⟨0x281080, 12, 1⟩
abbrev R.RDP_REFINE_PCT : FRef := ⟨0x281080, 13, 7⟩
abbrev R.RDP_REFINE_DRIFT : FRef := ⟨0x281080, 20, 8⟩
abbrev R.RDP_REFINE_STS_COUNT : FRef := ⟨0x281084, 16, 16⟩
abbrev R.RDP_AGE_STS_NEG : FRef := ⟨0x281088, 16, 16⟩
abbrev R.RDP_RD_CFG_CHECK : FRef := ⟨0x282080, 0, 16⟩
abbrev R.RDP_RD_CFG_LIMIT : FRef := ⟨0x282080, 16, 16⟩
abbrev R.RDP_RD_BER_RD_THR : FRef := ⟨0x282084, 0, 12⟩
abbrev R.RDP_RD_BER_PAT_THR : FRef := ⟨0x282084, 16, 12⟩
abbrev R.RDP_PAT_CFG_EN : FRef := ⟨0x282088, 0, 1⟩
abbrev R.RDP_PAT_CFG_RATE : FRef := ⟨0x282088, 8, 8⟩
abbrev R.RDP_PAT_INT_0 : Nat := 0x282090
abbrev R.RDP_PAT_STS_SBID : FRef := ⟨0x2820a0, 0, 20⟩
abbrev R.RDP_PAT_STS_ACTIVE : FRef := ⟨0x2820a0, 20, 1⟩
abbrev R.RDP_PAT_DONE_CNT : FRef := ⟨0x2820a4, 0, 32⟩
abbrev R.RDP_WEAK : Nat := 0x2820a8
abbrev R.RDP_WEAK_CNT : Nat := 0x2820ac
abbrev R.RDP_WEAK_CNT_OVF : FRef := ⟨0x2820ac, 16, 16⟩
abbrev R.RDP_STEP_CNT_LO (i : Nat) : Nat := 0x283080 + 8 * i
abbrev R.RDP_UNC_PSA_LO : Nat := 0x2830b0
abbrev R.RDP_UNC_PSA_HI : Nat := 0x2830b4
abbrev R.RDP_UNC_INFO : Nat := 0x2830b8
abbrev R.RDP_UNC_CNT_CNT : FRef := ⟨0x2830bc, 0, 32⟩
abbrev R.PLJ_CFG_FLUSH_US : FRef := ⟨0x2c0080, 0, 12⟩
abbrev R.PLJ_CFG_FLUSH_ENT : FRef := ⟨0x2c0080, 14, 14⟩
abbrev R.PLJ_CFG2_KEEP : FRef := ⟨0x2c0084, 0, 8⟩
abbrev R.PLJ_CFG2_WB_AGE : FRef := ⟨0x2c0084, 8, 8⟩
abbrev R.PLJ_JNL_STS_STALL : FRef := ⟨0x2c0090, 16, 1⟩
abbrev R.PLJ_SEQ_LO : Nat := 0x2c0098
abbrev R.PLJ_FLUSHED_LO : Nat := 0x2c00a0
abbrev R.PLJ_PF_CFG : Nat := 0x2c00c0
abbrev R.PLJ_PF_CFG_DEAD_T : FRef := ⟨0x2c00c0, 0, 14⟩
abbrev R.PLJ_PF_STS : Nat := 0x2c00c4
abbrev R.PLJ_PF_STS_PFAIL : FRef := ⟨0x2c00c4, 0, 1⟩
abbrev R.PLJ_PF_STS_SEEN : FRef := ⟨0x2c00c4, 1, 1⟩
abbrev R.PLJ_PF_STS_DEAD : FRef := ⟨0x2c00c4, 2, 1⟩
abbrev R.PLJ_PF_STS_STATE : FRef := ⟨0x2c00c4, 4, 2⟩
abbrev R.PLJ_PF_STS_SHORT : FRef := ⟨0x2c00c4, 6, 1⟩
abbrev R.PLJ_BRACE_REC : Nat := 0x2c00c8
abbrev R.PLJ_BRACE_REC_DUR : FRef := ⟨0x2c00c8, 0, 16⟩
abbrev R.PLJ_BRACE_REC_KIND : FRef := ⟨0x2c00c8, 16, 2⟩
abbrev R.PLJ_BRACE_REC_LATE : FRef := ⟨0x2c00c8, 18, 1⟩
abbrev R.PLJ_BRACE_REC_COUNT : FRef := ⟨0x2c00c8, 24, 8⟩
abbrev R.PLJ_PF_CTL : Nat := 0x2c00cc
abbrev R.PLJ_PF_CTL_READMIT : FRef := ⟨0x2c00cc, 0, 1⟩
abbrev R.PLJ_REC_CTL : Nat := 0x2c00d0
abbrev R.PLJ_REC_CTL_START : FRef := ⟨0x2c00d0, 0, 1⟩
abbrev R.PLJ_REC_STS_STEP : FRef := ⟨0x2c00d4, 0, 3⟩
abbrev R.PLJ_REC_STS_RESULT : FRef := ⟨0x2c00d4, 4, 4⟩
abbrev R.PLJ_REC_STS_LAST_BRACE : FRef := ⟨0x2c00d4, 8, 2⟩
abbrev R.PLJ_REC_STS_UNCLEAN : FRef := ⟨0x2c00d4, 10, 1⟩
abbrev R.PLJ_REC_STS_PERMILLE : FRef := ⟨0x2c00d4, 16, 10⟩
abbrev R.PLJ_REC_CNT_REPAIRED : FRef := ⟨0x2c00d8, 0, 16⟩
abbrev R.PLJ_REC_CNT_LOST : FRef := ⟨0x2c00d8, 16, 16⟩
abbrev R.PLJ_REC_TIME_MS : FRef := ⟨0x2c00dc, 0, 32⟩
abbrev R.CHV_STS_RUNNING (n : Nat) : FRef := ⟨0x300080 + 0x1000 * n, 0, 1⟩
abbrev R.CHV_STS_STOPPED (n : Nat) : FRef := ⟨0x300080 + 0x1000 * n, 1, 1⟩
abbrev R.CHV_STS_CAUSE (n : Nat) : FRef := ⟨0x300080 + 0x1000 * n, 8, 7⟩
abbrev R.CHV_AUTH_FAIL_CNT (n : Nat) : FRef := ⟨0x300084 + 0x1000 * n, 0, 32⟩
abbrev R.CHV_MSG_LO (n : Nat) : Nat := 0x300088 + 0x1000 * n
abbrev R.IST_CFG_PORT : FRef := ⟨0x310080, 0, 16⟩
abbrev R.IST_CLT_BASE_LO : Nat := 0x310088
abbrev R.IST_CLT_MAX_MAX : FRef := ⟨0x310090, 0, 21⟩
abbrev R.IST_KSLOT_BASE : FRef := ⟨0x310094, 0, 8⟩
abbrev R.IST_KSLOT_COUNT : FRef := ⟨0x310094, 8, 8⟩
abbrev R.IST_IDX_BASE_LO : Nat := 0x310098
abbrev R.IST_IDX_CFG_LOG2_NB : FRef := ⟨0x3100a0, 0, 5⟩
abbrev R.IST_IDX_CFG_PROBE : FRef := ⟨0x3100a0, 8, 4⟩
abbrev R.IST_IDX_CFG_WB_US : FRef := ⟨0x3100a0, 16, 16⟩
abbrev R.IST_EXT_BASE_LO : Nat := 0x3100a8
abbrev R.IST_IU_BASE_LO : Nat := 0x3100b0
abbrev R.IST_IU_CNT_EXTENTS : FRef := ⟨0x3100b8, 0, 21⟩
abbrev R.IST_CTX_CFG_CTX_RSV : FRef := ⟨0x3100bc, 0, 16⟩
abbrev R.IST_CTX_CFG_BUSY_HINT : FRef := ⟨0x3100bc, 16, 16⟩
abbrev R.IST_STAGE_CFG_LOW_WATER : FRef := ⟨0x3100c0, 0, 14⟩
abbrev R.IST_STAGE_CFG_READ_LEAD : FRef := ⟨0x3100c0, 16, 10⟩
abbrev R.IST_FLOW_CFG_FLOW_SLOTS : FRef := ⟨0x3100c4, 0, 7⟩
abbrev R.IST_FLOW_CFG_PUT_WIN : FRef := ⟨0x3100c4, 8, 8⟩
abbrev R.IST_RATE_CFG_FLOW_CAP : FRef := ⟨0x3100c8, 0, 16⟩
abbrev R.IST_RATE_CFG_INIT_RATE : FRef := ⟨0x3100c8, 16, 16⟩
abbrev R.IST_RATE_CFG2_MIN_RATE : FRef := ⟨0x3100cc, 0, 10⟩
abbrev R.IST_RATE_CFG2_AI_STEP : FRef := ⟨0x3100cc, 16, 16⟩
abbrev R.IST_WIN_CFG_INIT_WIN : FRef := ⟨0x3100d0, 0, 16⟩
abbrev R.IST_RTO_CFG_RETX_MAX : FRef := ⟨0x3100d4, 12, 4⟩
abbrev R.IST_RTO_CFG_RTT_INIT : FRef := ⟨0x3100d4, 24, 8⟩
abbrev R.IST_PUT_CFG_PUT_TMO : FRef := ⟨0x3100d8, 0, 16⟩
abbrev R.IST_IND_EVEN (i : Nat) : Nat := 0x310100 + 8 * i
abbrev R.IST_CMD : Nat := 0x311080
abbrev R.IST_CMD_OP : FRef := ⟨0x311080, 0, 4⟩
abbrev R.IST_CMD_GO : FRef := ⟨0x311080, 4, 1⟩
abbrev R.IST_CMD_CLASS : FRef := ⟨0x311080, 8, 6⟩
abbrev R.IST_CMD_STS_RESULT : FRef := ⟨0x311084, 0, 4⟩
abbrev R.IST_CMD_STS_PROGRESS : FRef := ⟨0x311084, 4, 28⟩
abbrev R.IST_ENT (i : Nat) : Nat := 0x311090 + 4 * i
abbrev R.IST_STS_READY : FRef := ⟨0x3110c0, 0, 1⟩
abbrev R.IST_STS_STAGE_LOW : FRef := ⟨0x3110c0, 1, 1⟩
abbrev R.IST_IDX_STS_ENTRIES : FRef := ⟨0x3110cc, 0, 31⟩
abbrev R.IST_PURGED (i : Nat) : Nat := 0x3110d0 + 4 * i
abbrev R.IST_REQ_LO : Nat := 0x311100
abbrev R.IST_BUSY_LO : Nat := 0x311108
abbrev R.IST_AUTH_FAIL_LO : Nat := 0x311110
abbrev R.IST_RETX_LO : Nat := 0x311118
abbrev R.IST_ABORTED_LO : Nat := 0x311120
abbrev R.IST_EVICTED_LO : Nat := 0x311128
abbrev R.IST_PAYLOAD_LO : Nat := 0x311130
abbrev R.NET_MODE_SPEED (n : Nat) : FRef := ⟨0x340080 + 0x10000 * n, 0, 2⟩
abbrev R.NET_MODE_TX_EN (n : Nat) : FRef := ⟨0x340080 + 0x10000 * n, 2, 1⟩
abbrev R.NET_MODE_RX_EN (n : Nat) : FRef := ⟨0x340080 + 0x10000 * n, 3, 1⟩
abbrev R.NET_MTU_MTU (n : Nat) : FRef := ⟨0x340084 + 0x10000 * n, 0, 14⟩
abbrev R.NET_MAC_LO_MAC (n : Nat) : FRef := ⟨0x340088 + 0x10000 * n, 0, 32⟩
abbrev R.NET_MAC_HI_MAC (n : Nat) : FRef := ⟨0x34008c + 0x10000 * n, 0, 16⟩
abbrev R.NET_LINK_STS_UP (n : Nat) : FRef := ⟨0x340090 + 0x10000 * n, 0, 1⟩
abbrev R.NET_LINK_STS_FEC_LOCK (n : Nat) : FRef := ⟨0x340090 + 0x10000 * n, 1, 1⟩
abbrev R.NET_LINK_STS_SIG (n : Nat) : FRef := ⟨0x340090 + 0x10000 * n, 2, 4⟩
abbrev R.NET_LINK_STS_SPEED (n : Nat) : FRef := ⟨0x340090 + 0x10000 * n, 6, 2⟩
abbrev R.NET_LINK_CNT_DOWN (n : Nat) : FRef := ⟨0x340094 + 0x10000 * n, 0, 16⟩
abbrev R.NET_FEC_UNC_LO (n : Nat) : Nat := 0x3400a8 + 0x10000 * n
abbrev R.NET_IP_CTL_V6_EN (n : Nat) : FRef := ⟨0x341080 + 0x10000 * n, 0, 1⟩
abbrev R.NET_IP_CTL_V4_EN (n : Nat) : FRef := ⟨0x341080 + 0x10000 * n, 1, 1⟩
abbrev R.NET_IP_CTL_DSCP (n : Nat) : FRef := ⟨0x341080 + 0x10000 * n, 2, 6⟩
abbrev R.NET_IP_CTL_HOP (n : Nat) : FRef := ⟨0x341080 + 0x10000 * n, 8, 8⟩
abbrev R.NET_IP_CTL_CSUM4_REQ (n : Nat) : FRef := ⟨0x341080 + 0x10000 * n, 16, 1⟩
abbrev R.NET_IP6 (n : Nat) (i : Nat) : Nat := 0x341084 + 0x10000 * n + 4 * i
abbrev R.NET_IP4 (n : Nat) : Nat := 0x341094 + 0x10000 * n
abbrev R.NET_GW6 (n : Nat) (i : Nat) : Nat := 0x341098 + 0x10000 * n + 4 * i
abbrev R.NET_GW4 (n : Nat) : Nat := 0x3410a8 + 0x10000 * n
abbrev R.NET_VLAN_VID (n : Nat) : FRef := ⟨0x3410ac + 0x10000 * n, 0, 12⟩
abbrev R.NET_VLAN_PCP (n : Nat) : FRef := ⟨0x3410ac + 0x10000 * n, 12, 3⟩
abbrev R.NET_VLAN_TAG_EN (n : Nat) : FRef := ⟨0x3410ac + 0x10000 * n, 15, 1⟩
abbrev R.NET_VLAN_UNTAG_OK (n : Nat) : FRef := ⟨0x3410ac + 0x10000 * n, 16, 1⟩
abbrev R.NET_GW_MAC6_LO_MAC (n : Nat) : FRef := ⟨0x3410b4 + 0x10000 * n, 0, 32⟩
abbrev R.NET_GW_MAC6_HI_MAC (n : Nat) : FRef := ⟨0x3410b8 + 0x10000 * n, 0, 16⟩
abbrev R.NET_GW_MAC6_HI_VALID (n : Nat) : FRef := ⟨0x3410b8 + 0x10000 * n, 16, 1⟩
abbrev R.NET_GW_MAC4_LO_MAC (n : Nat) : FRef := ⟨0x3410bc + 0x10000 * n, 0, 32⟩
abbrev R.NET_GW_MAC4_HI_MAC (n : Nat) : FRef := ⟨0x3410c0 + 0x10000 * n, 0, 16⟩
abbrev R.NET_GW_MAC4_HI_VALID (n : Nat) : FRef := ⟨0x3410c0 + 0x10000 * n, 16, 1⟩
abbrev R.NET_WAKE_EN (n : Nat) : FRef := ⟨0x3410c4 + 0x10000 * n, 0, 1⟩
abbrev R.NET_EGR_CAP_BYTES (n : Nat) : FRef := ⟨0x342080 + 0x10000 * n, 0, 32⟩
abbrev R.NET_PACE_CFG_CTRL_RSV (n : Nat) : FRef := ⟨0x342084 + 0x10000 * n, 0, 8⟩
abbrev R.NET_PACE_LATE_LATE_MAX (n : Nat) : FRef := ⟨0x34208c + 0x10000 * n, 0, 16⟩
abbrev R.NET_PACE_LATE_CAPPED (n : Nat) : FRef := ⟨0x34208c + 0x10000 * n, 16, 16⟩
abbrev R.NET_TX_FRAMES_LO (n : Nat) : Nat := 0x343080 + 0x10000 * n
abbrev R.NET_TX_BYTES_LO (n : Nat) : Nat := 0x343088 + 0x10000 * n
abbrev R.NET_RX_FRAMES_LO (n : Nat) : Nat := 0x343090 + 0x10000 * n
abbrev R.NET_RX_BYTES_LO (n : Nat) : Nat := 0x343098 + 0x10000 * n
abbrev R.NET_DROP_CNT (n : Nat) (i : Nat) : FRef := ⟨0x343100 + 0x10000 * n + 4 * i, 0, 32⟩
abbrev R.TGN_CFG_MEMBER : FRef := ⟨0x380080, 0, 18⟩
abbrev R.TGN_CLUSTER_SIZE : FRef := ⟨0x380084, 0, 19⟩
abbrev R.TGN_PKEY_SLOT : FRef := ⟨0x380088, 0, 8⟩
abbrev R.TGN_PKEY_VALID : FRef := ⟨0x380088, 8, 1⟩
abbrev R.TGN_PEER_BASE_LO : Nat := 0x380090
abbrev R.TGN_LAYOUT_BASE_LO : Nat := 0x380098
abbrev R.TGN_XSET_BASE_LO : Nat := 0x3800a8
abbrev R.TGN_SHBUF_SIZE_SIZE : FRef := ⟨0x3800b0, 0, 8⟩
abbrev R.TGN_STS_LOADED : FRef := ⟨0x3800c0, 0, 1⟩
abbrev R.TGN_STS_JOINED : FRef := ⟨0x3800c0, 1, 1⟩
abbrev R.TGN_STS_ROOT : FRef := ⟨0x3800c0, 2, 1⟩
abbrev R.TGN_STS_READY : FRef := ⟨0x3800c0, 3, 1⟩
abbrev R.TGN_STS_RESYNC : FRef := ⟨0x3800c0, 4, 1⟩
abbrev R.TGN_STS_REBUILD : FRef := ⟨0x3800c0, 5, 1⟩
abbrev R.TGN_EPOCH_LO : Nat := 0x3800c8
abbrev R.TGN_ROOT_ID_ROOT : FRef := ⟨0x3800d0, 0, 18⟩
abbrev R.TGN_SET_UID_UID (i : Nat) : FRef := ⟨0x381080 + 0x20 * i, 0, 32⟩
abbrev R.TGN_SET_CFG (i : Nat) : Nat := 0x381084 + 0x20 * i
abbrev R.TGN_SET_CFG_K (i : Nat) : FRef := ⟨0x381084 + 0x20 * i, 0, 4⟩
abbrev R.TGN_SET_CFG_G (i : Nat) : FRef := ⟨0x381084 + 0x20 * i, 4, 6⟩
abbrev R.TGN_SET_CFG_SLOT (i : Nat) : FRef := ⟨0x381084 + 0x20 * i, 10, 6⟩
abbrev R.TGN_SET_CFG_INGEST (i : Nat) : FRef := ⟨0x381084 + 0x20 * i, 16, 1⟩
abbrev R.TGN_SET_CFG_EN (i : Nat) : FRef := ⟨0x381084 + 0x20 * i, 17, 1⟩
abbrev R.TGN_SET_GEN_GEN (i : Nat) : FRef := ⟨0x381088 + 0x20 * i, 0, 24⟩
abbrev R.TGN_SET_CRC (i : Nat) : Nat := 0x38108c + 0x20 * i
abbrev R.TGN_SET_STS_STATE (i : Nat) : FRef := ⟨0x381090 + 0x20 * i, 0, 2⟩
abbrev R.TGN_SET_STS_DOWN (i : Nat) : FRef := ⟨0x381090 + 0x20 * i, 2, 6⟩
abbrev R.TGN_SET_STS_REMOVED (i : Nat) : FRef := ⟨0x381090 + 0x20 * i, 8, 6⟩
abbrev R.TGN_SET_STS_RESYNC (i : Nat) : FRef := ⟨0x381090 + 0x20 * i, 14, 1⟩
abbrev R.TGN_SET_STS_REBUILD (i : Nat) : FRef := ⟨0x381090 + 0x20 * i, 15, 1⟩
abbrev R.TGN_SET_HEDGE_FACTOR (i : Nat) : FRef := ⟨0x381094 + 0x20 * i, 0, 8⟩
abbrev R.TGN_SET_REB_CHUNKS (i : Nat) : FRef := ⟨0x381098 + 0x20 * i, 0, 32⟩
abbrev R.TGN_SET_OPEN_OPEN (i : Nat) : FRef := ⟨0x38109c + 0x20 * i, 0, 24⟩
abbrev R.TGN_HEDGE_CFG_MIN : FRef := ⟨0x382080, 0, 16⟩
abbrev R.TGN_HEDGE_CFG_MAX : FRef := ⟨0x382080, 16, 16⟩
abbrev R.TGN_HIST_CFG_HALF : FRef := ⟨0x382084, 0, 16⟩
abbrev R.TGN_RECON_CFG_TMO : FRef := ⟨0x382088, 0, 16⟩
abbrev R.TGN_SHARE_CFG_HOLD : FRef := ⟨0x38208c, 0, 10⟩
abbrev R.TGN_SHARE_CFG_RESEND : FRef := ⟨0x38208c, 16, 10⟩
abbrev R.TGN_INT_CFG_FLUSH_US : FRef := ⟨0x382090, 0, 12⟩
abbrev R.TGN_INT_CFG_REGION_IDLE : FRef := ⟨0x382090, 16, 12⟩
abbrev R.TGN_REB_CFG_RATE : FRef := ⟨0x382094, 0, 15⟩
abbrev R.TGN_REB_CFG_EN : FRef := ⟨0x382094, 15, 1⟩
abbrev R.TGN_REB_CFG_DELAY : FRef := ⟨0x382094, 16, 16⟩
abbrev R.TGN_LOSS_LO : Nat := 0x3820a0
abbrev R.TGN_LOSS_HI : Nat := 0x3820a4
abbrev R.TGN_LOSS_CNT : Nat := 0x3820a8
abbrev R.TGN_LOSS_CNT_OVF : FRef := ⟨0x3820a8, 16, 16⟩
abbrev R.TGN_SHARE_TX_LO : Nat := 0x382100
abbrev R.TGN_SHARE_RX_LO : Nat := 0x382108
abbrev R.TGN_RECON_LO : Nat := 0x382110
abbrev R.TGN_HEDGE_LO : Nat := 0x382118
abbrev R.TGN_RECON_FAIL_LO : Nat := 0x382120
abbrev R.TGN_REBUILT_LO : Nat := 0x382128
abbrev R.TGN_EPOCH_CFG_BEAT : FRef := ⟨0x383080, 0, 12⟩
abbrev R.TGN_EPOCH_CFG_MISS : FRef := ⟨0x383080, 12, 4⟩
abbrev R.TGN_EPOCH_CFG_GAP : FRef := ⟨0x383080, 16, 16⟩
abbrev R.TGN_JOIN_CFG_SEED_TMO : FRef := ⟨0x383084, 0, 16⟩
abbrev R.TGN_JOIN_CFG_AUTO : FRef := ⟨0x383084, 16, 1⟩
abbrev R.TGN_JOIN_CTL : Nat := 0x383088
abbrev R.TGN_JOIN_CTL_JOIN : FRef := ⟨0x383088, 0, 1⟩
abbrev R.TGN_JOIN_CTL_LEAVE : FRef := ⟨0x383088, 1, 1⟩
abbrev R.TGN_JOIN_STS : Nat := 0x38308c
abbrev R.TGN_JOIN_STS_STATE : FRef := ⟨0x38308c, 0, 3⟩
abbrev R.TGN_JOIN_STS_TRIES : FRef := ⟨0x38308c, 8, 8⟩
abbrev R.TGN_CMD : Nat := 0x383090
abbrev R.TGN_CMD_OP : FRef := ⟨0x383090, 0, 4⟩
abbrev R.TGN_CMD_GO : FRef := ⟨0x383090, 4, 1⟩
abbrev R.TGN_CMD_SET : FRef := ⟨0x383090, 8, 4⟩
abbrev R.TGN_CMD_STS_RESULT : FRef := ⟨0x383094, 0, 4⟩
abbrev R.TGN_CMD_STS_PROGRESS : FRef := ⟨0x383094, 4, 28⟩
abbrev R.TGN_EPOCH_CNT_APPLIED : FRef := ⟨0x383098, 0, 16⟩
abbrev R.TGN_EPOCH_CNT_GAPS : FRef := ⟨0x383098, 16, 16⟩
abbrev R.EVC_EVC_CTL : Nat := 0x3c0080
abbrev R.EVC_EVC_CTL_SNAP : FRef := ⟨0x3c0080, 0, 1⟩
abbrev R.EVC_GCNT_SEL_SRC (i : Nat) : FRef := ⟨0x3c0100 + 0x20 * i, 0, 10⟩
abbrev R.EVC_GCNT_SEL_MODE (i : Nat) : FRef := ⟨0x3c0100 + 0x20 * i, 10, 1⟩
abbrev R.EVC_GCNT_SEL_EN (i : Nat) : FRef := ⟨0x3c0100 + 0x20 * i, 11, 1⟩
abbrev R.EVC_GCNT_LO (i : Nat) : Nat := 0x3c0108 + 0x20 * i
abbrev R.EVC_GTHR_LO (i : Nat) : Nat := 0x3c0110 + 0x20 * i
abbrev R.EVC_GSNAP_LO (i : Nat) : Nat := 0x3c0118 + 0x20 * i
abbrev R.EVC_SW_RAISE : Nat := 0x3c0300
abbrev R.EVC_ROUTE (i : Nat) : Nat := 0x3c1080 + 4 * i
abbrev R.EVC_ROUTE_VEC (i : Nat) : FRef := ⟨0x3c1080 + 4 * i, 0, 8⟩
abbrev R.EVC_ROUTE_VEC_EN (i : Nat) : FRef := ⟨0x3c1080 + 4 * i, 8, 1⟩
abbrev R.EVC_ROUTE_PULSE (i : Nat) : FRef := ⟨0x3c1080 + 4 * i, 16, 4⟩
abbrev R.EVC_ROUTE_PULSE_EN (i : Nat) : FRef := ⟨0x3c1080 + 4 * i, 20, 1⟩
abbrev R.EVC_ROUTE_ACLR (i : Nat) : FRef := ⟨0x3c1080 + 4 * i, 21, 1⟩
abbrev R.EVC_PEND (i : Nat) : Nat := 0x3c2080 + 4 * i
abbrev R.EVC_LEVEL (i : Nat) : Nat := 0x3c2100 + 4 * i

end Sys2Proof.Machine
end

