-- ==== Sys2Proof/Machine/RegTable.lean ====
section
/-! DEFINITION. Every register the captions of the spec's register tables give, block by block and page by page:
name, offset in the page, number of copies and their stride, reset value, and the fields with their access types
(R6).  A bit that no field covers is reserved. -/

namespace Sys2Proof.Machine

def regsSys0 : List RegDesc :=
  [ ⟨"DEV_ID", 0x80, 1, 4, 0x5a499640, [⟨"DEV_ID", 31, 0, .ro⟩]⟩,
    ⟨"DEV_REV", 0x84, 1, 4, 2, [⟨"DEV_REV", 31, 0, .ro⟩]⟩,
    ⟨"DEAD_ACC", 0x88, 1, 4, 0,
      [⟨"OFFSET", 25, 0, .rc⟩, ⟨"WR", 26, 26, .rc⟩, ⟨"HOST", 27, 27, .rc⟩, ⟨"KIND", 29, 28, .rc⟩]⟩,
    ⟨"DEAD_CNT", 0x8c, 1, 4, 0, [⟨"CNT", 31, 0, .rc⟩]⟩,
    ⟨"WHOAMI", 0x90, 1, 4, 0, [⟨"CORE", 1, 0, .ro⟩, ⟨"HOST", 8, 8, .ro⟩]⟩ ]

def regsAon0_0 : List RegDesc :=
  [ ⟨"TIME_LO", 0x80, 1, 4, 0, [⟨"NS", 31, 0, .ro⟩]⟩,
    ⟨"TIME_HI", 0x84, 1, 4, 0, [⟨"NS", 31, 0, .ro⟩]⟩,
    ⟨"TIME_SET_LO", 0x88, 1, 4, 0, [⟨"NS", 31, 0, .rw⟩]⟩,
    ⟨"TIME_SET_HI", 0x8c, 1, 4, 0, [⟨"NS", 31, 0, .rw⟩]⟩,
    ⟨"TIME_CTL", 0x90, 1, 4, 0, [⟨"SET", 0, 0, .w1s⟩]⟩,
    ⟨"TIME_STS", 0x94, 1, 4, 1, [⟨"UNKNOWN", 0, 0, .ro⟩, ⟨"SRC", 2, 1, .ro⟩]⟩,
    ⟨"TIME_UNC", 0x98, 1, 4, 0xffffffff, [⟨"US", 31, 0, .ro⟩]⟩,
    ⟨"UNC_THR", 0x9c, 1, 4, 0xf4240, [⟨"US", 31, 0, .rw⟩]⟩,
    ⟨"HS_LO", 0xa0, 1, 4, 0, [⟨"COUNT", 31, 0, .ro⟩]⟩,
    ⟨"HS_HI", 0xa4, 1, 4, 0, [⟨"COUNT", 15, 0, .ro⟩]⟩,
    ⟨"HS_CMP_LO", 0xa8, 1, 4, 0, [⟨"CMP", 31, 0, .rw⟩]⟩,
    ⟨"HS_CMP_HI", 0xac, 1, 4, 0, [⟨"CMP", 15, 0, .rw⟩]⟩,
    ⟨"HS_CTL", 0xb0, 1, 4, 0, [⟨"ARM", 0, 0, .rwh⟩, ⟨"MATCH", 1, 1, .w1c⟩]⟩,
    ⟨"GPIO_CFG", 0xb4, 1, 4, 0,
      [⟨"MODE0", 1, 0, .rw⟩, ⟨"EDGE0", 3, 2, .rw⟩, ⟨"MODE1", 9, 8, .rw⟩, ⟨"EDGE1", 11, 10, .rw⟩]⟩ ]

def regsAon0_1 : List RegDesc :=
  [ ⟨"GPIO_STS", 0xb8, 1, 4, 0, [⟨"IN", 1, 0, .ro⟩, ⟨"EDGE", 9, 8, .w1c⟩]⟩,
    ⟨"STBY_REC", 0xc0, 1, 4, 1,
      [⟨"CAUSE", 3, 0, .ro⟩, ⟨"STATE", 6, 4, .ro⟩, ⟨"HALTED", 7, 7, .ro⟩, ⟨"BO_CNT", 15, 8, .ro⟩]⟩,
    ⟨"STBY_CLR", 0xc4, 1, 4, 0, [⟨"CLR", 0, 0, .wo⟩]⟩,
    ⟨"REG_STS", 0xc8, 1, 4, 0, [⟨"LP", 0, 0, .ro⟩, ⟨"PEAK", 15, 8, .ro⟩]⟩ ]

def regsAon0 : List RegDesc :=
  regsAon0_0 ++ regsAon0_1

def regsPwr0_0 : List RegDesc :=
  [ ⟨"CMD", 0x80, 1, 4, 0, [⟨"TARGET", 1, 0, .rw⟩, ⟨"GO", 2, 2, .w1s⟩, ⟨"BY_NVM", 3, 3, .ro⟩]⟩,
    ⟨"ENTRY_CFG", 0x84, 1, 4, 0xc832, [⟨"DRAIN", 7, 0, .rw⟩, ⟨"PARK_US", 23, 8, .rw⟩]⟩,
    ⟨"DEEP_CFG", 0x88, 1, 4, 0x5f01, [⟨"GUARD_EN", 0, 0, .rw⟩, ⟨"GUARD_MA", 15, 8, .rw⟩]⟩,
    ⟨"WAKE_EN", 0x8c, 1, 4, 0x9ff, [⟨"EN", 11, 0, .rw⟩]⟩,
    ⟨"STATE", 0x90, 1, 4, 0,
      [⟨"CUR", 2, 0, .ro⟩, ⟨"ENTERING", 3, 3, .ro⟩, ⟨"EXITING", 4, 4, .ro⟩, ⟨"PENDING", 5, 5, .ro⟩, ⟨"PEND_TGT", 7, 6, .ro⟩, ⟨"REFUSE", 11, 8, .ro⟩, ⟨"DENY", 13, 12, .ro⟩]⟩,
    ⟨"PARK", 0x94, 1, 4, 0, [⟨"CORE", 3, 0, .rwh⟩]⟩,
    ⟨"WAKE_REC", 0x98, 1, 4, 0,
      [⟨"SRC", 3, 0, .ro⟩, ⟨"ENTRY", 4, 4, .ro⟩, ⟨"DEEP", 5, 5, .ro⟩, ⟨"EXTRA", 15, 8, .ro⟩]⟩,
    ⟨"WAKE_ALL", 0x9c, 1, 4, 0, [⟨"SEEN", 11, 0, .rc⟩]⟩,
    ⟨"SLEEP_TICKS", 0xa0, 1, 4, 0, [⟨"TICKS", 31, 0, .ro⟩]⟩,
    ⟨"DOM_ON_0", 0xb0, 1, 4, 0xffffffff, [⟨"ON", 31, 0, .rw⟩]⟩,
    ⟨"DOM_ON_1", 0xb4, 1, 4, 3, [⟨"ON", 1, 0, .rw⟩]⟩,
    ⟨"DOM_STS_0", 0xb8, 1, 4, 0xffffffff, [⟨"STS", 31, 0, .ro⟩]⟩,
    ⟨"DOM_STS_1", 0xbc, 1, 4, 3, [⟨"STS", 1, 0, .ro⟩]⟩,
    ⟨"NAP_CNT_LO", 0x100, 1, 8, 0, [⟨"CNT", 31, 0, .rwc⟩]⟩ ]

def regsPwr0_1 : List RegDesc :=
  [ ⟨"NAP_CNT_HI", 0x104, 1, 8, 0, [⟨"CNT", 15, 0, .rwc⟩]⟩,
    ⟨"DEEP_CNT_LO", 0x108, 1, 8, 0, [⟨"CNT", 31, 0, .rwc⟩]⟩,
    ⟨"DEEP_CNT_HI", 0x10c, 1, 8, 0, [⟨"CNT", 15, 0, .rwc⟩]⟩ ]

def regsPwr0 : List RegDesc :=
  regsPwr0_0 ++ regsPwr0_1

def regsClk0 : List RegDesc :=
  [ ⟨"PLL_STS", 0x80, 1, 4, 0,
      [⟨"ON0", 0, 0, .ro⟩, ⟨"LOCK0", 1, 1, .ro⟩, ⟨"ON1", 2, 2, .ro⟩, ⟨"LOCK1", 3, 3, .ro⟩, ⟨"ON2", 4, 4, .ro⟩, ⟨"LOCK2", 5, 5, .ro⟩, ⟨"ON3", 6, 6, .ro⟩, ⟨"LOCK3", 7, 7, .ro⟩, ⟨"ON4", 8, 8, .ro⟩, ⟨"LOCK4", 9, 9, .ro⟩, ⟨"ON5", 10, 10, .ro⟩, ⟨"LOCK5", 11, 11, .ro⟩, ⟨"ON6", 12, 12, .ro⟩, ⟨"LOCK6", 13, 13, .ro⟩, ⟨"ON7", 14, 14, .ro⟩, ⟨"LOCK7", 15, 15, .ro⟩]⟩,
    ⟨"RUN_STS", 0x84, 1, 4, 3, [⟨"RUN", 17, 0, .ro⟩]⟩,
    ⟨"UNLOCK", 0x88, 1, 4, 0, [⟨"SEEN", 7, 0, .w1c⟩, ⟨"CNT", 31, 16, .rc⟩]⟩,
    ⟨"REF_STS", 0x8c, 1, 4, 0, [⟨"REF_OK", 0, 0, .ro⟩, ⟨"XTAL_OK", 1, 1, .ro⟩, ⟨"PE_REF_OK", 2, 2, .ro⟩]⟩ ]

def regsRail0 : List RegDesc :=
  [ ⟨"CFG", 0x80, 1, 4, 0x140a14,
      [⟨"RAMP", 6, 0, .rw⟩, ⟨"T_HALF", 14, 8, .rw⟩, ⟨"SAT", 23, 16, .rw⟩, ⟨"RETRY_EN", 24, 24, .rw⟩]⟩,
    ⟨"CFG2", 0x84, 1, 4, 0x140ce414, [⟨"STAGGER", 7, 0, .rw⟩, ⟨"TARGET", 23, 8, .rw⟩, ⟨"SNS", 31, 24, .rw⟩]⟩,
    ⟨"LIM", 0x88, 1, 4, 0x7828, [⟨"INRUSH", 7, 0, .rw⟩, ⟨"OC", 15, 8, .rw⟩]⟩,
    ⟨"EN", 0x8c, 1, 4, 0xff, [⟨"EN", 7, 0, .rw⟩]⟩,
    ⟨"CTL", 0x90, 1, 4, 0, [⟨"SEQ", 0, 0, .w1s⟩, ⟨"OFF", 15, 8, .w1s⟩]⟩,
    ⟨"STS", 0x94, 1, 4, 0,
      [⟨"STATE0", 2, 0, .ro⟩, ⟨"STATE1", 5, 3, .ro⟩, ⟨"STATE2", 8, 6, .ro⟩, ⟨"STATE3", 11, 9, .ro⟩, ⟨"STATE4", 14, 12, .ro⟩, ⟨"STATE5", 17, 15, .ro⟩, ⟨"STATE6", 20, 18, .ro⟩, ⟨"STATE7", 23, 21, .ro⟩, ⟨"SEQ_BUSY", 24, 24, .ro⟩, ⟨"LIMIT", 25, 25, .ro⟩]⟩,
    ⟨"FLT", 0x98, 1, 4, 0, [⟨"LOCKED", 7, 0, .ro⟩, ⟨"RETRY_USED", 15, 8, .ro⟩]⟩,
    ⟨"CAUSE", 0x9c, 1, 4, 0,
      [⟨"CAUSE0", 2, 0, .ro⟩, ⟨"CAUSE1", 5, 3, .ro⟩, ⟨"CAUSE2", 8, 6, .ro⟩, ⟨"CAUSE3", 11, 9, .ro⟩, ⟨"CAUSE4", 14, 12, .ro⟩, ⟨"CAUSE5", 17, 15, .ro⟩, ⟨"CAUSE6", 20, 18, .ro⟩, ⟨"CAUSE7", 23, 21, .ro⟩]⟩,
    ⟨"MEAS", 0xa0, 8, 4, 0, [⟨"I", 15, 0, .ro⟩, ⟨"V", 31, 16, .ro⟩]⟩,
    ⟨"LAST", 0xc0, 1, 4, 0,
      [⟨"GROUP", 2, 0, .rc⟩, ⟨"CAUSE", 5, 3, .rc⟩, ⟨"RETRY", 6, 6, .rc⟩, ⟨"PEAK", 23, 8, .rc⟩]⟩,
    ⟨"LOCK_CNT", 0xc4, 1, 4, 0, [⟨"CNT", 31, 0, .rc⟩]⟩ ]

def regsFlt0_0 : List RegDesc :=
  [ ⟨"CFG", 0x80, 1, 4, 0x1000414, [⟨"ESC_T", 9, 0, .rw⟩, ⟨"C_LOG", 10, 10, .rw⟩, ⟨"C_THR", 31, 16, .rw⟩]⟩,
    ⟨"STS", 0x84, 1, 4, 0, [⟨"LIMP", 0, 0, .ro⟩, ⟨"LIMP_CAUSE", 3, 1, .ro⟩, ⟨"U_PEND", 9, 4, .ro⟩]⟩,
    ⟨"CTL", 0x88, 1, 4, 0, [⟨"LIMP", 0, 0, .w1s⟩]⟩,
    ⟨"ACK", 0x8c, 1, 4, 0, [⟨"SEQ", 31, 0, .rw⟩]⟩,
    ⟨"OLDEST_U", 0x90, 1, 4, 0, [⟨"SEQ", 31, 0, .ro⟩]⟩,
    ⟨"LEFT", 0x94, 1, 4, 0, [⟨"US", 19, 0, .ro⟩]⟩,
    ⟨"SEQ_NEXT", 0x98, 1, 4, 1, [⟨"SEQ", 31, 0, .ro⟩]⟩,
    ⟨"RING_STS", 0x9c, 1, 4, 0, [⟨"WR", 7, 0, .ro⟩, ⟨"FULL", 8, 8, .ro⟩, ⟨"OVF", 31, 16, .rc⟩]⟩,
    ⟨"RING_RD", 0xa0, 1, 4, 0, [⟨"POS", 7, 0, .rwh⟩]⟩,
    ⟨"RD_IDX", 0xa4, 1, 4, 0, [⟨"POS", 7, 0, .rw⟩]⟩,
    ⟨"REC", 0xc0, 8, 4, 0, [⟨"WORD", 31, 0, .ro⟩]⟩,
    ⟨"FIRST_F", 0x100, 7, 4, 0, [⟨"WORD", 31, 0, .ro⟩]⟩,
    ⟨"FIRST_F_7", 0x11c, 1, 4, 0, [⟨"VALID", 31, 31, .w1c⟩]⟩,
    ⟨"FIRST_U", 0x120, 7, 4, 0, [⟨"WORD", 31, 0, .ro⟩]⟩ ]

def regsFlt0_1 : List RegDesc :=
  [ ⟨"FIRST_U_7", 0x13c, 1, 4, 0, [⟨"VALID", 31, 31, .w1c⟩]⟩,
    ⟨"FIRST_C", 0x140, 7, 4, 0, [⟨"WORD", 31, 0, .ro⟩]⟩,
    ⟨"FIRST_C_7", 0x15c, 1, 4, 0, [⟨"VALID", 31, 31, .w1c⟩]⟩,
    ⟨"C_CNT_LO", 0x180, 1, 8, 0, [⟨"CNT", 31, 0, .rwc⟩]⟩,
    ⟨"C_CNT_HI", 0x184, 1, 8, 0, [⟨"CNT", 15, 0, .rwc⟩]⟩,
    ⟨"U_CNT_LO", 0x188, 1, 8, 0, [⟨"CNT", 31, 0, .rwc⟩]⟩,
    ⟨"U_CNT_HI", 0x18c, 1, 8, 0, [⟨"CNT", 15, 0, .rwc⟩]⟩,
    ⟨"DROP_CNT_LO", 0x190, 1, 8, 0, [⟨"CNT", 31, 0, .rwc⟩]⟩,
    ⟨"DROP_CNT_HI", 0x194, 1, 8, 0, [⟨"CNT", 15, 0, .rwc⟩]⟩ ]

def regsFlt0 : List RegDesc :=
  regsFlt0_0 ++ regsFlt0_1

def regsFlt1 : List RegDesc :=
  [ ⟨"FW_LOC_LO", 0x80, 1, 4, 0, [⟨"LOC", 31, 0, .rw⟩]⟩,
    ⟨"FW_LOC_HI", 0x84, 1, 4, 0, [⟨"LOC", 11, 0, .rw⟩]⟩,
    ⟨"FW_RAISE", 0x88, 1, 4, 0, [⟨"CLASS", 1, 0, .rw⟩, ⟨"GO", 2, 2, .w1s⟩]⟩,
    ⟨"HALT_REC", 0x90, 4, 4, 0, [⟨"MSG", 31, 0, .ro⟩]⟩ ]

def regsEsc0_0 : List RegDesc :=
  [ ⟨"CTL", 0x80, 1, 4, 0x4008,
      [⟨"RUN", 0, 0, .rw⟩, ⟨"MODE", 2, 1, .rw⟩, ⟨"BMC_EN", 3, 3, .rw⟩, ⟨"WARM", 15, 8, .rw⟩]⟩,
    ⟨"STS", 0x84, 1, 4, 0,
      [⟨"RUNNING", 0, 0, .ro⟩, ⟨"WARMING", 1, 1, .ro⟩, ⟨"WINNER", 4, 2, .ro⟩, ⟨"REGION", 6, 5, .ro⟩, ⟨"PINNED", 7, 7, .ro⟩, ⟨"CAP_UNMET", 8, 8, .ro⟩, ⟨"SENS_LOST", 9, 9, .ro⟩, ⟨"CRIT", 10, 10, .ro⟩]⟩,
    ⟨"U_INIT", 0x88, 1, 4, 0x4000, [⟨"U", 31, 0, .rw⟩]⟩,
    ⟨"U_MAN", 0x8c, 1, 4, 0, [⟨"U", 31, 0, .rw⟩]⟩,
    ⟨"U_OUT", 0x90, 1, 4, 0, [⟨"U", 31, 0, .ro⟩]⟩,
    ⟨"T_J_LIM", 0x94, 1, 4, 0x5a0000, [⟨"VALUE", 31, 0, .rw⟩]⟩,
    ⟨"T_J_CRIT", 0x98, 1, 4, 0x640000, [⟨"VALUE", 31, 0, .rw⟩]⟩,
    ⟨"T_DIE_LIM", 0x9c, 1, 4, 0x500000, [⟨"VALUE", 31, 0, .rw⟩]⟩,
    ⟨"I_FLASH_LIM", 0xa0, 1, 4, 0x300000, [⟨"VALUE", 31, 0, .rw⟩]⟩,
    ⟨"FLASH_V", 0xa4, 1, 4, 0x34ccd, [⟨"VALUE", 31, 0, .rw⟩]⟩,
    ⟨"BOARD_OFS", 0xa8, 1, 4, 0xa0000, [⟨"VALUE", 31, 0, .rw⟩]⟩,
    ⟨"T_AMB", 0xac, 1, 4, 0x230000, [⟨"T", 31, 0, .rwh⟩]⟩,
    ⟨"HOST_CAP", 0xb0, 1, 4, 0, [⟨"CAP", 15, 0, .rw⟩]⟩,
    ⟨"BMC_CAP", 0xb4, 1, 4, 0, [⟨"CAP", 15, 0, .rwh⟩]⟩ ]

def regsEsc0_1 : List RegDesc :=
  [ ⟨"PS_CAP", 0xb8, 1, 4, 0x1450, [⟨"CAP", 15, 0, .ro⟩]⟩,
    ⟨"BUD_CFG", 0xbc, 1, 4, 0xc00010, [⟨"MIN_CRED", 15, 0, .rw⟩, ⟨"FULL_CRED", 31, 16, .rw⟩]⟩,
    ⟨"EGR_MIN", 0xc0, 1, 4, 0x3d090, [⟨"BYTES", 22, 0, .rw⟩]⟩,
    ⟨"EGR_FULL", 0xc4, 1, 4, 0x4c4b40, [⟨"BYTES", 22, 0, .rw⟩]⟩,
    ⟨"LOOP_EN", 0xc8, 1, 4, 0xf, [⟨"L1", 0, 0, .ro⟩, ⟨"L2_L4", 3, 1, .rw⟩]⟩,
    ⟨"MEAS_CFG", 0xcc, 1, 4, 1, [⟨"Y1_EN", 0, 0, .rw⟩]⟩,
    ⟨"BUDGET", 0xd0, 8, 4, 0x40, [⟨"CRED", 15, 0, .ro⟩]⟩,
    ⟨"EGR_OUT", 0xf0, 2, 4, 0x4c4b40, [⟨"BYTES", 22, 0, .ro⟩]⟩,
    ⟨"TJ", 0x100, 1, 4, 0, [⟨"VALUE", 31, 0, .ro⟩]⟩,
    ⟨"TDIE", 0x104, 1, 4, 0, [⟨"VALUE", 31, 0, .ro⟩]⟩,
    ⟨"P_PKG", 0x108, 1, 4, 0, [⟨"VALUE", 31, 0, .ro⟩]⟩,
    ⟨"I_FLASH", 0x10c, 1, 4, 0, [⟨"VALUE", 31, 0, .ro⟩]⟩,
    ⟨"P_BOARD", 0x110, 1, 4, 0, [⟨"VALUE", 31, 0, .ro⟩]⟩,
    ⟨"EST_TJ", 0x114, 1, 4, 0, [⟨"VALUE", 31, 0, .ro⟩]⟩ ]

def regsEsc0_2 : List RegDesc :=
  [ ⟨"EST_DIE", 0x118, 1, 4, 0, [⟨"VALUE", 31, 0, .ro⟩]⟩,
    ⟨"E", 0x120, 4, 8, 0, [⟨"VALUE", 31, 0, .ro⟩]⟩,
    ⟨"I", 0x124, 4, 8, 0, [⟨"VALUE", 31, 0, .ro⟩]⟩,
    ⟨"CNT", 0x140, 1, 4, 0, [⟨"WIN", 15, 0, .rc⟩, ⟨"SAT", 31, 16, .rc⟩]⟩ ]

def regsEsc0 : List RegDesc :=
  regsEsc0_0 ++ regsEsc0_1 ++ regsEsc0_2

def regsEsc1 : List RegDesc :=
  [ ⟨"KP_1", 0x80, 4, 0x20, 0xccd, [⟨"GAIN", 31, 0, .rw⟩]⟩,
    ⟨"KI_1", 0x84, 4, 0x20, 0x20000, [⟨"GAIN", 31, 0, .rw⟩]⟩,
    ⟨"KP_2", 0x88, 4, 0x20, 0x3333, [⟨"GAIN", 31, 0, .rw⟩]⟩,
    ⟨"KI_2", 0x8c, 4, 0x20, 0x20000, [⟨"GAIN", 31, 0, .rw⟩]⟩,
    ⟨"KP_3", 0x90, 4, 0x20, 0x8000, [⟨"GAIN", 31, 0, .rw⟩]⟩,
    ⟨"KI_3", 0x94, 4, 0x20, 0xa0000, [⟨"GAIN", 31, 0, .rw⟩]⟩,
    ⟨"KP_4", 0x98, 4, 0x20, 0x51f, [⟨"GAIN", 31, 0, .rw⟩]⟩,
    ⟨"KI_4", 0x9c, 4, 0x20, 0x10000, [⟨"GAIN", 31, 0, .rw⟩]⟩,
    ⟨"BAND_T", 0x100, 1, 4, 0x500000, [⟨"VALUE", 31, 0, .rw⟩]⟩,
    ⟨"BAND_HYST", 0x104, 1, 4, 0x20000, [⟨"VALUE", 31, 0, .rw⟩]⟩ ]

def regsEsc2 : List RegDesc :=
  [ ⟨"A", 0x80, 64, 4, 0, [⟨"VALUE", 31, 0, .rw⟩]⟩,
    ⟨"B", 0x180, 32, 4, 0, [⟨"VALUE", 31, 0, .rw⟩]⟩,
    ⟨"C", 0x200, 16, 4, 0, [⟨"VALUE", 31, 0, .rw⟩]⟩,
    ⟨"L", 0x240, 16, 4, 0, [⟨"VALUE", 31, 0, .rw⟩]⟩,
    ⟨"X", 0x280, 8, 4, 0, [⟨"VALUE", 31, 0, .rwh⟩]⟩ ]

def regsEsc3 : List RegDesc :=
  [ ⟨"TRC_CTL", 0x80, 1, 4, 0,
      [⟨"ARM", 0, 0, .w1s⟩, ⟨"TRIG_NOW", 1, 1, .w1s⟩, ⟨"MODE", 2, 2, .rw⟩, ⟨"TRIG", 7, 4, .rw⟩, ⟨"PULSE", 11, 8, .rw⟩, ⟨"DEC", 15, 12, .rw⟩, ⟨"POST", 29, 16, .rw⟩]⟩,
    ⟨"TRC_SEL_0", 0x84, 1, 4, 0,
      [⟨"NODE0", 7, 0, .rw⟩, ⟨"NODE1", 15, 8, .rw⟩, ⟨"NODE2", 23, 16, .rw⟩, ⟨"NODE3", 31, 24, .rw⟩]⟩,
    ⟨"TRC_SEL_1", 0x88, 1, 4, 0,
      [⟨"NODE0", 7, 0, .rw⟩, ⟨"NODE1", 15, 8, .rw⟩, ⟨"NODE2", 23, 16, .rw⟩, ⟨"NODE3", 31, 24, .rw⟩]⟩,
    ⟨"TRC_STS", 0x8c, 1, 4, 0,
      [⟨"ARMED", 0, 0, .ro⟩, ⟨"TRIGGERED", 1, 1, .ro⟩, ⟨"DONE", 2, 2, .w1c⟩, ⟨"WR_IDX", 29, 16, .ro⟩]⟩,
    ⟨"TRC_TRIG_IDX", 0x90, 1, 4, 0, [⟨"IDX", 13, 0, .ro⟩]⟩,
    ⟨"TRC_RD_IDX", 0x94, 1, 4, 0, [⟨"IDX", 13, 0, .rw⟩]⟩,
    ⟨"TRC_RD", 0xa0, 8, 4, 0, [⟨"NODE", 31, 0, .ro⟩]⟩ ]

def regsBoot0_0 : List RegDesc :=
  [ ⟨"STS", 0x80, 1, 4, 0,
      [⟨"SEC_STATE", 1, 0, .ro⟩, ⟨"SLOT", 3, 2, .ro⟩, ⟨"FELL_BACK", 4, 4, .ro⟩, ⟨"SEALED", 5, 5, .ro⟩, ⟨"MAIN_OK", 6, 6, .ro⟩, ⟨"BOOT_OK", 7, 7, .ro⟩]⟩,
    ⟨"CTL", 0x84, 1, 4, 0,
      [⟨"BOOT_OK", 0, 0, .w1s⟩, ⟨"SEAL", 1, 1, .w1s⟩, ⟨"FAIL_SLOT", 2, 2, .w1s⟩, ⟨"CORE_REL", 6, 4, .w1s⟩]⟩,
    ⟨"WDT", 0x88, 1, 4, 0x1e, [⟨"TIMEOUT", 15, 0, .rw⟩, ⟨"RUNNING", 16, 16, .ro⟩]⟩,
    ⟨"TRY", 0x8c, 1, 4, 0,
      [⟨"CNT", 1, 0, .ro⟩, ⟨"LAST", 3, 2, .ro⟩, ⟨"SKIP", 5, 4, .ro⟩, ⟨"TOK_FAILS", 11, 8, .ro⟩]⟩,
    ⟨"FAIL", 0x90, 1, 4, 0,
      [⟨"CODE", 7, 0, .rc⟩, ⟨"KIND", 10, 8, .rc⟩, ⟨"SLOT", 13, 12, .rc⟩, ⟨"BLOCK", 25, 16, .rc⟩]⟩,
    ⟨"SVN", 0x94, 1, 4, 0, [⟨"FUSED", 7, 0, .ro⟩, ⟨"ACTIVE", 15, 8, .ro⟩]⟩,
    ⟨"FUSE_STS", 0x98, 1, 4, 0,
      [⟨"KEY_REVOKE", 1, 0, .ro⟩, ⟨"PATCH_REVOKE", 5, 2, .ro⟩, ⟨"OWNER_SET", 7, 6, .ro⟩, ⟨"DBG_DISABLE", 8, 8, .ro⟩]⟩,
    ⟨"UID_LO", 0xa0, 1, 4, 0, [⟨"UID", 31, 0, .ro⟩]⟩,
    ⟨"UID_HI", 0xa4, 1, 4, 0, [⟨"UID", 31, 0, .ro⟩]⟩,
    ⟨"CHAL", 0xb0, 4, 4, 0, [⟨"CHAL", 31, 0, .ro⟩]⟩,
    ⟨"CMD", 0xc0, 1, 4, 0, [⟨"OP", 3, 0, .rw⟩, ⟨"GO", 4, 4, .w1s⟩, ⟨"KIND", 9, 8, .rw⟩, ⟨"SEL", 14, 12, .rw⟩]⟩,
    ⟨"SRC_LO", 0xc4, 1, 4, 0, [⟨"ADDR", 31, 0, .rw⟩]⟩,
    ⟨"SRC_HI", 0xc8, 1, 4, 0, [⟨"ADDR", 7, 0, .rw⟩]⟩,
    ⟨"DST_LO", 0xcc, 1, 4, 0, [⟨"ADDR", 31, 0, .rw⟩]⟩ ]

def regsBoot0_1 : List RegDesc :=
  [ ⟨"DST_HI", 0xd0, 1, 4, 0, [⟨"ADDR", 7, 0, .rw⟩]⟩,
    ⟨"CMD_STS", 0xd4, 1, 4, 0, [⟨"RESULT", 7, 0, .ro⟩, ⟨"BUSY", 8, 8, .ro⟩, ⟨"BLOCK", 25, 16, .ro⟩]⟩,
    ⟨"TOK", 0x100, 58, 4, 0, [⟨"DATA", 31, 0, .rw⟩]⟩,
    ⟨"SPI_CMD", 0x200, 1, 4, 0, [⟨"OP", 1, 0, .rw⟩, ⟨"GO", 2, 2, .w1s⟩, ⟨"ERR", 3, 3, .ro⟩]⟩,
    ⟨"SPI_ADDR", 0x204, 1, 4, 0, [⟨"ADDR", 25, 0, .rw⟩]⟩,
    ⟨"SPI_LEN", 0x208, 1, 4, 0, [⟨"LEN", 24, 0, .rw⟩]⟩,
    ⟨"SPI_BUF_LO", 0x20c, 1, 4, 0, [⟨"ADDR", 31, 0, .rw⟩]⟩,
    ⟨"SPI_BUF_HI", 0x210, 1, 4, 0, [⟨"ADDR", 4, 0, .rw⟩]⟩ ]

def regsBoot0 : List RegDesc :=
  regsBoot0_0 ++ regsBoot0_1

def regsMcl0 : List RegDesc :=
  [ ⟨"CMD", 0x80, 1, 4, 0, [⟨"OP", 3, 0, .rw⟩, ⟨"GO", 4, 4, .w1s⟩, ⟨"STORE", 7, 5, .rw⟩]⟩,
    ⟨"INST", 0x84, 1, 4, 0, [⟨"MASK", 31, 0, .rw⟩]⟩,
    ⟨"SRC_LO", 0x88, 1, 4, 0, [⟨"ADDR", 31, 0, .rw⟩]⟩,
    ⟨"SRC_HI", 0x8c, 1, 4, 0, [⟨"ADDR", 4, 0, .rw⟩]⟩,
    ⟨"RANGE", 0x90, 1, 4, 0, [⟨"OFFSET", 13, 0, .rw⟩, ⟨"COUNT", 30, 16, .rw⟩]⟩,
    ⟨"CRC", 0x94, 1, 4, 0, [⟨"CRC", 31, 0, .rw⟩]⟩,
    ⟨"CRC_OUT", 0x98, 1, 4, 0, [⟨"CRC", 31, 0, .ro⟩]⟩,
    ⟨"CMD_STS", 0x9c, 1, 4, 0,
      [⟨"RESULT", 3, 0, .ro⟩, ⟨"BUSY", 4, 4, .ro⟩, ⟨"RECORD", 12, 5, .ro⟩, ⟨"INSTANCE", 18, 14, .ro⟩]⟩,
    ⟨"LOADED_0", 0xa0, 1, 4, 0, [⟨"SEQ", 31, 0, .ro⟩]⟩,
    ⟨"LOADED_1", 0xa4, 1, 4, 0, [⟨"PAR", 1, 0, .ro⟩, ⟨"CHV", 17, 2, .ro⟩, ⟨"NANO", 18, 18, .ro⟩]⟩,
    ⟨"PATCH_ID_LO", 0xa8, 1, 4, 0, [⟨"ID", 31, 0, .ro⟩]⟩,
    ⟨"PATCH_ID_HI", 0xac, 1, 4, 0, [⟨"ID", 31, 0, .ro⟩]⟩,
    ⟨"ECC_CNT", 0xb0, 1, 4, 0, [⟨"CNT", 31, 0, .rc⟩]⟩ ]

def regsMcl1 : List RegDesc :=
  [ ⟨"RUN_SEQ", 0x80, 1, 4, 0, [⟨"BITS", 31, 0, .ro⟩]⟩,
    ⟨"STOP_SEQ", 0x84, 1, 4, 0, [⟨"BITS", 31, 0, .ro⟩]⟩,
    ⟨"PAR_STS", 0x88, 1, 4, 0, [⟨"RUN", 1, 0, .ro⟩, ⟨"STOP", 3, 2, .ro⟩]⟩,
    ⟨"STOP_REC", 0x8c, 1, 4, 0,
      [⟨"CLASS", 1, 0, .rc⟩, ⟨"INST", 6, 2, .rc⟩, ⟨"CAUSE", 9, 7, .rc⟩, ⟨"MORE", 10, 10, .rc⟩, ⟨"VALID", 11, 11, .rc⟩, ⟨"ADDR", 25, 12, .rc⟩]⟩,
    ⟨"POLL_HWM", 0x90, 1, 4, 0, [⟨"SEQ", 7, 0, .rc⟩, ⟨"PAR", 15, 8, .rc⟩, ⟨"CHV", 23, 16, .rc⟩]⟩ ]

def regsDma0 : List RegDesc :=
  [ ⟨"CFG", 0x80, 1, 4, 0x8004,
      [⟨"MODE", 1, 0, .rw⟩, ⟨"OWNER", 2, 2, .rw⟩, ⟨"RING_CORE", 3, 3, .rw⟩, ⟨"TRIG", 7, 4, .rw⟩, ⟨"TRIG_EN", 8, 8, .rw⟩, ⟨"RING_LOG2", 16, 12, .rw⟩]⟩,
    ⟨"RING_BASE_LO", 0x88, 1, 4, 0, [⟨"ADDR", 31, 0, .rw⟩]⟩,
    ⟨"RING_BASE_HI", 0x8c, 1, 4, 0, [⟨"ADDR", 4, 0, .rw⟩]⟩,
    ⟨"HEAD", 0x90, 1, 4, 0, [⟨"IDX", 15, 0, .ro⟩]⟩,
    ⟨"TAIL", 0x94, 1, 4, 0, [⟨"IDX", 15, 0, .rw⟩]⟩,
    ⟨"CTL", 0x98, 1, 4, 0, [⟨"START", 0, 0, .w1s⟩, ⟨"ABORT", 1, 1, .w1s⟩]⟩,
    ⟨"STS", 0x9c, 1, 4, 0,
      [⟨"RUNNING", 0, 0, .ro⟩, ⟨"OWN_WAIT", 1, 1, .ro⟩, ⟨"BME_WAIT", 2, 2, .ro⟩, ⟨"ACTIVE", 10, 8, .ro⟩, ⟨"TRIG_PEND", 23, 16, .ro⟩]⟩,
    ⟨"ERR_INFO", 0xa0, 1, 4, 0, [⟨"STATUS", 15, 0, .rc⟩, ⟨"IDX", 31, 16, .rc⟩]⟩,
    ⟨"BAD_CNT", 0xa4, 1, 4, 0, [⟨"CNT", 31, 0, .rc⟩]⟩,
    ⟨"UNITS_LO", 0x100, 1, 8, 0, [⟨"CNT", 31, 0, .rwc⟩]⟩,
    ⟨"UNITS_HI", 0x104, 1, 8, 0, [⟨"CNT", 15, 0, .rwc⟩]⟩,
    ⟨"DESC_LO", 0x108, 1, 8, 0, [⟨"CNT", 31, 0, .rwc⟩]⟩,
    ⟨"DESC_HI", 0x10c, 1, 8, 0, [⟨"CNT", 15, 0, .rwc⟩]⟩ ]

def regsCiph0_0 : List RegDesc :=
  [ ⟨"AR_NS1", 0x80, 1, 4, 0, [⟨"DATA", 15, 0, .rw⟩, ⟨"TWEAK", 31, 16, .rw⟩]⟩,
    ⟨"AR_NS2", 0x84, 1, 4, 0, [⟨"DATA", 15, 0, .rw⟩, ⟨"TWEAK", 31, 16, .rw⟩]⟩,
    ⟨"KCMD", 0x90, 1, 4, 0,
      [⟨"OP", 1, 0, .rw⟩, ⟨"GO", 2, 2, .w1s⟩, ⟨"KLEN", 3, 3, .rw⟩, ⟨"USE", 5, 4, .rw⟩, ⟨"DOMAIN", 6, 6, .rw⟩, ⟨"SLOT", 15, 8, .rw⟩]⟩,
    ⟨"KADDR_LO", 0x98, 1, 4, 0, [⟨"ADDR", 31, 0, .rw⟩]⟩,
    ⟨"KADDR_HI", 0x9c, 1, 4, 0, [⟨"ADDR", 4, 0, .rw⟩]⟩,
    ⟨"KSTS", 0xa0, 1, 4, 0, [⟨"RESULT", 3, 0, .ro⟩, ⟨"BUSY", 4, 4, .ro⟩, ⟨"HANDLE", 31, 16, .ro⟩]⟩,
    ⟨"VCMD", 0xb0, 1, 4, 0, [⟨"DEC", 0, 0, .rw⟩, ⟨"GO", 1, 1, .w1s⟩, ⟨"HANDLE", 31, 16, .rw⟩]⟩,
    ⟨"VSRC_LO", 0xb8, 1, 4, 0, [⟨"ADDR", 31, 0, .rw⟩]⟩,
    ⟨"VSRC_HI", 0xbc, 1, 4, 0, [⟨"ADDR", 4, 0, .rw⟩]⟩,
    ⟨"VDST_LO", 0xc0, 1, 4, 0, [⟨"ADDR", 31, 0, .rw⟩]⟩,
    ⟨"VDST_HI", 0xc4, 1, 4, 0, [⟨"ADDR", 4, 0, .rw⟩]⟩,
    ⟨"VCNT", 0xc8, 1, 4, 0, [⟨"BLOCKS", 23, 0, .rw⟩]⟩,
    ⟨"VSTS", 0xcc, 1, 4, 0, [⟨"RESULT", 3, 0, .ro⟩, ⟨"BUSY", 4, 4, .ro⟩, ⟨"DONE", 31, 8, .ro⟩]⟩,
    ⟨"SLOT_IDX", 0xd0, 1, 4, 0, [⟨"SLOT", 7, 0, .rw⟩]⟩ ]

def regsCiph0_1 : List RegDesc :=
  [ ⟨"SLOT_INFO", 0xd4, 1, 4, 0,
      [⟨"VALID", 0, 0, .ro⟩, ⟨"KLEN", 1, 1, .ro⟩, ⟨"USE", 3, 2, .ro⟩, ⟨"DOMAIN", 4, 4, .ro⟩, ⟨"IN_USE", 5, 5, .ro⟩, ⟨"WRITE_PEND", 6, 6, .ro⟩, ⟨"GEN", 15, 8, .ro⟩]⟩,
    ⟨"PIPE_STS", 0xd8, 1, 4, 0, [⟨"BUSY", 7, 0, .ro⟩, ⟨"BOOT_HELD", 8, 8, .ro⟩]⟩,
    ⟨"UNWRAP_FAIL", 0xe0, 1, 4, 0, [⟨"CNT", 31, 0, .rc⟩]⟩,
    ⟨"BLOCKS_LO", 0x100, 1, 8, 0, [⟨"CNT", 31, 0, .rwc⟩]⟩,
    ⟨"BLOCKS_HI", 0x104, 1, 8, 0, [⟨"CNT", 15, 0, .rwc⟩]⟩,
    ⟨"UNITS_LO", 0x108, 1, 8, 0, [⟨"CNT", 31, 0, .rwc⟩]⟩,
    ⟨"UNITS_HI", 0x10c, 1, 8, 0, [⟨"CNT", 15, 0, .rwc⟩]⟩ ]

def regsCiph0 : List RegDesc :=
  regsCiph0_0 ++ regsCiph0_1

def regsMem0_0 : List RegDesc :=
  [ ⟨"CFG", 0x80, 1, 4, 0x10400, [⟨"CE_THR", 15, 0, .rw⟩, ⟨"CE_FLT", 16, 16, .rw⟩]⟩,
    ⟨"CE_REC_0", 0x84, 1, 4, 0,
      [⟨"CLASS", 3, 0, .rc⟩, ⟨"INST", 8, 4, .rc⟩, ⟨"REQ", 11, 9, .rc⟩, ⟨"KIND", 13, 12, .rc⟩, ⟨"SYM", 17, 14, .rc⟩, ⟨"VALID", 31, 31, .rc⟩]⟩,
    ⟨"CE_REC_1", 0x88, 1, 4, 0, [⟨"ADDR", 31, 0, .ro⟩]⟩,
    ⟨"CE_REC_2", 0x8c, 1, 4, 0, [⟨"ADDR_HI", 4, 0, .ro⟩]⟩,
    ⟨"UE_REC_0", 0x90, 1, 4, 0,
      [⟨"CLASS", 3, 0, .rc⟩, ⟨"INST", 8, 4, .rc⟩, ⟨"REQ", 11, 9, .rc⟩, ⟨"KIND", 13, 12, .rc⟩, ⟨"SYM", 17, 14, .rc⟩, ⟨"VALID", 31, 31, .rc⟩]⟩,
    ⟨"UE_REC_1", 0x94, 1, 4, 0, [⟨"ADDR", 31, 0, .ro⟩]⟩,
    ⟨"UE_REC_2", 0x98, 1, 4, 0, [⟨"ADDR_HI", 4, 0, .ro⟩]⟩,
    ⟨"UE_CNT", 0x9c, 1, 4, 0, [⟨"CNT", 31, 0, .rc⟩]⟩,
    ⟨"POISON_CNT", 0xa0, 1, 4, 0, [⟨"CNT", 31, 0, .rc⟩]⟩,
    ⟨"CE_CNT", 0xc0, 10, 4, 0, [⟨"CNT", 31, 0, .rc⟩]⟩,
    ⟨"REPAIR_ERR_0", 0xf0, 1, 4, 0, [⟨"ERR", 31, 0, .ro⟩]⟩,
    ⟨"REPAIR_ERR_1", 0xf4, 1, 4, 0, [⟨"ERR", 1, 0, .ro⟩]⟩,
    ⟨"REPAIR_CNT", 0xf8, 1, 4, 0, [⟨"SPARES", 15, 0, .ro⟩]⟩,
    ⟨"INJ_CTL", 0x100, 1, 4, 0, [⟨"KIND", 1, 0, .rw⟩, ⟨"TARGET", 2, 2, .rw⟩, ⟨"ARM", 3, 3, .w1s⟩]⟩ ]

def regsMem0_1 : List RegDesc :=
  [ ⟨"INJ_ADDR_LO", 0x104, 1, 4, 0, [⟨"ADDR", 31, 0, .rw⟩]⟩,
    ⟨"INJ_ADDR_HI", 0x108, 1, 4, 0, [⟨"ADDR", 4, 0, .rw⟩]⟩ ]

def regsMem0 : List RegDesc :=
  regsMem0_0 ++ regsMem0_1

def regsDmc0_0 : List RegDesc :=
  [ ⟨"CFG", 0x80, 1, 4, 0xc, [⟨"RATE", 2, 0, .rw⟩, ⟨"DENS", 4, 3, .rw⟩, ⟨"RANKS", 5, 5, .rw⟩]⟩,
    ⟨"MAP_SUB", 0xc0, 1, 4, 1, [⟨"MASK", 30, 0, .rw⟩]⟩,
    ⟨"MAP_CH", 0xc4, 1, 4, 2, [⟨"MASK", 30, 0, .rw⟩]⟩,
    ⟨"MAP_RANK", 0xc8, 1, 4, 0, [⟨"MASK", 30, 0, .rw⟩]⟩,
    ⟨"MAP_BG0", 0xcc, 1, 4, 4, [⟨"MASK", 30, 0, .rw⟩]⟩,
    ⟨"MAP_BG1", 0xd0, 1, 4, 8, [⟨"MASK", 30, 0, .rw⟩]⟩,
    ⟨"MAP_BG2", 0xd4, 1, 4, 0x10, [⟨"MASK", 30, 0, .rw⟩]⟩,
    ⟨"MAP_BA0", 0xd8, 1, 4, 0x20, [⟨"MASK", 30, 0, .rw⟩]⟩,
    ⟨"MAP_BA1", 0xdc, 1, 4, 0x40, [⟨"MASK", 30, 0, .rw⟩]⟩,
    ⟨"PORT", 0x100, 8, 8, 0x140400,
      [⟨"RATE", 10, 0, .rw⟩, ⟨"HARD", 11, 11, .rw⟩, ⟨"BURST", 19, 12, .rw⟩, ⟨"PRIO", 21, 20, .rw⟩]⟩,
    ⟨"PORT_STS", 0x104, 8, 8, 0, [⟨"LEVEL", 12, 0, .ro⟩, ⟨"WAITED", 31, 16, .rc⟩]⟩,
    ⟨"FILL_BASE_LO", 0x140, 1, 4, 0, [⟨"ADDR", 31, 0, .rw⟩]⟩,
    ⟨"FILL_BASE_HI", 0x144, 1, 4, 0, [⟨"ADDR", 4, 0, .rw⟩]⟩,
    ⟨"FILL_LEN", 0x148, 1, 4, 0, [⟨"LEN", 21, 0, .rw⟩]⟩ ]

def regsDmc0_1 : List RegDesc :=
  [ ⟨"FILL_CTL", 0x14c, 1, 4, 0, [⟨"GO", 0, 0, .w1s⟩, ⟨"DONE", 1, 1, .w1c⟩]⟩,
    ⟨"FILL_PTR_LO", 0x150, 1, 4, 0, [⟨"LO", 31, 0, .ro⟩]⟩,
    ⟨"FILL_PTR_HI", 0x154, 1, 4, 0, [⟨"HI", 4, 0, .ro⟩]⟩,
    ⟨"CTL", 0x180, 1, 4, 0, [⟨"LIVE", 0, 0, .rw⟩]⟩,
    ⟨"STS", 0x184, 1, 4, 0,
      [⟨"STATE", 2, 0, .ro⟩, ⟨"OP_BUSY", 3, 3, .ro⟩, ⟨"REF_2X", 4, 4, .ro⟩, ⟨"DRIFT", 5, 5, .ro⟩]⟩,
    ⟨"TIM_0", 0x188, 1, 4, 0x34343234,
      [⟨"CL", 7, 0, .rw⟩, ⟨"CWL", 15, 8, .rw⟩, ⟨"RCD", 23, 16, .rw⟩, ⟨"RP", 31, 24, .rw⟩]⟩,
    ⟨"TIM_1", 0x18c, 1, 4, 0x20100866,
      [⟨"RAS", 7, 0, .rw⟩, ⟨"RRD_S", 15, 8, .rw⟩, ⟨"RRD_L", 23, 16, .rw⟩, ⟨"FAW", 31, 24, .rw⟩]⟩,
    ⟨"TIM_2", 0x190, 1, 4, 0x3b01860, [⟨"WR", 7, 0, .rw⟩, ⟨"RTP", 15, 8, .rw⟩, ⟨"RFC", 27, 16, .rw⟩]⟩,
    ⟨"REF", 0x194, 1, 4, 0x1330c0,
      [⟨"REFI", 15, 0, .rw⟩, ⟨"EN", 16, 16, .rw⟩, ⟨"TEMP_EN", 17, 17, .rw⟩, ⟨"POST", 20, 18, .rw⟩]⟩,
    ⟨"MR_CMD", 0x198, 1, 4, 0,
      [⟨"MR", 7, 0, .rw⟩, ⟨"WRITE", 8, 8, .rw⟩, ⟨"RANK", 9, 9, .rw⟩, ⟨"SUB", 10, 10, .rw⟩, ⟨"GO", 11, 11, .w1s⟩]⟩,
    ⟨"MR_DATA", 0x19c, 1, 4, 0, [⟨"WDATA", 7, 0, .rw⟩]⟩,
    ⟨"TRAIN_CTL", 0x1a0, 1, 4, 0x100,
      [⟨"OP", 3, 0, .rw⟩, ⟨"GO", 4, 4, .w1s⟩, ⟨"RANK", 5, 5, .rw⟩, ⟨"SUB", 6, 6, .rw⟩, ⟨"REPEAT", 15, 8, .rw⟩]⟩,
    ⟨"TRAIN_PAT", 0x1a4, 1, 4, 0, [⟨"KIND", 1, 0, .rw⟩, ⟨"SEED", 31, 8, .rw⟩]⟩,
    ⟨"TRAIN_RES_0", 0x1a8, 1, 4, 0, [⟨"DQ", 31, 0, .ro⟩]⟩ ]

def regsDmc0_2 : List RegDesc :=
  [ ⟨"TRAIN_RES_1", 0x1ac, 1, 4, 0, [⟨"CB", 7, 0, .ro⟩, ⟨"ERRS", 31, 16, .ro⟩]⟩,
    ⟨"DLY_IDX", 0x1b0, 1, 4, 0,
      [⟨"LANE", 5, 0, .rw⟩, ⟨"RANK", 6, 6, .rw⟩, ⟨"SUB", 7, 7, .rw⟩, ⟨"KIND", 11, 8, .rw⟩]⟩,
    ⟨"DLY_VAL", 0x1b4, 1, 4, 0, [⟨"VAL", 9, 0, .rwh⟩]⟩,
    ⟨"ALERT_CNT", 0x1b8, 1, 4, 0, [⟨"CNT", 31, 0, .rc⟩]⟩,
    ⟨"MR_RES_0", 0x1c0, 1, 4, 0,
      [⟨"DEV0", 7, 0, .ro⟩, ⟨"DEV1", 15, 8, .ro⟩, ⟨"DEV2", 23, 16, .ro⟩, ⟨"DEV3", 31, 24, .ro⟩]⟩,
    ⟨"MR_RES_1", 0x1c4, 1, 4, 0, [⟨"DEV4", 7, 0, .ro⟩]⟩,
    ⟨"RD_LINES_LO", 0x200, 1, 8, 0, [⟨"CNT", 31, 0, .rwc⟩]⟩,
    ⟨"RD_LINES_HI", 0x204, 1, 8, 0, [⟨"CNT", 15, 0, .rwc⟩]⟩,
    ⟨"WR_LINES_LO", 0x208, 1, 8, 0, [⟨"CNT", 31, 0, .rwc⟩]⟩,
    ⟨"WR_LINES_HI", 0x20c, 1, 8, 0, [⟨"CNT", 15, 0, .rwc⟩]⟩,
    ⟨"ACT_LO", 0x210, 1, 8, 0, [⟨"CNT", 31, 0, .rwc⟩]⟩,
    ⟨"ACT_HI", 0x214, 1, 8, 0, [⟨"CNT", 15, 0, .rwc⟩]⟩,
    ⟨"REFRESH_LO", 0x218, 1, 8, 0, [⟨"CNT", 31, 0, .rwc⟩]⟩,
    ⟨"REFRESH_HI", 0x21c, 1, 8, 0, [⟨"CNT", 15, 0, .rwc⟩]⟩ ]

def regsDmc0 : List RegDesc :=
  regsDmc0_0 ++ regsDmc0_1 ++ regsDmc0_2

def regsPci0_0 : List RegDesc :=
  [ ⟨"ID_CFG", 0x80, 1, 4, 0x9640, [⟨"SUBSYS_ID", 15, 0, .rw⟩]⟩,
    ⟨"DSN_LO", 0x84, 1, 4, 0, [⟨"DSN", 31, 0, .rw⟩]⟩,
    ⟨"DSN_HI", 0x88, 1, 4, 0, [⟨"DSN", 31, 0, .rw⟩]⟩,
    ⟨"LINK_CFG", 0x8c, 1, 4, 0x327e,
      [⟨"MAX_SPEED", 2, 0, .rw⟩, ⟨"MAX_WIDTH", 4, 3, .rw⟩, ⟨"FLIT_EN", 5, 5, .rw⟩, ⟨"L0P_EN", 6, 6, .rw⟩, ⟨"L0P_IDLE", 15, 8, .rw⟩]⟩,
    ⟨"CTL", 0x90, 1, 4, 0, [⟨"CFG_READY", 0, 0, .rw⟩, ⟨"RETRAIN", 1, 1, .w1s⟩]⟩,
    ⟨"LINK_STS", 0x94, 1, 4, 0,
      [⟨"UP", 0, 0, .ro⟩, ⟨"SPEED", 3, 1, .ro⟩, ⟨"WIDTH", 5, 4, .ro⟩, ⟨"FLIT", 6, 6, .ro⟩, ⟨"L0P_WIDTH", 8, 7, .ro⟩, ⟨"DEGRADED", 9, 9, .ro⟩, ⟨"CFG_OPEN", 10, 10, .ro⟩, ⟨"LTSSM", 19, 16, .ro⟩]⟩,
    ⟨"TAG_CFG", 0x98, 1, 4, 0x2001000, [⟨"MAX_OUT", 12, 0, .rw⟩, ⟨"NVM_RSV", 27, 16, .rw⟩]⟩,
    ⟨"TAG_STS", 0x9c, 1, 4, 0, [⟨"MODE", 1, 0, .ro⟩, ⟨"OUTST", 28, 16, .ro⟩]⟩,
    ⟨"LTR_CFG", 0xa0, 1, 4, 0x3e8000a, [⟨"ACTIVE_US", 15, 0, .rw⟩, ⟨"IDLE_US", 31, 16, .rw⟩]⟩,
    ⟨"INT_STS", 0xa4, 1, 4, 0, [⟨"MODE", 1, 0, .ro⟩, ⟨"INTA", 2, 2, .ro⟩, ⟨"FN_MASK", 3, 3, .ro⟩]⟩,
    ⟨"ERR_0", 0xa8, 1, 4, 0, [⟨"KIND", 2, 0, .rc⟩, ⟨"SRC", 13, 8, .rc⟩, ⟨"TAG", 29, 16, .rc⟩]⟩,
    ⟨"ERR_1", 0xac, 1, 4, 0, [⟨"ADDR", 31, 0, .ro⟩]⟩,
    ⟨"ERR_2", 0xb0, 1, 4, 0, [⟨"ADDR", 31, 0, .ro⟩]⟩,
    ⟨"POISON_CNT", 0xb4, 1, 4, 0, [⟨"IN", 15, 0, .rc⟩, ⟨"OUT", 31, 16, .rc⟩]⟩ ]

def regsPci0_1 : List RegDesc :=
  [ ⟨"RX_UNITS_LO", 0x100, 1, 8, 0, [⟨"CNT", 31, 0, .rwc⟩]⟩,
    ⟨"RX_UNITS_HI", 0x104, 1, 8, 0, [⟨"CNT", 15, 0, .rwc⟩]⟩,
    ⟨"TX_UNITS_LO", 0x108, 1, 8, 0, [⟨"CNT", 31, 0, .rwc⟩]⟩,
    ⟨"TX_UNITS_HI", 0x10c, 1, 8, 0, [⟨"CNT", 15, 0, .rwc⟩]⟩,
    ⟨"CORR_ERR_LO", 0x110, 1, 8, 0, [⟨"CNT", 31, 0, .rwc⟩]⟩,
    ⟨"CORR_ERR_HI", 0x114, 1, 8, 0, [⟨"CNT", 15, 0, .rwc⟩]⟩,
    ⟨"REPLAY_LO", 0x118, 1, 8, 0, [⟨"CNT", 31, 0, .rwc⟩]⟩,
    ⟨"REPLAY_HI", 0x11c, 1, 8, 0, [⟨"CNT", 15, 0, .rwc⟩]⟩ ]

def regsPci0 : List RegDesc :=
  regsPci0_0 ++ regsPci0_1

def regsNvm0_0 : List RegDesc :=
  [ ⟨"CFG", 0x80, 1, 4, 0x18000, [⟨"CTX_MAX", 15, 0, .rw⟩, ⟨"MI_EN", 16, 16, .rw⟩]⟩,
    ⟨"CTL", 0x84, 1, 4, 0, [⟨"READY", 0, 0, .rw⟩]⟩,
    ⟨"STS", 0x88, 1, 4, 0,
      [⟨"RDY", 0, 0, .ro⟩, ⟨"SHST", 2, 1, .ro⟩, ⟨"LIMP", 3, 3, .ro⟩, ⟨"FORMAT", 4, 4, .ro⟩, ⟨"PS", 7, 5, .ro⟩, ⟨"APSTE", 8, 8, .ro⟩, ⟨"FETCH_STOP", 9, 9, .ro⟩]⟩,
    ⟨"CTX", 0x8c, 1, 4, 0, [⟨"HELD", 16, 0, .ro⟩]⟩,
    ⟨"LOCK_STS", 0x90, 1, 4, 0, [⟨"USED", 12, 0, .ro⟩, ⟨"WAITING", 31, 16, .rc⟩]⟩,
    ⟨"QUEUES", 0x94, 1, 4, 0, [⟨"SQ", 7, 0, .ro⟩, ⟨"CQ", 15, 8, .ro⟩]⟩,
    ⟨"ADM_SQE", 0xa0, 16, 4, 0, [⟨"DW", 31, 0, .ro⟩]⟩,
    ⟨"ADM_BUF_LO", 0xe0, 1, 4, 0, [⟨"ADDR", 31, 0, .rw⟩]⟩,
    ⟨"ADM_BUF_HI", 0xe4, 1, 4, 0, [⟨"ADDR", 4, 0, .rw⟩]⟩,
    ⟨"ADM_CPL", 0xe8, 1, 4, 0, [⟨"DW0", 31, 0, .rw⟩]⟩,
    ⟨"ADM_CTL", 0xec, 1, 4, 0,
      [⟨"SC", 7, 0, .rw⟩, ⟨"SCT", 10, 8, .rw⟩, ⟨"DNR", 11, 11, .rw⟩, ⟨"XFER", 12, 12, .w1s⟩, ⟨"DONE", 13, 13, .w1s⟩, ⟨"LEN", 31, 16, .rw⟩]⟩,
    ⟨"ADM_STS", 0xf0, 1, 4, 0, [⟨"PENDING", 0, 0, .ro⟩, ⟨"XFER_ERR", 1, 1, .w1c⟩]⟩,
    ⟨"ERR_CNT", 0xf4, 1, 4, 0, [⟨"CNT", 31, 0, .rc⟩]⟩,
    ⟨"RD_CMD_LO", 0x100, 1, 8, 0, [⟨"CNT", 31, 0, .rwc⟩]⟩ ]

def regsNvm0_1 : List RegDesc :=
  [ ⟨"RD_CMD_HI", 0x104, 1, 8, 0, [⟨"CNT", 15, 0, .rwc⟩]⟩,
    ⟨"WR_CMD_LO", 0x108, 1, 8, 0, [⟨"CNT", 31, 0, .rwc⟩]⟩,
    ⟨"WR_CMD_HI", 0x10c, 1, 8, 0, [⟨"CNT", 15, 0, .rwc⟩]⟩,
    ⟨"RD_UNITS_LO", 0x110, 1, 8, 0, [⟨"CNT", 31, 0, .rwc⟩]⟩,
    ⟨"RD_UNITS_HI", 0x114, 1, 8, 0, [⟨"CNT", 15, 0, .rwc⟩]⟩,
    ⟨"WR_UNITS_LO", 0x118, 1, 8, 0, [⟨"CNT", 31, 0, .rwc⟩]⟩,
    ⟨"WR_UNITS_HI", 0x11c, 1, 8, 0, [⟨"CNT", 15, 0, .rwc⟩]⟩,
    ⟨"RMW_LO", 0x120, 1, 8, 0, [⟨"CNT", 31, 0, .rwc⟩]⟩,
    ⟨"RMW_HI", 0x124, 1, 8, 0, [⟨"CNT", 15, 0, .rwc⟩]⟩ ]

def regsNvm0 : List RegDesc :=
  regsNvm0_0 ++ regsNvm0_1

def regsChan0_0 : List RegDesc :=
  [ ⟨"CFG", 0x80, 1, 4, 0xff00d4,
      [⟨"RATE", 2, 0, .rw⟩, ⟨"DRV", 5, 4, .rw⟩, ⟨"ODT", 8, 6, .rw⟩, ⟨"CE_EN", 23, 16, .rw⟩]⟩,
    ⟨"GEOM_REF", 0x84, 1, 4, 0x1000e, [⟨"PLANES", 1, 0, .rw⟩, ⟨"LUNS", 3, 2, .rw⟩, ⟨"PPB", 16, 4, .rw⟩]⟩,
    ⟨"GEOM_BLK", 0x88, 1, 4, 0x800, [⟨"BPP", 14, 0, .rw⟩]⟩,
    ⟨"DISC_CTL", 0x8c, 1, 4, 0, [⟨"START", 0, 0, .w1s⟩]⟩,
    ⟨"DISC_STS", 0x90, 1, 4, 0x20000000,
      [⟨"BUSY", 0, 0, .ro⟩, ⟨"DONE", 1, 1, .w1c⟩, ⟨"ACTIVE", 13, 8, .ro⟩, ⟨"EXCLUDED", 21, 16, .ro⟩, ⟨"ABSENT", 29, 24, .ro⟩]⟩,
    ⟨"DIE_STATE_0", 0x94, 1, 4, 0,
      [⟨"STATE0", 1, 0, .ro⟩, ⟨"STATE1", 3, 2, .ro⟩, ⟨"STATE2", 5, 4, .ro⟩, ⟨"STATE3", 7, 6, .ro⟩, ⟨"STATE4", 9, 8, .ro⟩, ⟨"STATE5", 11, 10, .ro⟩, ⟨"STATE6", 13, 12, .ro⟩, ⟨"STATE7", 15, 14, .ro⟩, ⟨"STATE8", 17, 16, .ro⟩, ⟨"STATE9", 19, 18, .ro⟩, ⟨"STATE10", 21, 20, .ro⟩, ⟨"STATE11", 23, 22, .ro⟩, ⟨"STATE12", 25, 24, .ro⟩, ⟨"STATE13", 27, 26, .ro⟩, ⟨"STATE14", 29, 28, .ro⟩, ⟨"STATE15", 31, 30, .ro⟩]⟩,
    ⟨"DIE_STATE_1", 0x98, 1, 4, 0,
      [⟨"STATE0", 1, 0, .ro⟩, ⟨"STATE1", 3, 2, .ro⟩, ⟨"STATE2", 5, 4, .ro⟩, ⟨"STATE3", 7, 6, .ro⟩, ⟨"STATE4", 9, 8, .ro⟩, ⟨"STATE5", 11, 10, .ro⟩, ⟨"STATE6", 13, 12, .ro⟩, ⟨"STATE7", 15, 14, .ro⟩, ⟨"STATE8", 17, 16, .ro⟩, ⟨"STATE9", 19, 18, .ro⟩, ⟨"STATE10", 21, 20, .ro⟩, ⟨"STATE11", 23, 22, .ro⟩, ⟨"STATE12", 25, 24, .ro⟩, ⟨"STATE13", 27, 26, .ro⟩, ⟨"STATE14", 29, 28, .ro⟩, ⟨"STATE15", 31, 30, .ro⟩]⟩,
    ⟨"DIE_IDX", 0x9c, 1, 4, 0, [⟨"IDX", 4, 0, .rw⟩]⟩,
    ⟨"DIE_INFO", 0xa0, 1, 4, 0x800000,
      [⟨"STATE", 1, 0, .ro⟩, ⟨"REASON", 5, 2, .ro⟩, ⟨"NOSUSP", 6, 6, .ro⟩, ⟨"TEMP_OK", 7, 7, .ro⟩, ⟨"LOOP_SET", 8, 8, .ro⟩, ⟨"TEMP", 23, 16, .ro⟩, ⟨"SUSP", 27, 24, .ro⟩]⟩,
    ⟨"SUSP_CFG", 0xa4, 1, 4, 0x1192c,
      [⟨"MIN_RUN", 9, 0, .rw⟩, ⟨"MAX_SUSP", 13, 10, .rw⟩, ⟨"RD_PER_SUSP", 18, 14, .rw⟩]⟩,
    ⟨"LOOP_CFG", 0xa8, 1, 4, 0,
      [⟨"FA", 7, 0, .rw⟩, ⟨"PROG", 15, 8, .rw⟩, ⟨"ERS", 23, 16, .rw⟩, ⟨"EN", 24, 24, .rw⟩]⟩,
    ⟨"PROG_AGE", 0xac, 1, 4, 0x7d0, [⟨"AGE", 15, 0, .rw⟩]⟩,
    ⟨"TMO", 0xb0, 1, 4, 0x1e6414, [⟨"READ", 7, 0, .rw⟩, ⟨"PROG", 15, 8, .rw⟩, ⟨"ERS", 23, 16, .rw⟩]⟩,
    ⟨"COST", 0xb4, 1, 4, 0x40601, [⟨"READ", 7, 0, .rw⟩, ⟨"PROG", 15, 8, .rw⟩, ⟨"ERS", 23, 16, .rw⟩]⟩ ]

def regsChan0_1 : List RegDesc :=
  [ ⟨"BUDGET", 0xb8, 1, 4, 0x400040, [⟨"GRP_LEFT", 15, 0, .ro⟩, ⟨"GRP_BUDGET", 31, 16, .ro⟩]⟩,
    ⟨"SPENT", 0xbc, 1, 4, 0, [⟨"LAST", 15, 0, .ro⟩, ⟨"WAITED", 31, 16, .ro⟩]⟩,
    ⟨"Q_STS", 0xc0, 1, 4, 0,
      [⟨"DEPTH", 7, 0, .ro⟩, ⟨"INFLIGHT", 15, 8, .ro⟩, ⟨"SUSP", 21, 16, .ro⟩, ⟨"HELD", 31, 24, .ro⟩]⟩,
    ⟨"TEMP_CFG", 0xc4, 1, 4, 0x64,
      [⟨"PERIOD", 11, 0, .rw⟩, ⟨"EN", 12, 12, .rw⟩, ⟨"FA", 23, 16, .rw⟩, ⟨"BIAS", 31, 24, .rw⟩]⟩,
    ⟨"TEMP_MAX", 0xc8, 1, 4, 0x550080,
      [⟨"MAX", 7, 0, .ro⟩, ⟨"DIE", 12, 8, .ro⟩, ⟨"HI", 23, 16, .rw⟩, ⟨"HI_STS", 31, 31, .w1c⟩]⟩,
    ⟨"FAIL_0", 0xcc, 1, 4, 0,
      [⟨"DIE", 4, 0, .ro⟩, ⟨"OP", 10, 8, .ro⟩, ⟨"CODE", 15, 12, .ro⟩, ⟨"PLANES", 19, 16, .ro⟩]⟩,
    ⟨"FAIL_1", 0xd0, 1, 4, 0, [⟨"BLOCK", 15, 0, .ro⟩, ⟨"PAGE", 27, 16, .ro⟩]⟩,
    ⟨"FAIL_CNT", 0xd4, 1, 4, 0, [⟨"CNT", 31, 0, .rc⟩]⟩,
    ⟨"QUIESCE", 0xd8, 1, 4, 0, [⟨"MODE", 1, 0, .rwh⟩, ⟨"DONE", 8, 8, .ro⟩]⟩,
    ⟨"FW_OP", 0xe0, 1, 4, 0, [⟨"OPC", 3, 0, .rw⟩, ⟨"DIE", 12, 8, .rw⟩, ⟨"FA", 23, 16, .rw⟩]⟩,
    ⟨"FW_ROW", 0xe4, 1, 4, 0, [⟨"ROW", 31, 0, .rw⟩]⟩,
    ⟨"FW_CTL", 0xe8, 1, 4, 0, [⟨"GO", 0, 0, .w1s⟩, ⟨"SLOT", 17, 4, .rw⟩, ⟨"CODE", 27, 24, .ro⟩]⟩,
    ⟨"FW_DATA", 0xec, 1, 4, 0, [⟨"DATA", 31, 0, .rwh⟩]⟩ ]

def regsChan0 : List RegDesc :=
  regsChan0_0 ++ regsChan0_1

def regsFtl0_0 : List RegDesc :=
  [ ⟨"CFG", 0x80, 1, 4, 0x1460,
      [⟨"TIER", 1, 0, .rw⟩, ⟨"MIN_WIDTH", 7, 2, .rw⟩, ⟨"SUBST_MAX", 10, 8, .rw⟩, ⟨"BITS", 13, 12, .rw⟩]⟩,
    ⟨"CMAP_BASE_LO", 0x88, 1, 4, 0, [⟨"ADDR", 31, 0, .rw⟩]⟩,
    ⟨"CMAP_BASE_HI", 0x8c, 1, 4, 0, [⟨"ADDR", 4, 0, .rw⟩]⟩,
    ⟨"BMAP_BASE_LO", 0x90, 1, 4, 0, [⟨"ADDR", 31, 0, .rw⟩]⟩,
    ⟨"BMAP_BASE_HI", 0x94, 1, 4, 0, [⟨"ADDR", 4, 0, .rw⟩]⟩,
    ⟨"SBT_BASE_LO", 0x98, 1, 4, 0, [⟨"ADDR", 31, 0, .rw⟩]⟩,
    ⟨"SBT_BASE_HI", 0x9c, 1, 4, 0, [⟨"ADDR", 4, 0, .rw⟩]⟩,
    ⟨"OWN_BASE_LO", 0xa0, 1, 4, 0, [⟨"ADDR", 31, 0, .rw⟩]⟩,
    ⟨"OWN_BASE_HI", 0xa4, 1, 4, 0, [⟨"ADDR", 4, 0, .rw⟩]⟩,
    ⟨"PAR_BASE_LO", 0xa8, 1, 4, 0, [⟨"ADDR", 31, 0, .rw⟩]⟩,
    ⟨"PAR_BASE_HI", 0xac, 1, 4, 0, [⟨"ADDR", 4, 0, .rw⟩]⟩,
    ⟨"NS_CAP_1_LO", 0xb0, 1, 4, 0, [⟨"IU", 31, 0, .rw⟩]⟩,
    ⟨"NS_CAP_1_HI", 0xb4, 1, 4, 0, [⟨"IU", 0, 0, .rw⟩]⟩,
    ⟨"NS_CAP_2", 0xb8, 1, 4, 0, [⟨"IU", 31, 0, .rw⟩]⟩ ]

def regsFtl0_1 : List RegDesc :=
  [ ⟨"SB_CNT", 0xbc, 1, 4, 0, [⟨"TOTAL", 19, 0, .ro⟩]⟩,
    ⟨"POOL", 0xc0, 1, 4, 0x1000400, [⟨"SPARE_SB", 15, 0, .rw⟩, ⟨"INT_SB", 31, 16, .rw⟩]⟩,
    ⟨"OPEN_CFG", 0xc4, 1, 4, 0xf01060,
      [⟨"OPEN_MAX", 6, 0, .rw⟩, ⟨"CLASS_OPEN_MAX", 12, 8, .rw⟩, ⟨"IDLE_PAD", 23, 16, .rw⟩]⟩,
    ⟨"PAR_CFG", 0xc8, 1, 4, 0x140, [⟨"DEPTH", 9, 0, .rw⟩]⟩,
    ⟨"GC_CFG", 0xcc, 1, 4, 0x4000200, [⟨"FREE_LOW", 15, 0, .rw⟩, ⟨"FREE_HIGH", 31, 16, .rw⟩]⟩,
    ⟨"GC_CFG2", 0xd0, 1, 4, 0x7180040,
      [⟨"FREE_CRIT", 15, 0, .rw⟩, ⟨"AGE_BIAS", 23, 16, .rw⟩, ⟨"HORIZON", 31, 24, .rw⟩]⟩,
    ⟨"WL_CFG", 0xd4, 1, 4, 0x1012c, [⟨"SPREAD", 15, 0, .rw⟩, ⟨"EN", 16, 16, .rw⟩]⟩,
    ⟨"PE_RATED", 0xd8, 1, 4, 0xbb8, [⟨"RATED", 19, 0, .rw⟩]⟩,
    ⟨"FREE_STS", 0xdc, 1, 4, 0, [⟨"FREE", 19, 0, .ro⟩]⟩,
    ⟨"OPEN_STS", 0xe0, 1, 4, 0, [⟨"OPEN", 6, 0, .ro⟩, ⟨"CLOSING", 15, 8, .ro⟩, ⟨"RELOC", 31, 16, .ro⟩]⟩,
    ⟨"GC_STS", 0xe4, 1, 4, 0,
      [⟨"ACTIVE", 0, 0, .ro⟩, ⟨"CRIT", 1, 1, .ro⟩, ⟨"WL", 2, 2, .ro⟩, ⟨"VICTIM", 31, 12, .ro⟩]⟩,
    ⟨"PE_STS", 0xe8, 1, 4, 0, [⟨"PE_MIN", 15, 0, .ro⟩, ⟨"PE_MAX", 31, 16, .ro⟩]⟩,
    ⟨"PE_MEAN", 0xec, 1, 4, 0, [⟨"MEAN", 19, 0, .ro⟩]⟩,
    ⟨"LIFE", 0xf0, 1, 4, 0x6400,
      [⟨"PCT_USED", 7, 0, .ro⟩, ⟨"AVAIL_SPARE", 15, 8, .ro⟩, ⟨"WEAR_PCT", 23, 16, .ro⟩, ⟨"READ_ONLY", 24, 24, .ro⟩]⟩ ]

def regsFtl0_2 : List RegDesc :=
  [ ⟨"SPARE_STS", 0xf4, 1, 4, 0, [⟨"CONSUMED", 19, 0, .ro⟩]⟩,
    ⟨"SPARE_THR", 0xf8, 1, 4, 0xa, [⟨"THRESH", 7, 0, .rw⟩]⟩,
    ⟨"HOST_WR_LO", 0x100, 1, 8, 0, [⟨"CNT", 31, 0, .rwc⟩]⟩,
    ⟨"HOST_WR_HI", 0x104, 1, 8, 0, [⟨"CNT", 15, 0, .rwc⟩]⟩,
    ⟨"MEDIA_WR_LO", 0x108, 1, 8, 0, [⟨"CNT", 31, 0, .rwc⟩]⟩,
    ⟨"MEDIA_WR_HI", 0x10c, 1, 8, 0, [⟨"CNT", 15, 0, .rwc⟩]⟩,
    ⟨"GC_WR_LO", 0x110, 1, 8, 0, [⟨"CNT", 31, 0, .rwc⟩]⟩,
    ⟨"GC_WR_HI", 0x114, 1, 8, 0, [⟨"CNT", 15, 0, .rwc⟩]⟩,
    ⟨"PAD_WR_LO", 0x118, 1, 8, 0, [⟨"CNT", 31, 0, .rwc⟩]⟩,
    ⟨"PAD_WR_HI", 0x11c, 1, 8, 0, [⟨"CNT", 15, 0, .rwc⟩]⟩,
    ⟨"PLOG_WR_LO", 0x120, 1, 8, 0, [⟨"CNT", 31, 0, .rwc⟩]⟩,
    ⟨"PLOG_WR_HI", 0x124, 1, 8, 0, [⟨"CNT", 15, 0, .rwc⟩]⟩,
    ⟨"VFY_CNT", 0x128, 1, 4, 0, [⟨"PASS", 15, 0, .rc⟩, ⟨"FAIL", 31, 16, .rc⟩]⟩ ]

def regsFtl0 : List RegDesc :=
  regsFtl0_0 ++ regsFtl0_1 ++ regsFtl0_2

def regsFtl1 : List RegDesc :=
  [ ⟨"CLASS_EXP", 0x80, 68, 0x10, 0, [⟨"EXPIRE", 31, 0, .rw⟩]⟩,
    ⟨"CLASS_CTL", 0x84, 68, 0x10, 1, [⟨"WRITABLE", 0, 0, .rw⟩, ⟨"NO_GC", 1, 1, .rw⟩, ⟨"PEER", 2, 2, .rw⟩]⟩,
    ⟨"CLASS_STS", 0x88, 68, 0x10, 0, [⟨"SB", 19, 0, .ro⟩, ⟨"OPEN", 24, 20, .ro⟩, ⟨"DROPPING", 25, 25, .ro⟩]⟩,
    ⟨"CLASS_VAL", 0x8c, 68, 0x10, 0, [⟨"MIB", 31, 0, .ro⟩]⟩ ]

def regsFtl2 : List RegDesc :=
  [ ⟨"CMD", 0x80, 1, 4, 0, [⟨"OP", 3, 0, .rw⟩, ⟨"GO", 4, 4, .w1s⟩, ⟨"CLASS", 14, 8, .rw⟩]⟩,
    ⟨"CMD_ARG", 0x84, 1, 4, 0, [⟨"TARGET", 19, 0, .rw⟩]⟩,
    ⟨"CMD_STS", 0x88, 1, 4, 0, [⟨"RESULT", 3, 0, .ro⟩, ⟨"PROGRESS", 31, 4, .ro⟩]⟩,
    ⟨"SB_IDX", 0x90, 1, 4, 0, [⟨"SBID", 19, 0, .rw⟩]⟩,
    ⟨"SB_REC", 0xa0, 16, 4, 0, [⟨"REC", 31, 0, .ro⟩]⟩ ]

def regsFtl3 : List RegDesc :=
  [ ⟨"QCLASS", 0x80, 32, 4, 0,
      [⟨"CLASS0", 5, 0, .rw⟩, ⟨"CLASS1", 13, 8, .rw⟩, ⟨"CLASS2", 21, 16, .rw⟩, ⟨"CLASS3", 29, 24, .rw⟩]⟩,
    ⟨"DONOR", 0x200, 32, 4, 0, [⟨"DONORS", 15, 0, .ro⟩, ⟨"BAD", 31, 16, .ro⟩]⟩ ]

def regsRdp0 : List RegDesc :=
  [ ⟨"CFG", 0x80, 1, 4, 0x41810ff,
      [⟨"MAX_RETRY", 2, 0, .rw⟩, ⟨"SOFT_EN", 3, 3, .rw⟩, ⟨"SOFT_LEVELS", 5, 4, .rw⟩, ⟨"PAR_EN", 6, 6, .rw⟩, ⟨"PEER_EN", 7, 7, .rw⟩, ⟨"HARD_ITER", 12, 8, .rw⟩, ⟨"SOFT_ITER", 20, 16, .rw⟩, ⟨"SOFT_SPACING", 27, 24, .rw⟩]⟩,
    ⟨"CFG2", 0x84, 1, 4, 0, [⟨"OFS_FA", 7, 0, .rw⟩, ⟨"SLC_FA", 15, 8, .rw⟩]⟩,
    ⟨"TBL_BASE_LO", 0x88, 1, 4, 0, [⟨"ADDR", 31, 0, .rw⟩]⟩,
    ⟨"TBL_BASE_HI", 0x8c, 1, 4, 0, [⟨"ADDR", 4, 0, .rw⟩]⟩,
    ⟨"RD_BASE_LO", 0x90, 1, 4, 0, [⟨"ADDR", 31, 0, .rw⟩]⟩,
    ⟨"RD_BASE_HI", 0x94, 1, 4, 0, [⟨"ADDR", 4, 0, .rw⟩]⟩,
    ⟨"PAT_BASE_LO", 0x98, 1, 4, 0, [⟨"ADDR", 31, 0, .rw⟩]⟩,
    ⟨"PAT_BASE_HI", 0x9c, 1, 4, 0, [⟨"ADDR", 4, 0, .rw⟩]⟩,
    ⟨"LADDER_STS", 0xa0, 1, 4, 0, [⟨"ACTIVE", 8, 0, .ro⟩, ⟨"WAITING", 31, 16, .ro⟩]⟩ ]

def regsRdp1 : List RegDesc :=
  [ ⟨"REFINE", 0x80, 1, 4, 0x1065100,
      [⟨"N", 11, 0, .rw⟩, ⟨"EN", 12, 12, .rw⟩, ⟨"PCT", 19, 13, .rw⟩, ⟨"DRIFT", 27, 20, .rw⟩]⟩,
    ⟨"REFINE_STS", 0x84, 1, 4, 0, [⟨"BUSY", 0, 0, .ro⟩, ⟨"COUNT", 31, 16, .rc⟩]⟩,
    ⟨"AGE_STS", 0x88, 1, 4, 0, [⟨"WORST", 0, 0, .ro⟩, ⟨"NEG", 31, 16, .rc⟩]⟩ ]

def regsRdp2 : List RegDesc :=
  [ ⟨"RD_CFG", 0x80, 1, 4, 0x4000030, [⟨"CHECK", 15, 0, .rw⟩, ⟨"LIMIT", 31, 16, .rw⟩]⟩,
    ⟨"RD_BER", 0x84, 1, 4, 0xc800a0, [⟨"RD_THR", 11, 0, .rw⟩, ⟨"PAT_THR", 27, 16, .rw⟩]⟩,
    ⟨"PAT_CFG", 0x88, 1, 4, 0x2001, [⟨"EN", 0, 0, .rw⟩, ⟨"RATE", 15, 8, .rw⟩]⟩,
    ⟨"PAT_INT_0", 0x90, 1, 4, 0xe0e0e0e,
      [⟨"DAYS0", 7, 0, .rw⟩, ⟨"DAYS1", 15, 8, .rw⟩, ⟨"DAYS2", 23, 16, .rw⟩, ⟨"DAYS3", 31, 24, .rw⟩]⟩,
    ⟨"PAT_INT_1", 0x94, 1, 4, 0x70e0e0e,
      [⟨"DAYS0", 7, 0, .rw⟩, ⟨"DAYS1", 15, 8, .rw⟩, ⟨"DAYS2", 23, 16, .rw⟩, ⟨"DAYS3", 31, 24, .rw⟩]⟩,
    ⟨"PAT_INT_2", 0x98, 1, 4, 0x3030707,
      [⟨"DAYS0", 7, 0, .rw⟩, ⟨"DAYS1", 15, 8, .rw⟩, ⟨"DAYS2", 23, 16, .rw⟩, ⟨"DAYS3", 31, 24, .rw⟩]⟩,
    ⟨"PAT_INT_3", 0x9c, 1, 4, 0x1010103,
      [⟨"DAYS0", 7, 0, .rw⟩, ⟨"DAYS1", 15, 8, .rw⟩, ⟨"DAYS2", 23, 16, .rw⟩, ⟨"DAYS3", 31, 24, .rw⟩]⟩,
    ⟨"PAT_STS", 0xa0, 1, 4, 0, [⟨"SBID", 19, 0, .ro⟩, ⟨"ACTIVE", 20, 20, .ro⟩]⟩,
    ⟨"PAT_DONE", 0xa4, 1, 4, 0, [⟨"CNT", 31, 0, .rc⟩]⟩,
    ⟨"WEAK", 0xa8, 1, 4, 0,
      [⟨"SBID", 19, 0, .rc⟩, ⟨"MAXBITS", 27, 20, .rc⟩, ⟨"UNC", 28, 28, .rc⟩, ⟨"SRC", 30, 29, .rc⟩, ⟨"VALID", 31, 31, .rc⟩]⟩,
    ⟨"WEAK_CNT", 0xac, 1, 4, 0, [⟨"DEPTH", 6, 0, .ro⟩, ⟨"OVF", 31, 16, .rc⟩]⟩ ]

def regsRdp3 : List RegDesc :=
  [ ⟨"STEP_CNT_LO", 0x80, 6, 8, 0, [⟨"CNT", 31, 0, .rwc⟩]⟩,
    ⟨"STEP_CNT_HI", 0x84, 6, 8, 0, [⟨"CNT", 15, 0, .rwc⟩]⟩,
    ⟨"UNC_PSA_LO", 0xb0, 1, 4, 0, [⟨"PSA", 31, 0, .ro⟩]⟩,
    ⟨"UNC_PSA_HI", 0xb4, 1, 4, 0, [⟨"PSA", 4, 0, .ro⟩]⟩,
    ⟨"UNC_INFO", 0xb8, 1, 4, 0, [⟨"REQ", 2, 0, .ro⟩, ⟨"TRIED", 9, 4, .ro⟩, ⟨"CW", 15, 12, .ro⟩]⟩,
    ⟨"UNC_CNT", 0xbc, 1, 4, 0, [⟨"CNT", 31, 0, .rc⟩]⟩ ]

def regsPlj0_0 : List RegDesc :=
  [ ⟨"CFG", 0x80, 1, 4, 0x80007d0, [⟨"FLUSH_US", 11, 0, .rw⟩, ⟨"FLUSH_ENT", 27, 14, .rw⟩]⟩,
    ⟨"CFG2", 0x84, 1, 4, 0x6410, [⟨"KEEP", 7, 0, .rw⟩, ⟨"WB_AGE", 15, 8, .rw⟩]⟩,
    ⟨"JNL_BASE_LO", 0x88, 1, 4, 0, [⟨"ADDR", 31, 0, .rw⟩]⟩,
    ⟨"JNL_BASE_HI", 0x8c, 1, 4, 0, [⟨"ADDR", 4, 0, .rw⟩]⟩,
    ⟨"JNL_STS", 0x90, 1, 4, 0, [⟨"PENDING", 14, 0, .ro⟩, ⟨"FLUSHING", 15, 15, .ro⟩, ⟨"STALL", 16, 16, .ro⟩]⟩,
    ⟨"SEQ_LO", 0x98, 1, 4, 0, [⟨"LO", 31, 0, .ro⟩]⟩,
    ⟨"SEQ_HI", 0x9c, 1, 4, 0, [⟨"HI", 31, 0, .ro⟩]⟩,
    ⟨"FLUSHED_LO", 0xa0, 1, 4, 0, [⟨"LO", 31, 0, .ro⟩]⟩,
    ⟨"FLUSHED_HI", 0xa4, 1, 4, 0, [⟨"HI", 31, 0, .ro⟩]⟩,
    ⟨"WB_STS", 0xa8, 1, 4, 0, [⟨"DIRTY", 23, 0, .ro⟩]⟩,
    ⟨"REPLAY_DIST", 0xac, 1, 4, 0, [⟨"DIST", 31, 0, .ro⟩]⟩,
    ⟨"PF_CFG", 0xc0, 1, 4, 0x640032, [⟨"DEAD_T", 13, 0, .rw⟩, ⟨"DEBOUNCE", 23, 16, .rw⟩]⟩,
    ⟨"PF_STS", 0xc4, 1, 4, 4,
      [⟨"PFAIL", 0, 0, .ro⟩, ⟨"SEEN", 1, 1, .w1c⟩, ⟨"DEAD", 2, 2, .ro⟩, ⟨"STATE", 5, 4, .ro⟩, ⟨"SHORT", 6, 6, .ro⟩]⟩,
    ⟨"BRACE_REC", 0xc8, 1, 4, 0,
      [⟨"DUR", 15, 0, .ro⟩, ⟨"KIND", 17, 16, .ro⟩, ⟨"LATE", 18, 18, .ro⟩, ⟨"COUNT", 31, 24, .rc⟩]⟩ ]

def regsPlj0_1 : List RegDesc :=
  [ ⟨"PF_CTL", 0xcc, 1, 4, 0, [⟨"READMIT", 0, 0, .w1s⟩]⟩,
    ⟨"REC_CTL", 0xd0, 1, 4, 0, [⟨"START", 0, 0, .w1s⟩]⟩,
    ⟨"REC_STS", 0xd4, 1, 4, 0,
      [⟨"STEP", 2, 0, .ro⟩, ⟨"RESULT", 7, 4, .ro⟩, ⟨"LAST_BRACE", 9, 8, .ro⟩, ⟨"UNCLEAN", 10, 10, .ro⟩, ⟨"PERMILLE", 25, 16, .ro⟩]⟩,
    ⟨"REC_CNT", 0xd8, 1, 4, 0, [⟨"REPAIRED", 15, 0, .ro⟩, ⟨"LOST", 31, 16, .ro⟩]⟩,
    ⟨"REC_TIME", 0xdc, 1, 4, 0, [⟨"MS", 31, 0, .ro⟩]⟩ ]

def regsPlj0 : List RegDesc :=
  regsPlj0_0 ++ regsPlj0_1

def regsChv0 : List RegDesc :=
  [ ⟨"STS", 0x80, 1, 4, 0,
      [⟨"RUNNING", 0, 0, .ro⟩, ⟨"STOPPED", 1, 1, .ro⟩, ⟨"CAUSE", 14, 8, .ro⟩, ⟨"FLOWS", 31, 15, .ro⟩]⟩,
    ⟨"AUTH_FAIL", 0x84, 1, 4, 0, [⟨"CNT", 31, 0, .rc⟩]⟩,
    ⟨"MSG_LO", 0x88, 1, 8, 0, [⟨"CNT", 31, 0, .rwc⟩]⟩,
    ⟨"MSG_HI", 0x8c, 1, 8, 0, [⟨"CNT", 15, 0, .rwc⟩]⟩ ]

def regsIst0_0 : List RegDesc :=
  [ ⟨"CFG", 0x80, 1, 4, 0x454c, [⟨"PORT", 15, 0, .rw⟩]⟩,
    ⟨"CLT_BASE_LO", 0x88, 1, 4, 0, [⟨"ADDR", 31, 0, .rw⟩]⟩,
    ⟨"CLT_BASE_HI", 0x8c, 1, 4, 0, [⟨"ADDR", 4, 0, .rw⟩]⟩,
    ⟨"CLT_MAX", 0x90, 1, 4, 0, [⟨"MAX", 20, 0, .rw⟩]⟩,
    ⟨"KSLOT", 0x94, 1, 4, 0x4080, [⟨"BASE", 7, 0, .rw⟩, ⟨"COUNT", 15, 8, .rw⟩]⟩,
    ⟨"IDX_BASE_LO", 0x98, 1, 4, 0, [⟨"ADDR", 31, 0, .rw⟩]⟩,
    ⟨"IDX_BASE_HI", 0x9c, 1, 4, 0, [⟨"ADDR", 4, 0, .rw⟩]⟩,
    ⟨"IDX_CFG", 0xa0, 1, 4, 0x3e8081a, [⟨"LOG2_NB", 4, 0, .rw⟩, ⟨"PROBE", 11, 8, .rw⟩, ⟨"WB_US", 31, 16, .rw⟩]⟩,
    ⟨"EXT_BASE_LO", 0xa8, 1, 4, 0, [⟨"ADDR", 31, 0, .rw⟩]⟩,
    ⟨"EXT_BASE_HI", 0xac, 1, 4, 0, [⟨"ADDR", 4, 0, .rw⟩]⟩,
    ⟨"IU_BASE_LO", 0xb0, 1, 4, 0, [⟨"IU", 31, 0, .rw⟩]⟩,
    ⟨"IU_BASE_HI", 0xb4, 1, 4, 0, [⟨"IU", 0, 0, .rw⟩]⟩,
    ⟨"IU_CNT", 0xb8, 1, 4, 0, [⟨"EXTENTS", 20, 0, .rw⟩]⟩,
    ⟨"CTX_CFG", 0xbc, 1, 4, 0x3e80400, [⟨"CTX_RSV", 15, 0, .rw⟩, ⟨"BUSY_HINT", 31, 16, .rw⟩]⟩ ]

def regsIst0_1 : List RegDesc :=
  [ ⟨"STAGE_CFG", 0xc0, 1, 4, 0x12c0400, [⟨"LOW_WATER", 13, 0, .rw⟩, ⟨"READ_LEAD", 25, 16, .rw⟩]⟩,
    ⟨"FLOW_CFG", 0xc4, 1, 4, 0x13881060,
      [⟨"FLOW_SLOTS", 6, 0, .rw⟩, ⟨"PUT_WIN", 15, 8, .rw⟩, ⟨"FLOW_IDLE", 31, 16, .rw⟩]⟩,
    ⟨"RATE_CFG", 0xc8, 1, 4, 0x6409c4, [⟨"FLOW_CAP", 15, 0, .rw⟩, ⟨"INIT_RATE", 31, 16, .rw⟩]⟩,
    ⟨"RATE_CFG2", 0xcc, 1, 4, 0x64000a, [⟨"MIN_RATE", 9, 0, .rw⟩, ⟨"AI_STEP", 31, 16, .rw⟩]⟩,
    ⟨"WIN_CFG", 0xd0, 1, 4, 0x40, [⟨"INIT_WIN", 15, 0, .rw⟩]⟩,
    ⟨"RTO_CFG", 0xd4, 1, 4, 0xa6481f4,
      [⟨"RTO_MIN", 11, 0, .rw⟩, ⟨"RETX_MAX", 15, 12, .rw⟩, ⟨"RTO_MAX", 23, 16, .rw⟩, ⟨"RTT_INIT", 31, 24, .rw⟩]⟩,
    ⟨"PUT_CFG", 0xd8, 1, 4, 0x7d0, [⟨"PUT_TMO", 15, 0, .rw⟩]⟩,
    ⟨"IND_EVEN", 0x100, 16, 8, 0x76543210,
      [⟨"ENG0", 3, 0, .rw⟩, ⟨"ENG1", 7, 4, .rw⟩, ⟨"ENG2", 11, 8, .rw⟩, ⟨"ENG3", 15, 12, .rw⟩, ⟨"ENG4", 19, 16, .rw⟩, ⟨"ENG5", 23, 20, .rw⟩, ⟨"ENG6", 27, 24, .rw⟩, ⟨"ENG7", 31, 28, .rw⟩]⟩,
    ⟨"IND_ODD", 0x104, 16, 8, 0xfedcba98,
      [⟨"ENG0", 3, 0, .rw⟩, ⟨"ENG1", 7, 4, .rw⟩, ⟨"ENG2", 11, 8, .rw⟩, ⟨"ENG3", 15, 12, .rw⟩, ⟨"ENG4", 19, 16, .rw⟩, ⟨"ENG5", 23, 20, .rw⟩, ⟨"ENG6", 27, 24, .rw⟩, ⟨"ENG7", 31, 28, .rw⟩]⟩ ]

def regsIst0 : List RegDesc :=
  regsIst0_0 ++ regsIst0_1

def regsIst1_0 : List RegDesc :=
  [ ⟨"CMD", 0x80, 1, 4, 0, [⟨"OP", 3, 0, .rw⟩, ⟨"GO", 4, 4, .w1s⟩, ⟨"CLASS", 13, 8, .rw⟩]⟩,
    ⟨"CMD_STS", 0x84, 1, 4, 0, [⟨"RESULT", 3, 0, .ro⟩, ⟨"PROGRESS", 31, 4, .ro⟩]⟩,
    ⟨"ENT", 0x90, 8, 4, 0, [⟨"ENT", 31, 0, .rw⟩]⟩,
    ⟨"STS", 0xc0, 1, 4, 0, [⟨"READY", 0, 0, .ro⟩, ⟨"STAGE_LOW", 1, 1, .ro⟩]⟩,
    ⟨"FLOWS", 0xc4, 1, 4, 0, [⟨"ACTIVE", 17, 0, .ro⟩]⟩,
    ⟨"CTX", 0xc8, 1, 4, 0, [⟨"HELD", 16, 0, .ro⟩]⟩,
    ⟨"IDX_STS", 0xcc, 1, 4, 0, [⟨"ENTRIES", 30, 0, .ro⟩]⟩,
    ⟨"PURGED", 0xd0, 2, 4, 0, [⟨"PURGED", 31, 0, .ro⟩]⟩,
    ⟨"REQ_LO", 0x100, 1, 8, 0, [⟨"CNT", 31, 0, .rwc⟩]⟩,
    ⟨"REQ_HI", 0x104, 1, 8, 0, [⟨"CNT", 15, 0, .rwc⟩]⟩,
    ⟨"BUSY_LO", 0x108, 1, 8, 0, [⟨"CNT", 31, 0, .rwc⟩]⟩,
    ⟨"BUSY_HI", 0x10c, 1, 8, 0, [⟨"CNT", 15, 0, .rwc⟩]⟩,
    ⟨"AUTH_FAIL_LO", 0x110, 1, 8, 0, [⟨"CNT", 31, 0, .rwc⟩]⟩,
    ⟨"AUTH_FAIL_HI", 0x114, 1, 8, 0, [⟨"CNT", 15, 0, .rwc⟩]⟩ ]

def regsIst1_1 : List RegDesc :=
  [ ⟨"RETX_LO", 0x118, 1, 8, 0, [⟨"CNT", 31, 0, .rwc⟩]⟩,
    ⟨"RETX_HI", 0x11c, 1, 8, 0, [⟨"CNT", 15, 0, .rwc⟩]⟩,
    ⟨"ABORTED_LO", 0x120, 1, 8, 0, [⟨"CNT", 31, 0, .rwc⟩]⟩,
    ⟨"ABORTED_HI", 0x124, 1, 8, 0, [⟨"CNT", 15, 0, .rwc⟩]⟩,
    ⟨"EVICTED_LO", 0x128, 1, 8, 0, [⟨"CNT", 31, 0, .rwc⟩]⟩,
    ⟨"EVICTED_HI", 0x12c, 1, 8, 0, [⟨"CNT", 15, 0, .rwc⟩]⟩,
    ⟨"PAYLOAD_LO", 0x130, 1, 8, 0, [⟨"CNT", 31, 0, .rwc⟩]⟩,
    ⟨"PAYLOAD_HI", 0x134, 1, 8, 0, [⟨"CNT", 15, 0, .rwc⟩]⟩ ]

def regsIst1 : List RegDesc :=
  regsIst1_0 ++ regsIst1_1

def regsNet0 : List RegDesc :=
  [ ⟨"MODE", 0x80, 1, 4, 0, [⟨"SPEED", 1, 0, .rw⟩, ⟨"TX_EN", 2, 2, .rw⟩, ⟨"RX_EN", 3, 3, .rw⟩]⟩,
    ⟨"MTU", 0x84, 1, 4, 0x2328, [⟨"MTU", 13, 0, .rw⟩]⟩,
    ⟨"MAC_LO", 0x88, 1, 4, 0, [⟨"MAC", 31, 0, .rw⟩]⟩,
    ⟨"MAC_HI", 0x8c, 1, 4, 0, [⟨"MAC", 15, 0, .rw⟩]⟩,
    ⟨"LINK_STS", 0x90, 1, 4, 0,
      [⟨"UP", 0, 0, .ro⟩, ⟨"FEC_LOCK", 1, 1, .ro⟩, ⟨"SIG", 5, 2, .ro⟩, ⟨"SPEED", 7, 6, .ro⟩]⟩,
    ⟨"LINK_CNT", 0x94, 1, 4, 0, [⟨"DOWN", 15, 0, .rc⟩]⟩,
    ⟨"FEC_CORR_LO", 0xa0, 1, 8, 0, [⟨"CNT", 31, 0, .rwc⟩]⟩,
    ⟨"FEC_CORR_HI", 0xa4, 1, 8, 0, [⟨"CNT", 15, 0, .rwc⟩]⟩,
    ⟨"FEC_UNC_LO", 0xa8, 1, 8, 0, [⟨"CNT", 31, 0, .rwc⟩]⟩,
    ⟨"FEC_UNC_HI", 0xac, 1, 8, 0, [⟨"CNT", 15, 0, .rwc⟩]⟩ ]

def regsNet1 : List RegDesc :=
  [ ⟨"IP_CTL", 0x80, 1, 4, 0x4000,
      [⟨"V6_EN", 0, 0, .rw⟩, ⟨"V4_EN", 1, 1, .rw⟩, ⟨"DSCP", 7, 2, .rw⟩, ⟨"HOP", 15, 8, .rw⟩, ⟨"CSUM4_REQ", 16, 16, .rw⟩]⟩,
    ⟨"IP6", 0x84, 4, 4, 0, [⟨"ADDR", 31, 0, .rw⟩]⟩,
    ⟨"IP4", 0x94, 1, 4, 0, [⟨"ADDR", 31, 0, .rw⟩]⟩,
    ⟨"GW6", 0x98, 4, 4, 0, [⟨"ADDR", 31, 0, .rw⟩]⟩,
    ⟨"GW4", 0xa8, 1, 4, 0, [⟨"ADDR", 31, 0, .rw⟩]⟩,
    ⟨"VLAN", 0xac, 1, 4, 0x10000,
      [⟨"VID", 11, 0, .rw⟩, ⟨"PCP", 14, 12, .rw⟩, ⟨"TAG_EN", 15, 15, .rw⟩, ⟨"UNTAG_OK", 16, 16, .rw⟩]⟩,
    ⟨"NEIGH_CTL", 0xb0, 1, 4, 0x1e, [⟨"REFRESH", 15, 0, .rw⟩]⟩,
    ⟨"GW_MAC6_LO", 0xb4, 1, 4, 0, [⟨"MAC", 31, 0, .ro⟩]⟩,
    ⟨"GW_MAC6_HI", 0xb8, 1, 4, 0, [⟨"MAC", 15, 0, .ro⟩, ⟨"VALID", 16, 16, .ro⟩]⟩,
    ⟨"GW_MAC4_LO", 0xbc, 1, 4, 0, [⟨"MAC", 31, 0, .ro⟩]⟩,
    ⟨"GW_MAC4_HI", 0xc0, 1, 4, 0, [⟨"MAC", 15, 0, .ro⟩, ⟨"VALID", 16, 16, .ro⟩]⟩,
    ⟨"WAKE", 0xc4, 1, 4, 0, [⟨"EN", 0, 0, .rw⟩]⟩,
    ⟨"WAKE_TOK_LO", 0xc8, 1, 4, 0, [⟨"TOK", 31, 0, .wo⟩]⟩,
    ⟨"WAKE_TOK_HI", 0xcc, 1, 4, 0, [⟨"TOK", 31, 0, .wo⟩]⟩ ]

def regsNet2 : List RegDesc :=
  [ ⟨"EGR_CAP", 0x80, 1, 4, 0x4c4b40, [⟨"BYTES", 31, 0, .ro⟩]⟩,
    ⟨"PACE_CFG", 0x84, 1, 4, 0xb, [⟨"CTRL_RSV", 7, 0, .rw⟩]⟩,
    ⟨"PACE_STS", 0x88, 1, 4, 0, [⟨"FLOWS", 17, 0, .ro⟩]⟩,
    ⟨"PACE_LATE", 0x8c, 1, 4, 0, [⟨"LATE_MAX", 15, 0, .rc⟩, ⟨"CAPPED", 31, 16, .rc⟩]⟩ ]

def regsNet3 : List RegDesc :=
  [ ⟨"TX_FRAMES_LO", 0x80, 1, 8, 0, [⟨"CNT", 31, 0, .rwc⟩]⟩,
    ⟨"TX_FRAMES_HI", 0x84, 1, 8, 0, [⟨"CNT", 15, 0, .rwc⟩]⟩,
    ⟨"TX_BYTES_LO", 0x88, 1, 8, 0, [⟨"CNT", 31, 0, .rwc⟩]⟩,
    ⟨"TX_BYTES_HI", 0x8c, 1, 8, 0, [⟨"CNT", 15, 0, .rwc⟩]⟩,
    ⟨"RX_FRAMES_LO", 0x90, 1, 8, 0, [⟨"CNT", 31, 0, .rwc⟩]⟩,
    ⟨"RX_FRAMES_HI", 0x94, 1, 8, 0, [⟨"CNT", 15, 0, .rwc⟩]⟩,
    ⟨"RX_BYTES_LO", 0x98, 1, 8, 0, [⟨"CNT", 31, 0, .rwc⟩]⟩,
    ⟨"RX_BYTES_HI", 0x9c, 1, 8, 0, [⟨"CNT", 15, 0, .rwc⟩]⟩,
    ⟨"DROP", 0x100, 18, 4, 0, [⟨"CNT", 31, 0, .rc⟩]⟩ ]

def regsTgn0_0 : List RegDesc :=
  [ ⟨"CFG", 0x80, 1, 4, 0, [⟨"MEMBER", 17, 0, .rw⟩]⟩,
    ⟨"CLUSTER", 0x84, 1, 4, 1, [⟨"SIZE", 18, 0, .rw⟩]⟩,
    ⟨"PKEY", 0x88, 1, 4, 0, [⟨"SLOT", 7, 0, .rw⟩, ⟨"VALID", 8, 8, .rw⟩]⟩,
    ⟨"PEER_BASE_LO", 0x90, 1, 4, 0, [⟨"ADDR", 31, 0, .rw⟩]⟩,
    ⟨"PEER_BASE_HI", 0x94, 1, 4, 0, [⟨"ADDR", 4, 0, .rw⟩]⟩,
    ⟨"LAYOUT_BASE_LO", 0x98, 1, 4, 0, [⟨"ADDR", 31, 0, .rw⟩]⟩,
    ⟨"LAYOUT_BASE_HI", 0x9c, 1, 4, 0, [⟨"ADDR", 4, 0, .rw⟩]⟩,
    ⟨"SHBUF_BASE_LO", 0xa0, 1, 4, 0, [⟨"ADDR", 31, 0, .rw⟩]⟩,
    ⟨"SHBUF_BASE_HI", 0xa4, 1, 4, 0, [⟨"ADDR", 4, 0, .rw⟩]⟩,
    ⟨"XSET_BASE_LO", 0xa8, 1, 4, 0, [⟨"ADDR", 31, 0, .rw⟩]⟩,
    ⟨"XSET_BASE_HI", 0xac, 1, 4, 0, [⟨"ADDR", 4, 0, .rw⟩]⟩,
    ⟨"SHBUF_SIZE", 0xb0, 1, 4, 8, [⟨"SIZE", 7, 0, .rw⟩]⟩,
    ⟨"STS", 0xc0, 1, 4, 0,
      [⟨"LOADED", 0, 0, .ro⟩, ⟨"JOINED", 1, 1, .ro⟩, ⟨"ROOT", 2, 2, .ro⟩, ⟨"READY", 3, 3, .ro⟩, ⟨"RESYNC", 4, 4, .ro⟩, ⟨"REBUILD", 5, 5, .ro⟩]⟩,
    ⟨"EPOCH_LO", 0xc8, 1, 4, 0, [⟨"LO", 31, 0, .ro⟩]⟩ ]

def regsTgn0_1 : List RegDesc :=
  [ ⟨"EPOCH_HI", 0xcc, 1, 4, 0, [⟨"HI", 31, 0, .ro⟩]⟩,
    ⟨"ROOT_ID", 0xd0, 1, 4, 0, [⟨"ROOT", 17, 0, .ro⟩]⟩,
    ⟨"ENG_STS", 0xd4, 1, 4, 0, [⟨"Q0", 7, 0, .ro⟩, ⟨"Q1", 15, 8, .ro⟩]⟩ ]

def regsTgn0 : List RegDesc :=
  regsTgn0_0 ++ regsTgn0_1

def regsTgn1 : List RegDesc :=
  [ ⟨"SET_UID", 0x80, 16, 0x20, 0, [⟨"UID", 31, 0, .rw⟩]⟩,
    ⟨"SET_CFG", 0x84, 16, 0x20, 0,
      [⟨"K", 3, 0, .rw⟩, ⟨"G", 9, 4, .rw⟩, ⟨"SLOT", 15, 10, .rw⟩, ⟨"INGEST", 16, 16, .rw⟩, ⟨"EN", 17, 17, .rw⟩]⟩,
    ⟨"SET_GEN", 0x88, 16, 0x20, 0, [⟨"GEN", 23, 0, .rwh⟩]⟩,
    ⟨"SET_CRC", 0x8c, 16, 0x20, 0, [⟨"CRC", 31, 0, .rw⟩]⟩,
    ⟨"SET_STS", 0x90, 16, 0x20, 0,
      [⟨"STATE", 1, 0, .ro⟩, ⟨"DOWN", 7, 2, .ro⟩, ⟨"REMOVED", 13, 8, .ro⟩, ⟨"RESYNC", 14, 14, .ro⟩, ⟨"REBUILD", 15, 15, .ro⟩]⟩,
    ⟨"SET_HEDGE", 0x94, 16, 0x20, 0x30, [⟨"FACTOR", 7, 0, .rw⟩]⟩,
    ⟨"SET_REB", 0x98, 16, 0x20, 0, [⟨"CHUNKS", 31, 0, .ro⟩]⟩,
    ⟨"SET_OPEN", 0x9c, 16, 0x20, 0, [⟨"OPEN", 23, 0, .ro⟩]⟩ ]

def regsTgn2_0 : List RegDesc :=
  [ ⟨"HEDGE_CFG", 0x80, 1, 4, 0x1f400c8, [⟨"MIN", 15, 0, .rw⟩, ⟨"MAX", 31, 16, .rw⟩]⟩,
    ⟨"HIST_CFG", 0x84, 1, 4, 0x1000, [⟨"HALF", 15, 0, .rw⟩]⟩,
    ⟨"RECON_CFG", 0x88, 1, 4, 0x32, [⟨"TMO", 15, 0, .rw⟩]⟩,
    ⟨"SHARE_CFG", 0x8c, 1, 4, 0x640014, [⟨"HOLD", 9, 0, .rw⟩, ⟨"RESEND", 25, 16, .rw⟩]⟩,
    ⟨"INT_CFG", 0x90, 1, 4, 0x6401f4, [⟨"FLUSH_US", 11, 0, .rw⟩, ⟨"REGION_IDLE", 27, 16, .rw⟩]⟩,
    ⟨"REB_CFG", 0x94, 1, 4, 0x12c80c8, [⟨"RATE", 14, 0, .rw⟩, ⟨"EN", 15, 15, .rw⟩, ⟨"DELAY", 31, 16, .rw⟩]⟩,
    ⟨"LOSS_LO", 0xa0, 1, 4, 0, [⟨"WHAT", 31, 0, .ro⟩]⟩,
    ⟨"LOSS_HI", 0xa4, 1, 4, 0,
      [⟨"STRIPE_HI", 7, 0, .rc⟩, ⟨"SET", 11, 8, .rc⟩, ⟨"CLASS", 18, 12, .rc⟩, ⟨"KIND", 19, 19, .rc⟩, ⟨"VALID", 31, 31, .rc⟩]⟩,
    ⟨"LOSS_CNT", 0xa8, 1, 4, 0, [⟨"DEPTH", 8, 0, .ro⟩, ⟨"OVF", 31, 16, .rc⟩]⟩,
    ⟨"SHARE_TX_LO", 0x100, 1, 8, 0, [⟨"CNT", 31, 0, .rwc⟩]⟩,
    ⟨"SHARE_TX_HI", 0x104, 1, 8, 0, [⟨"CNT", 15, 0, .rwc⟩]⟩,
    ⟨"SHARE_RX_LO", 0x108, 1, 8, 0, [⟨"CNT", 31, 0, .rwc⟩]⟩,
    ⟨"SHARE_RX_HI", 0x10c, 1, 8, 0, [⟨"CNT", 15, 0, .rwc⟩]⟩,
    ⟨"RECON_LO", 0x110, 1, 8, 0, [⟨"CNT", 31, 0, .rwc⟩]⟩ ]

def regsTgn2_1 : List RegDesc :=
  [ ⟨"RECON_HI", 0x114, 1, 8, 0, [⟨"CNT", 15, 0, .rwc⟩]⟩,
    ⟨"HEDGE_LO", 0x118, 1, 8, 0, [⟨"CNT", 31, 0, .rwc⟩]⟩,
    ⟨"HEDGE_HI", 0x11c, 1, 8, 0, [⟨"CNT", 15, 0, .rwc⟩]⟩,
    ⟨"RECON_FAIL_LO", 0x120, 1, 8, 0, [⟨"CNT", 31, 0, .rwc⟩]⟩,
    ⟨"RECON_FAIL_HI", 0x124, 1, 8, 0, [⟨"CNT", 15, 0, .rwc⟩]⟩,
    ⟨"REBUILT_LO", 0x128, 1, 8, 0, [⟨"CNT", 31, 0, .rwc⟩]⟩,
    ⟨"REBUILT_HI", 0x12c, 1, 8, 0, [⟨"CNT", 15, 0, .rwc⟩]⟩ ]

def regsTgn2 : List RegDesc :=
  regsTgn2_0 ++ regsTgn2_1

def regsTgn3 : List RegDesc :=
  [ ⟨"EPOCH_CFG", 0x80, 1, 4, 0x7d031f4, [⟨"BEAT", 11, 0, .rw⟩, ⟨"MISS", 15, 12, .rw⟩, ⟨"GAP", 31, 16, .rw⟩]⟩,
    ⟨"JOIN_CFG", 0x84, 1, 4, 0x64, [⟨"SEED_TMO", 15, 0, .rw⟩, ⟨"AUTO", 16, 16, .rw⟩]⟩,
    ⟨"JOIN_CTL", 0x88, 1, 4, 0, [⟨"JOIN", 0, 0, .w1s⟩, ⟨"LEAVE", 1, 1, .w1s⟩]⟩,
    ⟨"JOIN_STS", 0x8c, 1, 4, 0, [⟨"STATE", 2, 0, .ro⟩, ⟨"TRIES", 15, 8, .ro⟩, ⟨"WAIT", 31, 16, .ro⟩]⟩,
    ⟨"CMD", 0x90, 1, 4, 0, [⟨"OP", 3, 0, .rw⟩, ⟨"GO", 4, 4, .w1s⟩, ⟨"SET", 11, 8, .rw⟩]⟩,
    ⟨"CMD_STS", 0x94, 1, 4, 0, [⟨"RESULT", 3, 0, .ro⟩, ⟨"PROGRESS", 31, 4, .ro⟩]⟩,
    ⟨"EPOCH_CNT", 0x98, 1, 4, 0, [⟨"APPLIED", 15, 0, .rc⟩, ⟨"GAPS", 31, 16, .rc⟩]⟩ ]

def regsEvc0 : List RegDesc :=
  [ ⟨"EVC_CTL", 0x80, 1, 4, 0, [⟨"SNAP", 0, 0, .w1s⟩]⟩,
    ⟨"GCNT_SEL", 0x100, 8, 0x20, 0, [⟨"SRC", 9, 0, .rw⟩, ⟨"MODE", 10, 10, .rw⟩, ⟨"EN", 11, 11, .rw⟩]⟩,
    ⟨"GCNT_LO", 0x108, 8, 0x20, 0, [⟨"CNT", 31, 0, .rwc⟩]⟩,
    ⟨"GCNT_HI", 0x10c, 8, 0x20, 0, [⟨"CNT", 15, 0, .rwc⟩]⟩,
    ⟨"GTHR_LO", 0x110, 8, 0x20, 0, [⟨"CNT", 31, 0, .rw⟩]⟩,
    ⟨"GTHR_HI", 0x114, 8, 0x20, 0, [⟨"CNT", 15, 0, .rw⟩]⟩,
    ⟨"GSNAP_LO", 0x118, 8, 0x20, 0, [⟨"CNT", 31, 0, .ro⟩]⟩,
    ⟨"GSNAP_HI", 0x11c, 8, 0x20, 0, [⟨"CNT", 15, 0, .ro⟩]⟩,
    ⟨"SW_RAISE", 0x300, 1, 4, 0, [⟨"INDEX", 6, 0, .wo⟩]⟩ ]

def regsEvc1 : List RegDesc :=
  [ ⟨"ROUTE", 0x80, 640, 4, 0,
      [⟨"VEC", 7, 0, .rw⟩, ⟨"VEC_EN", 8, 8, .rw⟩, ⟨"LINE", 14, 9, .rw⟩, ⟨"LINE_EN", 15, 15, .rw⟩, ⟨"PULSE", 19, 16, .rw⟩, ⟨"PULSE_EN", 20, 20, .rw⟩, ⟨"ACLR", 21, 21, .rw⟩]⟩ ]

def regsEvc2 : List RegDesc :=
  [ ⟨"PEND", 0x80, 20, 4, 0, [⟨"PEND", 31, 0, .w1c⟩]⟩,
    ⟨"LEVEL", 0x100, 20, 4, 0, [⟨"LEVEL", 31, 0, .ro⟩]⟩ ]

end Sys2Proof.Machine
end

