-- ==== Sys2Proof/Machine/Pages.lean ====
section
/-! DEFINITION. The register space: the page table of R29, the Ledger of R31 and R32, the lookup of a register by
its BAR2 offset, and the reset value of every register. -/

namespace Sys2Proof.Machine

/-- The blocks of R29. -/
inductive Block where
  | ledger | sys | aon | pwr | clk | rail | flt | esc | boot | mcl | dma | ciph | mem | dmc | pci | nvm
  | chan | ftl | rdp | plj | chv | ist | net | tgn | evc
  deriving DecidableEq, Repr

/-- A row of the page table of R29: code, base offset, instances and their stride, pages per instance, and the
Ledger flags. -/
structure PageRow where
  block : Block
  code : Nat
  base : Nat
  insts : Nat
  stride : Nat
  pages : Nat
  lockable : Bool
  hostWp : Bool
  /-- PAGE_CTL.EN is RO and reads 1 -/
  always : Bool
  deriving DecidableEq, Repr

/-- The page table of R29, in ascending offset order. -/
def pageRows : List PageRow :=
  [ ⟨.ledger, 0x01, 0x0000000, 1, 0x10000, 1, false, false, false⟩,
    ⟨.sys, 0x02, 0x0010000, 1, 0x10000, 1, false, false, true⟩,
    ⟨.aon, 0x03, 0x0020000, 1, 0x10000, 1, true, false, true⟩,
    ⟨.pwr, 0x04, 0x0030000, 1, 0x10000, 1, true, false, true⟩,
    ⟨.clk, 0x05, 0x0040000, 1, 0x10000, 1, true, false, true⟩,
    ⟨.rail, 0x06, 0x0050000, 1, 0x10000, 1, true, false, false⟩,
    ⟨.flt, 0x07, 0x0060000, 1, 0x10000, 2, true, false, true⟩,
    ⟨.esc, 0x08, 0x0070000, 1, 0x10000, 4, true, false, false⟩,
    ⟨.boot, 0x09, 0x0080000, 1, 0x10000, 1, true, true, true⟩,
    ⟨.mcl, 0x0A, 0x0090000, 1, 0x10000, 2, true, true, true⟩,
    ⟨.dma, 0x0B, 0x00A0000, 32, 0x1000, 1, true, false, false⟩,
    ⟨.ciph, 0x0C, 0x00C0000, 1, 0x10000, 1, true, true, false⟩,
    ⟨.mem, 0x0D, 0x00D0000, 1, 0x10000, 1, true, true, true⟩,
    ⟨.dmc, 0x0E, 0x00E0000, 2, 0x1000, 1, true, false, false⟩,
    ⟨.pci, 0x0F, 0x0100000, 1, 0x10000, 1, true, false, true⟩,
    ⟨.nvm, 0x10, 0x0110000, 1, 0x10000, 1, true, false, false⟩,
    ⟨.chan, 0x11, 0x0200000, 32, 0x1000, 1, true, false, false⟩,
    ⟨.ftl, 0x12, 0x0240000, 1, 0x10000, 4, true, false, false⟩,
    ⟨.rdp, 0x13, 0x0280000, 1, 0x10000, 4, true, false, false⟩,
    ⟨.plj, 0x14, 0x02C0000, 1, 0x10000, 1, true, false, false⟩,
    ⟨.chv, 0x15, 0x0300000, 16, 0x1000, 1, true, false, false⟩,
    ⟨.ist, 0x16, 0x0310000, 1, 0x10000, 2, true, false, false⟩,
    ⟨.net, 0x17, 0x0340000, 2, 0x10000, 4, true, false, false⟩,
    ⟨.tgn, 0x18, 0x0380000, 1, 0x10000, 4, true, false, false⟩,
    ⟨.evc, 0x19, 0x03C0000, 1, 0x10000, 3, true, false, true⟩ ]

/-- A page found by an offset: its row, the instance and the page within the instance. -/
structure PageAt where
  row : PageRow
  inst : Nat
  page : Nat
  deriving DecidableEq, Repr

/-- The page of row `r` that holds the offset, if one does (R29). -/
def PageRow.at_ (r : PageRow) (off : Nat) : Option PageAt :=
  if r.base ≤ off ∧ off < r.base + r.insts * r.stride then
    if (off - r.base) % r.stride < r.pages * 0x1000 then
      some ⟨r, (off - r.base) / r.stride, (off - r.base) % r.stride / 0x1000⟩
    else none
  else none

/-- The first page of the rows that holds the offset. -/
def findPageIn : List PageRow → Nat → Option PageAt
  | [], _ => none
  | r :: rs, off => match r.at_ off with
    | some p => some p
    | none => findPageIn rs off

/-- The page at a BAR2 offset; none where the offset is unmapped (R30). -/
def findPage (off : Nat) : Option PageAt := findPageIn pageRows off

/-- The power domain of a page (R29, R31). -/
def PageAt.domain (p : PageAt) : Nat :=
  match p.row.block with
  | .aon | .pwr => 0
  | .esc => 31
  | .boot => 33
  | .dma | .tgn => 32
  | .ciph => 30
  | .dmc => 25 + p.inst
  | .pci | .nvm => 27
  | .chan => 17 + p.inst / 4
  | .chv => 11 + p.inst / 4
  | .net => 28 + p.inst
  | _ => 6

/-- The clock domain (number of R389) whose branch a page's own registers need, where that clock can be released;
none for the pages served from ck_fab, ck_ref or ck_aon. -/
def PageAt.clock (p : PageAt) : Option Nat :=
  match p.row.block with
  | .esc => some 14
  | .boot => some 15
  | .ciph => some 6
  | .dmc => some 9
  | .pci | .nvm => some 11
  | .chan => some 7
  | .chv => some 4
  | .net => some (12 + p.inst)
  | _ => none

/-- The PLL of a clock domain (R389), by its number in CLK.PLL_STS. -/
def clockPll (d : Nat) : Option Nat :=
  if d = 2 then some 0
  else if d = 3 ∨ d = 4 ∨ d = 9 ∨ d = 10 then some 1
  else if d = 5 ∨ d = 6 then some 2
  else if d = 7 ∨ d = 8 then some 3
  else if d = 14 ∨ d = 15 then some 4
  else if d = 11 then some 5
  else if d = 12 then some 6
  else if d = 13 then some 7
  else none

/-- The registers of the common page header (R29, the common page header; PAGE_ID is read through the page). -/
def headerRegs : List RegDesc :=
  [ ⟨"PAGE_ID", 0x000, 1, 4, 0, [⟨"ID", 31, 0, .ro⟩]⟩,
    ⟨"PAGE_CTL", 0x004, 1, 4, 0x40,
      [⟨"EN", 0, 0, .rw⟩, ⟨"CKREQ", 2, 1, .rw⟩, ⟨"IDLE_HOLD", 7, 4, .rw⟩, ⟨"LOCK", 8, 8, .rw⟩]⟩,
    ⟨"PAGE_STS", 0x008, 1, 4, 0,
      [⟨"RUNNING", 0, 0, .ro⟩, ⟨"CLK_ON", 1, 1, .ro⟩, ⟨"LOCKED", 2, 2, .ro⟩, ⟨"REJ", 3, 3, .w1c⟩,
       ⟨"EVT_OVF", 4, 4, .w1c⟩]⟩,
    ⟨"REJECT", 0x00C, 1, 4, 0, [⟨"OFFSET", 15, 0, .rc⟩, ⟨"CODE", 23, 16, .rc⟩, ⟨"COUNT", 31, 24, .rc⟩]⟩,
    ⟨"EVT_SEL", 0x010, 4, 4, 0, [⟨"SRC", 7, 0, .rw⟩, ⟨"MODE", 8, 8, .rw⟩]⟩,
    ⟨"EVT_CNT_LO", 0x020, 4, 8, 0, [⟨"CNT", 31, 0, .rwc⟩]⟩,
    ⟨"EVT_CNT_HI", 0x024, 4, 8, 0, [⟨"CNT", 15, 0, .rwc⟩]⟩ ]

/-- The block-specific registers of a page. -/
def pageRegs (b : Block) (inst page : Nat) : List RegDesc :=
  match b, page with
  | .sys, 0 => regsSys0
  | .aon, 0 => regsAon0
  | .pwr, 0 => regsPwr0
  | .clk, 0 => regsClk0
  | .rail, 0 => regsRail0
  | .flt, 0 => regsFlt0
  | .flt, 1 => regsFlt1
  | .esc, 0 => regsEsc0
  | .esc, 1 => regsEsc1
  | .esc, 2 => regsEsc2
  | .esc, 3 => regsEsc3
  | .boot, 0 => regsBoot0
  | .mcl, 0 => regsMcl0
  | .mcl, 1 => regsMcl1
  | .dma, 0 => regsDma0
  | .ciph, 0 => regsCiph0
  | .mem, 0 => regsMem0
  | .dmc, 0 => if inst = 0 then regsDmc0 else regsDmc0.filter (fun d => decide (0x180 ≤ d.off))
  | .pci, 0 => regsPci0
  | .nvm, 0 => regsNvm0
  | .chan, 0 => regsChan0
  | .ftl, 0 => regsFtl0
  | .ftl, 1 => regsFtl1
  | .ftl, 2 => regsFtl2
  | .ftl, 3 => regsFtl3
  | .rdp, 0 => regsRdp0
  | .rdp, 1 => regsRdp1
  | .rdp, 2 => regsRdp2
  | .rdp, 3 => regsRdp3
  | .plj, 0 => regsPlj0
  | .chv, 0 => regsChv0
  | .ist, 0 => regsIst0
  | .ist, 1 => regsIst1
  | .net, 0 => regsNet0
  | .net, 1 => regsNet1
  | .net, 2 => regsNet2
  | .net, 3 => regsNet3
  | .tgn, 0 => regsTgn0
  | .tgn, 1 => regsTgn1
  | .tgn, 2 => regsTgn2
  | .tgn, 3 => regsTgn3
  | .evc, 0 => regsEvc0
  | .evc, 1 => regsEvc1
  | .evc, 2 => regsEvc2
  | _, _ => []

/-- The descriptor covers an offset of its page. -/
def RegDesc.covers (d : RegDesc) (o : Nat) : Bool :=
  decide (d.off ≤ o) && decide (o < d.off + d.count * d.stride) && decide ((o - d.off) % d.stride = 0)

/-- The descriptor of the register at an offset of a page; none where the offset is RSV. -/
def PageAt.reg (p : PageAt) (o : Nat) : Option RegDesc :=
  if p.row.block = .ledger then none
  else if o < 0x80 then headerRegs.find? (fun d => d.covers o)
  else (pageRegs p.row.block p.inst p.page).find? (fun d => d.covers o)

/-- PAGE_ID of a page (common page header). -/
def PageAt.pageId (p : PageAt) : Nat :=
  p.row.code + p.inst * 2 ^ 8 + p.page * 2 ^ 16 + p.row.pages * 2 ^ 24

/-- The value a register holds at reset: its caption's, with the resets that depend on the page or the instance. -/
def resetWord (off : Nat) : Word :=
  match findPage off with
  | none => 0
  | some p =>
    match p.reg (off % 0x1000) with
    | none => 0
    | some d =>
      if off % 0x1000 = 0 then BitVec.ofNat 32 p.pageId
      else if off % 0x1000 = 4 then (if p.row.always then 0x41 else 0x40)
      else if p.row.block = .dma ∧ off % 0x1000 = 0x80 ∧ 24 ≤ p.inst then 0x8000
      else BitVec.ofNat 32 d.reset

/-- The pages in ascending offset order, one entry per page (R32). -/
def ledgerPages : List PageAt :=
  pageRows.flatMap fun r =>
    (List.range r.insts).flatMap fun i => (List.range r.pages).map fun p => ⟨r, i, p⟩

/-- The BAR2 offset of a page (R29). -/
def PageAt.base (p : PageAt) : Nat := p.row.base + p.inst * p.row.stride + p.page * 0x1000

/-- Dword `w` (0 to 3) of a page's Ledger entry (R31). -/
def PageAt.ledgerWord (p : PageAt) (w : Nat) : Nat :=
  if w = 0 then p.base
  else if w = 1 then p.row.code + p.inst * 2 ^ 8 + p.page * 2 ^ 16 + p.row.pages * 2 ^ 24
  else if w = 2 then p.domain + (b2n p.row.lockable + 2 * b2n p.row.hostWp) * 2 ^ 8
  else 0

/-- The word the Ledger ROM reads at a page offset (R31, R32). -/
def ledgerRead (o : Nat) : Nat :=
  if o < 0x800 then
    match ledgerPages[o / 16]? with
    | some p => p.ledgerWord (o % 16 / 4)
    | none => 0
  else 0

/-- The Ledger index of an instance's page 0, the SRC of its fault messages (R549). -/
def ledgerIndex (b : Block) (inst : Nat) : Nat :=
  (ledgerPages.findIdx? (fun p => decide (p.row.block = b) && decide (p.inst = inst) && decide (p.page = 0))).getD 0

/-- Configuration space as a reset leaves it, by dword (R334 to R336); Subsystem ID and serial number follow the
PCI page and are shown by the read. -/
def cfgReset (o : Nat) : Word :=
  if o = 0x00 then 0x96401FE4
  else if o = 0x04 then 0x00100000
  else if o = 0x08 then 0x01080202
  else if o = 0x10 ∨ o = 0x18 ∨ o = 0x20 then 0x4
  else if o = 0x2C then 0x96401FE4
  else if o = 0x34 then 0x40
  else if o = 0x3C then 0x0100
  else if o = 0x40 then 0xC9035001
  else if o = 0x44 then 0x8
  else if o = 0x50 then 0x00FF6011
  else if o = 0x54 then 0x4
  else if o = 0x58 then 0x2004
  else if o = 0x60 then 0x00020010
  else if o = 0x64 then 0x10008022
  else if o = 0x68 then 0x2910
  else if o = 0x6C then 0x00476886
  else if o = 0x84 then 0x0013081F
  else if o = 0x8C then 0x7E
  else if o = 0x100 then 0x14820001
  else if o = 0x108 then 0x00400000
  else if o = 0x10C then 0x00462030
  else if o = 0x114 then 0x2000
  else if o = 0x148 then 0x17010019
  else if o = 0x170 then 0x18010025
  else if o = 0x180 then 0x1B010026
  else if o = 0x1B0 then 0x1E01002A
  else if o = 0x1E0 then 0x20010031
  else if o = 0x200 then 0x23010027
  else if o = 0x230 then 0x24010003
  else if o = 0x240 then 0x2501001E
  else if o = 0x244 then 0x00280A0F
  else if o = 0x250 then 0x26010018
  else if o = 0x260 then 0x2701002F
  else if o = 0x264 then 0x6
  else if o = 0x270 then 0x00010032
  else 0

end Sys2Proof.Machine
end

