-- ==== Sys2Proof/Machine/State.lean ====
section
/-! DEFINITION. The state of the part as plain data: the registers of BAR2 (each status bit has its one home there),
and block by block the state that no register shows; the reasons a step can stop; the state after reset. -/

namespace Sys2Proof.Machine

open Sys2Proof

/-- Why a step stops with a fault.  No meaning of this model raises one: the spec gives every step an effect. -/
inductive Fault where
  /-- never raised; kept so that the type has a name to report (safe) -/
  | none_
  deriving DecidableEq, Repr

/-- Why a step is refused. -/
inductive Refusal where
  /-- the command of this mnemonic has no meaning yet (safe: the model stops) -/
  | notModelled (mnemonic : String)
  deriving DecidableEq, Repr

/-! ## Chapter 02: register pages and events -/

/-- The hidden state of the register system: latches and held words of 48-bit pairs by requester (R39), record
copies by requester (R150, R280, R361, R542, R556), and accesses held for a clock or a power domain (R36, R37). -/
structure SysSt where
  /-- latched high words: pair offset × 8 + requester number ↦ high word -/
  latch : SMap Nat
  /-- held low words: pair offset × 8 + requester number ↦ low word -/
  heldLo : SMap Nat
  /-- record copies: window offset × 8 + requester number ↦ words of the record -/
  copies : SMap (List Nat)
  /-- held accesses, oldest first -/
  held : List Access
  deriving DecidableEq, Repr

/-- The hidden state of EVC: MSI-X messages held while no interrupt mode is enabled (R49), the ck_ref cycle in which
a counter last counted an active pulse (R585), and the page levels seen active at the last ck_ref cycle (R585). -/
structure EvcSt where
  heldMsi : List Nat
  lastCyc : SMap Nat
  levels : SMap Bool
  deriving DecidableEq, Repr

/-! ## Chapter 12: clocks, power and time -/

/-- The step of sleep entry or exit that runs (R397, R398). -/
inductive SleepStep where
  | awake | drain | flush | park | settle | asleep | exit
  deriving DecidableEq, Repr

/-- The hidden state of AON, PWR and CLK. -/
structure PwrSt where
  /-- fraction of a Hairspring tick already passed, in 1/64 ns (R410: a tick is 1,953,125/64 ns) -/
  hsAcc : Nat
  /-- step of entry or exit -/
  step : SleepStep
  /-- the state that the entry goes to, or that was reached: 1 NAP, 2 DEEP (R396) -/
  target : Nat
  /-- deadlines of entry steps 2 and 4 (R397), and the time at which exit began, on the time line `now` -/
  drainAt : Nat
  parkAt : Nat
  exitAt : Nat
  /-- device time and Hairspring count at the stop (R409), while device time stands still -/
  stopped : Option (Nat × Nat)
  /-- a wake recognised during entry makes exit begin when the state is reached (R399) -/
  wakeLatched : Bool
  /-- cores waiting for an interrupt (R394, R397), bit c -/
  coreWait : Nat
  /-- core interrupt lines held at the core boundary (R397 step 5) -/
  lineHold : Bool
  /-- domains that do not come on: domain ↦ time of the switch-on (R393) -/
  rising : SMap Nat
  /-- pages whose clock waits for a PLL to lock again (R391) -/
  clkWait : List Nat
  /-- time of a page's last clocked work (R390): page offset ↦ time -/
  lastWork : SMap Nat
  /-- PLLs whose lock was lost (R391) -/
  unlocked : List Nat
  /-- REF25_IN lost its edges (R391) -/
  refLost : Bool
  deriving DecidableEq, Repr

def PwrSt.reset : PwrSt :=
  { hsAcc := 0, step := .awake, target := 0, drainAt := 0, parkAt := 0, exitAt := 0, stopped := none, wakeLatched := false,
    coreWait := 0, lineHold := false, rising := [], clkWait := [], lastWork := [], unlocked := [], refLost := false }

/-! ## Chapter 19: faults -/

/-- One row of the pending table (R559): sequence number, escalation time used in ns, its limit in ns, and whether
half of it has been reported (R560). -/
structure PendRec where
  seq : Nat
  used : Nat
  limit : Nat
  halfDone : Bool
  deriving DecidableEq, Repr

/-- A message in FLT's input queue with the count of messages of its arrival cycle (R553). -/
structure InMsg where
  msg : FaultMsg
  same : Bool
  n : Nat
  deriving DecidableEq, Repr

/-- The hidden state of FLT. -/
structure FltSt where
  /-- messages raised at their sources and not yet at FLT (the fault links), oldest first -/
  links : List FaultMsg
  /-- the 64-entry input queue (R552) -/
  inq : List InMsg
  /-- the ring: position ↦ record (R555) -/
  ring : SMap FaultRec
  /-- the pending table, oldest first (R559) -/
  pend : List PendRec
  firstF : Option FaultRec
  firstU : Option FaultRec
  firstC : Option FaultRec
  /-- C records of the present second of device time: second, count (R558) -/
  cSec : Nat
  cCnt : Nat
  /-- the device is in HALT (R565) -/
  halt : Bool
  /-- the fault message in the sticky bank (R565, R567) -/
  haltRec : Option FaultMsg
  deriving DecidableEq, Repr

/-! ## Chapter 10: the PCI Express endpoint -/

/-- Who waits for a host read (R347, ERR_0.SRC): a DMA channel's descriptor at a ring index, the NVMe command engine
for a submission entry of a queue or for the data of a command, or nobody, for a read whose data is discarded. -/
inductive ReadOwner where
  | dma (ch idx : Nat)
  | sqe (sq : Nat)
  | nvm (cmd : Nat)
  | gone
  deriving DecidableEq, Repr

/-- One outstanding host read (R343 to R346): owner, host address, bytes, offset in the transfer, time of issue. -/
structure HostRead where
  owner : ReadOwner
  addr : Nat
  len : Nat
  off : Nat
  at_ : Nat
  deriving DecidableEq, Repr

/-- The hidden state of the endpoint. -/
structure PciSt where
  /-- configuration space: dword offset ↦ value (R334 to R336), unlisted as at reset -/
  cfg : SMap Word
  /-- MSI-X table: vector × 4 + dword ↦ value, unlisted as at reset (R335) -/
  msix : SMap Word
  /-- PBA bits that are set (R352): vectors in rising order -/
  pba : List Nat
  /-- host reads outstanding: tag ↦ read (R343) -/
  reads : SMap HostRead
  /-- tags held out of the pool: tag ↦ time of return (R346) -/
  tagHold : SMap Nat
  /-- pool in force while a change of tag mode waits (R344) -/
  oldPool : Option Nat
  /-- PERST_N is asserted -/
  perst : Bool
  /-- the function is in D3hot (R356) -/
  d3 : Bool
  /-- time at which the link first reached L0 after the reset, for CFG_OPEN (R337) -/
  firstL0 : Option Nat
  /-- a reset that waits for BRACED (R358): 1 hot reset, 2 FLR, 3 link down, 4 PERST_N -/
  resetWait : List Nat
  /-- requesters that hold ERR_0 to ERR_2 frozen (R361), rising -/
  errFrozen : List Nat
  /-- what the partner offered at the last training: speed code, width code (R332) -/
  partner : Option (Nat × Nat)
  /-- last LTR latency sent, in µs, none for no requirement (R355) -/
  ltr : Option Nat
  /-- WAKE_N is asserted (R356) -/
  wakeN : Bool
  deriving DecidableEq, Repr

/-! ## Chapter 17: the DMA channels and the cipher engine -/

/-- A descriptor in progress (R511): ring index, the descriptor, its completion code, bus error kind and bytes done
once they are known, the poison mark, and the bytes of host reads asked for and received. -/
structure DmaJob where
  idx : Nat
  d : Desc
  code : Option Nat
  detail : Nat
  doneLen : Nat
  poison : Bool
  asked : Nat
  recv : Nat
  deriving DecidableEq, Repr

/-- The hidden state of a DMA channel. -/
structure DmaSt where
  /-- descriptors in progress, in ring order, at most 4 (R511) -/
  active : List DmaJob
  /-- ring index of the next descriptor to start -/
  next : Nat
  /-- descriptors released and not yet started, in a pulse mode (R516) -/
  released : Nat
  /-- pulses of the selected event-pulse output that no DMA_TRIGGER has taken yet (R516) -/
  trig : Nat
  /-- the last descriptor started had GROUP = 1, so the next belongs to its group (R508) -/
  inGroup : Bool
  /-- a descriptor of the present group did not end OK (R513) -/
  groupBad : Bool
  /-- descriptors that the NVMe engine has given to the channel, oldest first (R507) -/
  jobs : List Desc
  deriving DecidableEq, Repr

/-- A channel as a reset leaves it. -/
def DmaSt.reset : DmaSt := ⟨[], 0, 0, 0, false, false, []⟩

/-- A key slot (R519). -/
structure KeySlot where
  valid : Bool
  long : Bool
  use : Nat
  domain : Nat
  gen : Nat
  key : Bytes
  deriving DecidableEq, Repr

/-- A slot after a cold reset (R519). -/
def KeySlot.reset : KeySlot := ⟨false, false, 0, 0, 0, []⟩

/-- A write or clear of a key slot that waits under R520; `none` is a clear.  `cmd` says that KCMD waits for it. -/
structure SlotWrite where
  slot : Nat
  key : Option KeySlot
  cmd : Bool
  deriving DecidableEq, Repr

/-- The hidden state of the cipher engine. -/
structure CiphSt where
  slots : SMap KeySlot
  writes : List SlotWrite
  /-- units waiting at the ports, oldest first -/
  queue : List CiphUnit
  /-- busy pipelines: pipeline ↦ the key slots that its unit names and the time at which it ends -/
  pipes : SMap (List Nat × Nat)
  /-- the port served last (R518) -/
  last : Nat
  /-- time of a slot's last CIPHER fault (R521) -/
  lastFault : SMap Nat
  deriving DecidableEq, Repr

/-! ## Chapters 16 and 18: stored data and its protection -/

/-- An access of a port that the DRAM front end has not admitted yet (R489 to R492): port, DRAM address, number of
bytes, the bytes of a write, poison mark of a write, and the time since which it waits. -/
structure DramAcc where
  port : Nat
  addr : Nat
  len : Nat
  data : Option Bytes
  poison : Bool
  since : Nat
  deriving DecidableEq, Repr

/-- The hidden state of one DRAM channel. -/
structure DmcSt where
  /-- refreshes owed: rank × 2 + subchannel ↦ count (R495) -/
  owed : SMap Nat
  /-- ranks in which a device reports a 2× refresh rate (R495), rising -/
  hot : List Nat
  /-- mode registers written by MRW: (rank × 2 + subchannel) × 256 + register ↦ value (R504) -/
  mr : SMap Nat
  /-- PHY delays: DLY_IDX ↦ value, and the trained values taken at entry to LIVE (R498) -/
  dly : SMap Nat
  trained : SMap Nat
  /-- ALERT_N is asserted, and the times of its last assertions, newest first (R503) -/
  alert : Bool
  alerts : List Nat
  /-- times at which accesses were issued lately, newest first, for the replay of R503 -/
  recent : List Nat
  deriving DecidableEq, Repr

/-- A channel as a reset leaves it. -/
def DmcSt.reset : DmcSt := ⟨[], [], [], [], [], false, [], []⟩

/-- Who holds a staging slot (R16, R17): nobody, an NVMe command, an egress flow, an IST PUT, an FTL or RDP job, a
Tarragon job, or firmware. -/
inductive SlotOwner where
  | free
  | nvm (cmd : Nat)
  | flow (id : Nat)
  | put (id : Nat)
  | ftl (job : Nat)
  | tgn (job : Nat)
  | firmware
  deriving DecidableEq, Repr

/-- A 4 KiB staging slot (R16): its owner, its bytes (shorter than 4 KiB where the rest reads 0), its 16-byte words
that carry the poison mark, and the words stored with injected damage (R536, R544). -/
structure StgSlot where
  owner : SlotOwner
  data : Bytes
  poison : List Nat
  damage : SMap Nat
  deriving DecidableEq, Repr

/-- A free slot. -/
def StgSlot.free : StgSlot := ⟨.free, [], [], []⟩

/-- The memories: DRAM by byte, the lines that carry valid code (filled ranges and single lines), its poisoned and
damaged lines (R535, R544), the core local SRAM by byte, the staging slots, and MEM's own bookkeeping. -/
structure MemSt where
  /-- DRAM bytes that are not 0 -/
  dram : List Host.Cell
  /-- DRAM ranges (first line, one past the last line) filled with zeros and valid code (R499), oldest first -/
  filled : List (Nat × Nat)
  /-- lines written whole outside those ranges (line numbers, rising) -/
  wrote : List Nat
  /-- poisoned DRAM lines (line numbers, rising) -/
  poison : List Nat
  /-- damaged DRAM lines: line ↦ INJ_CTL.KIND of the damage (R544) -/
  damage : SMap Nat
  /-- core local SRAM bytes that are not 0 (offset in the 4 MiB region of R27) -/
  sram : List Host.Cell
  /-- the 16,384 staging slots (R16) that are not free -/
  stg : SMap StgSlot
  /-- time of the last MEMORY fault of a class: class ↦ time of a U fault (R541), class + 16 ↦ second of a C fault
  (R543) -/
  lastFault : SMap Nat
  /-- corrected errors of the present second: second of device time, class ↦ count (R543) -/
  ceSec : Nat
  ceCnt : SMap Nat
  /-- the newest correction while CE_REC is frozen, as the three words of the record (R542) -/
  ceShadow : Option (List Nat)
  /-- requesters that hold CE_REC or UE_REC frozen (R542), rising -/
  ceFrozen : List Nat
  ueFrozen : List Nat
  /-- accesses that wait at the DRAM ports, in order of arrival (R490 to R492, R499, R501) -/
  wait : List DramAcc
  /-- token buckets: port ↦ bytes (R490) -/
  bucket : SMap Nat
  /-- the port served last (R491) -/
  lastPort : Nat
  deriving DecidableEq, Repr

/-- The memories as a cold reset leaves them. -/
def MemSt.reset : MemSt := ⟨[], [], [], [], [], [], [], [], 0, [], none, [], [], [], [], 7⟩

/-! ## Chapter 09: the NVMe command engine (part) -/

/-- A completion queue (R285): size in entries, base, vector, interrupts enabled, head (the host's), tail, phase tag;
completions since its last interrupt and the time of the first of them (R287). -/
structure Cq where
  size : Nat
  base : Nat
  iv : Nat
  ien : Bool
  head : Nat
  tail : Nat
  phase : Bool
  waiting : Nat
  first : Nat
  deriving DecidableEq, Repr

/-- A submission queue (R285): size, base, its completion queue, head (the engine's), tail (the host's doorbell). -/
structure Sq where
  size : Nat
  base : Nat
  cqid : Nat
  head : Nat
  tail : Nat
  deriving DecidableEq, Repr

/-- A range-lock entry (R290): namespace (0 for NSID 1), first LBA, one past the last, and a Write or deallocation. -/
structure Lock where
  ns : Nat
  lo : Nat
  hi : Nat
  wr : Bool
  deriving DecidableEq, Repr

/-- A command that the engine holds: its queue (0 the admin queue), submission entry, the ranges of a Dataset Management, the
class of its queue at fetch (R96), its range locks, stage (0 fetched, 1 started, 2 finished), status (SC and SCT as in R289,
DNR bit 14) and Dword 0, the host pages it moves data to, the flash reads not yet delivered (LBA, PSA), the LBAs that cannot be
read, the staging slots of its write data by LBA, the PUs not yet issued, and a PU of it that could not be read or was
poisoned. -/
structure NvmCmd where
  sq : Nat
  sqe : Bytes
  data : Bytes
  cls : Nat
  locks : List Lock
  stage : Nat
  status : Nat
  dw0 : Nat
  prps : List Nat
  wait : List (Nat × Nat)
  bad : List Nat
  slots : SMap Nat
  left : Nat
  cut : Option Nat
  deriving DecidableEq, Repr

/-- An entry of the Error Information log (R303): error count, SQID, CID, status, LBA, NSID. -/
structure ErrEntry where
  count : Nat
  sq : Nat
  cid : Nat
  status : Nat
  lba : Nat
  nsid : Nat
  deriving DecidableEq, Repr

/-- The hidden state of the NVMe command engine: INTMS; CC, AQA, ASQ, ACQ and CSTS.CFS (R283, R284); completion and submission
queues by identifier, 0 the admin queue; the commands held, by order of fetch, and the next order number; the command in the
mailbox (R325); the I/O queue served last and what is left of its turn (R286); features by FID and selector where not at their
default (R307); the APST table (ITPT, ITPS) (R319); the timestamp set by the host (R309); Asynchronous Event Requests held, events
that wait for one (type, information, page), and the SMART warnings already reported (R315); the Error Information log and its
count (R303); the SMART counters by byte of the log, where not 0 (R304); BRACE_REC.LATE since the last Format; the shutdown asked
for (R320); the firmware pieces received since the last Commit (R312); a Class Drop under way (command, step) (R316); the last
operational power state (R318); the time since which the controller is idle (R319); and an admin command woke the part, which goes back
to its power state after the completion (R318). -/
structure NvmSt where
  intms : Word
  cc : Word
  aqa : Word
  asq : Nat
  acq : Nat
  cfs : Bool
  cqs : SMap Cq
  sqs : SMap Sq
  cmds : SMap NvmCmd
  next : Nat
  mbox : Option Nat
  lastSq : Nat
  turn : Nat
  feats : SMap Nat
  apst : List (Nat × Nat)
  tsHost : Bool
  aers : List Nat
  aeq : List (Nat × Nat × Nat)
  told : Nat
  errs : List ErrEntry
  errCount : Nat
  smart : SMap Nat
  late : Bool
  shn : Nat
  fw : List (Nat × Bytes)
  drop : Option (Nat × Nat)
  lastOp : Nat
  idle : Nat
  again : Bool
  deriving DecidableEq, Repr

def NvmSt.reset : NvmSt :=
  { intms := 0, cc := 0, aqa := 0, asq := 0, acq := 0, cfs := false, cqs := [], sqs := [], cmds := [], next := 0, mbox := none,
    lastSq := 0, turn := 0, feats := [], apst := List.replicate 32 (0, 0), tsHost := false, aers := [], aeq := [], told := 0,
    errs := [], errCount := 0, smart := [], late := false, shn := 0, fw := [], drop := none, lastOp := 0, idle := 0, again := false }

/-! ## Chapter 03: flash channels -/

/-- Where an operation of a channel stands: queued, running in the die, transferring its data out, told to suspend, or
suspended. -/
inductive OpStage where
  | queued | running | transfer | suspending | suspended
  deriving DecidableEq, Repr

/-- An operation a channel holds: number, request, stage, arrival, start of its present run, a refused claim in this
window (R73), suspensions (R68), a HELD notice sent (R70), and issue during the die's present suspension (R69). -/
structure ChanOp where
  id : Nat
  req : OpReq
  stage : OpStage
  since : Nat
  runAt : Nat
  waited : Bool
  susp : Nat
  held : Bool
  joined : Bool
  deriving DecidableEq, Repr

/-- Why a die is being reset (R66, R77): a timeout, a quiesce, or FW_OP. -/
inductive ResetWhy where
  | timeout | quiesce | fw
  deriving DecidableEq, Repr

/-- What a channel knows of a die beyond DIE_STATE: reason, suspend and temperature support, loop limits, last
temperature as a byte, read offsets last applied, features unknown since a reset (R60), last timeout, time of the next
temperature sample, a reset under way, and the reads of the present suspension that have transferred (R69). -/
structure DieSt where
  reason : Nat
  nosusp : Bool
  tempOk : Bool
  loopSet : Bool
  temp : Nat
  ofs : Option Nat
  stale : Bool
  lastTmo : Option Nat
  tempDue : Option Nat
  reset : Option ResetWhy
  suspReads : Nat
  deriving DecidableEq, Repr

/-- A die that nothing is known of. -/
def DieSt.none_ : DieSt := ⟨0, false, false, false, 0x80, none, true, none, none, none, 0⟩

/-- The hidden state of a flash channel: operations in order of arrival, requests that wait for a credit, the number of
the next operation, the die served last, the dies, the die under discovery, credits spent in this window, and operations
refused a claim in it. -/
structure ChanSt where
  ops : List ChanOp
  backlog : List OpReq
  nextId : Nat
  last : Nat
  dies : SMap DieSt
  probe : Option Nat
  spent : Nat
  refused : Nat
  deriving DecidableEq, Repr

/-- A channel as a reset leaves it. -/
def ChanSt.reset : ChanSt := ⟨[], [], 0, 31, [], none, 0, 0⟩


/-! ## Chapters 04 to 06: placement, the read path, the journal and the brace -/

/-- A substitute block of a superblock (R92): channel, local die, block. -/
structure Subst where
  ch : Nat
  die : Nat
  block : Nat
  deriving DecidableEq, Repr

/-- A superblock record (R92) and what the FTL keeps beside it: the sum and number of the program temperatures, whether
it holds data (0), parity (1), journal chunks (2), intent chunks (4) or a checkpoint (5) or is the reserve (3), the highest
sequence number of a journal entry in it, the time of its last program, the sequence
number of the entry that freed it (R160), reads of it in flight (R113), the position of its last CPTR (R155), erases of
its members not yet done, and a verify codeword that failed (R104). -/
structure SbRec where
  state : Nat
  erased : Bool
  cls : Nat
  slc : Bool
  pe : Nat
  substs : List Subst
  vfyFail : Bool
  early : Bool
  spare : Bool
  openTime : Nat
  closeTime : Nat
  tempSum : Nat
  tempN : Nat
  tempMin : Nat
  tempMax : Nat
  tempEst : Bool
  timeUnk : Bool
  parityHeld : Bool
  valid : Nat
  wptr : Nat
  missing : Nat
  openSeq : Nat
  plogCnt : Nat
  use : Nat
  lastWrite : Nat
  freeSeq : Nat
  reads : Nat
  conf : Nat
  lastSeq : Nat
  erasing : Nat
  vfyBad : Bool
  deriving DecidableEq, Repr

/-- A PU whose programs have not all completed: its request, sequence number, programs left, and whether one failed. -/
structure PuJob where
  req : PuReq
  seq : Nat
  left : Nat
  bad : Bool
  deriving DecidableEq, Repr

/-- A stripe row's parity (R102): PUs added, the XOR of their data and of their tags, where the parity PU was placed,
and whether its program has completed. -/
structure ParRow where
  n : Nat
  data : Bytes
  tag : Bytes
  psa : Option Nat
  durable : Bool
  deriving DecidableEq, Repr

/-- An atomic group of a write command (R156): PUs not yet issued and the map changes that wait. -/
structure Group where
  left : Nat
  upds : List MapUpd
  deriving DecidableEq, Repr

/-- The hidden state of the FTL: superblock records that are not as at enabling, the home dies missing per local die
(R90), block-owner entries that are not home entries (R91), PUs in progress, parity rows, the superblock each class wrote
last (R99), PUs that wait for placement, map changes that wait for the journal (R159), atomic groups, the collection
victim, the wear-levelling victim, B0 and D0 (R118), a rebuild owed for a PU (R103, R117),
the minute in which the victim scores were last computed (R111), a running class drop with the segments whose
write-back it waits for (R108), what writers have still to hear of their PUs, and the dies known to be lost (R117). -/
structure FtlSt where
  sbs : SMap SbRec
  home : List Nat
  own : SMap Nat
  pus : SMap PuJob
  par : SMap ParRow
  rot : SMap Nat
  waiting : List PuReq
  stalled : List MapUpd
  groups : SMap Group
  victim : Option Nat
  wl : Option Nat
  b0 : Nat
  d0 : Nat
  repairs : List (Nat × Nat)
  scoreMin : Nat
  drop : Option (Nat × Option (List Nat))
  news : List (WriteFor × PuNews)
  lost : List Nat
  deriving DecidableEq, Repr

def FtlSt.reset : FtlSt := ⟨[], [], [], [], [], [], [], [], [], none, none, 0, 0, [], 0, none, [], []⟩

/-- A chunk of the journal or of the stripe-intent journal whose program waits, runs or has ended (R157, R158, R258): its
number, entries or records (or the index of its part of a snapshot), flags (BRACE 1, SHORT 2, END 4, SNAP 8), device time
of the flush, the superblock and plane page it goes to, and the result once known. -/
structure ChunkJob where
  no : Nat
  ents : List JEntry
  recs : List IntentRec
  snap : Option Nat
  flags : Nat
  time : Nat
  pos : Option (Nat × Nat)
  result : Option Bool
  deriving DecidableEq, Repr

/-- A dirty map segment (R161): number, since when, and the highest sequence number applied to it. -/
structure DirtySeg where
  seg : Nat
  since : Nat
  seq : Nat
  deriving DecidableEq, Repr

/-- A checkpoint under way (R163): sequence number, replay point, its superblock once opened, the PSA of its first
directory PU, directory PUs programmed, whether one is being programmed, and the number of its CKPT entry once appended. -/
structure CkptJob where
  seq : Nat
  replay : Nat
  sb : Option Nat
  first : Nat
  done : Nat
  busy : Bool
  entry : Option Nat
  deriving DecidableEq, Repr

/-- A brace under way: kind (1 full, 2 short, 3 null), time of recognition, the END chunk written, and the rail groups
being switched off. -/
structure BraceJob where
  kind : Nat
  start : Nat
  ended : Bool
  rails : Bool
  deriving DecidableEq, Repr

/-- The hidden state of PLJ: unflushed entries and since when the oldest waits, chunks in progress, the next chunk number;
unflushed intent records, since when, the next record number, their chunks, the next chunk number, and records since the
last snapshot; dirty segments in order, the latest copy of each segment (segment ↦ PSA × 4 + slot, SEG_SEQ), entries
appended since the last checkpoint, a checkpoint under way, the replay point of the one before, the
directories that are kept (superblock, PUs), newest first; plane pages used in the
present position of the journal and of the intent superblock; the reserve superblock and the plane pages used in its
present position; the brace, the end of the dead time, brace writes not yet done, the time at which recovery started, the
PUs that a short brace aborted (R176), and the operations that a brace cancelled. -/
structure PljSt where
  ents : List JEntry
  since : Nat
  chunks : List ChunkJob
  chunkNo : Nat
  recs : List IntentRec
  recSince : Nat
  recNo : Nat
  ichunks : List ChunkJob
  ichunkNo : Nat
  sinceSnap : Nat
  dirty : List DirtySeg
  segs : SMap (Nat × Nat)
  sinceCkpt : Nat
  ckpt : Option CkptJob
  prevReplay : Nat
  dirs : List (Nat × Nat)
  jpage : Nat
  ipage : Nat
  reserve : Option Nat
  rpage : Nat
  brace : Option BraceJob
  deadEnd : Option Nat
  waitTails : Nat
  recStart : Nat
  abortedPus : List (Nat × Nat)
  kept : List (Nat × OpReq)
  deriving DecidableEq, Repr

def PljSt.reset : PljSt :=
  { ents := [], since := 0, chunks := [], chunkNo := 0, recs := [], recSince := 0, recNo := 0, ichunks := [],
    ichunkNo := 0, sinceSnap := 0, dirty := [], segs := [], sinceCkpt := 0, ckpt := none, prevReplay := 0, dirs := [], jpage := 0,
    ipage := 0, reserve := none, rpage := 0, brace := none, deadEnd := some (50 * 10 ^ 6), waitTails := 0, recStart := 0,
    abortedPus := [], kept := [] }

/-- A codeword that a channel has delivered to a decoder (R126, R127): who reads, its PSA, the offset entry used, and
the ladder it serves. -/
structure CwRead where
  who : ReadFor
  psa : Nat
  entry : Nat
  ladder : Option Nat
  deriving DecidableEq, Repr

/-- A retry ladder (R136, R137): number, PSA of the codeword, those who wait for it, step, re-read within step 2, the
steps entered (bit k − 1), the offset set with the fewest unsatisfied checks, that count, whether the step's read is
under way, and the offset entry. -/
structure Ladder where
  id : Nat
  psa : Nat
  who : List ReadFor
  step : Nat
  sub : Nat
  tried : Nat
  best : Nat
  unsat : Nat
  busy : Bool
  entry : Nat
  deriving DecidableEq, Repr

/-- An entry of the WEAK queue (R148). -/
structure Weak where
  sb : Nat
  maxBits : Nat
  unc : Bool
  src : Nat
  deriving DecidableEq, Repr

/-- A unit delivered to whoever reads: its data, none where it ended uncorrectable (R144). -/
structure Got where
  who : ReadFor
  psa : Nat
  data : Option Bytes
  deriving DecidableEq, Repr

/-- The hidden state of RDP: codewords at the decoders, ladders, failed codewords waiting for one, the next ladder
number, units delivered, the WEAK queue, the newest UNC record behind a freeze and the requesters that hold it, the last
MEDIA_UNC fault of a superblock, read-disturb checks owed and held, the patrol pass (unit, highest bits, weak, UNC)
the bytes patrolled in this window, and PSAs handed to Tarragon for a reconstruct (R140). -/
structure RdpSt where
  cws : List CwRead
  ladders : List Ladder
  waiting : List CwRead
  nextId : Nat
  got : List Got
  weak : List Weak
  uncShadow : Option (List Nat)
  uncFrozen : List Nat
  lastUnc : SMap Nat
  checks : List (Nat × Nat × Nat)
  heldRd : List Nat
  patPos : Nat
  patBits : Nat
  patWeak : Bool
  patUnc : Bool
  patBytes : Nat
  recon : List Nat
  deriving DecidableEq, Repr

def RdpSt.reset : RdpSt := ⟨[], [], [], 0, [], [], none, [], [], [], [], 0, 0, false, false, 0, []⟩

/-- The hidden state of RAIL: the groups a sequence has still to take, the group whose sequence slot runs and the slot's
end, the retry whose slot runs and its end, the ends of cool-downs, the groups whose limiter is active, the OFF groups
whose gate was pulled low by CTL.OFF and when, and the sleep undervoltages whose fault waits for RUN (R422): group,
LOC; and the time of the last switch-off by a brace or by HALT (R420). -/
structure RailSt where
  seq : List Nat
  slot : Option (Nat × Nat)
  retry : Option (Nat × Nat)
  cool : SMap Nat
  limit : List Nat
  offAt : SMap Nat
  deferred : List (Nat × Nat)
  lastDrop : Nat
  deriving DecidableEq, Repr

def RailSt.reset : RailSt := ⟨[], none, none, [], [], [], [], 0⟩

/-- An engine's place in its microcode (R466 to R469): the address of its next word, its return stack (top first), the
stack depth at which it entered a vector routine, its pending inputs (bit 4 the fault notice, bits 0 to 3 the interrupts)
and the clocks counted since its last safe point. -/
structure EngSt where
  pc : Nat
  stack : List Nat
  vec : Option Nat
  pend : Nat
  clocks : Nat
  deriving DecidableEq, Repr

def EngSt.reset : EngSt := ⟨0, [], none, 0, 0⟩

/-- The hidden state of MCL: the words of the control stores and the engines, both by class and instance (SEQ 1, PAR 2, CHV
3; the nanostore is 4, its copies its instances). -/
structure MclSt where
  store : SMap Nat
  eng : SMap EngSt
  deriving DecidableEq, Repr

/-! ## Chapter 14: boot and update -/

/-- The fuses that change during a part's life (R448): SVN bits, owner hashes, KEY_REVOKE, PATCH_REVOKE, DBG_DISABLE. -/
structure Fuses where
  svn : Nat
  owner0 : Bytes
  owner1 : Bytes
  keyRevoke : Nat
  patchRevoke : Nat
  dbgDisable : Bool
  deriving DecidableEq, Repr

/-- Fuses of which none is blown. -/
def Fuses.blank : Fuses := ⟨0, List.replicate 48 0, List.replicate 48 0, 0, 0, false⟩

/-- The hidden state of BOOT and of the TAP: the fuses as blown and as last sensed (R448), the serial NOR's bytes that are
not 0xFF and how the ROM reads it (R442: 0 quad, 1 single at 50 MHz, 2 single with 3-byte addresses), when the watchdog was
armed and whether its half has been reported (R456), the Hairspring count at which DEBUG_OPEN ends (R452), unwraps refused
until the next reboot (R450), the TAP's instruction and a shift into the token buffer in progress (R453, R460), core 0 held
before a run of the boot ROM, and the board's mode as the board configuration gave it at the last start: content mode or
plain-NVMe mode (R1, R444). -/
structure BootSt where
  fuses : Fuses
  sensed : Fuses
  nor : SMap Byte
  norMode : Nat
  wdtAt : Nat
  wdtHalf : Bool
  debugEnd : Option Nat
  noRoot : Bool
  tapIr : Nat
  tapShift : Bool
  due : Bool
  content : Bool
  deriving DecidableEq, Repr

def BootSt.reset : BootSt := ⟨Fuses.blank, Fuses.blank, [], 0, 0, false, none, false, 2, false, true, false⟩

/-! ## Chapters 07 and 08: the segment service and Tarragon -/

/-- A sent data packet that is not acknowledged: offset and bytes, time of its last sending, sendings, and whether an ACK has
declared it lost (R222). -/
structure Pkt where
  off : Nat
  len : Nat
  at_ : Nat
  times : Nat
  acked : Bool
  declared : Bool
  deriving DecidableEq, Repr

/-- The sending side of a flow (R216 to R229): inline bytes ahead of the object's; the first content IU of the object and the
object offset at which the flow starts; bytes to send; the next 4 KiB unit to read, units being read (unit, PSA), staged
units, the first unit that could not be read; packets that are not acknowledged; next offset and PSN; the last packet sent;
highest CUM; rate, advertised rate, the client's rate cap and window; time of the last rate change, no loss since; smoothed round trip in ns;
expiries without progress; due time in 1/256 µs; why it is off the wheel (0 on it, 1 data, 2 window, 3 rate); packets to send
again; and the first response seen acknowledged. -/
structure Snd where
  pre : Bytes
  iu : Nat
  start : Nat
  len : Nat
  next : Nat
  wait : List (Nat × Nat)
  slots : SMap Nat
  bad : Option Nat
  pkts : SMap Pkt
  off : Nat
  psn : Nat
  ended : Bool
  cum : Nat
  rate : Nat
  adv : Nat
  cap : Nat
  win : Nat
  change : Nat
  clean : Bool
  srtt : Nat
  expiries : Nat
  due : Nat
  why : Nat
  retx : List Nat
  deriving DecidableEq, Repr

def Snd.none_ : Snd := ⟨[], 0, 0, 0, 0, [], [], none, [], 0, 0, false, 0, 0, 0, 0, 0, 0, true, 0, 0, 0, 0, []⟩

/-- The receiving side of a flow (R221, R233): bytes expected, ranges received, staged units, end of the advertised window,
lowest PSN not received and those received above it, packets since the last ACK, the window last advertised, time of the last
data. -/
structure Rcv where
  len : Nat
  have_ : List (Nat × Nat)
  slots : SMap Nat
  win : Nat
  cum : Nat
  above : List Nat
  sinceAck : Nat
  adv : Nat
  last : Nat
  deriving DecidableEq, Repr

def Rcv.none_ : Rcv := ⟨0, [], [], 0, 0, [], 0, 0, 0⟩

/-- What a flow is for: a GET or GET_RANGE served, a PUT received, a GET_SHARD served, a GET_SHARD asked (reconstruct and
position), a share sent (job), a share received, an epoch sent (member). -/
inductive FlowKind where
  | get
  | put
  | shardOut
  | shardIn (recon pos : Nat)
  | shareOut (job : Nat)
  | shareIn
  | epochOut (member : Nat)
  deriving DecidableEq, Repr

/-- The PUT of a flow (R232 to R235): redundancy set, REPLACE, index entry, its segment and whether the copy that holds the
VALID entry is programmed, IUs handed to placement and IUs placed, IUs that could not be read, the entry written as VALID,
and the old IUs of a REPLACE (first, number, class). -/
structure PutSt where
  set : Option Nat
  repl : Bool
  ent : Nat
  iu : Nat
  given : List Nat
  placed : List Nat
  unread : Bool
  valid : Bool
  copied : Bool
  old : Option (Nat × Nat)
  deriving DecidableEq, Repr

/-- A flow (R201 to R204): kind, generation, engine, client or member ID, request number, peer message, correspondent, the
FLOW_ID of the other side, key, OP, context held, class, and what it sends and receives. -/
structure Flow where
  kind : FlowKind
  gen : Nat
  eng : Nat
  cid : Nat
  reqId : Nat
  peer : Bool
  addr : NetAddr
  remote : Nat
  key : Nat
  op : Nat
  ctx : Bool
  cls : Nat
  snd : Snd
  rcv : Rcv
  put : Option PutSt
  deriving DecidableEq, Repr

/-- A key slot of the client cache (R199): client, generation of its blob, and last use. -/
structure KeyTag where
  cid : Nat
  gen : Nat
  used : Nat
  deriving DecidableEq, Repr

/-- The hidden state of the segment service: key cache, flows by index, generations of the indexes, the extent that a class
and set fills and the next IU in it, dirty index segments (segment, since, number of its last change), copies being
programmed (segment, number), changes counted, deallocations that wait for a lookup (first IU, number), a PURGE that waits
for contexts, uses counted, and the side that was last served a context (true: IST). -/
structure IstSt where
  cache : SMap KeyTag
  flows : SMap Flow
  gens : SMap Nat
  cur : SMap (Nat × Nat)
  dirty : List (Nat × Nat × Nat)
  copies : List (Nat × Nat)
  changes : Nat
  free : List (Nat × Nat)
  purge : Option Nat
  uses : Nat
  lastIst : Bool
  deriving DecidableEq, Repr

def IstSt.reset : IstSt := ⟨[], [], [], [], [], [], 0, [], none, 0, false⟩

/-- The hidden state of a NET port: messages without data that wait, the time in ps at which the line is free, what is left
of EGR_CAP and of new data's share in this window, whether the cap was hit in it, neighbour requests not yet answered (IPv4,
IPv6), and the wake token. -/
structure NetSt where
  ctrl : List Dgram
  line : Nat
  cap : Nat
  newB : Nat
  hit : Bool
  ask4 : Bool
  ask6 : Bool
  tok : Nat
  deriving DecidableEq, Repr

/-- A port as a reset leaves it: EGR_CAP's reset value, and 245/256 of a 400 Gb/s window. -/
def NetSt.reset : NetSt := ⟨[], 0, 5000000, 4785156, false, false, false, 0⟩

/-- An IU that the contributor keeps until its shares are answered (R251 to R255): set, class, sequence index, content IU,
plaintext, R19 met, and the shares to the P and the Q holder: 0 owed, 1 sent, 2 answered, 3 none owed. -/
structure ShareCopy where
  set : Nat
  cls : Nat
  seq : Nat
  iu : Nat
  data : Bytes
  met : Bool
  p : Nat
  q : Nat
  deriving DecidableEq, Repr

/-- A PUT_SHARD under way: set, class, to the Q holder, the holder's slot, first sequence index, IUs, request number. -/
structure ShareJob where
  set : Nat
  cls : Nat
  q : Bool
  slot : Nat
  first : Nat
  n : Nat
  at_ : Nat
  deriving DecidableEq, Repr

/-- A parity IU in the holder's part of the share buffer (R253): set, class, stripe, IU of the chunk, position (k or k + 1), role
(1 P, 2 Q, 3 stand-in), content so far, the units of the stored IU still to be read (PSA, and units read), time of the oldest
unwritten share, the shares not yet written (contributor slot, sequence index, flow) and those in the program under way. -/
structure ParIu where
  set : Nat
  cls : Nat
  stripe : Nat
  j : Nat
  pos : Nat
  role : Nat
  data : Bytes
  base : Option (Nat × List Nat)
  first : Nat
  shares : List (Nat × Nat × Nat)
  going : Option (List (Nat × Nat × Nat))
  deriving DecidableEq, Repr

/-- An open intent or dirty region (R257): set, class, stripe or region, slots of the holders, number of its record, last time
at which a share of it was unanswered. -/
structure OpenInt where
  set : Nat
  cls : Nat
  dirty : Bool
  at_ : Nat
  pslot : Nat
  qslot : Nat
  no : Nat
  busy : Nat
  deriving DecidableEq, Repr

/-- A read of a reconstruct (R261): position, KIND, slot it goes to, its flow, time sent (none while it waits for a flow),
first response seen, 0 outstanding, 1 data received, 2 missing, and the data (a parity read's contribution map first). -/
structure PeerRead where
  pos : Nat
  kind : Nat
  slot : Nat
  flow : Option Nat
  sent : Option Nat
  seen : Bool
  st : Nat
  data : Bytes
  deriving DecidableEq, Repr

/-- A reconstruct (R261 to R263): set, class, stripe, position, IU of the chunk, the PSA of the IU that RDP hands over, or the
rebuild job and content IU it works for, reads, hedge sent, start, and restarted under a new layout. -/
structure Recon where
  set : Nat
  cls : Nat
  stripe : Nat
  pos : Nat
  j : Nat
  psa : Option Nat
  job : Option (Nat × Nat)
  reads : List PeerRead
  hedged : Bool
  start : Nat
  again : Bool
  deriving DecidableEq, Repr

/-- A repair (2), a backfill (4), a stand-in's rebuild (5) or the resync of a set (6): set, class, slot rebuilt, what is to do
(content IU and 0; stripe and position; or own sequence index and role), next IU of the first chunk, the slot's high-water, the
next moment at which REB_CFG.RATE allows an IU, chunks done, an IU (of the job, of the present chunk) that could not be rebuilt, the
high-water still to be asked for, and the units of an own IU read so far (its PSA in `at_`). -/
structure RebJob where
  kind : Nat
  set : Nat
  cls : Nat
  slot : Nat
  todo : List (Nat × Nat)
  j : Nat
  hw : Nat
  nextAt : Nat
  done : Nat
  partial_ : Bool
  hurt : Bool
  wait : Bool
  at_ : Option Nat
  buf : SMap Bytes
  deriving DecidableEq, Repr

/-- A READ_HW (R260, R275): of a resync, or of a rebuild job, set, class, stripe, position asked, contributor slot, and sent. -/
structure HwAsk where
  job : Option Nat
  set : Nat
  cls : Nat
  stripe : Nat
  pos : Nat
  slot : Nat
  sent : Bool
  deriving DecidableEq, Repr

/-- A change of an epoch (R266): member, KIND (1 UP, 2 DOWN, 3 REMOVED, 4 SLOT), SET_UID, slot, generation. -/
structure Change where
  member : Nat
  kind : Nat
  uid : Nat
  slot : Nat
  gen : Nat
  deriving DecidableEq, Repr

/-- Why a HELLO was sent: to a seed, to the root by a joiner, a leaver, a reporter (of a suspect, with its table bytes) or a
prober, to a peer after a gap, or by the root to a suspect. -/
inductive HelloWhy where
  | seed | join | leave
  | suspect (member : Nat) (entry : Bytes)
  | probe | query | check
  deriving DecidableEq, Repr

/-- A HELLO that is not answered yet: why, member asked, address, time sent, and the time at which a BUSY answer lets it be
repeated. -/
structure Hello where
  why : HelloWhy
  member : Nat
  addr : NetAddr
  sent : Nat
  retry : Option Nat
  deriving DecidableEq, Repr

/-- The hidden state of Tarragon: the HW table (R252), chunks rebuilt as a stand-in or backfilled (set, class, stripe × 16 +
position, number among the held chunks), the contributor's copies,
PUT_SHARDs under way by flow, moments before which a holder that was BUSY is not asked again, the holder's parity IUs by content
IU, responses that wait for HOLD records (record, flow), open intents and regions;
reconstructs, rebuild jobs, READ_HWs, chunks that a stand-in frees when a flow ends, the class sets still to be resynced; the
LOSS queue and the requesters that freeze it (R280); own state (0 none, 1 joining, 2 UP, 3 leaving, 4 REMOVED), the epochs kept
(R267), changes and joins that the root has queued, suspects, members DOWN since, HELLOs by request number, the record number at the last complete snapshot, back-off window and
end, next seed, times at which parent and root were heard, the last issue, the next request number and next job. -/
structure TgnSt where
  hw : SMap Nat
  full : List (Nat × Nat × Nat × Nat)
  copies : List ShareCopy
  jobs : SMap ShareJob
  holdoff : SMap Nat
  par : SMap ParIu
  holdWait : List (Nat × Nat)
  ints : List OpenInt
  recons : SMap Recon
  rebs : SMap RebJob
  asks : SMap HwAsk
  frees : SMap (Nat × Nat)
  resync : List Nat
  loss : List (Nat × Nat)
  lossFrozen : SMap (Nat × Nat)
  own : Nat
  hist : List (Nat × List Change)
  queue : List Change
  joins : List Nat
  suspects : SMap Bytes
  down : SMap Nat
  hellos : SMap Hello
  snapNo : Nat
  window : Nat
  backEnd : Nat
  seed : Nat
  heardParent : Nat
  heardRoot : Nat
  lastIssue : Nat
  reqNo : Nat
  jobNo : Nat
  deriving DecidableEq, Repr

def TgnSt.reset : TgnSt :=
  { hw := [], full := [], copies := [], jobs := [], holdoff := [], par := [], holdWait := [], ints := [],
    recons := [], rebs := [], asks := [], frees := [], resync := [], loss := [], lossFrozen := [], own := 0, hist := [],
    queue := [], joins := [], suspects := [], down := [], hellos := [], snapNo := 0, window := 0, backEnd := 0, seed := 0,
    heardParent := 0, heardRoot := 0, lastIssue := 0, reqNo := 1, jobNo := 1 }

/-! ## Chapter 11: the governor -/

/-- The hidden state of ESC: the integrators with 32 fraction bits (R367); the last output; the band bit of the region
(R375); warm-up samples left, and loops still to be set up after RUN (R382); the samples in a row with y0 valid while
SENS_LOST is 1; samples in a row that count towards CAP_UNMET (R380); a pin in force at the last sample (R381); a die
temperature taken since the last sample (R368); budget and egress caps that wait for the next boundary (R15); the trace
(position ↦ nodes), samples until the next entry, a trigger that waits for an entry, and entries left after it (R385). -/
structure EscSt where
  ints : List Int
  uPrev : Int
  hband : Nat
  warm : Nat
  fresh : Bool
  good : Nat
  capRun : Nat
  wasPinned : Bool
  y1new : Bool
  bud : Option Nat
  egr : Option (Nat × Nat)
  trace : SMap (List Nat)
  decim : Nat
  trig : Bool
  post : Option Nat
  deriving DecidableEq, Repr

def EscSt.reset : EscSt :=
  { ints := [0, 0, 0, 0], uPrev := 65536, hband := 0, warm := 0, fresh := false, good := 0, capRun := 0, wasPinned := false,
    y1new := false, bud := none, egr := none, trace := [], decim := 0, trig := false, post := none }


/-! ## The whole part -/

/-- The state of the part. -/
structure State where
  /-- nanoseconds since power-on, the time line of every deadline (R407's 40 ns per ck_ref cycle) -/
  now : Nat
  /-- the model's own counter of free values (values the spec leaves open) -/
  free : Nat
  /-- the registers: BAR2 offset ↦ word, listing only registers that differ from their reset value -/
  regs : SMap Word
  sys : SysSt
  evc : EvcSt
  pwr : PwrSt
  flt : FltSt
  pci : PciSt
  dma : SMap DmaSt
  ciph : CiphSt
  mem : MemSt
  dmc : SMap DmcSt
  nvm : NvmSt
  chan : SMap ChanSt
  /-- channel operations completed and not yet taken by their requesters: channel, operation, completion code -/
  done : List (Nat × ChanOp × Nat)
  /-- HELD notices (R70) that their requesters have not yet taken: channel, operation, busy time -/
  notices : List (Nat × Nat × Nat)
  ftl : FtlSt
  plj : PljSt
  rdp : RdpSt
  rail : RailSt
  mcl : MclSt
  boot : BootSt
  ist : IstSt
  net : SMap NetSt
  tgn : TgnSt
  esc : EscSt
  /-- everything the part has sent outwards, newest first -/
  out : List Out
  /-- the commands that wait, first in, first out -/
  pending : List Instr
  deriving DecidableEq, Repr


/-! ### One part of the state changed -/

/-- The state with its hidden registers part changed. -/
def State.onSys (s : State) (f : SysSt → SysSt) : State := { s with sys := f s.sys }

/-- The state with its hidden EVC part changed. -/
def State.onEvc (s : State) (f : EvcSt → EvcSt) : State := { s with evc := f s.evc }

/-- The state with its hidden power part changed. -/
def State.onPwr (s : State) (f : PwrSt → PwrSt) : State := { s with pwr := f s.pwr }

/-- The state with its hidden fault part changed. -/
def State.onFlt (s : State) (f : FltSt → FltSt) : State := { s with flt := f s.flt }

/-- The state with its hidden endpoint part changed. -/
def State.onPci (s : State) (f : PciSt → PciSt) : State := { s with pci := f s.pci }

/-- The state with its hidden cipher part changed. -/
def State.onCiph (s : State) (f : CiphSt → CiphSt) : State := { s with ciph := f s.ciph }

/-- The state with its hidden memory part changed. -/
def State.onMem (s : State) (f : MemSt → MemSt) : State := { s with mem := f s.mem }

/-- The state with its hidden NVMe part changed. -/
def State.onNvm (s : State) (f : NvmSt → NvmSt) : State := { s with nvm := f s.nvm }

/-- The state with its hidden FTL part changed. -/
def State.onFtl (s : State) (f : FtlSt → FtlSt) : State := { s with ftl := f s.ftl }

/-- The state with its hidden PLJ part changed. -/
def State.onPlj (s : State) (f : PljSt → PljSt) : State := { s with plj := f s.plj }

/-- The state with its hidden RDP part changed. -/
def State.onRdp (s : State) (f : RdpSt → RdpSt) : State := { s with rdp := f s.rdp }

/-- The state with its hidden RAIL part changed. -/
def State.onRail (s : State) (f : RailSt → RailSt) : State := { s with rail := f s.rail }

/-- The state with its hidden MCL part changed. -/
def State.onMcl (s : State) (f : MclSt → MclSt) : State := { s with mcl := f s.mcl }

/-- The state with its hidden BOOT part changed. -/
def State.onBoot (s : State) (f : BootSt → BootSt) : State := { s with boot := f s.boot }

/-- The state with its hidden segment-service part changed. -/
def State.onIst (s : State) (f : IstSt → IstSt) : State := { s with ist := f s.ist }

/-- A NET port's hidden state, and the state with it changed. -/
def State.netSt (s : State) (n : Nat) : NetSt := s.net.get (fun _ => NetSt.reset) n

def State.onNet (s : State) (n : Nat) (f : NetSt → NetSt) : State :=
  { s with net := s.net.set (fun _ => NetSt.reset) n (f (s.netSt n)) }

/-- The state with its hidden Tarragon part changed. -/
def State.onTgn (s : State) (f : TgnSt → TgnSt) : State := { s with tgn := f s.tgn }

/-- The state with its hidden governor part changed. -/
def State.onEsc (s : State) (f : EscSt → EscSt) : State := { s with esc := f s.esc }

/-- The part right after a cold reset at power-on (R45). -/
def State.reset : State where
  now := 0
  free := 0
  regs := []
  sys := ⟨[], [], [], []⟩
  evc := ⟨[], [], []⟩
  pwr := PwrSt.reset
  flt := ⟨[], [], [], [], none, none, none, 0, 0, false, none⟩
  pci := ⟨[], [], [], [], [], none, true, false, none, [], [], none, none, false⟩
  dma := []
  ciph := ⟨[], [], [], [], 4, []⟩
  mem := MemSt.reset
  dmc := []
  nvm := NvmSt.reset
  chan := []
  done := []
  notices := []
  ftl := FtlSt.reset
  plj := PljSt.reset
  rdp := RdpSt.reset
  rail := RailSt.reset
  mcl := ⟨[], []⟩
  boot := BootSt.reset
  ist := IstSt.reset
  net := []
  tgn := TgnSt.reset
  esc := EscSt.reset
  out := []
  pending := []

end Sys2Proof.Machine
end

