-- ==== Sys2Proof/Machine/Ops.lean ====
section
/-! DEFINITION. The operations every family shares: reading and writing registers and fields, the 48-bit counters,
raising events, interrupt messages, and raising faults. -/

namespace Sys2Proof.Machine

open Sys2Proof

/-! ### Registers and fields -/

/-- The word a register holds. -/
def State.rd (s : State) (off : Nat) : Word := s.regs.get resetWord off

/-- The state with a word in a register. -/
def State.wr (s : State) (off : Nat) (w : Word) : State := { s with regs := s.regs.set resetWord off w }

/-- The value of a field. -/
def State.get (s : State) (f : FRef) : Nat := (s.rd f.off).fld f.lo f.wd

/-- The state with a value (modulo its width) in a field. -/
def State.put (s : State) (f : FRef) (v : Nat) : State := s.wr f.off ((s.rd f.off).setFld f.lo f.wd v)

/-- A one-bit field as a Boolean. -/
def State.flag (s : State) (f : FRef) : Bool := s.get f ≠ 0

/-- Bit `i` of a field. -/
def State.fbit (s : State) (f : FRef) (i : Nat) : Bool := (s.get f).testBit i

/-- The state with bit `i` of a field set or cleared. -/
def State.putBit (s : State) (f : FRef) (i : Nat) (b : Bool) : State :=
  if s.fbit f i = b then s
  else s.put f (if b then s.get f + 2 ^ i else s.get f - 2 ^ i)

/-- A saturating increment of a field by `n` (the counts that the tables call saturating). -/
def State.bump (s : State) (f : FRef) (n : Nat) : State := s.put f (satAdd (2 ^ f.wd - 1) (s.get f) n)

/-- A two-word number: low word at `off`, high word at `off + 4`. -/
def State.rd64 (s : State) (off : Nat) : Nat := (s.rd off).toNat + (s.rd (off + 4)).toNat * 2 ^ 32

/-- The state with a number in two words, low first. -/
def State.wr64 (s : State) (off v : Nat) : State :=
  (s.wr off (BitVec.ofNat 32 v)).wr (off + 4) (BitVec.ofNat 32 (v / 2 ^ 32))

/-- Something sent to the outside. -/
def State.emit (s : State) (o : Out) : State := { s with out := o :: s.out }

/-- A fresh free value below `bound`, and the state after it. -/
def State.fresh (s : State) (bound : Nat) : Nat × State :=
  (Config.freeValue s.free % bound, { s with free := s.free + 1 })

/-- The number of the present ck_ref cycle (40 ns, R389). -/
def State.cycle (s : State) : Nat := s.now / 40

/-- Device time in nanoseconds (R407). -/
def State.devTime (s : State) : Nat := s.rd64 R.AON_TIME_LO

/-! ### Counters (R39, R585) -/

/-- The 48-bit count of a pair. -/
def State.count (s : State) (off : Nat) : Nat := s.rd64 off % 2 ^ 48

/-- The page header fields of the page that holds an offset. -/
def pageOff (off : Nat) : Nat := off / 0x1000 * 0x1000

def hEN (p : Nat) : FRef := ⟨p + 4, 0, 1⟩
def hCKREQ (p : Nat) : FRef := ⟨p + 4, 1, 2⟩
def hIDLE_HOLD (p : Nat) : FRef := ⟨p + 4, 4, 4⟩
def hLOCK (p : Nat) : FRef := ⟨p + 4, 8, 1⟩
def hRUNNING (p : Nat) : FRef := ⟨p + 8, 0, 1⟩
def hCLK_ON (p : Nat) : FRef := ⟨p + 8, 1, 1⟩
def hREJ (p : Nat) : FRef := ⟨p + 8, 3, 1⟩
def hEVT_OVF (p : Nat) : FRef := ⟨p + 8, 4, 1⟩
def hREJ_OFFSET (p : Nat) : FRef := ⟨p + 0xC, 0, 16⟩
def hREJ_CODE (p : Nat) : FRef := ⟨p + 0xC, 16, 8⟩
def hREJ_COUNT (p : Nat) : FRef := ⟨p + 0xC, 24, 8⟩
def hSRC (p i : Nat) : FRef := ⟨p + 0x10 + 4 * i, 0, 8⟩
def hMODE (p i : Nat) : FRef := ⟨p + 0x10 + 4 * i, 8, 1⟩

/-- A 48-bit pair advanced by `n`; on passing 2^48 − 1 it wraps to 0 and sets EVT_OVF of its page (R39). -/
def State.addCount (s : State) (off n : Nat) : State :=
  let c := s.count off + n
  let s := s.wr64 off (c % 2 ^ 48)
  if c < 2 ^ 48 then s else s.put (hEVT_OVF (pageOff off)) 1

/-- One of a page's four event counters told of `n` events of block value `val` (R39, R585). -/
def State.evtOne (s : State) (p val n i : Nat) : State :=
  if n = 0 then s
  else if s.get (hSRC p i) = val then
    if s.get (hMODE p i) = 0 then s.addCount (p + 0x20 + 8 * i) n
    else if s.evc.lastCyc.holds (p + 0x20 + 8 * i) s.cycle then s
    else
      let s := (s.onEvc fun x => { x with lastCyc := SMap.put x.lastCyc (p + 0x20 + 8 * i) s.cycle })
      s.addCount (p + 0x20 + 8 * i) 1
  else s

/-- A page told of `n` events of one of its block values: each of its four counters that selects the value counts
(R39, R585). -/
def State.evt (s : State) (p val n : Nat) : State :=
  [0, 1, 2, 3].foldl (fun s i => s.evtOne p val n i) s

/-! ### Events (R46 to R51) -/

/-- PEND bit of a source. -/
def pendRef (src : Nat) : FRef := ⟨R.EVC_PEND (src / 32), src % 32, 1⟩

/-- LEVEL bit of a source. -/
def levelRef (src : Nat) : FRef := ⟨R.EVC_LEVEL (src / 32), src % 32, 1⟩

/-- The level sources, as the chapters' tables name them (R411, R569, R387, R546, R505, R327, R151, R184, R239,
R281). -/
def levelSources : List Nat := [2, 3, 12, 24, 29, 31, 42, 132, 137, 141, 160, 166, 337, 342, 357, 426, 476, 498]

/-- A source is a level: one of those, or TEMP_HI of a channel (R79). -/
def isLevel (src : Nat) : Bool := levelSources.contains src || (decide (192 ≤ src) && decide (src < 320) && decide (src % 4 = 3))

/-- MSI-X Enable and Function Mask (MSI-X control at configuration offset 0x50), Bus Master Enable, Memory Space
Enable and Interrupt Disable (Command). -/
def State.cfgRd (s : State) (o : Nat) : Word := s.pci.cfg.get cfgReset o

def State.msixEn (s : State) : Bool := (s.cfgRd 0x50).bit 31
def State.fnMask (s : State) : Bool := (s.cfgRd 0x50).bit 30
def State.memEn (s : State) : Bool := (s.cfgRd 0x04).bit 1
def State.busMaster (s : State) : Bool := (s.cfgRd 0x04).bit 2
def State.intDisable (s : State) : Bool := (s.cfgRd 0x04).bit 10

/-- INTx mode (R351). -/
def State.intxMode (s : State) : Bool := !s.msixEn && !s.intDisable

/-- The MSI-X table entry's dword, unlisted entries masked with zero address and data as at reset. -/
def msixReset (k : Nat) : Word := if k % 4 = 3 then 1 else 0

def State.msixWord (s : State) (vec w : Nat) : Word := s.pci.msix.get msixReset (4 * vec + w)

/-- A vector's own Mask bit. -/
def State.vecMask (s : State) (vec : Nat) : Bool := (s.msixWord vec 3).bit 0

/-- A number put into a list without repeats, in rising order. -/
def insertNat (n : Nat) : List Nat → List Nat
  | [] => [n]
  | m :: ms => if n < m then n :: m :: ms else if n = m then m :: ms else m :: insertNat n ms

/-- The message of a vector sent with the table entry as it stands (R352). -/
def State.sendMsix (s : State) (vec : Nat) : State :=
  s.emit (.msix vec ((s.msixWord vec 0).toNat + (s.msixWord vec 1).toNat * 2 ^ 32) (s.msixWord vec 2).toNat)

/-- A message for a vector in MSI-X mode (R352): recorded in the PBA while masked or while Bus Master Enable is 0. -/
def State.msix (s : State) (vec : Nat) : State :=
  if s.vecMask vec || s.fnMask || !s.busMaster then (s.onPci fun x => { x with pba := insertNat vec x.pba })
  else s.sendMsix vec

/-- An EVC source routed with VEC_EN = 1 has its pending bit set (R353). -/
def State.evcIntPending (s : State) : Bool :=
  s.regs.any fun e =>
    decide (R.EVC_ROUTE 0 ≤ e.1) && decide (e.1 ≤ R.EVC_ROUTE 639) && e.2.bit 8
      && s.flag (pendRef ((e.1 - R.EVC_ROUTE 0) / 4))

/-- A completion queue has entries that the host has not consumed (R353). -/
def State.nvmIntPending (s : State) : Bool := s.nvm.cqs.any fun e => e.2.ien && decide (e.2.head ≠ e.2.tail)

/-- INTA as R353 gives it now. -/
def State.intaNow (s : State) : Bool :=
  s.intxMode && !s.nvm.intms.bit 0 && (s.evcIntPending || s.nvmIntPending)

/-- INT_STS and INTA brought to the present mode (R351, R353); a change of INTA is signalled. -/
def State.intaRefresh (s : State) : State :=
  let was := s.flag R.PCI_INT_STS_INTA
  let mode := if s.msixEn then 1 else if s.intDisable then 0 else 2
  let s := ((s.put R.PCI_INT_STS_MODE mode).put R.PCI_INT_STS_FN_MASK (b2n s.fnMask))
  let now := s.intaNow
  let s := s.put R.PCI_INT_STS_INTA (b2n now)
  if was = now then s else s.emit (.inta now)

/-- EVC's message for a source (R49): issued in MSI-X mode, held while no mode is enabled, INTA in INTx mode. -/
def State.evcMessage (s : State) (src : Nat) : State :=
  if s.msixEn then
    let s := s.msix (s.get (R.EVC_ROUTE_VEC src))
    if s.flag (R.EVC_ROUTE_ACLR src) then s.put (pendRef src) 0 else s
  else if s.intxMode then s.intaRefresh
  else (s.onEvc fun x => { x with heldMsi := x.heldMsi ++ [src] })

/-- The hidden state of a DMA channel. -/
def State.dmaSt (s : State) (n : Nat) : DmaSt := s.dma.get (fun _ => DmaSt.reset) n

def State.setDma (s : State) (n : Nat) (f : DmaSt → DmaSt) : State :=
  { s with dma := s.dma.set (fun _ => DmaSt.reset) n (f (s.dmaSt n)) }

/-- A pulse of an event-pulse output counted by every DMA channel that selects it (R516). -/
def State.dmaTriggerPulse (s : State) (k : Nat) : State :=
  (List.range 32).foldl (fun s n =>
    if s.flag (R.DMA_CFG_TRIG_EN n) ∧ s.get (R.DMA_CFG_TRIG n) = k then
      s.setDma n fun d => { d with trig := d.trig + 1 }
    else s) s

/-- A pulse of event-pulse output `k` (R50): it reaches the DMA channels triggered by it (R516) and the ESC trace
trigger (R385). -/
def State.pulseOut (s : State) (k : Nat) : State :=
  let s := if s.flag R.ESC_TRC_CTL_ARM ∧ s.get R.ESC_TRC_CTL_TRIG = 3 ∧ s.get R.ESC_TRC_CTL_PULSE = k then
    s.onEsc fun x => { x with trig := true } else s
  (s.emit (.eventPulse k)).dmaTriggerPulse k

/-- The pending bit of a source set, with its deliveries when it was 0 (R47, R49, R50). -/
def State.pendSet (s : State) (src : Nat) : State :=
  if s.flag (pendRef src) then s
  else
    let s := s.put (pendRef src) 1
    let s := if s.flag (R.EVC_ROUTE_PULSE_EN src) then s.pulseOut (s.get (R.EVC_ROUTE_PULSE src)) else s
    if s.flag (R.EVC_ROUTE_VEC_EN src) then s.evcMessage src else s

/-- Global counter `k` told of an event of a source; a threshold crossed by counting pulses source 504 + k, which
`rec` raises (R51, R585). -/
def State.globalCount (rec : Nat → State → State) (src k : Nat) (s : State) : State :=
  if s.flag (R.EVC_GCNT_SEL_EN k) ∧ s.get (R.EVC_GCNT_SEL_SRC k) = src then
    let key := R.EVC_GCNT_LO k
    if s.flag (R.EVC_GCNT_SEL_MODE k) ∧ s.evc.lastCyc.holds key s.cycle then s
    else
      let s := if s.flag (R.EVC_GCNT_SEL_MODE k) then
        (s.onEvc fun x => { x with lastCyc := SMap.put x.lastCyc key s.cycle }) else s
      let old := s.count key
      let thr := s.count (R.EVC_GTHR_LO k)
      let s := s.addCount key 1
      if thr ≠ 0 ∧ old < thr ∧ thr ≤ old + 1 then rec (504 + k) s else s
  else s

/-- An event of a source: the global counters that select it count, and its pending bit sets (R47, R51).  The
counters' own sources 504 to 511 can be counted in turn, at most once round the eight counters. -/
def pulseFuel : Nat → Nat → State → State
  | 0, _, s => s
  | fuel + 1, src, s =>
    let s := (List.range 8).foldl (fun s k => s.globalCount (pulseFuel fuel) src k) s
    s.pendSet src

/-- A pulse source pulses. -/
def State.pulse (s : State) (src : Nat) : State := pulseFuel 9 src s

/-- A level source brought to a level (R47): an activation is one event, and LEVEL shows it. -/
def State.setLevel (s : State) (src : Nat) (on : Bool) : State :=
  if s.flag (levelRef src) = on then s
  else
    let s := s.put (levelRef src) (b2n on)
    if on then s.pulse src else s

/-- Core line `l` is asserted (R48), unless the interrupt inputs are held at the core boundary (R397). -/
def State.coreLine (s : State) (l : Nat) : Bool :=
  !s.pwr.lineHold && s.regs.any fun e =>
    decide (R.EVC_ROUTE 0 ≤ e.1) && decide (e.1 ≤ R.EVC_ROUTE 639) && e.2.bit 15 && decide (e.2.fld 9 6 = l)
      && s.flag (pendRef ((e.1 - R.EVC_ROUTE 0) / 4))

/-! ### Faults (R548 to R551) -/

/-- A C or U fault raised by a block's instance: its message goes onto the fault link with the device time of the
moment (R548, R549, R552). -/
def State.raise (s : State) (b : Block) (inst kind : Nat) (cls : FaultClass) (loc : Nat) : State :=
  (s.onFlt fun x => { x with links := x.links ++ [⟨ledgerIndex b inst, kind, cls, loc, s.devTime % 2 ^ 62⟩] })

/-- The device is in LIMP (R562). -/
def State.limp (s : State) : Bool := s.flag R.FLT_STS_LIMP

/-! ### Error reporting to the host (R354) -/

/-- The state with a configuration-space dword. -/
def State.cfgWr (s : State) (o : Nat) (w : Word) : State :=
  (s.onPci fun x => { x with cfg := x.cfg.set cfgReset o w })

/-- A correctable error (R354): its AER status bit and Device Status bit set, source 149 pulses and CORR_ERR counts. -/
def State.aerCorr (s : State) (bit : Nat) : State :=
  let s := s.cfgWr 0x110 ((s.cfgRd 0x110).setBit bit)
  let s := s.cfgWr 0x68 ((s.cfgRd 0x68).setBit 16)
  (s.addCount R.PCI_CORR_ERR_LO 1).pulse 149

/-- An uncorrectable error (R354): its status bit sets; the first unmasked one leaves its number and TLP header in the
log, a second one before the log is cleared is a Header Log Overflow; source 148 pulses. -/
def State.aerUnc (s : State) (bit : Nat) (hdr : List Word) : State :=
  let masked := (s.cfgRd 0x108).bit bit
  let fatal := (s.cfgRd 0x10C).bit bit
  let logged := (s.cfgRd 0x104).toNat ≠ 0
  let s' := s.cfgWr 0x104 ((s.cfgRd 0x104).setBit bit)
  let s' := s'.cfgWr 0x68 ((s'.cfgRd 0x68).setBit (if fatal then 18 else 17))
  let s' := if bit = 20 then s'.cfgWr 0x68 ((s'.cfgRd 0x68).setBit 19) else s'
  let s' :=
    if masked then s'
    else if logged then s'.aerCorr 15
    else
      let s' := s'.cfgWr 0x118 ((s'.cfgRd 0x118).setFld 0 5 bit)
      (List.range 4).foldl (fun s i => s.cfgWr (0x11C + 4 * i) (hdr.getD i 0)) s'
  s'.pulse 148

/-- A TLP header of which the command does not tell the content: four free values. -/
def State.freeHeader (s : State) : List Word × State :=
  ((List.range 4).map (fun i => BitVec.ofNat 32 (Config.freeValue (s.free + i))), { s with free := s.free + 4 })

/-- A request that completes as Unsupported Request (R339, R340). -/
def State.unsupported (s : State) : State :=
  let p := s.freeHeader
  p.2.aerUnc 20 p.1

/-! ### Commands -/

/-- A command's effect, which nothing has in HALT (R565, R566). -/
def act (s : State) (f : State → State) : Host.Outcome State Fault Refusal :=
  .next (if s.flt.halt then s else f s)

end Sys2Proof.Machine
end

