-- ==== Sys2Proof/Machine/RegPairs.lean ====
section
/-! DEFINITION. The two-word registers whose low-word read latches the high word, and of them the 48-bit pairs whose
low-word write is held (R39), from the register tables of the chapters. -/

namespace Sys2Proof.Machine

/-- A pair: page offset of the low word, copies, their stride, and whether it is a 48-bit pair that writes preset. -/
structure PairRow where
  off : Nat
  count : Nat
  stride : Nat
  held : Bool
  deriving DecidableEq, Repr

/-- The pairs of a page. -/
def pairsOf (b : Block) (page : Nat) : List PairRow :=
  match b, page with
  | .ftl, 0 =>
    [ ⟨0x100, 1, 8, true⟩ /- HOST_WR -/,
      ⟨0x108, 1, 8, true⟩ /- MEDIA_WR -/,
      ⟨0x110, 1, 8, true⟩ /- GC_WR -/,
      ⟨0x118, 1, 8, true⟩ /- PAD_WR -/,
      ⟨0x120, 1, 8, true⟩ /- PLOG_WR -/ ]
  | .rdp, 3 =>
    [ ⟨0x80, 6, 8, true⟩ /- STEP_CNT -/ ]
  | .plj, 0 =>
    [ ⟨0x98, 1, 8, false⟩ /- SEQ -/,
      ⟨0xa0, 1, 8, false⟩ /- FLUSHED -/ ]
  | .ist, 1 =>
    [ ⟨0x100, 1, 8, true⟩ /- REQ -/,
      ⟨0x108, 1, 8, true⟩ /- BUSY -/,
      ⟨0x110, 1, 8, true⟩ /- AUTH_FAIL -/,
      ⟨0x118, 1, 8, true⟩ /- RETX -/,
      ⟨0x120, 1, 8, true⟩ /- ABORTED -/,
      ⟨0x128, 1, 8, true⟩ /- EVICTED -/,
      ⟨0x130, 1, 8, true⟩ /- PAYLOAD -/ ]
  | .net, 0 =>
    [ ⟨0xa0, 1, 8, true⟩ /- FEC_CORR -/,
      ⟨0xa8, 1, 8, true⟩ /- FEC_UNC -/ ]
  | .net, 3 =>
    [ ⟨0x80, 1, 8, true⟩ /- TX_FRAMES -/,
      ⟨0x88, 1, 8, true⟩ /- TX_BYTES -/,
      ⟨0x90, 1, 8, true⟩ /- RX_FRAMES -/,
      ⟨0x98, 1, 8, true⟩ /- RX_BYTES -/ ]
  | .chv, 0 =>
    [ ⟨0x88, 1, 8, true⟩ /- MSG -/ ]
  | .tgn, 0 =>
    [ ⟨0xc8, 1, 8, false⟩ /- EPOCH -/ ]
  | .tgn, 2 =>
    [ ⟨0x100, 1, 8, true⟩ /- SHARE_TX -/,
      ⟨0x108, 1, 8, true⟩ /- SHARE_RX -/,
      ⟨0x110, 1, 8, true⟩ /- RECON -/,
      ⟨0x118, 1, 8, true⟩ /- HEDGE -/,
      ⟨0x120, 1, 8, true⟩ /- RECON_FAIL -/,
      ⟨0x128, 1, 8, true⟩ /- REBUILT -/ ]
  | .nvm, 0 =>
    [ ⟨0x100, 1, 8, true⟩ /- RD_CMD -/,
      ⟨0x108, 1, 8, true⟩ /- WR_CMD -/,
      ⟨0x110, 1, 8, true⟩ /- RD_UNITS -/,
      ⟨0x118, 1, 8, true⟩ /- WR_UNITS -/,
      ⟨0x120, 1, 8, true⟩ /- RMW -/ ]
  | .pci, 0 =>
    [ ⟨0x100, 1, 8, true⟩ /- RX_UNITS -/,
      ⟨0x108, 1, 8, true⟩ /- TX_UNITS -/,
      ⟨0x110, 1, 8, true⟩ /- CORR_ERR -/,
      ⟨0x118, 1, 8, true⟩ /- REPLAY -/ ]
  | .aon, 0 =>
    [ ⟨0x80, 1, 8, false⟩ /- TIME -/,
      ⟨0xa0, 1, 8, false⟩ /- HS -/ ]
  | .pwr, 0 =>
    [ ⟨0x100, 1, 8, true⟩ /- NAP_CNT -/,
      ⟨0x108, 1, 8, true⟩ /- DEEP_CNT -/ ]
  | .dmc, 0 =>
    [ ⟨0x150, 1, 8, false⟩ /- FILL_PTR -/,
      ⟨0x200, 1, 8, true⟩ /- RD_LINES -/,
      ⟨0x208, 1, 8, true⟩ /- WR_LINES -/,
      ⟨0x210, 1, 8, true⟩ /- ACT -/,
      ⟨0x218, 1, 8, true⟩ /- REFRESH -/ ]
  | .dma, 0 =>
    [ ⟨0x100, 1, 8, true⟩ /- UNITS -/,
      ⟨0x108, 1, 8, true⟩ /- DESC -/ ]
  | .ciph, 0 =>
    [ ⟨0x100, 1, 8, true⟩ /- BLOCKS -/,
      ⟨0x108, 1, 8, true⟩ /- UNITS -/ ]
  | .flt, 0 =>
    [ ⟨0x180, 1, 8, true⟩ /- C_CNT -/,
      ⟨0x188, 1, 8, true⟩ /- U_CNT -/,
      ⟨0x190, 1, 8, true⟩ /- DROP_CNT -/ ]
  | .evc, 0 =>
    [ ⟨0x108, 8, 32, true⟩ /- GCNT -/,
      ⟨0x110, 8, 32, true⟩ /- GTHR -/,
      ⟨0x118, 8, 32, false⟩ /- GSNAP -/ ]
  | .mcl, 0 =>
    [ ⟨0xa8, 1, 8, false⟩ /- PATCH_ID -/ ]
  | _, _ => []

end Sys2Proof.Machine
end

