-- ==== Sys2Proof/Machine/RegRanges.lean ====
section
/-! DEFINITION. The stated ranges of writable fields whose other values are rejected with code 0x01 (R8), from the
register tables of the chapters.  Ranges that depend on another field or on the state are in the blocks' own files. -/

namespace Sys2Proof.Machine

/-- A stated range: page offset, copies and stride of the register, lowest bit and width of the field, smallest and
largest value. -/
structure RangeRow where
  off : Nat
  count : Nat
  stride : Nat
  lo : Nat
  wd : Nat
  min : Nat
  max : Nat
  deriving DecidableEq, Repr

/-- The stated ranges of a page. -/
def rangesOf (b : Block) (page : Nat) : List RangeRow :=
  match b, page with
  | .chan, 0 =>
    [ ⟨0x80, 1, 4, 0, 3, 0, 4⟩ /- CFG.RATE -/,
      ⟨0x80, 1, 4, 6, 3, 0, 4⟩ /- CFG.ODT -/,
      ⟨0x84, 1, 4, 0, 2, 0, 2⟩ /- GEOM_REF.PLANES -/,
      ⟨0x84, 1, 4, 4, 13, 64, 4096⟩ /- GEOM_REF.PPB -/,
      ⟨0x88, 1, 4, 0, 15, 256, 16384⟩ /- GEOM_BLK.BPP -/,
      ⟨0xa4, 1, 4, 0, 10, 50, 1000⟩ /- SUSP_CFG.MIN_RUN -/,
      ⟨0xa4, 1, 4, 14, 5, 1, 16⟩ /- SUSP_CFG.RD_PER_SUSP -/,
      ⟨0xac, 1, 4, 0, 16, 100, 20000⟩ /- PROG_AGE.AGE -/,
      ⟨0xb0, 1, 4, 0, 8, 1, 255⟩ /- TMO.READ -/,
      ⟨0xb0, 1, 4, 8, 8, 1, 255⟩ /- TMO.PROG -/,
      ⟨0xb0, 1, 4, 16, 8, 1, 255⟩ /- TMO.ERS -/,
      ⟨0xb4, 1, 4, 0, 8, 1, 255⟩ /- COST.READ -/,
      ⟨0xc4, 1, 4, 0, 12, 10, 4000⟩ /- TEMP_CFG.PERIOD -/,
      ⟨0xd8, 1, 4, 0, 2, 0, 2⟩ /- QUIESCE.MODE -/,
      ⟨0xe0, 1, 4, 0, 4, 0, 5⟩ /- FW_OP.OPC -/ ]
  | .ftl, 0 =>
    [ ⟨0x80, 1, 4, 0, 2, 0, 2⟩ /- CFG.TIER -/,
      ⟨0x80, 1, 4, 2, 6, 24, 32⟩ /- CFG.MIN_WIDTH -/,
      ⟨0x80, 1, 4, 8, 3, 0, 4⟩ /- CFG.SUBST_MAX -/,
      ⟨0x80, 1, 4, 12, 2, 0, 2⟩ /- CFG.BITS -/,
      ⟨0xb8, 1, 4, 0, 32, 0, 2147483648⟩ /- NS_CAP_2.IU -/,
      ⟨0xc4, 1, 4, 0, 7, 8, 96⟩ /- OPEN_CFG.OPEN_MAX -/,
      ⟨0xc4, 1, 4, 8, 5, 1, 24⟩ /- OPEN_CFG.CLASS_OPEN_MAX -/,
      ⟨0xc4, 1, 4, 16, 8, 1, 255⟩ /- OPEN_CFG.IDLE_PAD -/,
      ⟨0xc8, 1, 4, 0, 10, 64, 1023⟩ /- PAR_CFG.DEPTH -/,
      ⟨0xd0, 1, 4, 16, 8, 1, 255⟩ /- GC_CFG2.AGE_BIAS -/,
      ⟨0xd4, 1, 4, 0, 16, 10, 65535⟩ /- WL_CFG.SPREAD -/,
      ⟨0xd8, 1, 4, 0, 20, 100, 1000000⟩ /- PE_RATED.RATED -/,
      ⟨0xf8, 1, 4, 0, 8, 0, 100⟩ /- SPARE_THR.THRESH -/ ]
  | .ftl, 2 =>
    [ ⟨0x80, 1, 4, 0, 4, 1, 5⟩ /- CMD.OP -/ ]
  | .rdp, 0 =>
    [ ⟨0x80, 1, 4, 4, 2, 1, 3⟩ /- CFG.SOFT_LEVELS -/,
      ⟨0x80, 1, 4, 8, 5, 4, 31⟩ /- CFG.HARD_ITER -/,
      ⟨0x80, 1, 4, 16, 5, 4, 31⟩ /- CFG.SOFT_ITER -/,
      ⟨0x80, 1, 4, 24, 4, 1, 15⟩ /- CFG.SOFT_SPACING -/ ]
  | .rdp, 1 =>
    [ ⟨0x80, 1, 4, 0, 12, 16, 4095⟩ /- REFINE.N -/,
      ⟨0x80, 1, 4, 13, 7, 1, 100⟩ /- REFINE.PCT -/,
      ⟨0x80, 1, 4, 20, 8, 0, 127⟩ /- REFINE.DRIFT -/ ]
  | .rdp, 2 =>
    [ ⟨0x80, 1, 4, 0, 16, 1, 65535⟩ /- RD_CFG.CHECK -/,
      ⟨0x88, 1, 4, 8, 8, 1, 255⟩ /- PAT_CFG.RATE -/,
      ⟨0x90, 1, 4, 0, 8, 1, 255⟩ /- PAT_INT_0.DAYS0 -/,
      ⟨0x90, 1, 4, 8, 8, 1, 255⟩ /- PAT_INT_0.DAYS1 -/,
      ⟨0x90, 1, 4, 16, 8, 1, 255⟩ /- PAT_INT_0.DAYS2 -/,
      ⟨0x90, 1, 4, 24, 8, 1, 255⟩ /- PAT_INT_0.DAYS3 -/,
      ⟨0x94, 1, 4, 0, 8, 1, 255⟩ /- PAT_INT_1.DAYS0 -/,
      ⟨0x94, 1, 4, 8, 8, 1, 255⟩ /- PAT_INT_1.DAYS1 -/,
      ⟨0x94, 1, 4, 16, 8, 1, 255⟩ /- PAT_INT_1.DAYS2 -/,
      ⟨0x94, 1, 4, 24, 8, 1, 255⟩ /- PAT_INT_1.DAYS3 -/,
      ⟨0x98, 1, 4, 0, 8, 1, 255⟩ /- PAT_INT_2.DAYS0 -/,
      ⟨0x98, 1, 4, 8, 8, 1, 255⟩ /- PAT_INT_2.DAYS1 -/,
      ⟨0x98, 1, 4, 16, 8, 1, 255⟩ /- PAT_INT_2.DAYS2 -/,
      ⟨0x98, 1, 4, 24, 8, 1, 255⟩ /- PAT_INT_2.DAYS3 -/,
      ⟨0x9c, 1, 4, 0, 8, 1, 255⟩ /- PAT_INT_3.DAYS0 -/,
      ⟨0x9c, 1, 4, 8, 8, 1, 255⟩ /- PAT_INT_3.DAYS1 -/,
      ⟨0x9c, 1, 4, 16, 8, 1, 255⟩ /- PAT_INT_3.DAYS2 -/,
      ⟨0x9c, 1, 4, 24, 8, 1, 255⟩ /- PAT_INT_3.DAYS3 -/ ]
  | .plj, 0 =>
    [ ⟨0x80, 1, 4, 0, 12, 250, 2000⟩ /- CFG.FLUSH_US -/,
      ⟨0x80, 1, 4, 14, 14, 1020, 8192⟩ /- CFG.FLUSH_ENT -/,
      ⟨0x84, 1, 4, 0, 8, 1, 32⟩ /- CFG2.KEEP -/,
      ⟨0x84, 1, 4, 8, 8, 1, 255⟩ /- CFG2.WB_AGE -/,
      ⟨0xc0, 1, 4, 0, 14, 10, 10000⟩ /- PF_CFG.DEAD_T -/,
      ⟨0xc0, 1, 4, 16, 8, 1, 255⟩ /- PF_CFG.DEBOUNCE -/ ]
  | .ist, 0 =>
    [ ⟨0x80, 1, 4, 0, 16, 1, 65535⟩ /- CFG.PORT -/,
      ⟨0x90, 1, 4, 0, 21, 0, 1048576⟩ /- CLT_MAX.MAX -/,
      ⟨0x94, 1, 4, 8, 8, 1, 128⟩ /- KSLOT.COUNT -/,
      ⟨0xa0, 1, 4, 0, 5, 10, 30⟩ /- IDX_CFG.LOG2_NB -/,
      ⟨0xa0, 1, 4, 8, 4, 1, 15⟩ /- IDX_CFG.PROBE -/,
      ⟨0xa0, 1, 4, 16, 16, 100, 10000⟩ /- IDX_CFG.WB_US -/,
      ⟨0xbc, 1, 4, 0, 16, 0, 8192⟩ /- CTX_CFG.CTX_RSV -/,
      ⟨0xc0, 1, 4, 16, 10, 50, 1000⟩ /- STAGE_CFG.READ_LEAD -/,
      ⟨0xc4, 1, 4, 0, 7, 16, 127⟩ /- FLOW_CFG.FLOW_SLOTS -/,
      ⟨0xc4, 1, 4, 8, 8, 1, 255⟩ /- FLOW_CFG.PUT_WIN -/,
      ⟨0xc4, 1, 4, 16, 16, 100, 65535⟩ /- FLOW_CFG.FLOW_IDLE -/,
      ⟨0xc8, 1, 4, 0, 16, 1, 65535⟩ /- RATE_CFG.FLOW_CAP -/,
      ⟨0xc8, 1, 4, 16, 16, 1, 65535⟩ /- RATE_CFG.INIT_RATE -/,
      ⟨0xcc, 1, 4, 0, 10, 2, 1000⟩ /- RATE_CFG2.MIN_RATE -/,
      ⟨0xcc, 1, 4, 16, 16, 1, 65535⟩ /- RATE_CFG2.AI_STEP -/,
      ⟨0xd0, 1, 4, 0, 16, 1, 65535⟩ /- WIN_CFG.INIT_WIN -/,
      ⟨0xd4, 1, 4, 0, 12, 100, 4000⟩ /- RTO_CFG.RTO_MIN -/,
      ⟨0xd4, 1, 4, 12, 4, 1, 15⟩ /- RTO_CFG.RETX_MAX -/,
      ⟨0xd4, 1, 4, 16, 8, 1, 255⟩ /- RTO_CFG.RTO_MAX -/,
      ⟨0xd4, 1, 4, 24, 8, 1, 255⟩ /- RTO_CFG.RTT_INIT -/,
      ⟨0xd8, 1, 4, 0, 16, 1, 65535⟩ /- PUT_CFG.PUT_TMO -/ ]
  | .ist, 1 =>
    [ ⟨0x80, 1, 4, 0, 4, 1, 5⟩ /- CMD.OP -/ ]
  | .net, 0 =>
    [ ⟨0x80, 1, 4, 0, 2, 0, 2⟩ /- MODE.SPEED -/,
      ⟨0x84, 1, 4, 0, 14, 1280, 9000⟩ /- MTU.MTU -/ ]
  | .net, 1 =>
    [ ⟨0x80, 1, 4, 8, 8, 1, 255⟩ /- IP_CTL.HOP -/,
      ⟨0xb0, 1, 4, 0, 16, 1, 65535⟩ /- NEIGH_CTL.REFRESH -/ ]
  | .net, 2 =>
    [ ⟨0x84, 1, 4, 0, 8, 0, 64⟩ /- PACE_CFG.CTRL_RSV -/ ]
  | .tgn, 0 =>
    [ ⟨0x84, 1, 4, 0, 19, 1, 262144⟩ /- CLUSTER.SIZE -/,
      ⟨0xb0, 1, 4, 0, 8, 1, 32⟩ /- SHBUF_SIZE.SIZE -/ ]
  | .tgn, 1 =>
    [ ⟨0x84, 16, 32, 0, 4, 0, 10⟩ /- SET_CFG.K -/,
      ⟨0x94, 16, 32, 0, 8, 16, 255⟩ /- SET_HEDGE.FACTOR -/ ]
  | .tgn, 2 =>
    [ ⟨0x80, 1, 4, 0, 16, 50, 10000⟩ /- HEDGE_CFG.MIN -/,
      ⟨0x80, 1, 4, 16, 16, 1, 1000⟩ /- HEDGE_CFG.MAX -/,
      ⟨0x84, 1, 4, 0, 16, 256, 65535⟩ /- HIST_CFG.HALF -/,
      ⟨0x88, 1, 4, 0, 16, 1, 1000⟩ /- RECON_CFG.TMO -/,
      ⟨0x8c, 1, 4, 0, 10, 1, 1000⟩ /- SHARE_CFG.HOLD -/,
      ⟨0x8c, 1, 4, 16, 10, 10, 1000⟩ /- SHARE_CFG.RESEND -/,
      ⟨0x90, 1, 4, 0, 12, 100, 2000⟩ /- INT_CFG.FLUSH_US -/,
      ⟨0x90, 1, 4, 16, 12, 1, 4095⟩ /- INT_CFG.REGION_IDLE -/,
      ⟨0x94, 1, 4, 0, 15, 1, 32767⟩ /- REB_CFG.RATE -/,
      ⟨0x94, 1, 4, 16, 16, 1, 65535⟩ /- REB_CFG.DELAY -/ ]
  | .tgn, 3 =>
    [ ⟨0x80, 1, 4, 0, 12, 50, 4000⟩ /- EPOCH_CFG.BEAT -/,
      ⟨0x80, 1, 4, 12, 4, 2, 15⟩ /- EPOCH_CFG.MISS -/,
      ⟨0x80, 1, 4, 16, 16, 500, 65535⟩ /- EPOCH_CFG.GAP -/,
      ⟨0x84, 1, 4, 0, 16, 10, 10000⟩ /- JOIN_CFG.SEED_TMO -/,
      ⟨0x90, 1, 4, 0, 4, 1, 4⟩ /- CMD.OP -/ ]
  | .nvm, 0 =>
    [ ⟨0x80, 1, 4, 0, 16, 256, 32768⟩ /- CFG.CTX_MAX -/ ]
  | .pci, 0 =>
    [ ⟨0x8c, 1, 4, 0, 3, 3, 6⟩ /- LINK_CFG.MAX_SPEED -/,
      ⟨0x8c, 1, 4, 8, 8, 10, 255⟩ /- LINK_CFG.L0P_IDLE -/,
      ⟨0x98, 1, 4, 0, 13, 16, 4096⟩ /- TAG_CFG.MAX_OUT -/,
      ⟨0x98, 1, 4, 16, 12, 256, 2048⟩ /- TAG_CFG.NVM_RSV -/,
      ⟨0xa0, 1, 4, 0, 16, 1, 65535⟩ /- LTR_CFG.ACTIVE_US -/ ]
  | .esc, 0 =>
    [ ⟨0xbc, 1, 4, 0, 16, 1, 65535⟩ /- BUD_CFG.MIN_CRED -/,
      ⟨0xc0, 1, 4, 0, 23, 0, 5000000⟩ /- EGR_MIN.BYTES -/,
      ⟨0xc4, 1, 4, 0, 23, 0, 5000000⟩ /- EGR_FULL.BYTES -/,
      ⟨0x80, 1, 4, 1, 2, 0, 1⟩ /- CTL.MODE -/,
      ⟨0x80, 1, 4, 8, 8, 1, 255⟩ /- CTL.WARM -/,
      ⟨0x88, 1, 4, 0, 32, 0, 65536⟩ /- U_INIT.U -/,
      ⟨0x8c, 1, 4, 0, 32, 0, 65536⟩ /- U_MAN.U -/,
      ⟨0x94, 1, 4, 0, 32, 0, 2147483647⟩ /- T_J_LIM.VALUE -/,
      ⟨0x98, 1, 4, 0, 32, 0, 2147483647⟩ /- T_J_CRIT.VALUE -/,
      ⟨0x9c, 1, 4, 0, 32, 0, 2147483647⟩ /- T_DIE_LIM.VALUE -/,
      ⟨0xa0, 1, 4, 0, 32, 0, 2147483647⟩ /- I_FLASH_LIM.VALUE -/,
      ⟨0xa4, 1, 4, 0, 32, 0, 2147483647⟩ /- FLASH_V.VALUE -/,
      ⟨0xa8, 1, 4, 0, 32, 0, 2147483647⟩ /- BOARD_OFS.VALUE -/ ]
  | .esc, 1 =>
    [ ⟨0x104, 1, 4, 0, 32, 0, 2147483647⟩ /- BAND_HYST.VALUE -/,
      ⟨0x80, 4, 32, 0, 32, 0, 2147483647⟩ /- KP_1.GAIN -/,
      ⟨0x84, 4, 32, 0, 32, 0, 2147483647⟩ /- KI_1.GAIN -/,
      ⟨0x88, 4, 32, 0, 32, 0, 2147483647⟩ /- KP_2.GAIN -/,
      ⟨0x8c, 4, 32, 0, 32, 0, 2147483647⟩ /- KI_2.GAIN -/,
      ⟨0x90, 4, 32, 0, 32, 0, 2147483647⟩ /- KP_3.GAIN -/,
      ⟨0x94, 4, 32, 0, 32, 0, 2147483647⟩ /- KI_3.GAIN -/,
      ⟨0x98, 4, 32, 0, 32, 0, 2147483647⟩ /- KP_4.GAIN -/,
      ⟨0x9c, 4, 32, 0, 32, 0, 2147483647⟩ /- KI_4.GAIN -/ ]
  | .esc, 3 =>
    [ ⟨0x80, 1, 4, 4, 4, 0, 3⟩ /- TRC_CTL.TRIG -/ ]
  | .aon, 0 =>
    [ ⟨0xb4, 1, 4, 0, 2, 0, 2⟩ /- GPIO_CFG.MODE0 -/,
      ⟨0xb4, 1, 4, 8, 2, 0, 2⟩ /- GPIO_CFG.MODE1 -/ ]
  | .pwr, 0 =>
    [ ⟨0x84, 1, 4, 0, 8, 1, 255⟩ /- ENTRY_CFG.DRAIN -/,
      ⟨0x84, 1, 4, 8, 16, 10, 10000⟩ /- ENTRY_CFG.PARK_US -/,
      ⟨0x88, 1, 4, 8, 8, 50, 99⟩ /- DEEP_CFG.GUARD_MA -/ ]
  | .rail, 0 =>
    [ ⟨0x80, 1, 4, 0, 7, 5, 100⟩ /- CFG.RAMP -/,
      ⟨0x80, 1, 4, 8, 7, 2, 100⟩ /- CFG.T_HALF -/,
      ⟨0x80, 1, 4, 16, 8, 5, 100⟩ /- CFG.SAT -/,
      ⟨0x84, 1, 4, 0, 8, 5, 100⟩ /- CFG2.STAGGER -/,
      ⟨0x84, 1, 4, 8, 16, 1000, 3600⟩ /- CFG2.TARGET -/,
      ⟨0x84, 1, 4, 24, 8, 5, 100⟩ /- CFG2.SNS -/,
      ⟨0x88, 1, 4, 0, 8, 10, 100⟩ /- LIM.INRUSH -/ ]
  | .boot, 0 =>
    [ ⟨0x88, 1, 4, 0, 16, 5, 600⟩ /- WDT.TIMEOUT -/,
      ⟨0xc0, 1, 4, 0, 4, 1, 6⟩ /- CMD.OP -/ ]
  | .mcl, 0 =>
    [ ⟨0x80, 1, 4, 0, 4, 1, 3⟩ /- CMD.OP -/,
      ⟨0x90, 1, 4, 16, 15, 1, 16384⟩ /- RANGE.COUNT -/ ]
  | .dmc, 0 =>
    [ ⟨0x80, 1, 4, 0, 3, 0, 4⟩ /- CFG.RATE -/,
      ⟨0x80, 1, 4, 3, 2, 0, 2⟩ /- CFG.DENS -/,
      ⟨0x100, 8, 8, 0, 11, 1, 1024⟩ /- PORT.RATE -/,
      ⟨0x100, 8, 8, 12, 8, 1, 255⟩ /- PORT.BURST -/,
      ⟨0x188, 1, 4, 0, 8, 1, 255⟩ /- TIM_0.CL -/,
      ⟨0x188, 1, 4, 8, 8, 1, 255⟩ /- TIM_0.CWL -/,
      ⟨0x188, 1, 4, 16, 8, 1, 255⟩ /- TIM_0.RCD -/,
      ⟨0x188, 1, 4, 24, 8, 1, 255⟩ /- TIM_0.RP -/,
      ⟨0x18c, 1, 4, 0, 8, 1, 255⟩ /- TIM_1.RAS -/,
      ⟨0x18c, 1, 4, 8, 8, 1, 255⟩ /- TIM_1.RRD_S -/,
      ⟨0x18c, 1, 4, 16, 8, 1, 255⟩ /- TIM_1.RRD_L -/,
      ⟨0x18c, 1, 4, 24, 8, 1, 255⟩ /- TIM_1.FAW -/,
      ⟨0x190, 1, 4, 0, 8, 1, 255⟩ /- TIM_2.WR -/,
      ⟨0x190, 1, 4, 8, 8, 1, 255⟩ /- TIM_2.RTP -/,
      ⟨0x190, 1, 4, 16, 12, 1, 4095⟩ /- TIM_2.RFC -/,
      ⟨0x194, 1, 4, 0, 16, 1024, 65535⟩ /- REF.REFI -/,
      ⟨0x194, 1, 4, 18, 3, 0, 4⟩ /- REF.POST -/,
      ⟨0x1a0, 1, 4, 8, 8, 1, 255⟩ /- TRAIN_CTL.REPEAT -/,
      ⟨0x1b0, 1, 4, 0, 6, 0, 61⟩ /- DLY_IDX.LANE -/,
      ⟨0x1b0, 1, 4, 8, 4, 0, 3⟩ /- DLY_IDX.KIND -/ ]
  | .dma, 0 =>
    [ ⟨0x80, 1, 4, 12, 5, 4, 16⟩ /- CFG.RING_LOG2 -/ ]
  | .flt, 0 =>
    [ ⟨0x80, 1, 4, 0, 10, 1, 1000⟩ /- CFG.ESC_T -/ ]
  | .evc, 0 =>
    [ ⟨0x100, 8, 32, 0, 10, 0, 639⟩ /- GCNT_SEL.SRC -/ ]
  | _, _ => []

/-- The row speaks of the register at page offset `o`. -/
def RangeRow.covers (r : RangeRow) (o : Nat) : Bool :=
  decide (r.off ≤ o) && decide (o < r.off + r.count * r.stride) && decide ((o - r.off) % r.stride = 0)

end Sys2Proof.Machine
end

