-- ==== Sys2Proof/Machine/Operands.lean ====
section
/-! DEFINITION. The operand forms of register accesses: what a page serves, the checks that every write passes in the
order of R9, and how an accepted write and a read act on a register's fields (R6, R34 to R44, R582). -/

namespace Sys2Proof.Machine

open Sys2Proof

/-- A reject code that a failed check gives (R8). -/
def failIf (b : Bool) (code : Nat) : List Nat := if b then [code] else []

/-- The first failing check in the order of R9. -/
def firstCode (codes : List Nat) : Option Nat := [6, 3, 4, 5, 2, 7, 1].find? (fun c => codes.contains c)

/-- Software may write the field. -/
def Fld.writable (f : Fld) : Bool := decide (f.acc ≠ .ro) && decide (f.acc ≠ .rc)

/-- Every writable field of the register is W1C (R43). -/
def RegDesc.onlyW1c (d : RegDesc) : Bool := d.fields.all fun f => !f.writable || decide (f.acc = .w1c)

/-- The bits that fields cover. -/
def RegDesc.mask (d : RegDesc) : Word := d.fields.foldl (fun m f => m.setFld f.lo (f.hi - f.lo + 1) (2 ^ 32 - 1)) 0

/-- The word with its RC fields cleared (R6). -/
def RegDesc.clearRc (d : RegDesc) (w : Word) : Word :=
  d.fields.foldl (fun m f => if f.acc = .rc then m.setFld f.lo (f.hi - f.lo + 1) 0 else m) w

/-- What a field holds after an accepted write of `v` over `old` (R6). -/
def Fld.apply (f : Fld) (old v : Word) : Nat :=
  let n := f.hi - f.lo + 1
  match f.acc with
  | .ro | .rc => old.fld f.lo n
  | .wo => 0
  | .w1c => (old &&& ~~~v).fld f.lo n
  | .w1s => (old ||| v).fld f.lo n
  | .rw | .rwh | .rwc => v.fld f.lo n

/-- What a register holds after an accepted write of `v` over `old` (R6). -/
def RegDesc.apply (d : RegDesc) (old v : Word) : Word :=
  d.fields.foldl (fun m f => m.setFld f.lo (f.hi - f.lo + 1) (f.apply old v)) old

/-! ### Pages -/

/-- A power domain is on and stable (R393). -/
def State.domSts (s : State) (d : Nat) : Bool := s.fbit ⟨R.PWR_DOM_STS_0 + 4 * (d / 32), 0, 32⟩ (d % 32)

/-- The RUN setting of a power domain (R393). -/
def State.domOn (s : State) (d : Nat) : Bool := s.fbit ⟨R.PWR_DOM_ON_0 + 4 * (d / 32), 0, 32⟩ (d % 32)

/-- The device state of PWR.STATE (R394, R397): 0 RUN, 1 DOZE, 2 NAP, 3 DEEP. -/
def State.cur (s : State) : Nat := s.get R.PWR_STATE_CUR

/-- The security state is DEBUG_OPEN (R44, R450). -/
def State.debugOpen (s : State) : Bool := s.get R.BOOT_STS_SEC_STATE = 2

/-- A page's block is enabled: PAGE_CTL.EN of the instance's page 0. -/
def State.enabled (s : State) (b : Nat) : Bool := s.flag (hEN b)

/-- The offset of page 0 of the instance of a page. -/
def PageAt.base0 (p : PageAt) : Nat := p.row.base + p.inst * p.row.stride

/-- The bases of all pages of an instance. -/
def PageAt.bases (p : PageAt) : List Nat := (List.range p.row.pages).map fun i => p.base0 + i * 0x1000

/-- Events of a block value counted on every page of a block's instance, whose page 0 lies at `b` (R39, R585). -/
def State.evtB (s : State) (b val n : Nat) : State :=
  match findPage b with
  | none => s
  | some p => p.bases.foldl (fun s q => s.evt q val n) s

/-- The page's fast clock runs (R37, R390): a page without a branch of its own runs from ck_fab or slower. -/
def State.clkOn (s : State) (p : PageAt) : Bool :=
  match p.clock with
  | none => s.cur = 0
  | some _ => s.flag (hCLK_ON p.base0)

/-- PAGE_STS as it reads: RUNNING of an always-enabled page, CLK_ON and LOCKED are derived (R584, R390). -/
def State.pageSts (s : State) (p : PageAt) : Word :=
  let w := s.rd (p.base + 8)
  let w := w.setFld 0 1 (b2n (p.row.always || s.flag (hRUNNING p.base0)))
  let w := w.setFld 1 1 (b2n (s.clkOn p))
  w.setFld 2 1 (s.get (hLOCK p.base))

/-- What becomes of an access to a page (R36, R37). -/
inductive Gate where
  | served
  | held
  | dead
  deriving DecidableEq, Repr

/-- An access to page offset `o`: dead while the page's power domain is off, held while it switches on, while the
device sleeps, while a block-specific register's clock is released, and behind an earlier held access of the page;
served otherwise (R36, R37). -/
def State.gate (s : State) (p : PageAt) (o : Nat) : Gate :=
  if s.cur ≥ 2 then .held
  else if !s.domSts p.domain then (if s.domOn p.domain then .held else .dead)
  else if o < 0x80 then .served
  else if p.clock.isNone then .served
  else if s.get (hCKREQ p.base0) = 2 then .served
  else if !s.flag (hCLK_ON p.base0) then .held
  else if s.sys.held.any (fun a => decide (pageOff a.off = p.base) && decide (0x80 ≤ a.off % 0x1000)) then .held
  else .served

/-- A discarded access recorded (R36): kind 0 powered-off page, 1 unmapped, 2 write to the Ledger, 3 misaligned read. -/
def State.deadAccess (s : State) (r : Requester) (off : Nat) (write : Bool) (kind : Nat) : State :=
  let s := s.put R.SYS_DEAD_ACC_OFFSET off
  let s := s.put R.SYS_DEAD_ACC_WR (b2n write)
  let s := s.put R.SYS_DEAD_ACC_HOST (b2n (decide (r = .host)))
  let s := s.put R.SYS_DEAD_ACC_KIND kind
  s.bump R.SYS_DEAD_CNT_CNT 1

/-- A page counts an access of a requester (EVT_SEL values 0x03 and 0x04). -/
def State.countAccess (s : State) (r : Requester) (p : PageAt) : State :=
  match r with
  | .host => s.evt p.base 3 1
  | .core _ => s.evt p.base 4 1

/-- A rejected write recorded (R7): OFFSET, CODE, the sticky count, PAGE_STS.REJ, and EVT_SEL value 0x02; a sleep
request rejected for the state also shows its reason (R395). -/
def State.rejectWrite (s : State) (p : PageAt) (o code : Nat) : State :=
  let b := p.base
  let s := s.put (hREJ_OFFSET b) o
  let s := s.put (hREJ_CODE b) code
  let s := s.bump (hREJ_COUNT b) 1
  let s := s.put (hREJ b) 1
  let s := s.evt b 2 1
  if p.row.block = .pwr ∧ o = 0x80 ∧ code = 4 then (s.put R.PWR_STATE_REFUSE (if s.limp then 3 else 1)).pulse 10 else s

/-! ### Checks of a write -/

/-- The largest block value of EVT_SEL_n.SRC that a block's chapter defines; they run from 0x10 (R583 and the
chapters' tables). -/
def evtMax : Block → Nat
  | .ledger | .sys | .evc => 0x0F
  | .chan => 0x18
  | .ftl | .rdp => 0x19
  | .plj => 0x15
  | .ist => 0x16
  | .net => 0x15
  | .chv => 0x11
  | .tgn => 0x18
  | .nvm => 0x17
  | .pci => 0x17
  | .esc => 0x18
  | .aon => 0x11
  | .pwr => 0x13
  | .clk => 0x11
  | .rail => 0x13
  | .boot => 0x13
  | .mcl => 0x13
  | .dmc => 0x17
  | .dma => 0x15
  | .ciph => 0x15
  | .mem => 0x14
  | .flt => 0x14

/-- A value that EVT_SEL_n.SRC of a block takes. -/
def evtLegal (b : Block) (v : Nat) : Bool := decide (v ≤ 4) || (decide (0x10 ≤ v) && decide (v ≤ evtMax b))

/-- The codes that a write to a header register fails with (the common page header, R44). -/
def State.headerChecks (s : State) (p : PageAt) (o : Nat) (v : Word) : List Nat :=
  if o = 4 then
    failIf (decide (v.fld 1 2 = 2) && s.flag (hEN p.base)) 4
      ++ failIf (decide (v.fld 1 2 = 2) && v.bit 0) 7
      ++ failIf (decide (v.fld 1 2 = 3)) 1
      ++ failIf (v.bit 8 && !p.row.lockable) 1
  else if 0x10 ≤ o ∧ o < 0x20 then failIf (!evtLegal p.row.block (v.fld 0 8)) 1
  else []

/-- A write that the security state or the lock keeps out whatever its value (R43, R44), and one to a block-specific
register whose clock is forced off (R37). -/
def State.accessChecks (s : State) (r : Requester) (p : PageAt) (o : Nat) (d : Option RegDesc) : List Nat :=
  failIf (p.row.hostWp && decide (r = .host) && !s.debugOpen) 6
    ++ failIf (decide (p.row.block = .flt) && decide (r = .host) && (decide (p.page = 1) || decide (o = 0x88))) 6
    ++ failIf (s.flag (hLOCK p.base) && !(match d with | some d => d.onlyW1c | none => true)) 3
    ++ failIf (decide (0x80 ≤ o) && p.clock.isSome && decide (s.get (hCKREQ p.base0) = 2)) 4

/-- The checks that follow from the register table alone: reserved bits (R6) and stated ranges. -/
def tableChecks (p : PageAt) (o : Nat) (d : Option RegDesc) (v : Word) : List Nat :=
  let m := match d with | some d => d.mask | none => 0
  failIf (decide (v &&& ~~~m ≠ 0)) 2
    ++ failIf ((rangesOf p.row.block p.page).any fun r =>
        r.covers o && (decide (v.fld r.lo r.wd < r.min) || decide (r.max < v.fld r.lo r.wd))) 1

/-- The pair whose low or high word lies at a page offset: the low word's offset and whether writes are held (R39). -/
def PageAt.pair (p : PageAt) (o : Nat) : Option (Nat × Bool) :=
  if 0x20 ≤ o ∧ o < 0x40 then some (o / 8 * 8, true)
  else
    match (pairsOf p.row.block p.page).find? (fun r =>
        decide (r.off ≤ o) && decide (o < r.off + r.count * r.stride) && decide ((o - r.off) % r.stride / 8 = 0)
          && (decide (p.row.block ≠ .dmc) || decide (p.inst = 0) || decide (0x180 ≤ o))) with
    | some r => some (r.off + (o - r.off) / r.stride * r.stride, r.held)
    | none => none

/-- The key of a requester's latch, held word or record copy for the register at a BAR2 offset. -/
def reqKey (off : Nat) (r : Requester) : Nat := off * 8 + r.idx

/-- A block's own checks of a write: state, page, page offset and word ↦ failing codes. -/
abbrev Checks := State → Requester → PageAt → Nat → Word → List Nat

/-- What an accepted write does beyond its fields: the state after the fields, the page, the page offset, the word the
register held before and the word written. -/
abbrev Effect := State → Requester → PageAt → Nat → Word → Word → State

/-- The time of a block's last work under the on-demand policy (R390): an access to its own registers. -/
def State.touch (s : State) (p : PageAt) (o : Nat) : State :=
  if 0x80 ≤ o ∧ p.clock.isSome then s.onPwr fun x => { x with lastWork := x.lastWork.put p.base0 s.now } else s

/-- An access to the register space is a clock request, which ends DOZE (R394). -/
def State.leaveDoze (s : State) : State := if s.cur = 1 then s.put R.PWR_STATE_CUR 0 else s

/-- One 4-byte write served by a page (R7, R9, R39): checked, then rejected and recorded, or applied. -/
def State.serveWrite (chk : Checks) (eff : Effect) (r : Requester) (p : PageAt) (o : Nat) (v : Word) (s : State) :
    State :=
  let s := (s.countAccess r p).touch p o
  let d := p.reg o
  let codes := s.accessChecks r p o d ++ s.headerChecks p o v ++ tableChecks p o d v
    ++ (if 0x80 ≤ o ∨ o = 4 then chk s r p o v else [])
  let off := p.base + o
  match firstCode codes with
  | some c => s.rejectWrite p o c
  | none =>
    match p.pair o with
    | some (lo, true) =>
      let k := reqKey (p.base + lo) r
      if o = lo then (s.onSys fun x => { x with heldLo := SMap.put x.heldLo k v.toNat })
      else
        match SMap.find s.sys.heldLo k with
        | some l => (((s.wr (p.base + lo) (BitVec.ofNat 32 l)).wr off (BitVec.ofNat 32 (v.fld 0 16))).onSys fun x => { x with heldLo := SMap.del x.heldLo k })
        | none => s.wr off (BitVec.ofNat 32 (v.fld 0 16))
    | _ =>
      match d with
      | none => s
      | some d =>
        let old := s.rd off
        let d := if o = 4 ∧ p.row.always then { d with fields := d.fields.filter (fun f => f.lo ≠ 0) } else d
        eff (s.wr off (d.apply old v)) r p o old v

/-- A 4-byte write at a naturally aligned BAR2 offset: discarded, held, or served (R30, R36, R37, R340). -/
def State.softWrite (chk : Checks) (eff : Effect) (r : Requester) (off : Nat) (v : Word) (s : State) : State :=
  if r = .host ∧ (!s.memEn ∨ s.pci.d3) then s.unsupported
  else
    let s := s.leaveDoze
    match findPage off with
    | none => s.deadAccess r off true 1
    | some p =>
      if p.row.block = .ledger then s.deadAccess r off true 2
      else
        match s.gate p (off % 0x1000) with
        | .dead => s.deadAccess r off true 0
        | .held => (s.onSys fun x => { x with held := x.held ++ [⟨r, off, 4, true, v⟩] })
        | .served => s.serveWrite chk eff r p (off % 0x1000) v

/-- A write of 1 or 2 bytes or not naturally aligned (R34): rejected with code 0x05 unless an earlier check of R9
fails, at the register that holds its first byte. -/
def State.badWrite (r : Requester) (off : Nat) (s : State) : State :=
  if r = .host ∧ (!s.memEn ∨ s.pci.d3) then s.unsupported
  else
    let s := s.leaveDoze
    match findPage off with
    | none => s.deadAccess r off true 1
    | some p =>
      if p.row.block = .ledger then s.deadAccess r off true 2
      else
        let o := off % 0x1000 / 4 * 4
        match s.gate p o with
        | .dead => s.deadAccess r off true 0
        | _ =>
          let s := s.countAccess r p
          s.rejectWrite p o ((firstCode (s.accessChecks r p o (p.reg o) ++ [5])).getD 5)

/-! ### Reads -/

/-- What a register shows where that is not the word it holds: windows, copies and derived fields of a block. -/
abbrev View := State → Requester → PageAt → Nat → Option Word

/-- What a 4-byte read does beyond clearing RC fields and the latches of R39. -/
abbrev ReadEffect := State → Requester → PageAt → Nat → State

/-- WO fields read 0 (R6); a W1S, RO or other field reads the bits the register holds. -/
def RegDesc.readMask (d : RegDesc) (w : Word) : Word :=
  d.fields.foldl (fun m f => if f.acc = .wo then m.setFld f.lo (f.hi - f.lo + 1) 0 else m) w

/-- The word a page offset shows to a requester, with no effect (R582). -/
def State.show (view : View) (r : Requester) (p : PageAt) (o : Nat) (s : State) : Word :=
  if 0x80 ≤ o ∧ p.clock.isSome ∧ s.get (hCKREQ p.base0) = 2 then 0
  else if o = 8 then s.pageSts p
  else
    match p.reg o with
    | none => 0
    | some d =>
      if p.row.block = .sys ∧ o = 0x90 then
        match r with
        | .host => 0x100
        | .core c => BitVec.ofNat 32 c.val
      else
        match (if 0x80 ≤ o then view s r p o else none) with
        | some w => w
        | none => d.readMask (s.rd (p.base + o))

/-- One 4-byte read served by a page: the word, and the state after its effects (R6, R39). -/
def State.serveRead (view : View) (reff : ReadEffect) (r : Requester) (p : PageAt) (o : Nat) (s : State) :
    Word × State :=
  let s := (s.countAccess r p).touch p o
  let w := s.show view r p o
  if 0x80 ≤ o ∧ p.clock.isSome ∧ s.get (hCKREQ p.base0) = 2 then (w, s)
  else
    match p.pair o with
    | some (lo, _) =>
      let k := reqKey (p.base + lo) r
      if o = lo then
        (w, (s.onSys fun x => { x with latch := SMap.put x.latch k (s.show view r p (lo + 4)).toNat }))
      else
        match SMap.find s.sys.latch k with
        | some h => (BitVec.ofNat 32 h, (s.onSys fun x => { x with latch := SMap.del x.latch k }))
        | none => (w, s)
    | none =>
      match p.reg o with
      | none => (w, s)
      | some d =>
        let s := if d.fields.any (fun f => decide (f.acc = .rc)) then s.wr (p.base + o) (d.clearRc (s.rd (p.base + o)))
          else s
        (w, if 0x80 ≤ o then reff s r p o else s)

/-- A naturally aligned 4-byte read: its data go out (R30, R36, R37, R340). -/
def State.softRead (view : View) (reff : ReadEffect) (r : Requester) (off : Nat) (s : State) : State :=
  if r = .host ∧ (!s.memEn ∨ s.pci.d3) then s.unsupported
  else
    let s := s.leaveDoze
    match findPage off with
    | none => (s.deadAccess r off false 1).emit (.readData r off 0)
    | some p =>
      if p.row.block = .ledger then s.emit (.readData r off (ledgerRead (off % 0x1000)))
      else
        match s.gate p (off % 0x1000) with
        | .dead => (s.deadAccess r off false 0).emit (.readData r off 0)
        | .held => (s.onSys fun x => { x with held := x.held ++ [⟨r, off, 4, false, 0⟩] })
        | .served =>
          let x := s.serveRead view reff r p (off % 0x1000)
          x.2.emit (.readData r off x.1.toNat)

/-- A record copied for a requester (R150, R280, R361, R542, R556). -/
def State.copySet (s : State) (off : Nat) (r : Requester) (ws : List Nat) : State :=
  (s.onSys fun x => { x with copies := SMap.put x.copies (reqKey off r) ws })

/-- Word `i` of a requester's copy of a record; zero where it has none. -/
def State.copyGet (s : State) (off : Nat) (r : Requester) (i : Nat) : Word :=
  BitVec.ofNat 32 (((SMap.find s.sys.copies (reqKey off r)).getD []).getD i 0)

/-- No check of a block's own. -/
def noChecks : Checks := fun _ _ _ _ _ => []

/-- No effect beyond the fields. -/
def noEffect : Effect := fun s _ _ _ _ _ => s

/-- Device time loaded by SET (1), a peer (2) or the journal (3) (R407, R408, R411, R412). -/
def State.timeLoad (s : State) (t src : Nat) : State :=
  ((((s.onNvm fun x => { x with tsHost := false }).wr64 R.AON_TIME_LO (t % 2 ^ 64)).put R.AON_TIME_STS_SRC src).evtB 0x20000 0x11
    1).pulse 1

end Sys2Proof.Machine
end

