-- ==== Sys2Proof/Machine/Mem.lean ====
section
/-! DEFINITION. Protection of stored data (chapter 18): reports of corrected and uncorrectable words, their records,
poison, and the bytes of DRAM lines, of staging words and of core local SRAM. -/

namespace Sys2Proof.Machine

open Sys2Proof

/-! ### Reports -/

/-- The second of device time (R543, R558). -/
def State.second (s : State) : Nat := s.devTime / 10 ^ 9

/-- LOC of a MEMORY fault of a read (R550): word address, class, instance, kind. -/
def memLoc (cls inst addr kind : Nat) : Nat :=
  addr % 2 ^ 31 + cls % 16 * 2 ^ 31 + inst % 32 * 2 ^ 35 + kind % 4 * 2 ^ 39 + kind / 4 * 2 ^ 41

/-- The word address that a MEMORY fault shows: the line of a DRAM address, the word of a staging offset (R550). -/
def wordAddr (cls addr : Nat) : Nat := if cls = 0 then addr / 64 else if cls = 1 then addr / 16 else addr

/-- The three words of a correction record or an uncorrectable record (R542). -/
def memRecord (cls inst req kind sym addr : Nat) : List Nat :=
  [cls % 16 + inst % 32 * 2 ^ 4 + req % 8 * 2 ^ 9 + kind % 4 * 2 ^ 12 + sym % 16 * 2 ^ 14 + 2 ^ 31, addr % 2 ^ 32,
    addr / 2 ^ 32 % 32]

/-- Three words put into a record's registers. -/
def State.putRecord (s : State) (off : Nat) (ws : List Nat) : State :=
  ((s.wr off (BitVec.ofNat 32 (ws.getD 0 0))).wr (off + 4) (BitVec.ofNat 32 (ws.getD 1 0))).wr (off + 8)
    (BitVec.ofNat 32 (ws.getD 2 0))

/-- Source 132: the corrected errors of a class in the present second exceed the threshold (R543). -/
def State.ceHigh (s : State) : State :=
  s.setLevel 132 (decide (s.mem.ceSec = s.second) && s.mem.ceCnt.any fun e => decide (s.get R.MEM_CFG_CE_THR < e.2))

/-- A corrected error (R542, R543): the record, the class's count, its count of the present second, event source 128,
the page's counters, and at most one C-class MEMORY fault per class and second. -/
def State.corrected (s : State) (cls inst req sym addr : Nat) : State :=
  let w := memRecord cls inst req 0 sym addr
  let s := if s.mem.ceFrozen.isEmpty then s.putRecord R.MEM_CE_REC_0 w else (s.onMem fun x => { x with ceShadow := some w })
  let s := s.bump (R.MEM_CE_CNT_CNT cls) 1
  let s := if s.mem.ceSec = s.second then s else (s.onMem fun x => { x with ceSec := s.second, ceCnt := [] })
  let s := (s.onMem fun x => { x with ceCnt := x.ceCnt.put cls ((x.ceCnt.find cls).getD 0 + 1) }).ceHigh
  let s := (s.evt 0xD0000 0x10 1).pulse 128
  if s.flag R.MEM_CFG_CE_FLT ∧ !s.mem.lastFault.holds (cls + 16) s.second then
    let s := (s.onMem fun x => { x with lastFault := x.lastFault.put (cls + 16) s.second })
    s.raise .mem 0 0x0C .c (memLoc cls inst (wordAddr cls addr) 3)
  else s

/-- An uncorrectable read or merge (R541, R542): `kind` 0 UNC, 1 ADDR, 2 RMW.  UE_REC keeps the first, UE_CNT counts,
source 129 or 130 pulses, and at most one U-class MEMORY fault per class and millisecond is raised. -/
def State.uncorrectable (s : State) (cls inst req kind addr : Nat) : State :=
  let s :=
    if !(s.rd R.MEM_UE_REC_0).bit 31 ∧ s.mem.ueFrozen.isEmpty then
      s.putRecord R.MEM_UE_REC_0 (memRecord cls inst req kind 0 addr)
    else s
  let s := s.bump R.MEM_UE_CNT_CNT 1
  let s := (s.evt 0xD0000 0x11 1).pulse (if kind = 1 then 130 else 129)
  let free := match s.mem.lastFault.find cls with
    | none => true
    | some t => decide (t + 10 ^ 6 ≤ s.now)
  if free then
    (s.onMem fun x => { x with lastFault := x.lastFault.put cls s.now }).raise .mem 0 0x0C .u
      (memLoc cls inst (wordAddr cls addr) kind)
  else s

/-- A poisoned word read (R536): POISON_CNT, the page's counters and source 131. -/
def State.poisonRead (s : State) : State :=
  ((s.bump R.MEM_POISON_CNT_CNT 1).evt 0xD0000 0x12 1).pulse 131

/-! ### DRAM lines -/

/-- Data capacity in bytes (R486). -/
def State.dramCap (s : State) : Nat :=
  2 * (s.get R.DMC_CFG_RANKS + 1) * (8 * 2 ^ s.get R.DMC_CFG_DENS) * 2 ^ 30

/-- The line carries valid code: it was filled or written whole (R498, R499). -/
def State.lineValid (s : State) (l : Nat) : Bool :=
  s.mem.wrote.contains l || s.mem.filled.any fun r => decide (r.1 ≤ l) && decide (l < r.2)

/-- A byte of DRAM. -/
def State.dramByte (s : State) (a : Nat) : Byte := SMap.get (fun _ => 0) s.mem.dram a

/-- The 64 bytes of a line. -/
def State.lineBytes (s : State) (l : Nat) : Bytes := (List.range 64).map fun i => s.dramByte (64 * l + i)

/-- Bytes put into a byte memory from an address upwards; bytes that are 0 are not listed. -/
def putBytes (m : List Host.Cell) (a : Nat) : Bytes → List Host.Cell
  | [] => m
  | b :: bs => putBytes (SMap.set (fun _ => (0 : Byte)) m a b) (a + 1) bs

/-- `n` bytes of a byte memory from an address upwards. -/
def getBytes (m : List Host.Cell) (a n : Nat) : Bytes := (List.range n).map fun i => SMap.get (fun _ => 0) m (a + i)

/-- The canonical form of a byte memory: addresses rise strictly, and no listed byte is the 0 that an unlisted address
reads as. -/
def Memory.wf (m : List Host.Cell) : Bool := SMap.wf (fun _ => (0 : Byte)) m

/-- A line written whole with its poison mark and no damage (R535). -/
def State.setLine (s : State) (l : Nat) (bs : Bytes) (poison : Bool) : State :=
  let valid := s.lineValid l
  s.onMem fun x => { x with
    dram := putBytes x.dram (64 * l) bs
    wrote := if valid then x.wrote else insertNat l x.wrote
    poison := if poison then insertNat l x.poison else x.poison.filter (· ≠ l)
    damage := x.damage.del l }

/-- The armed injection stored with a whole-word write to its word (R544): the damage or the poison mark, ARM clears,
source 134 pulses. -/
def State.inject (s : State) (target word : Nat) : State :=
  let shift := if target = 0 then 64 else 16
  if s.flag R.MEM_INJ_CTL_ARM ∧ s.get R.MEM_INJ_CTL_TARGET = target
      ∧ s.rd64 R.MEM_INJ_ADDR_LO % 2 ^ 37 / shift = word then
    let k := s.get R.MEM_INJ_CTL_KIND
    let s :=
      if target = 0 then
        if k = 3 then (s.onMem fun x => { x with poison := insertNat word x.poison })
        else (s.onMem fun x => { x with damage := x.damage.put word k })
      else
        let e := s.mem.stg.get (fun _ => StgSlot.free) (word / 256)
        let e := if k = 3 then { e with poison := insertNat (word % 256) e.poison }
          else { e with damage := e.damage.put (word % 256) k }
        (s.onMem fun x => { x with stg := x.stg.set (fun _ => StgSlot.free) (word / 256) e })
    (s.put R.MEM_INJ_CTL_ARM 0).pulse 134
  else s

/-! ### Staging slots (R16) -/

/-- A staging slot. -/
def State.slot (s : State) (k : Nat) : StgSlot := s.mem.stg.get (fun _ => StgSlot.free) k

/-- The state with a staging slot. -/
def State.setSlot (s : State) (k : Nat) (e : StgSlot) : State :=
  (s.onMem fun x => { x with stg := x.stg.set (fun _ => StgSlot.free) k e })

/-- The staging slots in use. -/
def State.stgUsed (s : State) : Nat := (s.mem.stg.filter fun e => decide (e.2.owner ≠ .free)).length

/-- Whole 16-byte words written to a staging slot from word `w` on, each with the poison mark (R536, R544). -/
def State.setWords (s : State) (k w : Nat) (bs : Bytes) (poison : Bool) : State :=
  let n := cdiv bs.length 16
  let e := s.slot k
  let data := (e.data ++ List.replicate 4096 0).take 4096
  let data := (data.take (16 * w) ++ bs ++ data.drop (16 * w + bs.length)).take 4096
  let ws := (List.range n).map (· + w)
  let e := { e with
    data := data
    poison := if poison then ws.foldl (fun l x => insertNat x l) e.poison else e.poison.filter (!ws.contains ·)
    damage := e.damage.filter (fun d => !ws.contains d.1) }
  ws.foldl (fun s x => s.inject 1 (256 * k + x)) (s.setSlot k e)

/-- The bank of a staging byte offset: lines of a slot lie in consecutive banks (R16). -/
def stgBank (a : Nat) : Nat := a / 64 % 16

/-- One 64-byte line of staging at a byte offset, with its poison mark (R536) and each poisoned word counted; none where a word is uncorrectable. -/
def State.stgLine (s : State) (a : Nat) : Option (Bytes × Bool) × State :=
  let e := s.slot (a / 4096)
  let w := a % 4096 / 16
  let hit := e.damage.filter fun d => decide (w ≤ d.1) && decide (d.1 < w + 4)
  let s := hit.foldl (fun s d =>
    if d.2 = 1 then s.corrected 1 (stgBank a) 0 1 (a / 4096 * 4096 + 16 * d.1)
    else s.uncorrectable 1 (stgBank a) 0 0 (a / 4096 * 4096 + 16 * d.1)) s
  let p := e.poison.filter fun x => decide (w ≤ x) && decide (x < w + 4)
  let s := p.foldl (fun s _ => s.poisonRead) s
  if hit.any (fun d => decide (d.2 = 2)) then (none, s)
  else (some (((e.data ++ List.replicate 4096 0).drop (16 * w)).take 64, !p.isEmpty), s)

/-- A slot's data and whether any of its words carries the poison mark, read whole (R536); the reads of damaged words
report. `none` where a word is uncorrectable. -/
def State.readSlot (s : State) (k : Nat) : Option (Bytes × Bool) × State :=
  let e := s.slot k
  let s := e.damage.foldl (fun s d =>
    if d.2 = 1 then s.corrected 1 (d.1 / 4 % 16) 0 1 (4096 * k + 16 * d.1)
    else s.uncorrectable 1 (d.1 / 4 % 16) 0 0 (4096 * k + 16 * d.1)) s
  let s := e.poison.foldl (fun s _ => s.poisonRead) s
  if e.damage.any (fun d => decide (d.2 = 2)) then (none, s)
  else (some ((e.data ++ List.replicate 4096 0).take 4096, !e.poison.isEmpty), s)

/-- A slot freed (R16). -/
def State.freeSlot (s : State) (k : Nat) : State := s.setSlot k StgSlot.free

/-- The lowest free slots, `n` of them, of the 16,384. -/
def State.freeSlots (s : State) (n : Nat) : List Nat :=
  ((List.range (min 16384 (s.mem.stg.length + n))).filter fun k => decide ((s.slot k).owner = .free)).take n

/-! ### MEM's page -/

/-- MEM's own checks (R545). -/
def memChecks : Checks := fun s _ _ o v =>
  if o = 0x100 ∧ v.bit 3 then
    let a := s.rd64 R.MEM_INJ_ADDR_LO % 2 ^ 37
    failIf (s.flag R.MEM_INJ_CTL_ARM) 4
      ++ failIf (decide (a % (if v.bit 2 then 16 else 64) ≠ 0)) 5
      ++ failIf (decide (v.fld 0 2 = 0)) 1
      ++ failIf (decide ((if v.bit 2 then 0x4000000 else s.dramCap) ≤ a)) 1
  else []

/-- What a read of MEM's records does (R542): word 0 freezes its record for the requester, word 2 releases it and
clears UE_REC. -/
def memReadEffect : ReadEffect := fun s r _ o =>
  if o = 0x84 then (s.onMem fun x => { x with ceFrozen := insertNat r.idx x.ceFrozen })
  else if o = 0x90 then (s.onMem fun x => { x with ueFrozen := insertNat r.idx x.ueFrozen })
  else if o = 0x8C then
    let s := (s.onMem fun x => { x with ceFrozen := x.ceFrozen.filter (· ≠ r.idx) })
    match s.mem.ceFrozen, s.mem.ceShadow with
    | [], some w => ((s.putRecord R.MEM_CE_REC_0 w).onMem fun x => { x with ceShadow := none })
    | _, _ => s
  else if o = 0x98 then
    ((s.putRecord R.MEM_UE_REC_0 [0, 0, 0]).onMem fun x => { x with ueFrozen := x.ueFrozen.filter (· ≠ r.idx) })
  else s

/-- A power domain comes on (R540): its repairs are applied, or its map failed its CRC. -/
def State.repair (s : State) (d : Nat) (mapOk : Bool) : State :=
  if mapOk then
    let s := s.putBit ⟨R.MEM_REPAIR_ERR_0 + 4 * (d / 32), 0, 32⟩ (d % 32) false
    s.put R.MEM_REPAIR_CNT_SPARES (s.get R.MEM_REPAIR_CNT_SPARES + Config.spares d)
  else
    let s := s.putBit ⟨R.MEM_REPAIR_ERR_0 + 4 * (d / 32), 0, 32⟩ (d % 32) true
    (s.pulse 133).raise .mem 0 0x0C .u (2 ^ 42 + d)

/-- MEM_RECORD_READ: a read of a word of CE_REC or UE_REC (R542). -/
def execMemRecordRead (r : Requester) (ue : Bool) (w : Fin 3) (s : State) : Host.Outcome State Fault Refusal :=
  act s fun s =>
    s.softRead (fun _ _ _ _ => none) memReadEffect r ((if ue then R.MEM_UE_REC_0 else R.MEM_CE_REC_0) + 4 * w.val)

/-- INJECT_ARM: a write of INJ_CTL that arms an injection (R544). -/
def execInjectArm (r : Requester) (kind : BitVec 2) (staging : Bool) (s : State) :
    Host.Outcome State Fault Refusal :=
  act s fun s =>
    s.softWrite memChecks noEffect r R.MEM_INJ_CTL (BitVec.ofNat 32 (kind.toNat + 4 * b2n staging + 8))

/-- CORRECTED_ERROR: a read of a memory corrects an error (R543); one of a control store counts in MCL (R479). -/
def execCorrectedError (cls : Fin 10) (inst : BitVec 5) (req : Fin 8) (sym : Fin 5) (addr : BitVec 37) (s : State) :
    Host.Outcome State Fault Refusal :=
  act s fun s =>
    let s := s.corrected cls.val inst.toNat req.val sym.val addr.toNat
    if 4 ≤ cls.val ∧ cls.val ≤ 7 then ((s.bump R.MCL_ECC_CNT_CNT 1).evtB 0x90000 0x11 1).pulse 55 else s

/-- UNCORRECTABLE_READ: a read or a merge finds a word uncorrectable (R541). -/
def execUncorrectableRead (cls : Fin 10) (inst : BitVec 5) (req : Fin 8) (kind : Fin 3) (addr : BitVec 37) (s : State) :
    Host.Outcome State Fault Refusal :=
  act s fun s => s.uncorrectable cls.val inst.toNat req.val kind.val addr.toNat

end Sys2Proof.Machine
end

