-- ==== Sys2Proof/Machine/Dram.lean ====
section
/-! DEFINITION. The DRAM controller (chapter 16): address mapping, the shared front end with its port regulators, line
order and fill engine, refresh, bring-up and training, self-refresh and command errors. -/

namespace Sys2Proof.Machine

open Sys2Proof

/-- The hidden state of a DRAM channel. -/
def State.dmcSt (s : State) (n : Nat) : DmcSt := s.dmc.get (fun _ => DmcSt.reset) n

def State.onDmc (s : State) (n : Nat) (f : DmcSt → DmcSt) : State :=
  { s with dmc := s.dmc.set (fun _ => DmcSt.reset) n (f (s.dmcSt n)) }

/-- State of a channel (R496): 0 OFF, 1 INIT, 2 TRAIN, 3 LIVE, 4 SR. -/
def State.dmcState (s : State) (n : Nat) : Nat := s.get (R.DMC_STS_STATE n)

/-! ### Address mapping (R487, R488) -/

/-- The geometry has a second bank bit, and a rank bit. -/
def State.hasBa1 (s : State) : Bool := s.get R.DMC_CFG_DENS ≠ 0
def State.hasRank (s : State) : Bool := s.flag R.DMC_CFG_RANKS

/-- The home bit of selector `t` (SUB, CH, RANK, BG0, BG1, BG2, BA0, BA1), as a bit of its mask; none where the
geometry lacks it. -/
def State.homeBit (s : State) (t : Nat) : Option Nat :=
  if t = 0 then some 0
  else if t = 1 then some 1
  else if t = 2 then (if s.hasRank then some (if s.hasBa1 then 13 else 12) else none)
  else if t < 7 then some (t - 1)
  else if s.hasBa1 then some 6 else none

/-- The mask of a selector. -/
def State.mapMask (s : State) (t : Nat) : Nat := (s.rd (R.DMC_MAP_SUB + 4 * t)).fld 0 31

/-- The mapping is valid (R488). -/
def State.mapValid (s : State) : Bool :=
  (List.range 8).all fun t =>
    match s.homeBit t with
    | none => s.mapMask t = 0
    | some h =>
      (s.mapMask t).testBit h
        && (List.range 8).all (fun u => u = t ||
            match s.homeBit u with
            | none => true
            | some g => !(s.mapMask t).testBit g)
        && decide (s.mapMask t < s.dramCap / 64)

/-- The XOR of the address bits of a line that a mask selects. -/
def maskXor (mask line : Nat) : Bool :=
  (List.range 31).foldl (fun b k => if mask.testBit k && line.testBit k then !b else b) false

/-- The value of a selector for a line. -/
def State.selOf (s : State) (t line : Nat) : Nat := b2n (maskXor (s.mapMask t) line)

/-- The channel of a line. -/
def State.chOf (s : State) (line : Nat) : Nat := s.selOf 1 line

/-- The rank and subchannel of a line, as rank × 2 + subchannel. -/
def State.rankSubOf (s : State) (line : Nat) : Nat :=
  (if s.hasRank then s.selOf 2 line * 2 else 0) + s.selOf 0 line

/-! ### Lines (R493, R535, R537, R538) -/

/-- One access issued to a channel: an activate, and a line read or written (R493). -/
def State.issue (s : State) (line : Nat) (write : Bool) : State :=
  let n := s.chOf line
  let s := s.onDmc n fun d => { d with recent := s.now :: d.recent.filter (fun t => s.now ≤ t + 80) }
  let s := (s.addCount (R.DMC_ACT_LO n) 1).evtB (0xE0000 + 0x1000 * n) 0x12 1
  if write then (s.addCount (R.DMC_WR_LINES_LO n) 1).evtB (0xE0000 + 0x1000 * n) 0x11 1
  else (s.addCount (R.DMC_RD_LINES_LO n) 1).evtB (0xE0000 + 0x1000 * n) 0x10 1

/-- A line read (R535); `kind` is the kind an uncorrectable line is recorded as (R541). -/
def State.readLine (s : State) (port line kind : Nat) : Option (Bytes × Bool) × State :=
  let s := s.issue line false
  let dmg := s.mem.damage.find line
  if !s.lineValid line || decide (dmg.getD 0 = 2) then
    (none, s.uncorrectable 0 (s.chOf line) port kind (64 * line))
  else
    let s := if dmg.getD 0 = 1 then s.corrected 0 (s.chOf line) port 1 (64 * line) else s
    let p := s.mem.poison.contains line
    (some (s.lineBytes line, p), if p then s.poisonRead else s)

/-- A line written whole (R535, R544). -/
def State.writeLine (s : State) (line : Nat) (bs : Bytes) (poison : Bool) : State :=
  ((s.issue line true).setLine line bs poison).inject 0 line

/-- Bytes within one line written, by a merge where they do not cover it (R537, R538); false where the merge finds
the line uncorrectable. -/
def State.storeIn (s : State) (port a : Nat) (bs : Bytes) (poison : Bool) : Bool × State :=
  let line := a / 64
  if bs.length = 64 then (true, s.writeLine line bs poison)
  else
    match (s.evt 0xD0000 0x13 1).readLine port line 2 with
    | (none, s) => (false, s)
    | (some (old, p), s) =>
      (true, s.writeLine line (old.take (a % 64) ++ bs ++ old.drop (a % 64 + bs.length)) (poison || p))

/-- Bytes written from a DRAM address upwards, line by line; false where a line fails, and what follows is not
written. -/
def State.storeFrom (port : Nat) (poison : Bool) : Nat → Nat → Bytes → State → Bool × State
  | 0, _, _, s => (true, s)
  | fuel + 1, a, bs, s =>
    if bs.isEmpty then (true, s)
    else
      let k := 64 - a % 64
      match s.storeIn port a (bs.take k) poison with
      | (true, s) => State.storeFrom port poison fuel (a + k) (bs.drop k) s
      | (false, s) => (false, s)

def State.dramStore (s : State) (port a : Nat) (bs : Bytes) (poison : Bool) : Bool × State :=
  if s.dramCap < a + bs.length then (false, s) else State.storeFrom port poison (bs.length + 1) a bs s

/-- Lines read in order; none where one is uncorrectable. -/
def State.loadLines (port : Nat) : Nat → Nat → State → Option (Bytes × Bool) × State
  | 0, _, s => (some ([], false), s)
  | n + 1, line, s =>
    match s.readLine port line 0 with
    | (none, s) => (none, s)
    | (some (bs, p), s) =>
      match State.loadLines port n (line + 1) s with
      | (none, s) => (none, s)
      | (some (bs', p'), s) => (some (bs ++ bs', p || p'), s)

/-- `n` bytes read from a DRAM address, with the poison mark. -/
def State.dramLoad (s : State) (port a n : Nat) : Option (Bytes × Bool) × State :=
  if s.dramCap < a + n then (none, s)
  else
    match State.loadLines port (cdiv (a % 64 + n) 64) (a / 64) s with
    | (none, s) => (none, s)
    | (some (bs, p), s) => (some ((bs.drop (a % 64)).take n, p), s)

/-- The front end takes accesses: both channels LIVE (R496). -/
def State.dramOpen (s : State) : Bool := s.dmcState 0 = 3 && s.dmcState 1 = 3

/-- The DRAM is in self-refresh, and accesses wait (R501). -/
def State.dramSr (s : State) : Bool :=
  (s.dmcState 0 = 4 || s.dmcState 1 = 4) && 3 ≤ s.dmcState 0 && 3 ≤ s.dmcState 1

/-! ### Ports (R489 to R492) -/

/-- Bytes in a port's token bucket. -/
def State.tokens (s : State) (p : Nat) : Nat := (s.mem.bucket.find p).getD 0

/-- An access of the port conforms (R490). -/
def State.conforming (s : State) (p : Nat) : Bool := s.get (R.DMC_PORT_RATE p) = 1024 || decide (64 ≤ s.tokens p)

/-- A fill holds an access of a port to an address (R499). -/
def State.fillHolds (s : State) (port a : Nat) : Bool :=
  s.flag R.DMC_FILL_CTL_GO && port ≠ 7 && decide (s.rd64 R.DMC_FILL_PTR_LO ≤ a / 64 * 64)
    && decide (a < s.rd64 R.DMC_FILL_BASE_LO + s.get R.DMC_FILL_LEN_LEN * 0x10000)

/-- The waiting accesses that could be admitted now: heads of their ports' queues, behind no earlier access to their
line, not held by a fill, an ALERT or a HARD regulator. -/
def State.eligible (s : State) : List (Nat × DramAcc) :=
  (s.mem.wait.zipIdx.map fun e => (e.2, e.1)).filter fun e =>
    let before := s.mem.wait.take e.1
    !before.any (fun b => decide (b.port = e.2.port) || decide (b.addr / 64 = e.2.addr / 64))
      && !s.fillHolds e.2.port e.2.addr
      && !(s.dmcSt (s.chOf (e.2.addr / 64))).alert
      && (s.conforming e.2.port || !s.flag (R.DMC_PORT_HARD e.2.port))

/-- The rank of a candidate in the order of R491: waited 2 µs, conforming, PRIO, rotating pick. -/
def State.pickScore (s : State) (a : DramAcc) : Nat :=
  b2n (decide (a.since + 2000 ≤ s.now)) * 2 ^ 12 + b2n (s.conforming a.port) * 2 ^ 8
    + s.get (R.DMC_PORT_PRIO a.port) * 2 ^ 4 + (7 - (a.port + 15 - s.mem.lastPort) % 8)

/-- The candidate of highest rank. -/
def State.pickAccess (s : State) : Option (Nat × DramAcc) :=
  s.eligible.foldl (fun b e =>
    match b with
    | none => some e
    | some c => if s.pickScore c.2 < s.pickScore e.2 then some e else some c) none

/-- An access admitted and carried out (R490, R492, R493): its bytes are charged while it conforms, and its result goes
back to the port. -/
def State.carryOut (s : State) (a : DramAcc) : State :=
  let cost := match a.data with
    | some bs => if bs.length = 64 then 64 else 128
    | none => 64
  let s := if s.conforming a.port then
      s.onMem fun x => { x with bucket := x.bucket.put a.port ((x.bucket.find a.port).getD 0 - cost) } else s
  let s := s.onMem fun x => { x with lastPort := a.port }
  match a.data with
  | some bs =>
    match s.dramStore a.port a.addr bs a.poison with
    | (true, s) => s.emit (.dramDone a.port a.addr)
    | (false, s) => s.emit (.dramError a.port a.addr)
  | none =>
    match s.dramLoad a.port a.addr a.len with
    | (some (bs, p), s) => s.emit (.dramData a.port a.addr bs p)
    | (none, s) => s.emit (.dramError a.port a.addr)

/-- The next access of a port is the head of its queue from `now` on. -/
def newHead (port now : Nat) : List DramAcc → List DramAcc
  | [] => []
  | a :: as => if a.port = port then { a with since := now } :: as else a :: newHead port now as

/-- Waiting accesses admitted one after another while any can be (R491). -/
def State.admitLoop : Nat → State → State
  | 0, s => s
  | fuel + 1, s =>
    match s.pickAccess with
    | none => s
    | some (i, a) =>
      State.admitLoop fuel ((s.onMem fun x => { x with wait := newHead a.port s.now (x.wait.eraseIdx i) }).carryOut a)

def State.admitAll (s : State) : State := if s.dramOpen then State.admitLoop s.mem.wait.length s else s

/-- An access reaches the front end: it ends as a bus error while the front end is closed (R496), and otherwise waits its
turn. -/
def State.dramAccess (s : State) (a : DramAcc) : State :=
  if s.dramOpen || s.dramSr then (s.onMem fun x => { x with wait := x.wait ++ [a] }).admitAll
  else s.emit (.dramError a.port a.addr)

/-! ### The fill engine (R499) -/

/-- The lines from `lo` up to, but not including, `hi` filled with zeros and valid code. -/
def State.fillLines (s : State) (lo hi : Nat) : State :=
  let s := s.onMem fun x =>
    let out := fun (l : Nat) => decide (l < lo) || decide (hi ≤ l)
    { x with
      dram := x.dram.filter fun c => out (c.1 / 64)
      wrote := x.wrote.filter out
      poison := x.poison.filter out
      damage := x.damage.filter fun d => out d.1
      filled := match x.filled.getLast? with
        | some r => if r.2 = lo then x.filled.dropLast ++ [(r.1, hi)] else x.filled ++ [(lo, hi)]
        | none => [(lo, hi)] }
  let w := s.rd64 R.MEM_INJ_ADDR_LO % 2 ^ 37 / 64
  if lo ≤ w ∧ w < hi then s.inject 0 w else s

/-- A fill of `n` more lines from the pointer; it ends at the last line of the range. -/
def State.fillStep (s : State) (n : Nat) : State :=
  if s.flag R.DMC_FILL_CTL_GO ∧ s.dramOpen then
    let p := s.rd64 R.DMC_FILL_PTR_LO / 64
    let e := (s.rd64 R.DMC_FILL_BASE_LO + s.get R.DMC_FILL_LEN_LEN * 0x10000) / 64
    let q := min e (p + n)
    let s := s.fillLines p q
    let s := (List.range 2).foldl (fun s c =>
      let k := (q - p) / 2
      (s.addCount (R.DMC_WR_LINES_LO c) (if c = s.chOf p then q - p - k else k)).evtB (0xE0000 + 0x1000 * c) 0x11
        (if c = s.chOf p then q - p - k else k)) s
    let s := s.wr64 R.DMC_FILL_PTR_LO (64 * q)
    let s := if q = e then ((s.put R.DMC_FILL_CTL_GO 0).put R.DMC_FILL_CTL_DONE 1).pulse 139 else s
    s.admitAll
  else s

/-! ### Self-refresh (R500, R501) -/

/-- Each LIVE channel enters self-refresh, its owed refreshes done. -/
def State.srEnter (s : State) : State :=
  (List.range 2).foldl (fun s n =>
    if s.dmcState n = 3 then
      let k := (s.dmcSt n).owed.foldl (fun a e => a + e.2) 0
      let s := (s.addCount (R.DMC_REFRESH_LO n) k).evtB (0xE0000 + 0x1000 * n) 0x13 k
      (s.onDmc n fun d => { d with owed := [] }).put (R.DMC_STS_STATE n) 4
    else s) s

/-- Each channel in self-refresh leaves it, and the held accesses are carried out. -/
def State.srExit (s : State) : State :=
  ((List.range 2).foldl (fun s n => if s.dmcState n = 4 then s.put (R.DMC_STS_STATE n) 3 else s) s).admitAll

/-! ### The DMC pages -/

/-- DMC's own checks (R504, R496, R497, R499). -/
def dmcChecks : Checks := fun s _ p o v =>
  let n := p.inst
  let st := s.dmcState n
  let live := decide (3 ≤ st)
  if o = 4 then failIf (live && !v.bit 0) 4
  else if o = 0x80 ∨ (0xC0 ≤ o ∧ o < 0xE0) then
    failIf (!(List.range 2).all fun k => s.dmcState k = 0 || s.dmcState k = 2) 4
  else if o = 0x140 then failIf (v.fld 0 16 ≠ 0) 5
  else if o = 0x14C ∧ v.bit 0 then
    let len := s.get R.DMC_FILL_LEN_LEN
    failIf (s.flag R.DMC_FILL_CTL_GO || !s.dramOpen) 4
      ++ failIf (decide (s.dramCap < s.rd64 R.DMC_FILL_BASE_LO + len * 0x10000)) 7
      ++ failIf (len = 0 || decide (2097152 < len)) 1
  else if o = 0x180 then
    if v.bit 0 then failIf (st ≠ 2) 4 ++ failIf (!s.mapValid) 7 else failIf live 4
  else if 0x188 ≤ o ∧ o < 0x194 then failIf live 4
  else if o = 0x198 then
    failIf (live && v.bit 8) 4 ++ failIf (v.bit 11 && s.flag (R.DMC_MR_CMD_GO n)) 4
  else if o = 0x1A0 ∧ v.bit 4 then
    failIf (s.flag (R.DMC_TRAIN_CTL_GO n) || st ≠ 2) 4 ++ failIf (v.fld 0 4 = 0 || decide (7 < v.fld 0 4)) 1
  else if o = 0x1B0 then failIf live 4
  else if o = 0x1B4 then failIf live 4 ++ failIf (s.get (R.DMC_DLY_IDX_KIND n) = 3 && decide (127 < v.fld 0 10)) 1
  else []

/-- What a write to a DMC register does beyond its fields. -/
def dmcEffect : Effect := fun s _ p o old v =>
  let n := p.inst
  if o = 4 then
    if v.bit 0 && !old.bit 0 then s.put (R.DMC_STS_STATE n) 1
    else if !v.bit 0 && old.bit 0 then (s.put (R.DMC_STS_STATE n) 0).onDmc n fun _ => DmcSt.reset
    else s
  else if o = 0x14C ∧ v.bit 0 then s.wr64 R.DMC_FILL_PTR_LO (s.rd64 R.DMC_FILL_BASE_LO)
  else if o = 0x180 ∧ v.bit 0 then
    (s.put (R.DMC_STS_STATE n) 3).onDmc n fun d => { d with trained := d.dly }
  else if (o = 0x198 ∧ v.bit 11) ∨ (o = 0x1A0 ∧ v.bit 4) then s.put (R.DMC_STS_OP_BUSY n) 1
  else if o = 0x1B4 then
    let k := (s.rd (R.DMC_DLY_IDX n)).fld 0 12
    s.onDmc n fun d => { d with dly := d.dly.put k (v.fld 0 10) }
  else if 0x100 ≤ o ∧ o < 0x140 ∧ o % 8 = 0 then
    let q := (o - 0x100) / 8
    s.onMem fun x => { x with bucket := x.bucket.put q (min (v.fld 12 8 * 1024) ((x.bucket.find q).getD 0)) }
  else s

/-- What DMC registers show: bucket levels (R490) and the indexed delay. -/
def dmcView : View := fun s _ p o =>
  if 0x100 ≤ o ∧ o < 0x140 ∧ o % 8 = 4 then
    some ((s.rd (p.base + o)).setFld 0 13 (min 8191 (s.tokens ((o - 0x100) / 8) / 64)))
  else if o = 0x1B4 then
    some (BitVec.ofNat 32 (((s.dmcSt p.inst).dly.find ((s.rd (R.DMC_DLY_IDX p.inst)).fld 0 12)).getD 0))
  else none

/-! ### Commands -/

/-- DMC_INIT_DONE: the hardware's initialisation ends, and the channel enters TRAIN (R496, R584). -/
def execDmcInitDone (n : Fin 2) (s : State) : Host.Outcome State Fault Refusal :=
  act s fun s =>
    if s.dmcState n.val = 1 then (s.put (R.DMC_STS_STATE n.val) 2).put (hRUNNING (0xE0000 + 0x1000 * n.val)) 1 else s

/-- DMC_LIVE: a write of 1 to CTL.LIVE (R496). -/
def execDmcLive (r : Requester) (n : Fin 2) (s : State) : Host.Outcome State Fault Refusal :=
  act s fun s => s.softWrite dmcChecks dmcEffect r (R.DMC_CTL n.val) 1

/-- The end of a mode-register or training operation (R505). -/
def State.dmcOpDone (s : State) (n : Nat) : State := (s.put (R.DMC_STS_OP_BUSY n) 0).pulse (136 + 4 * n)

/-- A mode-register command: the write of MR_CMD unless it runs already, and its completion. -/
def State.mrRun (s : State) (r : Requester) (n mr rank sub : Nat) (write : Bool) (done : State → State) : State :=
  let w := BitVec.ofNat 32 (mr + b2n write * 2 ^ 8 + rank * 2 ^ 9 + sub * 2 ^ 10 + 2 ^ 11)
  let s := if s.flag (R.DMC_MR_CMD_GO n) then s else s.softWrite dmcChecks dmcEffect r (R.DMC_MR_CMD n) w
  if s.rd (R.DMC_MR_CMD n) = w then (done (s.put (R.DMC_MR_CMD_GO n) 0)).dmcOpDone n else s

/-- MR_READ: an MRR, with the results of the four data devices and the check device (R504). -/
def execMrRead (r : Requester) (n : Fin 2) (mr : Byte) (rank sub : Fin 2) (devs : BitVec 40) (s : State) :
    Host.Outcome State Fault Refusal :=
  act s fun s => s.mrRun r n.val mr.toNat rank.val sub.val false fun s =>
    (s.wr (R.DMC_MR_RES_0 n.val) (BitVec.ofNat 32 devs.toNat)).wr (R.DMC_MR_RES_1 n.val)
      (BitVec.ofNat 32 (devs.toNat / 2 ^ 32))

/-- MR_WRITE: an MRW of MR_DATA.WDATA (R504). -/
def execMrWrite (r : Requester) (n : Fin 2) (mr : Byte) (rank sub : Fin 2) (s : State) :
    Host.Outcome State Fault Refusal :=
  act s fun s => s.mrRun r n.val mr.toNat rank.val sub.val true fun s =>
    s.onDmc n.val fun d => { d with
      mr := d.mr.put ((rank.val * 2 + sub.val) * 256 + mr.toNat) (s.get (R.DMC_MR_DATA_WDATA n.val)) }

/-- A training operation (R497): the write of TRAIN_CTL unless it runs already, then its pass map and error count;
ZQ has no per-lane result. -/
def State.train (s : State) (opc : Nat) (r : Requester) (n rank sub rep : Nat) (pass : Nat) (errs : Nat) : State :=
  let w := BitVec.ofNat 32 (opc + 2 ^ 4 + rank * 2 ^ 5 + sub * 2 ^ 6 + rep * 2 ^ 8)
  let s := if s.flag (R.DMC_TRAIN_CTL_GO n) then s else s.softWrite dmcChecks dmcEffect r (R.DMC_TRAIN_CTL n) w
  if s.rd (R.DMC_TRAIN_CTL n) = w then
    let s := s.put (R.DMC_TRAIN_CTL_GO n) 0
    let s := if opc = 7 then s
      else (s.wr (R.DMC_TRAIN_RES_0 n) (BitVec.ofNat 32 pass)).wr (R.DMC_TRAIN_RES_1 n)
        (BitVec.ofNat 32 (pass / 2 ^ 32 % 256 + min 65535 errs * 2 ^ 16))
    s.dmcOpDone n
  else s

/-- CS_TRAIN (R497). -/
def execCsTrain (r : Requester) (n rank sub : Fin 2) (rep : Byte) (pass : BitVec 40) (errs : Nat) (s : State) :
    Host.Outcome State Fault Refusal := act s fun s => s.train 1 r n.val rank.val sub.val rep.toNat pass.toNat errs

/-- CA_TRAIN (R497). -/
def execCaTrain (r : Requester) (n rank sub : Fin 2) (rep : Byte) (pass : BitVec 40) (errs : Nat) (s : State) :
    Host.Outcome State Fault Refusal := act s fun s => s.train 2 r n.val rank.val sub.val rep.toNat pass.toNat errs

/-- WLEV (R497). -/
def execWlev (r : Requester) (n rank sub : Fin 2) (rep : Byte) (pass : BitVec 40) (errs : Nat) (s : State) :
    Host.Outcome State Fault Refusal := act s fun s => s.train 3 r n.val rank.val sub.val rep.toNat pass.toNat errs

/-- RD_GATE (R497). -/
def execRdGate (r : Requester) (n rank sub : Fin 2) (rep : Byte) (pass : BitVec 40) (errs : Nat) (s : State) :
    Host.Outcome State Fault Refusal := act s fun s => s.train 4 r n.val rank.val sub.val rep.toNat pass.toNat errs

/-- RD_DQ (R497). -/
def execRdDq (r : Requester) (n rank sub : Fin 2) (rep : Byte) (pass : BitVec 40) (errs : Nat) (s : State) :
    Host.Outcome State Fault Refusal := act s fun s => s.train 5 r n.val rank.val sub.val rep.toNat pass.toNat errs

/-- WR_DQ (R497). -/
def execWrDq (r : Requester) (n rank sub : Fin 2) (rep : Byte) (pass : BitVec 40) (errs : Nat) (s : State) :
    Host.Outcome State Fault Refusal := act s fun s => s.train 6 r n.val rank.val sub.val rep.toNat pass.toNat errs

/-- ZQ (R497). -/
def execZq (r : Requester) (n rank sub : Fin 2) (rep : Byte) (s : State) :
    Host.Outcome State Fault Refusal := act s fun s => s.train 7 r n.val rank.val sub.val rep.toNat 0 0

/-- DRAM_FILL: a write that sets FILL_CTL.GO (R499). -/
def execDramFill (r : Requester) (s : State) : Host.Outcome State Fault Refusal :=
  act s fun s => s.softWrite dmcChecks dmcEffect r R.DMC_FILL_CTL 1

/-- DRAM_FILL_DONE: the rest of a running fill, up to its last line (R499). -/
def execDramFillDone (s : State) : Host.Outcome State Fault Refusal :=
  act s fun s => s.fillStep (2 ^ 31)

/-- DRAM_ACCESS: an access of a port within one line, a read of `len` bytes or a write of `data` (R489 to R492). -/
def execDramAccess (port : Fin 8) (addr : BitVec 37) (len : Nat) (data : Option Bytes) (poison : Bool) (s : State) :
    Host.Outcome State Fault Refusal :=
  act s fun s =>
    let k := 64 - addr.toNat % 64
    s.dramAccess ⟨port.val, addr.toNat, min k len, data.map (·.take k), poison, s.now⟩

/-- BUCKET_REFILL: the 40 ns step of the eight token buckets (R490). -/
def execBucketRefill (s : State) : Host.Outcome State Fault Refusal :=
  act s fun s =>
    let s := (List.range 8).foldl (fun s p =>
      let head := s.mem.wait.any fun a => a.port = p
      let s := if head && !s.conforming p then s.bump (R.DMC_PORT_STS_WAITED p) 1 else s
      let level := min (s.get (R.DMC_PORT_BURST p) * 1024) (s.tokens p + s.get (R.DMC_PORT_RATE p) * 4)
      s.onMem fun x => { x with bucket := x.bucket.put p level }) s
    s.admitAll

/-- DRAM_REFRESH: a rank of a subchannel falls due (R495): postponed, up to POST, while accesses wait for the rank, and
issued with what is owed otherwise. -/
def execDramRefresh (n rank sub : Fin 2) (s : State) : Host.Outcome State Fault Refusal :=
  act s fun s =>
    if s.dmcState n.val = 3 ∧ s.flag (R.DMC_REF_EN n.val) then
      let k := rank.val * 2 + sub.val
      let owed := ((s.dmcSt n.val).owed.find k).getD 0 + 1
      let busy := s.mem.wait.any fun a =>
        s.chOf (a.addr / 64) = n.val && s.rankSubOf (a.addr / 64) = k
      if busy && decide (owed ≤ s.get (R.DMC_REF_POST n.val)) then
        s.onDmc n.val fun d => { d with owed := d.owed.put k owed }
      else
        let s := s.onDmc n.val fun d => { d with owed := d.owed.del k }
        (s.addCount (R.DMC_REFRESH_LO n.val) owed).evtB (0xE0000 + 0x1000 * n.val) 0x13 owed
    else s

/-- MR4_POLL: the channel reads MR4 of each rank; bit k of `hot`: a device of rank k reports a 2× refresh rate (R495). -/
def execMr4Poll (n : Fin 2) (hot : BitVec 2) (s : State) : Host.Outcome State Fault Refusal :=
  act s fun s =>
    if s.dmcState n.val = 3 ∧ s.flag (R.DMC_REF_TEMP_EN n.val) then
      let s := s.onDmc n.val fun d => { d with hot := (List.range 2).filter fun k => hot.getLsbD k }
      let on := decide (hot ≠ 0)
      (s.put (R.DMC_STS_REF_2X n.val) (b2n on)).setLevel (137 + 4 * n.val) on
    else s

/-- WRITE_TRACKING: the channel moves a lane's write delay to `v`, or keeps the trained value, sets DRIFT and raises a
C-class fault (R498). -/
def execWriteTracking (n : Fin 2) (lane : Fin 62) (rank sub : Fin 2) (v : BitVec 10) (s : State) :
    Host.Outcome State Fault Refusal :=
  act s fun s =>
    if s.dmcState n.val = 3 then
      let k := lane.val + rank.val * 2 ^ 6 + sub.val * 2 ^ 7
      let t := ((s.dmcSt n.val).trained.find k).getD 0
      if v.toNat ≤ t + 16 ∧ t ≤ v.toNat + 16 then s.onDmc n.val fun d => { d with dly := d.dly.put k v.toNat }
      else
        let s := s.onDmc n.val fun d => { d with dly := d.dly.put k t }
        (s.put (R.DMC_STS_DRIFT n.val) 1).raise .dmc n.val 0x0D .c n.val
    else s

/-- ALERT_N_ASSERT: counted, source 138 + 4n pulses; a third assertion within 1 ms is a U-class fault (R503). -/
def execAlertNAssert (n : Fin 2) (s : State) : Host.Outcome State Fault Refusal :=
  act s fun s =>
    let third := match (s.dmcSt n.val).alerts with
      | _ :: t :: _ => decide (s.now ≤ t + 10 ^ 6)
      | _ => false
    let s := s.onDmc n.val fun d => { d with alert := true, alerts := (s.now :: d.alerts).take 3 }
    let s := (s.bump (R.DMC_ALERT_CNT_CNT n.val) 1).pulse (138 + 4 * n.val)
    if third then s.raise .dmc n.val 0x0D .u (n.val + 2) else s

/-- ALERT_N_DEASSERT: the accesses issued in the 80 ns before the assertion are issued again, from the activate, and the
channel goes on (R503). -/
def execAlertNDeassert (n : Fin 2) (s : State) : Host.Outcome State Fault Refusal :=
  act s fun s =>
    let d := s.dmcSt n.val
    if d.alert then
      let t := d.alerts.headD 0
      let k := (d.recent.filter fun x => decide (t ≤ x + 80)).length
      let s := s.onDmc n.val fun d => { d with alert := false }
      ((s.addCount (R.DMC_ACT_LO n.val) k).evtB (0xE0000 + 0x1000 * n.val) 0x12 k).admitAll
    else s

/-- SELF_REFRESH_ENTRY (R500). -/
def execSelfRefreshEntry (s : State) : Host.Outcome State Fault Refusal := act s State.srEnter

/-- SELF_REFRESH_EXIT (R501). -/
def execSelfRefreshExit (s : State) : Host.Outcome State Fault Refusal := act s State.srExit

/-- INJECTED: a whole-word write by a requester to the armed word, stored with the injected damage (R544). -/
def execInjected (port : Fin 8) (data : Bytes) (s : State) : Host.Outcome State Fault Refusal :=
  act s fun s =>
    if s.flag R.MEM_INJ_CTL_ARM then
      let a := s.rd64 R.MEM_INJ_ADDR_LO % 2 ^ 37
      if s.flag R.MEM_INJ_CTL_TARGET then
        s.setWords (a / 4096) (a / 16 % 256) ((data ++ List.replicate 16 0).take 16) false
      else (s.dramStore port.val a ((data ++ List.replicate 64 0).take 64) false).2
    else s

end Sys2Proof.Machine
end

