-- ==== Sys2Proof/Machine/Ciph.lean ====
section
/-! DEFINITION. The cipher engine (chapter 17, R518 to R531): key slots and handles, units and pipelines, the at-rest
construction, key blobs, and the key and vector commands. -/

namespace Sys2Proof.Machine

open Sys2Proof

/-! ### Key slots (R519 to R521) -/

/-- A key slot. -/
def State.keySlot (s : State) (k : Nat) : KeySlot := s.ciph.slots.get (fun _ => KeySlot.reset) k

def State.setKeySlot (s : State) (k : Nat) (e : KeySlot) : State :=
  s.onCiph fun x => { x with slots := x.slots.set (fun _ => KeySlot.reset) k e }

/-- The generation after a write or clear (R519). -/
def nextGen (g : Nat) : Nat := if g = 255 then 1 else g + 1

/-- Why a handle is refused for encryption or decryption (R519): 0 it is not, 1 EMPTY, 2 STALE, 3 USE. -/
def State.refuse (s : State) (handle : Nat) (dec : Bool) : Nat :=
  let e := s.keySlot (handle % 256)
  if !e.valid then 1
  else if e.gen ≠ handle / 256 then 2
  else if !e.use.testBit (b2n dec) then 3
  else 0

/-- The key of a handle. -/
def State.keyOf (s : State) (handle : Nat) : Bytes := (s.keySlot (handle % 256)).key

/-- A refused request (R521): source 123, the page's counters, and at most one CIPHER fault per slot and second. -/
def State.ciphRefused (s : State) (slot why : Nat) : State :=
  let s := (s.evtB 0xC0000 0x13 1).pulse 123
  let free := match s.ciph.lastFault.find slot with
    | none => true
    | some t => decide (t + 10 ^ 9 ≤ s.now)
  if free then
    (s.onCiph fun x => { x with lastFault := x.lastFault.put slot s.now }).raise .ciph 0 0x0E .u (slot + why * 256)
  else s

/-! ### Units (R518, R522) -/

/-- The data and tweak handles of a namespace (R522): 0 content (NSID 1), 1 block (NSID 2). -/
def State.arHandles (s : State) (ns : Nat) : Nat × Nat :=
  let w := s.rd (if ns = 0 then R.CIPH_AR_NS1 else R.CIPH_AR_NS2)
  (w.fld 0 16, w.fld 16 16)

/-- The handles that an operation uses, each with its direction. -/
def State.opKeys (s : State) : CiphOp → List (Nat × Bool)
  | .block h dec => [(h, dec)]
  | .atRest ns dec _ => [((s.arHandles ns).1, dec), ((s.arHandles ns).2, false)]

/-- The slots that a unit names. -/
def State.unitSlots (s : State) (u : CiphUnit) : List Nat := (s.opKeys u.op).map fun h => h.1 % 256

/-- Blocks that a unit puts through its pipeline (R518). -/
def CiphOp.blocks : CiphOp → Nat
  | .block _ _ => 1
  | .atRest _ _ _ => 257

/-- The first refusal among a unit's handles: the slot and why. -/
def State.opRefused (s : State) (op : CiphOp) : Option (Nat × Nat) :=
  ((s.opKeys op).map fun h => (h.1 % 256, s.refuse h.1 h.2)).find? fun x => x.2 ≠ 0

/-- The output of an operation under the keys of its slots. -/
def State.opOut (s : State) (op : CiphOp) (bs : Bytes) : Bytes :=
  match op with
  | .block h dec => if dec then aesDec (s.keyOf h) bs else aesEnc (s.keyOf h) bs
  | .atRest ns dec v => xtsUnit dec (s.keyOf (s.arHandles ns).1) (s.keyOf (s.arHandles ns).2) v bs

/-- An operation carried out or refused (R518, R519, R521): the output, none where it is refused. -/
def State.cipher (s : State) (op : CiphOp) (bs : Bytes) : Option Bytes × State :=
  match s.opRefused op with
  | some (k, why) => (none, s.ciphRefused k why)
  | none =>
    let dec := match op with | .block _ d => d | .atRest _ d _ => d
    let n := op.blocks
    let s' := (s.addCount R.CIPH_BLOCKS_LO n).addCount R.CIPH_UNITS_LO 1
    (some (s.opOut op bs), s'.evtB 0xC0000 (if dec then 0x11 else 0x10) n)

/-- The pipelines that hold a unit now, and a free one. -/
def State.pipeBusy (s : State) (p : Nat) : Bool :=
  match s.ciph.pipes.find p with
  | some (_, t) => decide (s.now < t)
  | none => false

def State.freePipe (s : State) : Option Nat := (List.range 8).find? fun p => !s.pipeBusy p

/-- A queued or dispatched unit names the slot, so that a write to it waits (R520). -/
def State.slotNamed (s : State) (k : Nat) : Bool :=
  s.ciph.queue.any (fun u => !u.late && (s.unitSlots u).contains k)
    || s.ciph.pipes.any (fun e => decide (s.now < e.2.2) && e.2.1.contains k)

/-- The end of a key command. -/
def State.kcmdEnd (s : State) (result : Nat) : State :=
  (((s.put R.CIPH_KSTS_RESULT result).put R.CIPH_KSTS_BUSY 0).put R.CIPH_KCMD_GO 0).pulse 120

/-- A write or clear of a slot takes effect (R519, R520). -/
def State.slotWrite (s : State) (w : SlotWrite) : State :=
  let g := nextGen (s.keySlot w.slot).gen
  let s := match w.key with
    | some e => s.setKeySlot w.slot { e with gen := g }
    | none => s.setKeySlot w.slot { KeySlot.reset with gen := g }
  let s := s.onCiph fun x => { x with
    queue := x.queue.map fun u => if (s.unitSlots u).contains w.slot then { u with late := false } else u }
  if w.cmd then
    let s := if w.key.isSome then s.put R.CIPH_KSTS_HANDLE (w.slot + g * 256) else s
    s.kcmdEnd 0
  else s

/-- Every waiting slot write that can take effect does (R520). -/
def State.settleLoop : Nat → State → State
  | 0, s => s
  | fuel + 1, s =>
    match s.ciph.writes with
    | [] => s
    | w :: ws =>
      if s.slotNamed w.slot then s
      else State.settleLoop fuel ((s.onCiph fun x => { x with writes := ws }).slotWrite w)

def State.ciphSettle (s : State) : State := State.settleLoop s.ciph.writes.length s

/-- A unit arrives at its port; it waits where a write to its slot waits (R520). -/
def State.ciphEnqueue (s : State) (u : CiphUnit) : State :=
  let late := s.ciph.writes.any fun w => (s.unitSlots u).contains w.slot
  s.onCiph fun x => { x with queue := x.queue ++ [{ u with late := late }] }

/-- The first unit of a port, with its place in the queue. -/
def State.portHead (s : State) (p : Nat) : Option (Nat × CiphUnit) :=
  ((s.ciph.queue.zipIdx.map fun e => (e.2, e.1)).find? fun e => decide (e.2.port = p)).filter fun e => !e.2.late

/-- The next unit by rotating pick among the ports, one past the port served last (R518). -/
def State.pickUnit (s : State) : Option (Nat × CiphUnit) :=
  ([1, 2, 3, 4, 5].map fun k => s.portHead ((s.ciph.last + k) % 5)).findSome? id

/-- The result of a unit handed over: into its staging slot, or back to its port. -/
def State.unitDone (s : State) (u : CiphUnit) (out : Option Bytes) : State :=
  match out with
  | none => s.emit (.cipherRefused u.port (((s.opRefused u.op).getD (0, 0)).2))
  | some bs =>
    match u.slot with
    | some k => s.setWords k 0 bs false
    | none => s.emit (.cipherOut u.port bs)

/-- One dispatch: a free pipeline takes the next unit. -/
def State.ciphDispatch (s : State) : State :=
  match s.freePipe, s.pickUnit with
  | some p, some (i, u) =>
    let ks := s.unitSlots u
    let s := s.onCiph fun x => { x with queue := x.queue.eraseIdx i, last := u.port }
    match s.cipher u.op u.data with
    | (none, s) => (s.unitDone u none).ciphSettle
    | (some bs, s) =>
      let t := s.now + cdiv ((u.op.blocks + 15) * 5) 6
      ((s.onCiph fun x => { x with pipes := x.pipes.put p (ks, t) }).unitDone u (some bs)).ciphSettle
  | _, _ => s.ciphSettle

/-- Every slot cleared (R528): at a reboot and on entry to DEBUG_OPEN. -/
def State.clearSlots (s : State) : State :=
  let ks := s.ciph.slots.map (·.1)
  let s := ks.foldl (fun s k => s.setKeySlot k { KeySlot.reset with gen := nextGen (s.keySlot k).gen }) s
  s.onCiph fun x => { x with writes := [], queue := [], pipes := [] }

/-! ### Key blobs (R524 to R527) -/

/-- The key-encryption key of a domain (R524). -/
def kek (d : Nat) : Bytes :=
  let root := leBytes 32 Config.rootKey.toNat
  let p := fun (h : Nat) => ([0x5A, 0x4B, 0x45, 0x4B, d, h, 0, 0].map (BitVec.ofNat 8)) ++ leBytes 8 Config.uid.toNat
  aesEnc root (p 0) ++ aesEnc root (p 1)

/-- The initial value A of a blob (R525). -/
def blobA (long : Bool) (use d : Nat) : Bytes :=
  [0x5A, 0x42, 0x01, if long then 0x20 else 0x10, use, d, 0, 0].map (BitVec.ofNat 8)

/-- The recovered A against R525: its USE where it passes. -/
def checkA (long : Bool) (d : Nat) (a : Bytes) : Option Nat :=
  let use := (a.getD 4 0).toNat
  if a = blobA long use d ∧ 1 ≤ use ∧ use ≤ 3 then some use else none

/-- A key written to a slot under R520 for KCMD. -/
def State.slotEnqueue (s : State) (w : SlotWrite) : State :=
  (s.onCiph fun x => { x with writes := x.writes ++ [w] }).ciphSettle

/-- A blob unwrapped (R526) for a requester: the key with its attributes, or the result, INTEGRITY or FORMAT: which of
the two a bad A gives, the spec does not say, and a free value decides (log entry 16). -/
def State.unwrap (s : State) (long : Bool) (d : Nat) (line : Bytes) : (KeySlot ⊕ Nat) × State :=
  let n := if long then 4 else 2
  let x := keyUnwrap (kek d) n (line.take (8 * (n + 1)))
  match checkA long d x.1 with
  | some use => (.inl ⟨true, long, use, d, 0, x.2⟩, s)
  | none => (.inr (1 + (s.fresh 2).1), ((s.fresh 2).2.bump R.CIPH_UNWRAP_FAIL_CNT 1).pulse 122)

/-- The DRAM address of a pair of the page. -/
def State.ciphAddr (s : State) (off : Nat) : Nat := s.rd64 off % 2 ^ 37

/-- One line read for the key unit or the vector command (R489 port 6); none is a bus error (R541). -/
def State.ciphRead (s : State) (a n : Nat) : Option Bytes × State :=
  if !s.dramOpen then (none, s)
  else
    match s.dramLoad 6 a n with
    | (some x, s) => (some x.1, s)
    | (none, s) => (none, s)

/-- UNWRAP as KCMD holds it. -/
def State.kcmdUnwrap (s : State) : State :=
  let long := s.flag R.CIPH_KCMD_KLEN
  let d := s.get R.CIPH_KCMD_DOMAIN
  let k := s.get R.CIPH_KCMD_SLOT
  let s := s.evtB 0xC0000 0x12 1
  if s.debugOpen || s.boot.noRoot then s.kcmdEnd 3
  else
    match s.ciphRead (s.ciphAddr R.CIPH_KADDR_LO) 64 with
    | (none, s) => s.kcmdEnd 4
    | (some line, s) =>
      match s.unwrap long d line with
      | (.inl e, s) => s.slotEnqueue ⟨k, some e, true⟩
      | (.inr r, s) => s.kcmdEnd r

/-- GENERATE as KCMD holds it, with what the entropy source gives and whether its health test passes (R527). -/
def State.kcmdGenerate (s : State) (key : Bytes) (healthy : Bool) : State :=
  let long := s.flag R.CIPH_KCMD_KLEN
  let use := s.get R.CIPH_KCMD_USE
  let k := s.get R.CIPH_KCMD_SLOT
  let key := (key ++ List.replicate 32 0).take (if long then 32 else 16)
  if s.debugOpen then s.kcmdEnd 3
  else if !healthy then s.kcmdEnd 5
  else if !s.dramOpen then s.kcmdEnd 4
  else
    let blob := keyWrap (kek 0) (blobA long use 0) key
    match s.dramStore 6 (s.ciphAddr R.CIPH_KADDR_LO) ((blob ++ List.replicate 64 0).take 64) false with
    | (false, s) => s.kcmdEnd 4
    | (true, s) => s.slotEnqueue ⟨k, some ⟨true, long, use, 0, 0, key⟩, true⟩

/-- CLEAR as KCMD holds it (R528). -/
def State.kcmdClear (s : State) : State := s.slotEnqueue ⟨s.get R.CIPH_KCMD_SLOT, none, true⟩

/-! ### The vector command (R529) -/

/-- Blocks of one piece under a handle. -/
def State.vecBlocks (s : State) (h : Nat) (dec : Bool) : Nat → Bytes → Bytes
  | 0, _ => []
  | n + 1, bs => s.opOut (.block h dec) (bs.take 16) ++ State.vecBlocks s h dec n (bs.drop 16)

/-- Lines of at most 4 blocks in ascending order, up to the first bus error; the blocks written. -/
def State.vecLoop (h : Nat) (dec : Bool) : Nat → Nat → Nat → Nat → State → Bool × Nat × State
  | 0, _, _, dn, s => (true, dn, s)
  | left + 1, src, dst, dn, s =>
    let n := min 4 (s.get R.CIPH_VCNT_BLOCKS - dn)
    if n = 0 then (true, dn, s)
    else
      match s.ciphRead src (16 * n) with
      | (none, s) => (false, dn, s)
      | (some bs, s) =>
        let s := (s.addCount R.CIPH_BLOCKS_LO n).evtB 0xC0000 (if dec then 0x11 else 0x10) n
        match s.dramStore 6 dst (s.vecBlocks h dec n bs) false with
        | (false, s) => (false, dn, s)
        | (true, s) => State.vecLoop h dec left (src + 64) (dst + 64) (dn + n) s

/-- The vector command as VCMD holds it. -/
def State.vcmdRun (s : State) : State :=
  let h := s.get R.CIPH_VCMD_HANDLE
  let dec := s.flag R.CIPH_VCMD_DEC
  let fin := fun (s : State) (res dn : Nat) =>
    ((((s.put R.CIPH_VSTS_RESULT res).put R.CIPH_VSTS_DONE dn).put R.CIPH_VSTS_BUSY 0).put R.CIPH_VCMD_GO 0).pulse 121
  let why := s.refuse h dec
  if why ≠ 0 then fin (s.ciphRefused (h % 256) why) (if why = 1 then 2 else if why = 2 then 1 else 3) 0
  else
    let n := s.get R.CIPH_VCNT_BLOCKS
    match State.vecLoop h dec (cdiv n 4) (s.ciphAddr R.CIPH_VSRC_LO) (s.ciphAddr R.CIPH_VDST_LO) 0 s with
    | (ok, dn, s) => fin (s.addCount R.CIPH_UNITS_LO (cdiv dn 256)) (if ok then 0 else 4) dn

/-! ### The CIPH page -/

/-- CIPH's own checks (R531 and the captions). -/
def ciphChecks : Checks := fun s _ _ o v =>
  if o = 0x90 ∧ v.bit 2 then
    failIf (s.flag R.CIPH_KCMD_GO) 4
      ++ failIf (decide (v.fld 0 2 = 0) || (decide (v.fld 0 2 = 2) && decide (v.fld 4 2 = 0))) 1
  else if o = 0xB0 ∧ v.bit 1 then
    failIf (s.flag R.CIPH_VCMD_GO) 4 ++ failIf (decide (s.get R.CIPH_VCNT_BLOCKS = 0)) 1
  else if o = 0x98 then failIf (decide (v.fld 0 6 ≠ 0)) 5
  else if 0xB8 ≤ o ∧ o < 0xCC then
    failIf (s.flag R.CIPH_VCMD_GO) 4 ++ failIf ((decide (o = 0xB8) || decide (o = 0xC0)) && decide (v.fld 0 6 ≠ 0)) 5
  else []

/-- What a write to a CIPH register does beyond its fields: a command started is busy until its row completes it. -/
def ciphEffect : Effect := fun s _ _ o _ v =>
  if o = 0x90 ∧ v.bit 2 then s.put R.CIPH_KSTS_BUSY 1
  else if o = 0xB0 ∧ v.bit 1 then (s.put R.CIPH_VSTS_BUSY 1).put R.CIPH_VSTS_DONE 0
  else s

/-- What CIPH registers show: the slot of SLOT_IDX and the busy pipelines. -/
def ciphView : View := fun s _ _ o =>
  if o = 0xD4 then
    let k := s.get R.CIPH_SLOT_IDX_SLOT
    let e := s.keySlot k
    some (BitVec.ofNat 32 (b2n e.valid + b2n e.long * 2 + e.use * 4 + e.domain * 16 + b2n (s.slotNamed k) * 32
      + b2n (s.ciph.writes.any fun w => decide (w.slot = k)) * 64 + e.gen * 256))
  else if o = 0xD8 then
    some (BitVec.ofNat 32 ((List.range 8).foldl (fun a p => a + b2n (s.pipeBusy p) * 2 ^ p) 0))
  else none

/-! ### Commands -/

/-- CIPHER_DISPATCH: units arrive at ports 0 to 3 and one unit is dispatched (R518 to R521). -/
def execCipherDispatch (units : List CiphUnit) (s : State) : Host.Outcome State Fault Refusal :=
  act s fun s =>
    ((units.filter fun u => decide (u.port < 4)).foldl (fun s u => s.ciphEnqueue u) s.ciphSettle).ciphDispatch

/-- A key command: the write of KCMD unless it runs already, and its run where KCMD holds that command. -/
def State.kcmd (s : State) (r : Requester) (op klen use dom slot : Nat) (run : State → State) : State :=
  let w := BitVec.ofNat 32 (op + 4 + klen * 8 + use * 16 + dom * 64 + slot * 256)
  let s := if s.flag R.CIPH_KCMD_GO then s else s.softWrite ciphChecks ciphEffect r R.CIPH_KCMD w
  if s.rd R.CIPH_KCMD = w ∧ !s.ciph.writes.any (·.cmd) then run s else s

/-- UNWRAP (R526). -/
def execUnwrap (r : Requester) (long : Bool) (dom : Fin 2) (slot : Byte) (s : State) :
    Host.Outcome State Fault Refusal :=
  act s fun s => s.kcmd r 1 (b2n long) 0 dom.val slot.toNat State.kcmdUnwrap

/-- GENERATE (R527): `key` and `healthy` are the entropy source's. -/
def execGenerate (r : Requester) (long : Bool) (use : BitVec 2) (slot : Byte) (key : Bytes) (healthy : Bool)
    (s : State) : Host.Outcome State Fault Refusal :=
  act s fun s => s.kcmd r 2 (b2n long) use.toNat 0 slot.toNat fun s => s.kcmdGenerate key healthy

/-- CLEAR (R528). -/
def execClear (r : Requester) (slot : Byte) (s : State) : Host.Outcome State Fault Refusal :=
  act s fun s => s.kcmd r 3 0 0 0 slot.toNat State.kcmdClear

/-- A vector command: the write of VCMD unless it runs already, and its run. -/
def State.vcmd (s : State) (r : Requester) (dec : Bool) (handle : Nat) : State :=
  let w := BitVec.ofNat 32 (b2n dec + 2 + handle * 65536)
  let s := if s.flag R.CIPH_VCMD_GO then s else s.softWrite ciphChecks ciphEffect r R.CIPH_VCMD w
  if s.rd R.CIPH_VCMD = w then s.vcmdRun else s

/-- VECTOR_ENCRYPT (R529). -/
def execVectorEncrypt (r : Requester) (handle : BitVec 16) (s : State) : Host.Outcome State Fault Refusal :=
  act s fun s => s.vcmd r false handle.toNat

/-- VECTOR_DECRYPT (R529). -/
def execVectorDecrypt (r : Requester) (handle : BitVec 16) (s : State) : Host.Outcome State Fault Refusal :=
  act s fun s => s.vcmd r true handle.toNat

end Sys2Proof.Machine
end

