-- ==== Sys2Proof/Machine/Chan.lean ====
section
/-! DEFINITION. The flash channels (chapter 03): discovery, the command queue and its credits, the choice of the next bus
action, suspension, program and erase results, timeouts and resets, die temperature, quiesce and FW operations.  Completed
operations are left in `done` for their requesters. -/

namespace Sys2Proof.Machine

open Sys2Proof

/-- A channel's hidden state. -/
def State.chanSt (s : State) (n : Nat) : ChanSt := s.chan.get (fun _ => ChanSt.reset) n

def State.onChan (s : State) (n : Nat) (f : ChanSt → ChanSt) : State :=
  { s with chan := s.chan.set (fun _ => ChanSt.reset) n (f (s.chanSt n)) }

/-- The page of a channel. -/
def chanPage (n : Nat) : Nat := 0x200000 + 0x1000 * n

/-- The first event source of a channel (R79). -/
def chanSrc (n k : Nat) : Nat := 192 + 4 * n + k

/-- Work in the background may issue: no brace, no sleep entry, no LIMP (R167, R397, R563). -/
def State.calm (s : State) : Bool := decide (s.get R.PLJ_PF_STS_STATE = 0) && decide (s.pwr.step = .awake) && !s.limp

/-! ### Dies (R53, R54) -/

/-- State of a die: 0 ABSENT, 1 ACTIVE, 2 EXCLUDED, 3 OFFLINE. -/
def State.dieState (s : State) (n l : Nat) : Nat :=
  (s.rd (if l < 16 then R.CHAN_DIE_STATE_0 n else R.CHAN_DIE_STATE_1 n)).fld (2 * (l % 16)) 2

/-- What the channel knows of a die. -/
def State.dieSt (s : State) (n l : Nat) : DieSt := (s.chanSt n).dies.get (fun _ => DieSt.none_) l

def State.onDie (s : State) (n l : Nat) (f : DieSt → DieSt) : State :=
  s.onChan n fun c => { c with dies := c.dies.set (fun _ => DieSt.none_) l (f (c.dies.get (fun _ => DieSt.none_) l)) }

/-- A die set to a state, with the counts of DISC_STS. -/
def State.setDie (s : State) (n l st : Nat) : State :=
  let r := if l < 16 then R.CHAN_DIE_STATE_0 n else R.CHAN_DIE_STATE_1 n
  let s := s.wr r ((s.rd r).setFld (2 * (l % 16)) 2 st)
  let cnt := fun (k : Nat) => ((List.range 32).filter fun l => decide (s.dieState n l = k)).length
  ((s.put (R.CHAN_DISC_STS_ACTIVE n) (cnt 1)).put (R.CHAN_DISC_STS_EXCLUDED n) (cnt 2)).put (R.CHAN_DISC_STS_ABSENT n)
    (cnt 0)

/-- State of the channel's rail group (RAIL.STS, R54): 3 is ON. -/
def State.railState (s : State) (g : Nat) : Nat := (s.rd R.RAIL_STS).fld (3 * g) 3

/-- Pages per block, planes and blocks per plane as the references give them (R62). -/
def State.ppb (s : State) (n : Nat) : Nat := s.get (R.CHAN_GEOM_REF_PPB n)
def State.planes (s : State) (n : Nat) : Nat := 2 ^ s.get (R.CHAN_GEOM_REF_PLANES n)
def State.bpp (s : State) (n : Nat) : Nat := s.get (R.CHAN_GEOM_BLK_BPP n)

/-- Bits set among the low `k` bits. -/
def popcount (k v : Nat) : Nat := ((List.range k).filter fun i => v.testBit i).length

/-! ### Operations (R60) -/

/-- The operation is a read, a program, an erase. -/
def OpReq.isRead (o : OpReq) : Bool := o.code ≤ 1
def OpReq.isProg (o : OpReq) : Bool := o.code = 2 || o.code = 3
def OpReq.isErase (o : OpReq) : Bool := o.code = 4 || o.code = 5
def OpReq.isPe (o : OpReq) : Bool := o.isProg || o.isErase

/-- Class of an operation: 0 READ, 1 WRITE, 2 BRACE. -/
def OpReq.cls (o : OpReq) : Nat := if o.brace then 2 else if o.isPe then 1 else 0

/-- An operation entered through FW_OP, and its code. -/
def OpReq.fwOpc (o : OpReq) : Option Nat := match o.use with | .fw k => some k | _ => none

/-- The operation is in flight. -/
def ChanOp.inFlight (o : ChanOp) : Bool := o.stage ≠ .queued

/-- Entries of a class (R60). -/
def classSize (c : Nat) : Nat := if c = 0 then 88 else if c = 1 then 32 else 8

/-- Queued entries of a class. -/
def ChanSt.used (c : ChanSt) (k : Nat) : Nat :=
  (c.ops.filter fun o => !o.inFlight && decide (o.req.cls = k)).length

/-- An operation completes: it leaves the channel and goes to its requester (R65); an FW operation also answers in
FW_CTL. -/
def State.opDone (s : State) (n : Nat) (o : ChanOp) (code : Nat) : State :=
  let s := s.onChan n fun c => { c with ops := c.ops.filter fun x => x.id ≠ o.id }
  let s := s.emit (.opDone n o.id code)
  let s := match o.req.use with
    | .fw _ => (s.put (R.CHAN_FW_CTL_CODE n) code).put (R.CHAN_FW_CTL_GO n) 0
    | _ => s
  { s with done := s.done ++ [(n, o, code)] }

/-- An operation completes without ever having been queued (R59, R62). -/
def State.opRefuse (s : State) (n : Nat) (req : OpReq) (code : Nat) : State :=
  let o : ChanOp := ⟨(s.chanSt n).nextId, req, .queued, s.now, 0, false, 0, false, false⟩
  (s.onChan n fun c => { c with nextId := c.nextId + 1 }).opDone n o code

/-- The die's program or erase in flight, the oldest. -/
def State.runningPe (s : State) (n l : Nat) : Option ChanOp :=
  (s.chanSt n).ops.find? fun o => decide (o.req.die = l) && o.inFlight && o.req.isPe

/-- The die's suspended operation. -/
def State.suspendedOp (s : State) (n l : Nat) : Option ChanOp :=
  (s.chanSt n).ops.find? fun o => decide (o.req.die = l) && decide (o.stage = .suspended)

/-- The operation lies beyond the die's geometry (R62). -/
def State.beyond (s : State) (n : Nat) (o : OpReq) : Bool :=
  let pages := if o.slc then s.ppb n / (s.get R.FTL_CFG_BITS + 2) else s.ppb n
  (o.isRead || o.isPe) && o.fwOpc.isNone
    && (decide (2 ^ s.planes n ≤ o.planes) || decide (s.bpp n ≤ o.block) || decide (pages ≤ o.page))

/-- A die takes the operation (R59, the FW register notes). -/
def State.dieTakes (s : State) (n : Nat) (o : OpReq) : Bool :=
  let st := s.dieState n o.die
  st = 1 || (st = 2 && match o.fwOpc with | some k => decide (k = 1 ∨ k = 2 ∨ k = 4 ∨ k = 5) | none => false)

/-- A read finds its die's operation unsuspendable (R70): it is held, and its requester gets one HELD notice with the
die's expected remaining busy time, which the spec leaves open. -/
def State.heldNotice (s : State) (n id : Nat) : State :=
  match (s.chanSt n).ops.find? fun o => decide (o.id = id) with
  | none => s
  | some o =>
    match s.runningPe n o.req.die with
    | none => s
    | some p =>
      if o.req.isRead && !o.held && !o.inFlight
          && (decide (s.get (R.CHAN_SUSP_CFG_MAX_SUSP n) ≤ p.susp) || (s.dieSt n o.req.die).nosusp) then
        let s := s.onChan n fun c => { c with
          ops := c.ops.map fun x => if x.id = id then { x with held := true } else x }
        match s.fresh (2 ^ 32) with
        | (t, s) => { (s.evtB (chanPage n) 0x14 1).emit (.held n id t) with notices := s.notices ++ [(n, id, t)] }
      else s

/-- A request that has its credit enters the queue (R59, R60, R62). -/
def State.opAccept (s : State) (n : Nat) (req : OpReq) : State :=
  if !s.dieTakes n req then s.opRefuse n req 3
  else if s.beyond n req then s.opRefuse n req 7
  else
    let id := (s.chanSt n).nextId
    (s.onChan n fun c => { c with
      nextId := id + 1
      ops := c.ops ++ [⟨id, req, .queued, s.now, 0, false, 0, false, false⟩] }).heldNotice n id

/-- A requester places an operation: it spends a credit of its class, or waits for one (R60). -/
def State.opEnqueue (s : State) (n : Nat) (req : OpReq) : State :=
  let c := s.chanSt n
  if c.used req.cls < classSize req.cls ∧ !c.backlog.any (fun b => decide (b.cls = req.cls)) then s.opAccept n req
  else s.onChan n fun c => { c with backlog := c.backlog ++ [req] }

/-- Waiting requests enter as credits return. -/
def State.backlogLoop (n : Nat) : Nat → State → State
  | 0, s => s
  | fuel + 1, s =>
    let c := s.chanSt n
    match c.backlog.zipIdx.find? fun b => decide (c.used b.1.cls < classSize b.1.cls) with
    | none => s
    | some b =>
      State.backlogLoop n fuel ((s.onChan n fun c => { c with backlog := c.backlog.eraseIdx b.2 }).opAccept n b.1)

def State.refill (s : State) (n : Nat) : State := State.backlogLoop n (s.chanSt n).backlog.length s

/-! ### Order and readiness (R61, R63, R68) -/

/-- Two operations keep their arrival order (R61): the same block, and at least one programs or erases it. -/
def ordered (a b : OpReq) : Bool :=
  a.die = b.die && a.block = b.block && (a.isRead || a.isPe) && (b.isRead || b.isPe) && (a.isPe || b.isPe)
    && a.fwOpc.isNone && b.fwOpc.isNone

/-- The operations that arrived before one. -/
def ChanSt.before (c : ChanSt) (id : Nat) : List ChanOp := c.ops.takeWhile fun o => o.id ≠ id

/-- Nothing that arrived earlier holds the operation back (R61). -/
def State.mayPass (s : State) (n : Nat) (o : ChanOp) : Bool :=
  !((s.chanSt n).before o.id).any fun a => ordered a.req o.req && (!a.inFlight || o.req.isRead)

/-- The power domain of the channel's hard decoder is on (R126, R127: LDPC_0 is domain 15, LDPC_1 is 16). -/
def State.decoderOn (s : State) (n : Nat) : Bool := s.domSts (if n < 16 then 15 else 16)

/-- The read counts under R68: it could issue during a suspension of the die's operation. -/
def State.counts (s : State) (n : Nat) (o : ChanOp) : Bool :=
  !o.inFlight && (o.req.isRead || o.req.fwOpc = some 5) && (o.req.fwOpc.isSome || s.decoderOn n) && s.mayPass n o
    && s.dieTakes n o.req

/-- QUIESCE.MODE. -/
def State.quiesced (s : State) (n : Nat) : Bool := s.get (R.CHAN_QUIESCE_MODE n) ≠ 0

/-- Operations in flight on a die. -/
def State.flight (s : State) (n l : Nat) : Nat :=
  ((s.chanSt n).ops.filter fun o => decide (o.req.die = l) && o.inFlight).length

/-- The operation could be issued to its die now, apart from the in-flight limit and the credits. -/
def State.issuable (s : State) (n : Nat) (o : ChanOp) : Bool :=
  let l := o.req.die
  let pe := s.runningPe n l
  let sus := (s.suspendedOp n l).isSome
  !o.inFlight && s.dieTakes n o.req && (s.dieSt n l).reset.isNone && s.mayPass n o
    && (if o.req.brace then pe.isNone else !s.quiesced n || o.req.fwOpc = some 0)
    && (if o.req.isPe then !sus
        else if o.req.isRead || o.req.fwOpc = some 5 then
          (o.req.fwOpc.isSome || s.decoderOn n)
            && (pe.isNone || (sus && decide ((s.dieSt n l).suspReads
                + ((s.chanSt n).ops.filter fun x => x.joined && decide (x.req.die = l)).length
                < s.get (R.CHAN_SUSP_CFG_RD_PER_SUSP n))))
        else if o.req.code = 6 then s.flight n l = 0
        else pe.isNone)

/-- The conditions of R68 to suspend the die's running operation. -/
def State.maySuspend (s : State) (n l : Nat) : Option ChanOp :=
  match s.runningPe n l with
  | none => none
  | some p =>
    if p.stage = .running ∧ (s.chanSt n).ops.any (fun o => decide (o.req.die = l) && s.counts n o)
        ∧ p.runAt + 1000 * s.get (R.CHAN_SUSP_CFG_MIN_RUN n) ≤ s.now
        ∧ p.susp < s.get (R.CHAN_SUSP_CFG_MAX_SUSP n) ∧ !(s.dieSt n l).nosusp ∧ !s.quiesced n ∧ !p.req.brace
        ∧ (s.dieSt n l).reset.isNone then some p
    else none

/-- A suspended operation is due to resume (R69, R77): its reads have transferred, or none is queued, or a FINISH
quiesce. -/
def State.resumeDue (s : State) (n l : Nat) : Bool :=
  match s.suspendedOp n l with
  | none => false
  | some _ =>
    let c := s.chanSt n
    let busy := c.ops.any fun o => decide (o.req.die = l) && o.joined && o.inFlight
    !busy && (decide (s.get (R.CHAN_SUSP_CFG_RD_PER_SUSP n) ≤ (s.dieSt n l).suspReads)
      || !c.ops.any (fun o => decide (o.req.die = l) && s.counts n o) || s.quiesced n)

/-- The stage of an operation changed. -/
def State.setStage (s : State) (n id : Nat) (f : ChanOp → ChanOp) : State :=
  s.onChan n fun c => { c with ops := c.ops.map fun x => if x.id = id then f x else x }

/-- The suspend command (R68). -/
def State.suspend (s : State) (n : Nat) (p : ChanOp) : State :=
  (s.setStage n p.id fun x => { x with stage := .suspending }).emit (.nandSuspend n p.req.die true)

/-- The resume command, where one is due (R69). -/
def State.resume (s : State) (n l : Nat) : State :=
  match s.suspendedOp n l with
  | some p =>
    if s.resumeDue n l then
      ((s.setStage n p.id fun x => { x with stage := .running, runAt := s.now }).onDie n l fun d =>
        { d with suspReads := 0 }).emit (.nandSuspend n l false)
    else s
  | none => s

/-! ### Credits (R73, R74) -/

/-- Credits of a rail group's pool, shown by each of its four channels. -/
def State.pool (s : State) (g : Nat) : Nat := s.get (R.CHAN_BUDGET_GRP_LEFT (4 * g))

def State.setPool (s : State) (g v : Nat) : State :=
  (List.range 4).foldl (fun s k => s.put (R.CHAN_BUDGET_GRP_LEFT (4 * g + k)) v) s

/-- Cost of an operation (R60, R73). -/
def State.opCost (s : State) (n : Nat) (o : OpReq) : Nat :=
  if o.brace || 6 ≤ o.code || o.fwOpc.isSome then 0
  else
    let p := popcount 4 o.planes
    if o.code = 0 then s.get (R.CHAN_COST_READ n) * p
    else if o.code = 1 then s.get (R.CHAN_COST_READ n) * o.senses * p
    else if o.isProg then s.get (R.CHAN_COST_PROG n) * p
    else s.get (R.CHAN_COST_ERS n) * p

/-! ### The next bus action (R63) -/

/-- A bus action of a die. -/
inductive BusAct where
  | transfer (o : ChanOp)
  | issue (o : ChanOp)
  | suspend (o : ChanOp)
  | resume (o : ChanOp)
  deriving DecidableEq, Repr

/-- The oldest issuable operation of a die with a property. -/
def State.oldest (s : State) (n l : Nat) (p : ChanOp → Bool) : Option BusAct :=
  ((s.chanSt n).ops.find? fun o => decide (o.req.die = l) && p o && s.issuable n o).map BusAct.issue

/-- The first ready action of a die in the order of R63; `sensed` says that the die's oldest read has its data sensed. -/
def State.firstReady (s : State) (n l : Nat) (sensed : Bool) : Option BusAct :=
  let c := s.chanSt n
  let out := if sensed then
      (c.ops.find? fun o => decide (o.req.die = l) && decide (o.stage = .running)
        && (o.req.isRead || o.req.fwOpc = some 5)).map BusAct.transfer
    else none
  let age := 1000 * s.get (R.CHAN_PROG_AGE_AGE n)
  [out,
   s.oldest n l (·.req.brace),
   ((if s.resumeDue n l then s.suspendedOp n l else none).map BusAct.resume),
   ((s.maySuspend n l).map BusAct.suspend),
   s.oldest n l (fun o => o.req.cls = 1 && decide (o.since + age ≤ s.now)),
   s.oldest n l (fun o => o.req.cls = 0),
   s.oldest n l (fun o => o.req.cls = 1)].findSome? id

/-- Reset LUN of a die (R66, R77): programs and erases in flight or suspended complete ABORTED, reads in flight go back
to their place in the queue, and the die's features become unknown (R60). -/
def State.resetLun (s : State) (n l : Nat) (why : ResetWhy) : State :=
  let s := s.onDie n l fun d => { d with reset := some why, ofs := none, stale := true, loopSet := false, suspReads := 0 }
  let mine := (s.chanSt n).ops.filter fun o => decide (o.req.die = l) && o.inFlight && o.req.fwOpc ≠ some 0
  let s := mine.foldl (fun s o =>
    if o.req.isPe then s.opDone n o 5
    else s.setStage n o.id fun x => { x with stage := .queued, joined := false }) s
  s.emit (.nandReset n l)

/-- The page tag of a program, which `Ftl` gives for PUs (R164); for others the channel's own. -/
abbrev TagOf := State → Nat → OpReq → Bytes

/-- The data of a program, slot by slot; none where a slot's word is uncorrectable (R541). -/
def State.progData : List Nat → State → Option Bytes × State
  | [], s => (some [], s)
  | k :: ks, s =>
    match s.readSlot k with
    | (none, s) => (none, s)
    | (some (bs, _), s) =>
      match State.progData ks s with
      | (none, s) => (none, s)
      | (some bs', s) => (some (bs ++ bs'), s)

/-- An operation issued to its die: cost charged, read offsets applied (R60), program data taken and its slots freed.
`none` where the data cannot be read, and the operation is not issued (R541). -/
def State.opIssue (s : State) (tag : TagOf) (n : Nat) (o : ChanOp) : Bool × State :=
  let l := o.req.die
  let g := n / 4
  let cost := s.opCost n o.req
  match (if o.req.isProg then State.progData o.req.slots s else (some [], s)) with
  | (none, s) => (false, s.opDone n o 8)
  | (some bs, s) =>
    let s := s.setPool g (s.pool g - cost)
    let s := s.onChan n fun c => { c with spent := c.spent + cost }
    let s := if o.req.isProg then o.req.slots.foldl (fun s k => s.freeSlot k) s else s
    let sus := (s.suspendedOp n l).isSome
    let s := s.setStage n o.id fun x => { x with stage := .running, runAt := s.now, joined := sus }
    let s := s.onDie n l fun d =>
      { d with stale := if o.req.code ≤ 5 then false else d.stale
               ofs := if o.req.isRead && o.req.fwOpc.isNone then some o.req.ofs else d.ofs }
    if o.req.fwOpc = some 0 then (true, (s.resetLun n l .fw).refill n)
    else
      (true, (s.emit (.nand n l o.req.code o.req.block o.req.page o.req.planes (bs ++ o.req.data)
        (if o.req.isProg then tag s n o.req else []))).refill n)

/-- The search over the dies, one past the die served last (R63): the state after the action, and the operation issued,
if one was. -/
def State.pickLoop (tag : TagOf) (n : Nat) (sensed : Nat) : Nat → Nat → State → Option ChanOp × State
  | 0, _, s => (none, s)
  | fuel + 1, l, s =>
    let next := (l + 1) % 32
    match s.firstReady n l (sensed.testBit l) with
    | none => State.pickLoop tag n sensed fuel next s
    | some (.issue o) =>
      if 4 ≤ s.flight n l then State.pickLoop tag n sensed fuel next s
      else if s.pool (n / 4) < s.opCost n o.req then
        State.pickLoop tag n sensed fuel next
          ((s.setStage n o.id fun x => { x with waited := true }).onChan n fun c =>
            { c with refused := if o.waited then c.refused else c.refused + 1 })
      else
        match (s.onChan n fun c => { c with last := l }).opIssue tag n o with
        | (true, s) => (some o, s)
        | (false, s) => (none, s)
    | some (.transfer o) =>
      (none, (s.onChan n fun c => { c with last := l }).setStage n o.id fun x => { x with stage := .transfer })
    | some (.suspend o) => (none, (s.onChan n fun c => { c with last := l }).suspend n o)
    | some (.resume _) => (none, (s.onChan n fun c => { c with last := l }).resume n l)

def State.diePick (s : State) (tag : TagOf) (n : Nat) (sensed : Nat) : Option ChanOp × State :=
  State.pickLoop tag n sensed 32 (((s.chanSt n).last + 1) % 32) s

/-! ### Results (R65 to R67) -/

/-- The record of a failed or timed-out operation: FAIL_0, FAIL_1 and FAIL_CNT. -/
def State.failRecord (s : State) (n : Nat) (o : OpReq) (code planes : Nat) : State :=
  let s := s.wr (R.CHAN_FAIL_0 n) (BitVec.ofNat 32 (o.die + o.code % 8 * 2 ^ 8 + code * 2 ^ 12 + planes % 16 * 2 ^ 16))
  let s := s.wr (R.CHAN_FAIL_1 n) (BitVec.ofNat 32 (o.block % 2 ^ 16 + (if o.isErase then 0 else o.page % 4096) * 2 ^ 16))
  s.bump (R.CHAN_FAIL_CNT_CNT n) 1

/-- An operation of a channel by its number. -/
def State.chanOp (s : State) (n id : Nat) : Option ChanOp := (s.chanSt n).ops.find? fun o => decide (o.id = id)

/-- The queued, unissued operations with a property complete with a code. -/
def State.flushOps (s : State) (n code : Nat) (p : ChanOp → Bool) : State :=
  ((s.chanSt n).ops.filter p).foldl (fun s o => s.opDone n o code) s

/-- The end of a program or erase (R65): OK, or FAIL with the planes the die names, none where it names none. -/
def State.peDone (s : State) (n : Nat) (o : ChanOp) (fail : Option Nat) : State :=
  let v := if o.req.isProg then 0x11 else 0x12
  let s := s.evtB (chanPage n) v (popcount 4 o.req.planes)
  match fail with
  | none => ((s.opDone n o 0).resume n o.req.die).refill n
  | some ps =>
    let planes := if ps % 16 = 0 then o.req.planes else ps % 16
    let s := s.failRecord n o.req 1 planes
    let s := (s.evtB (chanPage n) 0x17 1).pulse (chanSrc n 0)
    let s := s.raise .chan n 0x02 .c (o.req.die + o.req.code * 2 ^ 5 + planes * 2 ^ 8 + o.req.block % 2 ^ 16 * 2 ^ 12)
    let s := s.opDone n o 1
    (s.flushOps n 6 fun x => !x.inFlight && x.req.isProg && decide (x.req.die = o.req.die)
      && decide (x.req.block = o.req.block)).refill n

/-- A die becomes OFFLINE and its operations complete OFFLINE. -/
def State.dieOffline (s : State) (n l reason : Nat) : State :=
  let s := (s.setDie n l 3).onDie n l fun d => { d with reason := reason, reset := none, tempDue := none }
  (s.flushOps n 3 fun o => decide (o.req.die = l)).refill n

/-- A die goes OFFLINE for a timeout (R66): source, fault, reason TMO. -/
def State.dieTimedOut (s : State) (n l : Nat) : State :=
  ((s.dieOffline n l 7).pulse (chanSrc n 2)).raise .chan n 0x03 .u (l + 7 * 32)

/-- A rail group is locked off (R67). -/
def State.groupOffline (s : State) (g : Nat) : State :=
  (List.range 4).foldl (fun s k =>
    let n := 4 * g + k
    let ds := (List.range 32).filter fun l => decide (s.dieState n l ≠ 0)
    if ds.isEmpty then s else (ds.foldl (fun s l => s.dieOffline n l 8) s).pulse (chanSrc n 2)) s

/-! ### Temperature (R75, R76) -/

/-- A temperature byte as a signed number plus 128. -/
def tempKey (t : Nat) : Nat := (t + 128) % 256

/-- P1 − BIAS limited to −128 to 127, as a byte. -/
def tempByte (p1 bias : Nat) : Nat :=
  let v : Int := (p1 : Int) - (bias : Int)
  let v := if v < -128 then -128 else if 127 < v then 127 else v
  (v % 256).toNat

/-- A die's temperature sample stored (R75, R76). -/
def State.tempSample (s : State) (n l t : Nat) : State :=
  let s := s.onEsc fun x => { x with y1new := true }
  let s := s.onDie n l fun d =>
    { d with temp := t, tempDue := some (s.now + 10 ^ 6 * s.get (R.CHAN_TEMP_CFG_PERIOD n)) }
  if tempKey (s.get (R.CHAN_TEMP_MAX_HI n)) ≤ tempKey t then
    (s.put (R.CHAN_TEMP_MAX_HI_STS n) 1).setLevel (chanSrc n 3) true
  else s

/-- The highest last temperature among the ACTIVE dies, and its die; the lowest die on a tie. -/
def State.tempMax (s : State) (n : Nat) : Option (Nat × Nat) :=
  (List.range 32).foldl (fun b l =>
    let t := (s.dieSt n l).temp
    if s.dieState n l ≠ 1 ∨ t = 0x80 then b
    else
      match b with
      | none => some (t, l)
      | some x => if tempKey x.1 < tempKey t then some (t, l) else b) none

/-! ### Discovery (R55 to R58) -/

/-- The first local die at or after `l` whose chip enable is probed. -/
def State.nextProbe (s : State) (n l : Nat) : Option Nat :=
  (List.range 32).find? fun k => decide (l ≤ k) && (s.get (R.CHAN_CFG_CE_EN n)).testBit (k / 4)

/-- Discovery goes on to a die, or ends (R57). -/
def State.probeNext (s : State) (n l : Nat) : State :=
  match (if l < 32 then s.nextProbe n l else none) with
  | some k => s.onChan n fun c => { c with probe := some k }
  | none =>
    let s := s.onChan n fun c => { c with probe := none }
    (((s.put (R.CHAN_DISC_STS_BUSY n) 0).put (R.CHAN_DISC_STS_DONE n) 1).put (R.CHAN_DISC_CTL_START n) 0).pulse
      (chanSrc n 1)

/-- Discovery starts (R55, R58). -/
def State.discStart (s : State) (n : Nat) : State :=
  let s := (List.range 32).foldl (fun s l => if s.dieState n l = 0 then s else s.setDie n l 0) s
  let s := s.onChan n fun c => { c with dies := [] }
  (s.put (R.CHAN_DISC_STS_BUSY n) 1).probeNext n 0

/-- The first failed check of R56; 0 where the die passes. -/
def State.dieCheck (s : State) (n : Nat) (f : DieFacts) : Nat :=
  if !f.crcOk then 1
  else if !f.rates.testBit (s.get (R.CHAN_CFG_RATE n)) then 2
  else if f.planes ≠ s.planes n ∨ f.luns ≠ s.get (R.CHAN_GEOM_REF_LUNS n) + 1 ∨ f.ppb ≠ s.ppb n ∨ f.bpp ≠ s.bpp n then 3
  else if f.pageBytes < 18464 then 4
  else if !f.multiPlane then 5
  else if !f.trained then 6
  else 0

/-- The discovery of the present die ends (R55, R56). -/
def State.probeDone (s : State) (n : Nat) (f : DieFacts) : State :=
  match (s.chanSt n).probe with
  | none => s
  | some l =>
    if !f.signature then s.probeNext n (l / 4 * 4 + 4)
    else if f.crcOk ∧ f.luns ≤ l % 4 then s.probeNext n (l + 1)
    else
      let why := s.dieCheck n f
      let s := if why ≠ 0 then (s.setDie n l 2).onDie n l fun d => { d with reason := why }
        else
          let d : DieSt := { DieSt.none_ with
            nosusp := !f.suspends
            tempOk := f.temp.isSome
            loopSet := s.flag (R.CHAN_LOOP_CFG_EN n) && f.loopOk
            tempDue := if f.temp.isSome then some s.now else none
            stale := false }
          let s := (s.setDie n l 1).onDie n l fun _ => d
          match f.temp with
          | some p1 =>
            (s.tempSample n l (tempByte p1 (s.get (R.CHAN_TEMP_CFG_BIAS n)))).onDie n l fun d => { d with tempDue := some s.now }
          | none => s
      s.probeNext n (l + 1)

/-! ### Quiesce (R77) -/

/-- No operation other than BRACE class is in flight. -/
def State.quiesceDone (s : State) (n : Nat) : Bool :=
  s.quiesced n && !(s.chanSt n).ops.any fun o => o.inFlight && !o.req.brace

/-- A quiesce takes hold: erases are reset, and with ABORT programs too; with FINISH suspended programs resume. -/
def State.quiesce (s : State) (n mode : Nat) : State :=
  if mode = 0 then s
  else
    let c := s.chanSt n
    let hit := fun (l : Nat) =>
      c.ops.any (fun o => decide (o.req.die = l) && o.inFlight && !o.req.brace
        && (o.req.isErase || (decide (mode = 2) && o.req.isProg)))
      && !c.ops.any (fun o => decide (o.req.die = l) && o.inFlight && o.req.brace)
    let s := (List.range 32).foldl (fun s l => if hit l then s.resetLun n l .quiesce else s) s
    (List.range 32).foldl (fun s l => s.resume n l) s

/-! ### The CHAN pages -/

/-- CHAN's own checks (R58, R78, R77, the FW registers). -/
def chanChecks : Checks := fun s _ p o v =>
  let n := p.inst
  if 0x80 ≤ o ∧ o < 0x8C then failIf (s.enabled p.base0) 4
  else if o = 0x8C ∧ v.bit 0 then
    let c := s.chanSt n
    failIf (!s.enabled p.base0 || decide (s.railState (n / 4) ≠ 3) || s.flag (R.CHAN_DISC_STS_BUSY n)
        || !c.ops.isEmpty || !c.backlog.isEmpty) 4
      ++ failIf (decide (2 ^ 39 < s.planes n * s.bpp n * s.ppb n * 16384)) 7
  else if o = 0xD8 then failIf (s.get R.PLJ_PF_STS_STATE = 1) 4
  else if o = 0xE8 ∧ v.bit 0 then failIf (s.flag (R.CHAN_FW_CTL_GO n)) 4
  else []

/-- An FW operation enters the queue as FW_OP and FW_CTL hold it. -/
def State.fwGo (s : State) (n : Nat) : State :=
  let opc := s.get (R.CHAN_FW_OP_OPC n)
  s.opEnqueue n ⟨if opc = 5 then 0 else 7, false, s.get (R.CHAN_FW_OP_DIE n), 0, 0, 1, 0, 0, false,
    if opc = 5 then [s.get (R.CHAN_FW_CTL_SLOT n)] else [], .fw opc, []⟩

/-- What a write to a CHAN register does beyond its fields. -/
def chanEffect : Effect := fun s _ p o old v =>
  let n := p.inst
  if o = 4 ∧ v.bit 0 ∧ !old.bit 0 then s
  else if o = 0x8C ∧ v.bit 0 then s.discStart n
  else if o = 0xD8 then s.quiesce n (v.fld 0 2)
  else if o = 0xE8 ∧ v.bit 0 then s.fwGo n
  else if o = 0xC8 then s.setLevel (chanSrc n 3) (s.flag (R.CHAN_TEMP_MAX_HI_STS n))
  else if o = 0xC4 then
    (List.range 32).foldl (fun s l =>
      match (s.dieSt n l).tempDue with
      | none => s
      | some t =>
        let t' := if v.bit 12 && !old.bit 12 then s.now else t + 10 ^ 6 * v.fld 0 12 - 10 ^ 6 * old.fld 0 12
        s.onDie n l fun d => { d with tempDue := some t' }) s
  else s

/-- What CHAN registers show: the indexed die, the queue, the highest temperature, QUIESCE.DONE. -/
def chanView : View := fun s _ p o =>
  let n := p.inst
  let c := s.chanSt n
  if o = 0xA0 then
    let l := s.get (R.CHAN_DIE_IDX_IDX n)
    let d := s.dieSt n l
    let susp := match s.runningPe n l with | some x => min 15 x.susp | none => 0
    some (BitVec.ofNat 32 (s.dieState n l + d.reason * 2 ^ 2 + b2n d.nosusp * 2 ^ 6 + b2n d.tempOk * 2 ^ 7
      + b2n d.loopSet * 2 ^ 8 + d.temp * 2 ^ 16 + susp * 2 ^ 24))
  else if o = 0xC0 then
    let q := c.ops.filter fun x => !x.inFlight
    some (BitVec.ofNat 32 (min 128 q.length + (c.ops.length - q.length) * 2 ^ 8
      + ((List.range 32).filter fun l => (s.suspendedOp n l).isSome).length * 2 ^ 16
      + (q.filter (·.held)).length % 256 * 2 ^ 24))
  else if o = 0xC8 then
    let m := (s.tempMax n).getD (0x80, 0)
    some (((s.rd (p.base + o)).setFld 0 8 m.1).setFld 8 5 m.2)
  else if o = 0xD8 then some ((s.rd (p.base + o)).setFld 8 1 (b2n (s.quiesceDone n)))
  else none

end Sys2Proof.Machine
end

