-- ==== Sys2Proof/Machine/Rail.lean ====
section
/-! DEFINITION. The flash rail switches (chapter 13): sequences, ramps and their limiter, lock-offs, retries, and
switch-off by CTL.OFF. -/

namespace Sys2Proof.Machine

open Sys2Proof

/-- A rail group set to a state (STS.STATE_g). -/
def State.setRail (s : State) (g st : Nat) : State := s.wr R.RAIL_STS ((s.rd R.RAIL_STS).setFld (3 * g) 3 st)

/-- RAMP, SETTLE or ON: the group's gate is driven (R420). -/
def State.railDriven (s : State) (g : Nat) : Bool := decide (1 ≤ s.railState g) && decide (s.railState g ≤ 3)

/-- Some group is in a state. -/
def State.anyRail (s : State) (p : Nat → Bool) : Bool := (List.range 8).any fun g => p (s.railState g)

/-- The limiter of a group engages or releases; STS.LIMIT says that one is active. -/
def State.setLimit (s : State) (g : Nat) (on : Bool) : State :=
  let s := s.onRail fun x => { x with limit := if on then insertNat g x.limit else x.limit.filter (· ≠ g) }
  s.put R.RAIL_STS_LIMIT (b2n (!s.rail.limit.isEmpty))

/-- A group's gate goes low: it is neither limited nor cooling down. -/
def State.gateLow (s : State) (g : Nat) : State := s.setLimit g false

/-- A ramp starts (R414). -/
def State.rampStart (s : State) (g : Nat) : State := (s.setRail g 1).evtB 0x50000 0x10 1

/-- The end of a slot that starts now. -/
def State.slotEndAt (s : State) : Nat := s.now + 10 ^ 6 * s.get R.RAIL_CFG2_STAGGER

/-- A sequence goes on with its next group that is still OFF, or ends (R419). -/
def State.seqLoop : List Nat → State → State
  | [], s =>
    let s := s.onRail fun x => { x with seq := [], slot := none }
    (s.put R.RAIL_STS_SEQ_BUSY 0).put R.RAIL_CTL_SEQ 0
  | g :: gs, s =>
    if s.railState g = 0 then (s.onRail fun x => { x with seq := gs, slot := some (g, s.slotEndAt) }).rampStart g
    else State.seqLoop gs s

/-- CTL.SEQ takes every enabled OFF group in ascending order (R419). -/
def State.railSeq (s : State) : State :=
  State.seqLoop ((List.range 8).filter fun g => s.fbit R.RAIL_EN_EN g && decide (s.railState g = 0))
    (s.put R.RAIL_STS_SEQ_BUSY 1)

/-- The fault, event and records that a lock-off makes at once or in RUN (R415, R422, R439). -/
def State.lockReport (s : State) (g loc : Nat) : State := (s.pulse (16 + g)).raise .rail 0 0x06 .u loc

/-- A group locked off for a cause (R415 to R418): COOL where one retry is allowed, else LOCKED; the records, the dies of
its channels (R67), and the fault and event unless they wait for RUN. -/
def State.lockOff (s : State) (g cause peak : Nat) (defer : Bool) : State :=
  let retry := match s.rail.retry with | some x => decide (x.1 = g) | none => false
  let cool := s.flag R.RAIL_CFG_RETRY_EN && !s.fbit R.RAIL_FLT_RETRY_USED g
  let s := s.setRail g (if cool then 6 else 5)
  let s := if cool then s.onRail fun x => { x with cool := x.cool.put g (s.now + 10 ^ 9) } else s
  let s := (s.gateLow g).onRail fun x => { x with offAt := x.offAt.del g }
  let s := (s.putBit R.RAIL_FLT_LOCKED g true).putBit R.RAIL_CTL_OFF g false
  let s := s.wr R.RAIL_CAUSE ((s.rd R.RAIL_CAUSE).setFld (3 * g) 3 cause)
  let s := s.wr R.RAIL_LAST
    (BitVec.ofNat 32 (g + cause * 2 ^ 3 + b2n retry * 2 ^ 6 + min 65535 peak * 2 ^ 8))
  let s := (s.bump R.RAIL_LOCK_CNT_CNT 1).evtB 0x50000 0x11 1
  let loc := g + cause * 2 ^ 3 + b2n retry * 2 ^ 6
  let s := if defer then s.onRail fun x => { x with deferred := x.deferred ++ [(g, loc)] } else s.lockReport g loc
  s.groupOffline g

/-- The faults and events of sleep lock-offs, when the device reaches RUN (R422). -/
def State.railDeferred (s : State) : State :=
  s.rail.deferred.foldl (fun s x => s.lockReport x.1 x.2) (s.onRail fun x => { x with deferred := [] })

/-- The end of a group's slot: its output within 5 % of TARGET, or a lock-off with cause SETTLE (R416, R419); a group that
left RAMP and SETTLE during its slot stays as it is. -/
def State.slotJudge (s : State) (g : Nat) (settled : Bool) (peak : Nat) : State :=
  if s.railState g = 1 ∨ s.railState g = 2 then
    if settled then ((s.setLimit g false).setRail g 3).pulse (16 + g) else s.lockOff g 5 peak false
  else s

/-- The group whose slot has run out: the sequence's or the retry's. -/
def State.slotEnd (s : State) (g : Nat) (settled : Bool) (peak : Nat) : State :=
  match s.rail.slot, s.rail.retry with
  | some x, y =>
    if x.1 = g ∧ x.2 ≤ s.now then
      let s := s.slotJudge g settled peak
      State.seqLoop s.rail.seq s
    else
      match y with
      | some z =>
        if z.1 = g ∧ z.2 ≤ s.now then (s.slotJudge g settled peak).onRail fun r => { r with retry := none } else s
      | none => s
  | none, some z =>
    if z.1 = g ∧ z.2 ≤ s.now then (s.slotJudge g settled peak).onRail fun r => { r with retry := none } else s
  | none, none => s

/-- A group in COOL is ramped once more, when nothing of R418 makes it wait. -/
def State.railRetry (s : State) (g : Nat) : State :=
  let due : Bool := match s.rail.cool.find g with | some t => decide (t ≤ s.now) | none => false
  if s.railState g = 6 ∧ due ∧ s.rail.slot.isNone ∧ s.rail.retry.isNone ∧ !s.anyRail (fun x => decide (x = 1))
      ∧ s.get R.PLJ_PF_STS_STATE = 0 ∧ s.cur < 2 then
    let s := s.onRail fun x => { x with cool := x.cool.del g, retry := some (g, s.slotEndAt) }
    ((s.putBit R.RAIL_FLT_RETRY_USED g true).rampStart g).pulse (16 + g)
  else s

/-- A bit of CTL.OFF pulls its group's gate low (R420); a group whose gate is low already reads OFF at once. -/
def State.railOff (s : State) (g : Nat) : State :=
  if s.railDriven g then
    ((s.gateLow g).setRail g 4).onRail fun x => { x with offAt := x.offAt.put g s.now }
  else if s.railState g = 4 then s.onRail fun x => { x with offAt := x.offAt.put g s.now }
  else s.putBit R.RAIL_CTL_OFF g false

/-- A group's switch-off by the brace or by HALT: its gate goes low, and nothing waits for its output (R420). -/
def State.railDrop (s : State) (g : Nat) : State := (s.gateLow g).setRail g 4

/-- RAIL's own checks (R420, R438). -/
def railChecks : Checks := fun s _ _ o v =>
  if 0x80 ≤ o ∧ o < 0x8C then
    failIf (s.anyRail fun x => decide (x = 1 ∨ x = 2 ∨ x = 6)) 4
      ++ failIf (decide (o = 0x80) && decide (v.fld 0 7 ≤ v.fld 8 7)) 7
      ++ failIf (decide (o = 0x88) && decide (v.fld 8 8 ≤ v.fld 0 8)) 7
  else if o = 0x90 then
    let busy := s.flag R.RAIL_STS_SEQ_BUSY
    failIf (v.bit 0 && (busy || s.anyRail (fun x => decide (x = 1)) || decide (s.get R.PLJ_PF_STS_STATE = 1)
        || (decide (s.get R.PLJ_PF_STS_STATE = 2) && s.flag R.PLJ_PF_STS_PFAIL))) 4
      ++ failIf ((List.range 8).any fun g => v.bit (8 + g)
          && (busy || (List.range 4).any fun k => s.enabled (chanPage (4 * g + k)))) 4
  else []

/-- What a write to CTL does beyond its fields. -/
def railEffect : Effect := fun s _ _ o _ v =>
  if o = 0x90 then
    let s := if v.bit 0 then s.railSeq else s
    (List.range 8).foldl (fun s g => if v.bit (8 + g) then s.railOff g else s) s
  else s

/-- RAIL_SEQUENCE: a write of CTL.SEQ (R419, R438). -/
def execRailSequence (r : Requester) (s : State) : Host.Outcome State Fault Refusal :=
  act s fun s => s.softWrite railChecks railEffect r R.RAIL_CTL 1

/-- RAIL_SLOT_END: a group's slot ends with its output within 5 % of TARGET or not (R416, R419). -/
def execRailSlotEnd (g : Fin 8) (settled : Bool) (peak : BitVec 16) (s : State) : Host.Outcome State Fault Refusal :=
  act s fun s => s.slotEnd g.val settled peak.toNat

/-- RAIL_RAMP_DONE: a group's gate reaches V_PUMP (R414); a limiter that holds the gate keeps it from there. -/
def execRailRampDone (g : Fin 8) (s : State) : Host.Outcome State Fault Refusal :=
  act s fun s => if s.railState g.val = 1 ∧ !s.rail.limit.contains g.val then s.setRail g.val 2 else s

/-- RAIL_LIMITER_CHANGE: the limiter of a ramping group engages, or any releases (R414). -/
def execRailLimiterChange (g : Fin 8) (on : Bool) (s : State) : Host.Outcome State Fault Refusal :=
  act s fun s => if s.railState g.val = 1 ∨ !on then s.setLimit g.val on else s

/-- RAIL_SHORT: a ramping group is declared shorted by SAT, while its limiter is active, or by HALF (R415). -/
def execRailShort (g : Fin 8) (sat : Bool) (peak : BitVec 16) (s : State) : Host.Outcome State Fault Refusal :=
  act s fun s =>
    if s.railState g.val = 1 ∧ (!sat ∨ s.rail.limit.contains g.val) then
      s.lockOff g.val (if sat then 2 else 1) peak.toNat false
    else s

/-- RAIL_OVERCURRENT: an ON group's current exceeds OC for 20 µs (R416). -/
def execRailOvercurrent (g : Fin 8) (peak : BitVec 16) (s : State) : Host.Outcome State Fault Refusal :=
  act s fun s => if s.railState g.val = 3 then s.lockOff g.val 3 peak.toNat false else s

/-- RAIL_UNDERVOLTAGE: an ON group's output stays below 85 % of TARGET for 50 µs, and no brace suspends the check
(R416). -/
def execRailUndervoltage (g : Fin 8) (peak : BitVec 16) (s : State) : Host.Outcome State Fault Refusal :=
  act s fun s =>
    if s.railState g.val = 3 ∧ s.get R.PLJ_PF_STS_STATE = 0 then s.lockOff g.val 4 peak.toNat false else s

/-- RAIL_SLEEP_UV: in NAP or DEEP an ON group is below 85 % of TARGET on two ticks (R422). -/
def execRailSleepUv (g : Fin 8) (peak : BitVec 16) (s : State) : Host.Outcome State Fault Refusal :=
  act s fun s => if s.railState g.val = 3 ∧ 2 ≤ s.cur then s.lockOff g.val 4 peak.toNat true else s

/-- RAIL_RETRY: the cool-down of a group has ended (R418). -/
def execRailRetry (g : Fin 8) (s : State) : Host.Outcome State Fault Refusal :=
  act s fun s => s.railRetry g.val

/-- RAIL_OFF: a write of CTL.OFF bits (R420, R438). -/
def execRailOff (r : Requester) (mask : Byte) (s : State) : Host.Outcome State Fault Refusal :=
  act s fun s => s.softWrite railChecks railEffect r R.RAIL_CTL (BitVec.ofNat 32 (mask.toNat * 256))

/-- RAIL_OFF_DONE: the output of a group being switched off falls below 10 % of TARGET (R420). -/
def execRailOffDone (g : Fin 8) (s : State) : Host.Outcome State Fault Refusal :=
  act s fun s =>
    if s.railState g.val = 4 then
      ((s.setRail g.val 0).putBit R.RAIL_CTL_OFF g.val false).onRail fun x => { x with offAt := x.offAt.del g.val }
    else s

/-- RAIL_STUCK: 100 ms after CTL.OFF pulled its gate low, a group's output has not fallen (R420). -/
def execRailStuck (g : Fin 8) (peak : BitVec 16) (s : State) : Host.Outcome State Fault Refusal :=
  act s fun s =>
    let due : Bool := match s.rail.offAt.find g.val with | some t => decide (t + 10 ^ 8 ≤ s.now) | none => false
    if s.railState g.val = 4 ∧ due then s.lockOff g.val 6 peak.toNat false else s

end Sys2Proof.Machine
end

