-- ==== Sys2Proof/Machine/Crc.lean ====
section
/-! DEFINITION. CRC-32C, the check that the flash formats name (R92, R125, R157, R164). -/

namespace Sys2Proof.Machine

open Sys2Proof

/-- Eight shifts of the reflected CRC register. -/
def crcShift : Nat → Nat → Nat
  | 0, c => c
  | k + 1, c => crcShift k (if c % 2 = 1 then (c / 2) ^^^ 0x82F63B78 else c / 2)

/-- The register after a string of bytes. -/
def crcRun (c : Nat) (bs : Bytes) : Nat := bs.foldl (fun c b => crcShift 8 (c ^^^ b.toNat)) c

/-- CRC-32C (Castagnoli) of a string of bytes. -/
def crc32c (bs : Bytes) : Nat := (crcRun 0xFFFFFFFF bs) ^^^ 0xFFFFFFFF

end Sys2Proof.Machine
end

