-- ==== Sys2Proof/Machine/Ftl.lean ====
section
/-! DEFINITION. Placement and translation (chapter 04) with the appending side of the journal (R153 to R159): the maps,
superblocks and their lifecycle, placement, open-block parity, garbage collection, wear, bad blocks and the FTL commands. -/

namespace Sys2Proof.Machine

open Sys2Proof

/-- Seconds of device time. -/
def State.secs (s : State) : Nat := s.devTime / 10 ^ 9 % 2 ^ 32

/-- TIME_UNKNOWN (R408). -/
def State.timeUnknown (s : State) : Bool := s.flag R.AON_TIME_STS_UNKNOWN

/-! ### Geometry (R81, R82, R88, R89) -/

/-- Blocks per plane, pages per block and planes, which every channel shares. -/
def State.gBpp (s : State) : Nat := s.bpp 0
def State.gPpb (s : State) : Nat := s.ppb 0
def State.gPlanes (s : State) : Nat := s.planes 0

/-- Units of a multi-plane block. -/
def State.blockUnits (s : State) : Nat := s.gPpb * s.gPlanes * 4

/-- Die number and block of a PSA. -/
def psaDie (psa : Nat) : Nat := psa / 2 ^ 27 % 1024
def State.psaBlock (s : State) (psa : Nat) : Nat := psa % 2 ^ 27 / s.blockUnits

/-- The local dies missing of a local die number on each channel, as the FTL found them when it was enabled (R90). -/
def State.homeMissing (s : State) (l : Nat) : Nat := s.ftl.home.getD l (2 ^ 32 - 1)

/-- MIN_WIDTH. -/
def State.minWidth (s : State) : Nat := s.get R.FTL_CFG_MIN_WIDTH

/-- The superblock exists (R90). -/
def State.sbExists (s : State) (k : Nat) : Bool :=
  decide (k / s.gBpp < 32) && decide (s.minWidth ≤ 32 - popcount 32 (s.homeMissing (k / s.gBpp)))

/-- A superblock as enabling leaves it. -/
def SbRec.fresh (missing : Nat) : SbRec :=
  { state := 0, erased := false, cls := 0, slc := false, pe := 0, substs := [], vfyFail := false, early := false,
    spare := false, openTime := 0, closeTime := 0, tempSum := 0, tempN := 0, tempMin := 0, tempMax := 0,
    tempEst := false, timeUnk := false, parityHeld := false, valid := 0, wptr := 0, missing := missing, openSeq := 0,
    plogCnt := 0, use := 0, lastWrite := 0, freeSeq := 0, reads := 0, conf := 0, lastSeq := 0, erasing := 0, vfyBad := false }

/-- A superblock's record. -/
def State.sb (s : State) (k : Nat) : SbRec := s.ftl.sbs.get (fun k => SbRec.fresh (s.homeMissing (k / s.gBpp))) k

/-- Width of a superblock (R88). -/
def SbRec.width (r : SbRec) : Nat := 32 - popcount 32 r.missing

/-- Members of a superblock in ascending channel order: channel, local die, block (R88). -/
def State.members (s : State) (k : Nat) : List (Nat × Nat × Nat) :=
  let r := s.sb k
  (List.range 32).filterMap fun c =>
    match r.substs.find? fun x => decide (x.ch = c) with
    | some x => some (c, x.die, x.block)
    | none => if r.missing.testBit c then none else some (c, k / s.gBpp, k % s.gBpp)

/-- PUs of a member, and positions of a superblock (R88, R89). -/
def State.memberPus (s : State) (slc : Bool) : Nat :=
  (if slc then s.gPpb / (s.get R.FTL_CFG_BITS + 2) else s.gPpb) * s.gPlanes / 4

def State.positions (s : State) (k : Nat) : Nat := (s.sb k).width * s.memberPus (s.sb k).slc

/-- The member, the PU index within it, and the PSA of a position (R81, R82, R89). -/
def State.posMember (s : State) (k p : Nat) : Nat × Nat × Nat :=
  let m := s.members k
  m.getD (p % max 1 m.length) (0, 0, 0)

def State.posPsa (s : State) (k p : Nat) : Nat :=
  let m := s.members k
  let x := s.posMember k p
  (32 * x.1 + x.2.1) * 2 ^ 27 + x.2.2 * s.blockUnits + p / max 1 m.length * 16

/-- Positions of a stripe row, and the row of a position (R102). -/
def SbRec.rowLen (r : SbRec) : Nat := min 31 r.width

/-! ### The block-owner table (R91) -/

/-- The index of a block in the block-owner table. -/
def State.ownKey (s : State) (d b : Nat) : Nat := d * s.gBpp + b

/-- The entry of a block: SBID and ROLE. -/
def State.owner (s : State) (d b : Nat) : Nat :=
  s.ftl.own.get (fun k => (k / s.gBpp % 32) * s.gBpp + k % s.gBpp) (s.ownKey d b)

/-- The superblock of a PSA. -/
def State.sbOf (s : State) (psa : Nat) : Nat := s.owner (psaDie psa) (s.psaBlock psa) % 2 ^ 20

/-- The position of a PSA in its superblock. -/
def State.posOf (s : State) (psa : Nat) : Nat :=
  let k := s.sbOf psa
  let ms := s.members k
  let i := (ms.findIdx? fun m => decide (32 * m.1 + m.2.1 = psaDie psa ∧ m.2.2 = s.psaBlock psa)).getD 0
  psa % 2 ^ 27 % s.blockUnits / 16 * ms.length + i

/-! ### Segments and the journal (R153 to R161) -/

/-- First segment of the content map, the block map, the superblock table and the block-owner table, and the total. -/
def State.segBase (s : State) (region : Nat) : Nat :=
  let c := 2 ^ (19 + s.get R.FTL_CFG_TIER)
  let b := cdiv (5 * s.get R.FTL_NS_CAP_2_IU) 20480
  let t := cdiv (64 * 32 * s.gBpp) 20480
  let o := cdiv (4 * 1024 * s.gBpp) 20480
  if region = 0 then 0 else if region = 1 then c else if region = 2 then c + b else if region = 3 then c + b + t
  else c + b + t + o

/-- A change to a segment with a sequence number makes it dirty (R161). -/
def State.dirtySeg (s : State) (seg seq : Nat) : State :=
  s.onPlj fun x =>
    if x.dirty.any (fun d => decide (d.seg = seg)) then
      { x with dirty := x.dirty.map fun d => if d.seg = seg then { d with seq := max d.seq seq } else d }
    else { x with dirty := x.dirty ++ [⟨seg, s.now, seq⟩] }

/-- The next write sequence number (R154). -/
def State.seqNext (s : State) : Nat := max 1 (s.rd64 R.PLJ_SEQ_LO)

/-- A write sequence number taken. -/
def State.takeSeq (s : State) : Nat × State := (s.seqNext, s.wr64 R.PLJ_SEQ_LO (s.seqNext + 1))

/-- The replay point (R162): the lowest SEG_SEQ of the segments that have a copy. -/
def State.replayPoint (s : State) : Nat :=
  match s.plj.segs with
  | [] => 0
  | e :: es => es.foldl (fun a x => min a x.2.2) e.2.2

/-- Entries of the replay window (R162). -/
def State.keepEntries (s : State) : Nat := s.get R.PLJ_CFG2_KEEP * 2 ^ 20

/-- Map updates are held (R159, R162). -/
def State.jnlStall (s : State) : Bool :=
  decide (16384 ≤ s.plj.ents.length + (s.plj.chunks.map fun c => c.ents.length).sum)
    || decide (2 * s.keepEntries ≤ s.seqNext - 1 - s.replayPoint)

/-- JNL_STS.STALL and its level source brought up to date. -/
def State.stallRefresh (s : State) : State :=
  (s.put R.PLJ_JNL_STS_STALL (b2n s.jnlStall)).setLevel 357 s.jnlStall

/-- After KEEP × 2^20 entries a checkpoint is due (R163). -/
def State.ckptDue (s : State) (seq : Nat) : State :=
  if decide (s.keepEntries ≤ s.plj.sinceCkpt) && s.plj.ckpt.isNone then
    s.onPlj fun p => { p with sinceCkpt := 0, ckpt := some ⟨seq, s.replayPoint, none, 0, 0, false, none⟩ }
  else s

/-- An entry appended (R153): under a number already taken, or under the next one. -/
def State.jnl (s : State) (type ns : Nat) (grp last : Bool) (addr value : Nat) (seq : Option Nat) : State :=
  let x := match seq with
    | some q => (q, s)
    | none => s.takeSeq
  let s := x.2.onPlj fun p => { p with
    since := if p.ents.isEmpty then s.now else p.since
    ents := p.ents ++ [⟨type, ns, grp, last, addr, value, x.1⟩]
    sinceCkpt := p.sinceCkpt + 1 }
  let s := s.evtB 0x2C0000 0x10 1
  (s.ckptDue x.1).stallRefresh

/-! ### Superblock records (R92, R93) -/

/-- Mean of the program temperatures, signed, as a byte. -/
def SbRec.tempAvg (r : SbRec) : Nat := if r.tempN = 0 then 0 else (r.tempSum / r.tempN + 128) % 256

/-- The largest erase count (R92). -/
def peMax : Nat := 2 ^ 20 - 1

/-- The 64 bytes of a record (R92). -/
def SbRec.bytes (k : Nat) (r : SbRec) : Bytes :=
  let w0 := k % 2 ^ 20 + r.state * 2 ^ 20 + b2n r.erased * 2 ^ 23
    + (if 1 ≤ r.state ∧ r.state ≤ 4 then r.cls else 0) * 2 ^ 24 + b2n r.slc * 2 ^ 31
  let w1 := min peMax r.pe + r.width * 2 ^ 20 + r.substs.length * 2 ^ 26 + b2n r.vfyFail * 2 ^ 29
    + b2n r.early * 2 ^ 30 + b2n r.spare * 2 ^ 31
  let t := r.tempAvg + r.tempMin * 2 ^ 8 + r.tempMax * 2 ^ 16 + b2n r.tempEst * 2 ^ 24 + b2n r.timeUnk * 2 ^ 25
    + b2n r.parityHeld * 2 ^ 26
  let sub := (List.range 4).flatMap fun i =>
    match r.substs[i]? with
    | some x => leBytes 4 (x.ch + x.die * 2 ^ 5 + 2 ^ 10 + x.block * 2 ^ 11)
    | none => leBytes 4 0
  let b := leBytes 4 w0 ++ leBytes 4 w1 ++ leBytes 4 r.openTime ++ leBytes 4 r.closeTime ++ leBytes 4 t
    ++ leBytes 4 (r.valid % 2 ^ 22) ++ leBytes 4 (r.wptr % 2 ^ 18) ++ leBytes 4 r.missing ++ sub
    ++ leBytes 8 r.openSeq ++ leBytes 4 (r.plogCnt % 2 ^ 16)
  b ++ leBytes 4 (crc32c b)

/-- Bytes put into DRAM by a block that keeps a table there, whole lines valid as they were. -/
def State.poke (s : State) (a : Nat) (bs : Bytes) : State :=
  if a + bs.length ≤ s.dramCap then s.onMem fun x => { x with dram := putBytes x.dram a bs } else s

/-- A record stored, with its copy in the superblock table. -/
def State.setSb (s : State) (k : Nat) (r : SbRec) : State :=
  let s := s.onFtl fun x => { x with sbs := x.sbs.put k r }
  (s.poke (s.rd64 R.FTL_SBT_BASE_LO % 2 ^ 37 + 64 * k) (r.bytes k)).dirtySeg (s.segBase 2 + 64 * k / 20480) s.seqNext

/-- A block-owner entry stored, with its copy in the table. -/
def State.setOwner (s : State) (d b sbid role : Nat) : State :=
  let v := sbid % 2 ^ 20 + role * 2 ^ 20
  let k := s.ownKey d b
  let s := s.onFtl fun x => { x with own := x.own.put k v }
  (s.poke (s.rd64 R.FTL_OWN_BASE_LO % 2 ^ 37 + 4 * k) (leBytes 4 v)).dirtySeg (s.segBase 3 + 4 * k / 20480) s.seqNext

/-- FREE superblocks (FREE_STS). -/
def State.freeCount (s : State) : Nat :=
  s.get R.FTL_SB_CNT_TOTAL - (s.ftl.sbs.filter fun e => decide (e.2.state ≠ 0)).length

/-- Superblocks in a state. -/
def State.sbsIn (s : State) (st : Nat) : List (Nat × SbRec) := s.ftl.sbs.filter fun e => decide (e.2.state = st)

/-- A record changed with a change of its state, logged as an SB entry (R153); FREE falling below its thresholds pulses
sources 320 and 321 (R123). -/
def State.sbMove (s : State) (k : Nat) (r : SbRec) : State :=
  let f0 := s.freeCount
  let s := s.setSb k r
  let f1 := s.freeCount
  let low := s.get R.FTL_GC_CFG_FREE_LOW
  let crit := s.get R.FTL_GC_CFG2_FREE_CRIT
  let s := if f1 < low ∧ low ≤ f0 then s.pulse 320 else s
  let s := if f1 < crit ∧ crit ≤ f0 then s.pulse 321 else s
  s.jnl 3 0 false false k (r.state + b2n r.erased * 2 ^ 3 + r.cls * 2 ^ 4 + b2n r.slc * 2 ^ 11 + b2n r.early * 2 ^ 12
    + b2n r.vfyFail * 2 ^ 13 + min peMax r.pe * 2 ^ 20) none

/-- A superblock becomes FREE and not erased; the number of the entry that says so holds its erase back (R160). -/
def State.sbFree (s : State) (k : Nat) : State :=
  let r := s.sb k
  s.sbMove k { SbRec.fresh r.missing with
    pe := r.pe, substs := r.substs, slc := r.slc, reads := r.reads, freeSeq := s.seqNext }

/-- A parity-log or journal superblock is freed once nothing in it lives (R106). -/
def State.logCheck (s : State) (k : Nat) : State :=
  let r := s.sb k
  if r.cls = 66 ∧ r.use = 1 ∧ 2 ≤ r.state ∧ r.state ≤ 4 ∧ r.plogCnt = 0 then s.sbFree k else s

/-- The parity of a superblock released (R104, R107): its rows leave the ring, and its parity PUs stop living. -/
def State.releaseParity (s : State) (k : Nat) : State :=
  let mine := s.ftl.par.filter fun e => decide (e.1 / 2 ^ 18 = k)
  let s := s.onFtl fun x => { x with par := x.par.filter fun e => decide (e.1 / 2 ^ 18 ≠ k) }
  let s := mine.foldl (fun s e =>
    match e.2.psa with
    | none => s
    | some p =>
      let j := s.sbOf p
      (s.setSb j { s.sb j with plogCnt := (s.sb j).plogCnt - 1 }).logCheck j) s
  let r := s.sb k
  if r.parityHeld then s.setSb k { r with parityHeld := false } else s

/-- The moves that depend on VALID (R86, R93, R106, R107). -/
def State.sbCheck (s : State) (k : Nat) : State :=
  let r := s.sb k
  if 2 ≤ r.state ∧ r.state ≤ 4 ∧ r.cls ≠ 66 ∧ r.valid = 0 then (s.releaseParity k).sbFree k else s.logCheck k

/-- Valid units added to or taken from the superblock of a PSA. -/
def State.addValid (s : State) (psa : Nat) (add : Bool) (n : Nat) : State :=
  let k := s.sbOf psa
  let r := s.sb k
  s.setSb k { r with valid := if add then r.valid + n else r.valid - n }

/-- A superblock closes (R93): CLOSE_TIME is taken, and EARLY says that positions stay unwritten. -/
def State.sbClose (s : State) (k : Nat) (early : Bool) : State :=
  let r := s.sb k
  let s := s.sbMove k { r with state := 2, early := r.early || early, closeTime := s.secs, vfyBad := false }
  (s.evtB 0x240000 0x14 1).sbCheck k

/-! ### Map entries (R83 to R87) -/

/-- Base and capacity of a map: 0 content, 1 block. -/
def State.mapBase (s : State) (ns : Nat) : Nat :=
  s.rd64 (if ns = 0 then R.FTL_CMAP_BASE_LO else R.FTL_BMAP_BASE_LO) % 2 ^ 37

def State.mapCap (s : State) (ns : Nat) : Nat :=
  if ns = 0 then s.rd64 R.FTL_NS_CAP_1_LO % 2 ^ 33 else s.get R.FTL_NS_CAP_2_IU

/-- Units of an IU. -/
def iuUnits (ns : Nat) : Nat := if ns = 0 then 16 else 1

/-- An entry read through port 1; none where the DRAM gives it as uncorrectable (R541). -/
def State.mapRead (s : State) (ns iu : Nat) : Option Nat × State :=
  if !s.dramOpen then (none, s)
  else
    match s.dramLoad 1 (s.mapBase ns + 5 * iu) 5 with
    | (none, s) => (none, s)
    | (some x, s) => (some (leNat x.1), s)

/-- An entry written, and its segment dirty with a sequence number. -/
def State.mapStore (s : State) (ns iu e seq : Nat) : State :=
  match s.dramStore 1 (s.mapBase ns + 5 * iu) (leBytes 5 e) false with
  | (_, s) => s.dirtySeg (s.segBase ns + iu / 4096) seq

/-- STATE and PSA of an entry. -/
def entState (e : Nat) : Nat := e / 2 ^ 37 % 8
def entPsa (e : Nat) : Nat := e % 2 ^ 37
def mapped (psa : Nat) : Nat := psa + 2 ^ 37

/-- An entry as it is treated (R83, R84): a STATE that is not defined and a MAPPED content entry that is not PU-aligned
are LOST, and raise a U-class fault, whose kind the spec does not give. -/
def State.entryOk (s : State) (ns e : Nat) : Nat × State :=
  if 4 ≤ entState e ∨ (ns = 0 ∧ entState e = 1 ∧ e % 16 ≠ 0) then
    match s.fresh 256 with
    | (k, s) => (entPsa e + 2 * 2 ^ 37, s.raise .ftl 0 k .u (entPsa e))
  else (e, s)

/-- An entry replaced, VALID moved (R86), and the superblocks' moves evaluated after both. -/
def State.mapPut (s : State) (ns iu old e seq : Nat) : State :=
  let s := s.mapStore ns iu e seq
  let n := iuUnits ns
  let s := if entState old = 1 then s.addValid (entPsa old) false n else s
  let s := if entState e = 1 then s.addValid (entPsa e) true n else s
  let s := if entState old = 1 then s.sbCheck (s.sbOf (entPsa old)) else s
  if entState e = 1 then s.sbCheck (s.sbOf (entPsa e)) else s

/-- IUs of a trim that hold something, set to UNMAPPED. -/
def State.trimLoop (ns seq : Nat) : Nat → Nat → State → State
  | 0, _, s => s
  | n + 1, iu, s =>
    let s := match s.mapRead ns iu with
      | (some e, s) => if entState e = 0 then s else s.mapPut ns iu e 0 seq
      | (none, s) => s
    State.trimLoop ns seq n (iu + 1) s

/-- The condition of a conditional update holds (R85): the entry still holds the PSA. -/
def condHolds (cond : Option Nat) (e : Nat) : Bool :=
  match cond with
  | none => true
  | some p => decide (entPsa e = p) && decide (1 ≤ entState e) && decide (entState e ≤ 3)

/-- One map change applied and logged (R85, R153). -/
def State.mapApply (s : State) (u : MapUpd) : State :=
  match u with
  | .trim ns iu count =>
    if s.mapCap ns < iu + count then s
    else
      match s.takeSeq with
      | (q, s) => State.trimLoop ns q count iu (s.jnl 2 ns false false iu count (some q))
  | .map ns iu psa cond seq grp last =>
    if s.mapCap ns ≤ iu then s
    else
      match s.mapRead ns iu with
      | (none, s) => s
      | (some e, s) =>
        if condHolds cond e then
          let x := match seq with | some q => (q, s) | none => s.takeSeq
          (x.2.jnl 1 ns grp last iu (mapped psa) (some x.1)).mapPut ns iu e (mapped psa) x.1
        else s.evtB 0x240000 0x18 1
  | .mark ns iu st cond =>
    match s.mapRead ns iu with
    | (none, s) => s
    | (some e, s) =>
      if condHolds cond e then
        match s.takeSeq with
        | (q, s) =>
          let v := entPsa e + st * 2 ^ 37
          (s.jnl 1 ns false false iu v (some q)).mapPut ns iu e v q
      else s.evtB 0x240000 0x18 1

/-- A map change, or one that waits while the journal is full (R159). -/
def State.mapUpdate (s : State) (u : MapUpd) : State :=
  if s.jnlStall ∨ !s.ftl.stalled.isEmpty then s.onFtl fun x => { x with stalled := x.stalled ++ [u] } else s.mapApply u

/-- Waiting map changes applied while the journal takes them. -/
def State.unstall : Nat → State → State
  | 0, s => s
  | n + 1, s =>
    match s.ftl.stalled with
    | [] => s
    | u :: us => if s.jnlStall then s else State.unstall n ((s.onFtl fun x => { x with stalled := us }).mapApply u)

/-- A lookup (R87, R120): the entry as it stands, or out of range or uncorrectable. -/
def State.mapLookup (s : State) (ns iu : Nat) : Option Nat × State :=
  let s := s.evtB 0x240000 0x17 1
  if s.mapCap ns ≤ iu then (none, s)
  else
    match s.mapRead ns iu with
    | (none, s) => (none, s)
    | (some e, s) =>
      match s.entryOk ns e with
      | (e, s) => (some e, s)

/-- The IUs of a map with an entry that is not UNMAPPED: those with a byte of theirs that is not 0. -/
def State.mappedIus (s : State) (ns : Nat) : List Nat :=
  let b := s.mapBase ns
  ((s.mem.dram.filter fun c => decide (b ≤ c.1) && decide (c.1 < b + 5 * s.mapCap ns)).map
    fun c => (c.1 - b) / 5).eraseDups

/-- The entry as the DRAM holds it, for a scan of the map. -/
def State.entryAt (s : State) (ns iu : Nat) : Nat := leNat (getBytes s.mem.dram (s.mapBase ns + 5 * iu) 5)

/-! ### Opening superblocks (R98 to R101) -/

/-- The open limit (R98). -/
def State.openLimit (s : State) : Nat :=
  let m := s.get R.FTL_OPEN_CFG_OPEN_MAX
  if s.get R.FTL_CFG_TIER = 0 then min m 48 else m

/-- OPEN superblocks of a class (for 66, of a use). -/
def State.openOf (s : State) (cls use : Nat) : List Nat :=
  ((s.sbsIn 1).filter fun e => decide (e.2.cls = cls) && decide (e.2.use = use)).map (·.1)

/-- Superblocks that are FREE and ERASED. -/
def State.erasedFree (s : State) : List Nat :=
  ((s.ftl.sbs.filter fun e => decide (e.2.state = 0) && e.2.erased).map (·.1)).filter fun k => s.sbExists k

/-- The superblock of lowest PE, the lowest SBID on a tie. -/
def State.lowestPe (s : State) (ks : List Nat) : Option Nat :=
  ks.foldl (fun b k =>
    match b with
    | none => some k
    | some j => if (s.sb k).pe < (s.sb j).pe then some k else b) none

/-- The superblock that placement opens for a class (R101). -/
def State.openChoice (s : State) (cls : Nat) : Option Nat :=
  let used := ((s.sbsIn 1).filter fun e => decide (e.2.cls = cls)).map fun e => e.1 / s.gBpp
  match s.lowestPe (s.erasedFree.filter fun k => !used.contains (k / s.gBpp)) with
  | some k => some k
  | none => s.lowestPe s.erasedFree

/-- Whether a class may open a superblock now (R98, R101): every other class of 64 to 67 that holds none keeps one opening. -/
def State.mayOpen (s : State) (cls : Nat) (reloc : Bool) : Bool :=
  let total := (s.sbsIn 1).length
  let content := ((s.sbsIn 1).filter fun e => decide (e.2.cls < 64)).length
  let mine := ((s.sbsIn 1).filter fun e => decide (e.2.cls = cls)).length
  let kept := ([64, 65, 66, 67].filter fun c => decide (c ≠ cls) && !(s.sbsIn 1).any fun e => decide (e.2.cls = c)).length
  decide (total + kept < s.openLimit)
    && (if cls < 64 then decide (content < s.openLimit - 4) && decide (mine < s.get R.FTL_OPEN_CFG_CLASS_OPEN_MAX)
        else true)
    && (decide (s.get R.FTL_GC_CFG2_FREE_CRIT ≤ s.freeCount) || decide (64 ≤ cls) || reloc)

/-- A superblock opened for a class and use (R93, R101): class 66 in SLC mode. -/
def State.sbOpen (s : State) (k cls use : Nat) : State :=
  let r := s.sb k
  s.sbMove k { SbRec.fresh r.missing with
    state := 1, cls := cls, slc := decide (cls = 66), pe := r.pe, substs := r.substs, use := use, reads := r.reads
    lastWrite := s.now, parityHeld := decide (cls ≠ 66) }

/-! ### Padding and closing (R100, R103) -/

/-- The superblock padded for a class that waits and holds none (R100): the least recently written of the content class
that holds the most. -/
def State.padVictim (s : State) : Option Nat :=
  let opens := (s.sbsIn 1).filter fun e => decide (e.2.cls < 64)
  let held := fun (c : Nat) => (opens.filter fun e => decide (e.2.cls = c)).length
  let top := opens.foldl (fun b e => if held b < held e.2.cls then e.2.cls else b) ((opens.head?.map (·.2.cls)).getD 0)
  ((opens.filter fun e => decide (e.2.cls = top)).foldl (fun b e =>
    match b with
    | none => some e
    | some x => if e.2.lastWrite < x.2.lastWrite then some e else b) none).map (·.1)

/-! ### Page tags (R164) -/

/-- The 32-byte tag of a plane page. -/
def pageTag (seq kind : Nat) (reloc : Bool) (pp cls : Nat) (tunk : Bool) (wtime : Nat) (addr : Bytes) : Bytes :=
  let b := leBytes 6 seq ++ leBytes 1 (kind + b2n reloc * 16 + pp * 32) ++ leBytes 1 (cls + b2n tunk * 128)
    ++ leBytes 4 wtime ++ (addr ++ List.replicate 16 0).take 16
  b ++ leBytes 4 (crc32c b)

/-- The ADDR field of a PU's tag on plane page `pp`. -/
def PuReq.addr (r : PuReq) (pp : Nat) : Bytes :=
  if r.kind = 1 then leBytes 8 (((r.ius.getD 0 none).getD 0) % 2 ^ 33)
  else if r.kind = 2 then
    (List.range 4).flatMap fun i =>
      match r.ius.getD (4 * pp + i) none with
      | some l => leBytes 4 (l % 2 ^ 31)
      | none => leBytes 4 (2 ^ 31)
  else (r.ref.take 3).flatMap (leBytes 4)

/-- The tag of a program: of its PU, its parity row, or its chunk. -/
def State.progTag (s : State) (n : Nat) (o : OpReq) : Bytes :=
  let job := match o.use with
    | .pu k p => s.ftl.pus.find (k * 2 ^ 18 + p)
    | .parity k row => s.ftl.pus.find (k * 2 ^ 18 + row)
    | _ => none
  let per := 4 / max 1 (s.planes n)
  match job with
  | some j => pageTag j.seq j.req.kind j.req.reloc (o.page % max 1 per) j.req.cls s.timeUnknown s.secs
      (j.req.addr (o.page % max 1 per))
  | none =>
    match o.use with
    | .chunk no => pageTag s.seqNext 5 false (o.page % max 1 per) 66 s.timeUnknown s.secs (leBytes 4 no)
    | .ichunk no => pageTag s.seqNext 6 false (o.page % max 1 per) 66 s.timeUnknown s.secs (leBytes 4 no)
    | .tail kind ref => pageTag s.seqNext kind false (o.page % max 1 per) 66 s.timeUnknown s.secs (ref.flatMap (leBytes 4))
    | _ => pageTag s.seqNext 5 false 0 66 s.timeUnknown s.secs []

/-! ### Placement (R99, R102, R169) -/

/-- The next position of a superblock may be issued (R169): the parity PU of row r − 2 has completed. -/
def State.rowOpen (s : State) (k : Nat) : Bool :=
  let r := s.sb k
  let row := r.wptr / max 1 r.rowLen
  r.slc || decide (row < 2) ||
    match s.ftl.par.find (k * 2 ^ 18 + (row - 2)) with
    | some x => x.durable
    | none => true

/-- The next member of a superblock has 4 operations in flight (R24). -/
def State.memberFull (s : State) (k : Nat) : Bool :=
  let m := s.posMember k (s.sb k).wptr
  decide (4 ≤ s.flight m.1 m.2.1)

/-- The next superblock in the rotation of a class: the first after the one written last. -/
def rotate (last : Nat) (ks : List Nat) : Option Nat :=
  match ks.find? fun k => decide (last < k) with
  | some k => some k
  | none => ks.head?

/-- The programs of a PU placed at a position: one multi-plane page each (R82). -/
def State.puOps (s : State) (k p : Nat) (slots : List Nat) (data : Bytes) (slc : Bool) (use : OpUse) : State :=
  let m := s.posMember k p
  let per := 4 / s.gPlanes
  let idx := p / max 1 (s.members k).length
  (List.range per).foldl (fun s j =>
    s.opEnqueue m.1 ⟨if slc then 3 else 2, false, m.2.1, m.2.2, idx * per + j, 2 ^ s.gPlanes - 1, 0, 0, slc,
      (slots.drop (j * 4 * s.gPlanes)).take (4 * s.gPlanes), use,
      (data.drop (j * 16384 * s.gPlanes)).take (16384 * s.gPlanes)⟩) s

/-- A PU put at the next position of a superblock: sequence number, record, programs. -/
def State.putAt (s : State) (k : Nat) (r : PuReq) : Nat × State :=
  match s.takeSeq with
  | (q, s) =>
    let b := s.sb k
    let p := b.wptr
    let first := decide (p = 0)
    let s := s.setSb k { b with
      wptr := p + 1
      lastWrite := s.now
      openTime := if first then s.secs else b.openTime
      openSeq := if first then q else b.openSeq
      timeUnk := b.timeUnk || s.timeUnknown }
    let s := s.onFtl fun x => { x with
      pus := x.pus.put (k * 2 ^ 18 + p) ⟨r, q, 4 / s.gPlanes, false⟩
      rot := x.rot.put (r.cls * 8 + b.use) k }
    let s := s.puOps k p r.slots r.data b.slc (.pu k p)
    let s := if p + 1 = s.positions k then s.sbClose k false else s
    (p, s)

/-- The superblock that takes a PU of a class and use: the next in rotation, or one opened for it (R99). -/
def State.chooseSb (s : State) (cls use : Nat) (reloc : Bool) : Option Nat × State :=
  let ks := (s.openOf cls use).filter fun k => s.rowOpen k && decide ((s.sb k).wptr < s.positions k)
  let busy := ks.all fun k => s.memberFull k
  let open_ := if busy && s.mayOpen cls reloc then s.openChoice cls else none
  match open_ with
  | some k => (some k, s.sbOpen k cls use)
  | none => (rotate ((s.ftl.rot.find (cls * 8 + use)).getD 0) ks, s)

/-- The data of staging slots, which a stage reads before it programs them. -/
def State.slotBytes (s : State) (ks : List Nat) : Bytes :=
  ks.flatMap fun k => ((s.slot k).data ++ List.replicate 4096 0).take 4096

/-- Byte strings of any lengths combined by exclusive or. -/
def xorPad : Bytes → Bytes → Bytes
  | [], b => b
  | a, [] => a
  | x :: a, y :: b => (x ^^^ y) :: xorPad a b

/-- The parity PU of a row. -/
def parityReq (k row : Nat) (data : Bytes) : PuReq := ⟨4, 0, 66, [], false, [], none, false, [], [k, row], data, .nobody⟩

/-- A parity PU placed at a position of the parity log: the row knows it, and it lives there (R102, R106). -/
def State.parityPlaced (s : State) (j q k row : Nat) : State :=
  let s := (s.addCount R.FTL_PLOG_WR_LO 16).setSb j { s.sb j with plogCnt := (s.sb j).plogCnt + 1 }
  let key := k * 2 ^ 18 + row
  match s.ftl.par.find key with
  | some x => s.onFtl fun y => { y with par := y.par.put key { x with psa := some (s.posPsa j q) } }
  | none => s

/-- The parity PU of a complete row programmed into the parity log, or left waiting for a superblock of it (R102). -/
def State.rowDone (s : State) (k row : Nat) (data : Bytes) : State :=
  match s.chooseSb 66 1 false with
  | (none, s) => s.onFtl fun y => { y with waiting := y.waiting ++ [parityReq k row data] }
  | (some j, s) =>
    match s.putAt j (parityReq k row data) with
    | (q, s) => s.parityPlaced j q k row

/-- A PU added to its stripe row (R102); a row now complete has its parity PU programmed into the parity log. -/
def State.addParity (s : State) (k p : Nat) (r : PuReq) (seq : Nat) : State :=
  let b := s.sb k
  let n := max 1 b.rowLen
  let row := p / n
  let key := k * 2 ^ 18 + row
  let cur : ParRow := (s.ftl.par.find key).getD ⟨0, [], [], none, false⟩
  let tag := pageTag seq r.kind r.reloc 0 r.cls s.timeUnknown s.secs (r.addr 0)
  let x : ParRow := { cur with n := cur.n + 1, data := xorPad cur.data (s.slotBytes r.slots ++ r.data), tag := xorPad cur.tag tag }
  let s := s.onFtl fun y => { y with par := y.par.put key x }
  let full := decide (x.n = min n (s.positions k - row * n))
  if full then s.rowDone k row x.data else s

/-- A superblock padded (R100): its remaining positions count as pad units, the stripe row that they complete has its parity
PU programmed, and it closes. -/
def State.sbPad (s : State) (k : Nat) : State :=
  let r := s.sb k
  let n := s.positions k - r.wptr
  let s := (s.addCount R.FTL_PAD_WR_LO (16 * n)).evtB 0x240000 0x13 (16 * n)
  let s := if r.slc then s else (s.addCount R.FTL_MEDIA_WR_LO (16 * n)).evtB 0x240000 0x11 (16 * n)
  let s := s.setSb k { r with wptr := s.positions k }
  let row := r.wptr / max 1 r.rowLen
  let s := match (if r.slc ∨ r.wptr % max 1 r.rowLen = 0 ∨ n = 0 then none else s.ftl.par.find (k * 2 ^ 18 + row)) with
    | some x => s.rowDone k row x.data
    | none => s
  s.sbClose k false

/-- The map changes that a placed PU makes. -/
def State.puUpds (s : State) (k p : Nat) (r : PuReq) (seq : Nat) : List MapUpd :=
  let psa := s.posPsa k p
  if r.kind ≠ 1 ∧ r.kind ≠ 2 then []
  else
    (r.ius.zipIdx.filterMap fun e => e.1.map fun iu =>
      MapUpd.map r.ns iu (if r.ns = 0 then psa else psa + e.2) (r.old.getD e.2 none) (some seq) r.grp.isSome false)

/-- The last change of a group carries LAST = 1 (R156). -/
def markLast : List MapUpd → List MapUpd
  | [] => []
  | [.map ns iu psa c q g _] => [.map ns iu psa c q g true]
  | u :: us => u :: markLast us

/-- The changes of a group join it, or all of them take effect when its last PU has been issued (R156). -/
def State.groupUpds (s : State) (g : Nat) (us : List MapUpd) : State :=
  let x := (s.ftl.groups.find g).getD ⟨1, []⟩
  let all := x.upds ++ us
  if x.left ≤ 1 then
    (markLast all).foldl (fun s u => s.mapUpdate u) (s.onFtl fun y => { y with groups := y.groups.del g })
  else s.onFtl fun y => { y with groups := y.groups.put g ⟨x.left - 1, all⟩ }

/-- Host and IST writes may be placed (R118, R168). -/
def State.hostPlace (s : State) : Bool := !s.flag R.FTL_LIFE_READ_ONLY && s.plj.reserve.isSome

/-- A writer hears of its PU. -/
def State.tell (s : State) (w : WriteFor) (x : PuNews) : State :=
  if w = .nobody then s else s.onFtl fun y => { y with news := y.news ++ [(w, x)] }

/-- The data of a PU cannot be read from staging: the PU is not issued and its group is not appended (R541). -/
def State.puUnread (s : State) (r : PuReq) : State :=
  let s := (State.progData r.slots s).2
  let s := match r.grp with
    | some g => s.onFtl fun y => { y with groups := y.groups.del g }
    | none => s
  (r.slots.foldl (fun s k => s.freeSlot k) s).tell r.who .unread

/-- One PU placed, if a superblock takes it. -/
def State.placeOne (s : State) (r : PuReq) : Bool × State :=
  if r.slots.any (fun k => (s.slot k).damage.any fun d => decide (d.2 = 2)) then (true, s.puUnread r)
  else if r.host ∧ !s.hostPlace then (false, s)
  else
    match s.chooseSb r.cls (if r.cls = 66 then 1 else 0) r.reloc with
    | (none, s) =>
      let content := ((s.sbsIn 1).filter fun e => decide (e.2.cls < 64)).length
      if (s.openOf r.cls (if r.cls = 66 then 1 else 0)).isEmpty ∧ s.openLimit - 4 ≤ content then
        match s.padVictim with
        | some k => (false, s.sbPad k)
        | none => (false, s)
      else (false, s)
    | (some k, s) =>
      match s.putAt k r with
      | (p, s) =>
        let seq := s.seqNext - 1
        let s := if r.kind = 4 then s.parityPlaced k p (r.ref.getD 0 0) (r.ref.getD 1 0) else s
        let s := if (s.sb k).slc then s else s.addParity k p r seq
        let n := if r.ns = 0 then 16 else (r.ius.filter (·.isSome)).length
        let s := if r.host then (s.addCount R.FTL_HOST_WR_LO n).evtB 0x240000 0x10 n else s
        let s := if r.reloc then (s.addCount R.FTL_GC_WR_LO n).evtB 0x240000 0x12 n else s
        let s := s.tell r.who (.placed (s.posPsa k p))
        let us := s.puUpds k p r seq
        (true, match r.grp with
          | some g => s.groupUpds g us
          | none => us.foldl (fun s u => s.mapUpdate u) s)

/-- A PU placed, or left waiting in placement behind those of its class that wait already (R99). -/
def State.place (s : State) (r : PuReq) : State :=
  if s.ftl.waiting.any fun w => decide (w.cls = r.cls) then s.onFtl fun x => { x with waiting := x.waiting ++ [r] }
  else
    match s.placeOne r with
    | (true, s) => s
    | (false, s) => s.onFtl fun x => { x with waiting := x.waiting ++ [r] }

/-- The waiting PUs tried again in order, a class's later ones behind its earlier ones. -/
def State.retryLoop : List PuReq → List Nat → State → State
  | [], _, s => s
  | r :: rs, stuck, s =>
    if stuck.contains r.cls then State.retryLoop rs stuck (s.onFtl fun x => { x with waiting := x.waiting ++ [r] })
    else
      match s.placeOne r with
      | (true, s) => State.retryLoop rs stuck s
      | (false, s) => State.retryLoop rs (r.cls :: stuck) (s.onFtl fun x => { x with waiting := x.waiting ++ [r] })

def State.retryPlace (s : State) : State :=
  State.retryLoop s.ftl.waiting [] (s.onFtl fun x => { x with waiting := [] })

/-! ### Wear, spares and life (R115 to R119) -/

/-- Donor blocks of a channel and bad blocks of a channel. -/
def State.ownRole (s : State) (role : Nat) : List Nat :=
  (s.ftl.own.filter fun e => decide (e.2 / 2 ^ 20 % 4 = role)).map (·.1)

def State.chDonors (s : State) (c : Nat) : List Nat := (s.ownRole 2).filter fun k => decide (k / s.gBpp / 32 = c)
def State.chBad (s : State) (c : Nat) : List Nat := (s.ownRole 3).filter fun k => decide (k / s.gBpp / 32 = c)

/-- Sum of the widths of the superblocks that are neither RETIRED nor spare (B of R118). -/
def State.widthSum (s : State) : Nat :=
  let base := ((List.range 32).map fun l =>
    let w := 32 - popcount 32 (s.homeMissing l)
    if s.minWidth ≤ w then s.gBpp * w else 0).sum
  s.ftl.sbs.foldl (fun a e =>
    a - (32 - popcount 32 (s.homeMissing (e.1 / s.gBpp)))
      + (if e.2.state = 5 ∨ e.2.spare then 0 else e.2.width)) base

/-- Superblocks that are not RETIRED: their number, the sum, least and greatest of their PE. -/
def State.peStats (s : State) : Nat × Nat × Nat × Nat :=
  let live := s.ftl.sbs.filter fun e => decide (e.2.state ≠ 5)
  let n := s.get R.FTL_SB_CNT_TOTAL - (s.ftl.sbs.length - live.length)
  let mx := live.foldl (fun a e => max a e.2.pe) 0
  let mn := if live.length < n then 0 else live.foldl (fun a e => min a e.2.pe) mx
  (n, (live.map fun e => e.2.pe).sum, mn, mx)

/-- The die is lost (R117): it is not ACTIVE, or firmware has declared it lost. -/
def State.dieGone (s : State) (d : Nat) : Bool := decide (s.dieState (d / 32) (d % 32) ≠ 1) || s.ftl.lost.contains d

/-- Donors left (D of R118). -/
def State.donors (s : State) : List Nat := (s.ownRole 2).filter fun k => !s.dieGone (k / s.gBpp)

/-- The life figures recomputed (R118, R119) with their events. -/
def State.lifeUpdate (s : State) : State :=
  let d0 := s.ftl.d0
  let consumed := s.ftl.b0 + d0 - s.widthSum - s.donors.length
  let spare := if d0 = 0 then 0 else 100 * consumed / d0
  let st := s.peStats
  let wear := 100 * (st.2.1 / max 1 st.1) / max 1 (s.get R.FTL_PE_RATED_RATED)
  let avail := 100 - min 100 spare
  let pct := min 255 (max wear spare)
  let oldA := s.get R.FTL_LIFE_AVAIL_SPARE
  let oldP := s.get R.FTL_LIFE_PCT_USED
  let thr := s.get R.FTL_SPARE_THR_THRESH
  let s := (((s.put R.FTL_SPARE_STS_CONSUMED consumed).put R.FTL_LIFE_AVAIL_SPARE avail).put R.FTL_LIFE_PCT_USED pct).put
    R.FTL_LIFE_WEAR_PCT (min 255 wear)
  let s := if avail < thr ∧ thr ≤ oldA then s.pulse 326 else s
  let s := if d0 ≠ 0 ∧ d0 ≤ consumed ∧ !s.flag R.FTL_LIFE_READ_ONLY then (s.put R.FTL_LIFE_READ_ONLY 1).pulse 327 else s
  if pct ≠ oldP then s.pulse 328 else s

/-- A block marked bad (R103, R115). -/
def State.markBad (s : State) (d b : Nat) : State :=
  if s.owner d b / 2 ^ 20 % 4 = 3 then s else (s.setOwner d b (s.owner d b % 2 ^ 20) 3).pulse 323

/-- The member of a superblock on a channel cannot be used: its block is bad, or its die is lost. -/
def State.memberBad (s : State) (m : Nat × Nat × Nat) : Bool :=
  decide (s.owner (32 * m.1 + m.2.1) m.2.2 / 2 ^ 20 % 4 = 3) || s.dieGone (32 * m.1 + m.2.1)

/-- A superblock repaired on a channel (R116): a donor, a missing member, or retirement; the place of a lost die is not taken by
a donor (R117). -/
def State.repairMember (s : State) (k c : Nat) : State :=
  let r := s.sb k
  let others := r.substs.filter fun x => decide (x.ch ≠ c)
  let lost := (s.members k).any fun m => decide (m.1 = c) && s.dieGone (32 * m.1 + m.2.1)
  let pick := ((s.chDonors c).filter fun d => !lost && !s.dieGone (d / s.gBpp)).foldl (fun b d =>
    match b with
    | none => some d
    | some j => if (s.sb (s.ftl.own.get (fun _ => 0) d % 2 ^ 20)).pe < (s.sb (s.ftl.own.get (fun _ => 0) j % 2 ^ 20)).pe
        then some d else b) none
  match (if r.substs.length < s.get R.FTL_CFG_SUBST_MAX then pick else none) with
  | some d =>
    let die := d / s.gBpp % 32
    let blk := d % s.gBpp
    ((s.setOwner (32 * c + die) blk k 1).setSb k { r with substs := others ++ [⟨c, die, blk⟩] }).lifeUpdate
  | none =>
    if s.minWidth ≤ r.width - 1 then
      (s.setSb k { r with substs := others, missing := if r.missing.testBit c then r.missing else r.missing + 2 ^ c }).lifeUpdate
    else
      let good := (s.members k).filter fun m => !s.memberBad m
      let s := s.sbMove k { r with state := 5, erased := false }
      (good.foldl (fun s m => s.setOwner (32 * m.1 + m.2.1) m.2.2 k 2) s).pulse 324 |>.lifeUpdate

/-- Every bad member of a superblock repaired. -/
def State.repairAll (s : State) (k : Nat) : State :=
  (List.range 32).foldl (fun s c =>
    match (s.members k).find? fun m => decide (m.1 = c) with
    | some m => if (s.sb k).state ≠ 5 ∧ s.memberBad m then s.repairMember k c else s
    | none => s) s

/-- The erase of one member issued. -/
def State.eraseMember (s : State) (k : Nat) (m : Nat × Nat × Nat) : State :=
  s.opEnqueue m.1 ⟨if (s.sb k).slc then 5 else 4, false, m.2.1, m.2.2, 0, 2 ^ s.gPlanes - 1, 0, 0, (s.sb k).slc, [],
    .erase k, []⟩

/-- A pending group still points into the superblock (R156). -/
def State.groupHolds (s : State) (k : Nat) : Bool :=
  s.ftl.groups.any fun g => g.2.upds.any fun u =>
    match u with
    | .map ns iu _ _ _ _ _ => decide (entState (s.entryAt ns iu) = 1) && decide (s.sbOf (entPsa (s.entryAt ns iu)) = k)
    | _ => false

/-- The erase of a FREE superblock starts (R113, R116, R156, R160). -/
def State.sbErase (s : State) (k : Nat) : State :=
  let r := s.sb k
  if s.sbExists k ∧ r.state = 0 ∧ !r.erased ∧ r.reads = 0 ∧ r.erasing = 0 ∧ r.freeSeq ≤ s.rd64 R.PLJ_FLUSHED_LO
      ∧ !s.groupHolds k ∧ s.ftl.drop.isNone then
    let s := s.repairAll k
    if (s.sb k).state = 5 then s
    else
      let ms := s.members k
      ms.foldl (fun s m => s.eraseMember k m) (s.setSb k { s.sb k with erasing := ms.length })
  else s

/-- One member more is erased; with the last the superblock is ERASED with PE one higher (R93). -/
def State.memberErased (s : State) (k : Nat) : State :=
  let r := s.sb k
  if r.erasing ≤ 1 then
    ((s.sbMove k { r with erasing := 0, erased := true, pe := satAdd peMax r.pe 1 }).evtB 0x240000 0x16 1).lifeUpdate
  else s.setSb k { r with erasing := r.erasing - 1 }

/-- The read counter of a block set (R146). -/
def State.setRd (s : State) (d b v : Nat) : State :=
  (s.dramStore 2 (s.rd64 R.RDP_RD_BASE_LO % 2 ^ 37 + 4 * (d * s.gBpp + b)) (leBytes 4 v) false).2

/-- The erase of one member ends well: the block's read counter is set to 0 (R146). -/
def State.eraseOk (s : State) (k d b : Nat) : State := (s.setRd d b 0).memberErased k

/-- The erase of one member fails (R115): the block is bad, the member is replaced, and the erase goes to the replacement. -/
def State.eraseFail (s : State) (k c d b : Nat) : State :=
  let s := (s.markBad d b).repairMember k c
  if (s.sb k).state = 5 then s
  else
    match (s.members k).find? fun m => decide (m.1 = c) with
    | some m => s.eraseMember k m
    | none => s.memberErased k

/-- A program of a PU failed (R103): a rebuild is owed for it and for the two PUs before it on the same member, the
superblock closes early, and the block is bad. -/
def State.puFail (s : State) (k p d b : Nat) : State :=
  let w := (s.members k).length
  let r := s.sb k
  let before := (if w ≤ p then [(k, p - w)] else []) ++ (if 2 * w ≤ p then [(k, p - 2 * w)] else [])
  let s := if r.slc then s else s.onFtl fun x => { x with repairs := x.repairs ++ ((k, p) :: before) }
  (if r.state = 1 then s.sbClose k true else s).markBad d b

/-! ### Garbage collection and wear levelling (R110 to R114) -/

/-- Victim score (R111). -/
def State.score (s : State) (k : Nat) : Nat :=
  let r := s.sb k
  let cap := r.width * s.memberPus r.slc * 16
  r.valid * 2 ^ 24 / max 1 cap / ((s.secs - r.closeTime) / 3600 + max 1 (s.get R.FTL_GC_CFG2_AGE_BIAS))

/-- A VERIFIED superblock may be a victim (R106, R109, R111). -/
def State.gcCandidate (s : State) (e : Nat × SbRec) : Bool :=
  let c := e.2.cls
  let ex := s.get (R.FTL_CLASS_EXP_EXPIRE c)
  decide (e.2.state = 3) && decide (c ≠ 66) && !s.flag (R.FTL_CLASS_CTL_NO_GC c)
    && !s.flag (R.FTL_CLASS_STS_DROPPING c)
    && (decide (s.freeCount < s.get R.FTL_GC_CFG2_FREE_CRIT) || decide (ex = 0)
      || decide (s.secs + 86400 * s.get R.FTL_GC_CFG2_HORIZON < ex))

/-- The victim of lowest score, the lowest SBID on a tie. -/
def State.gcVictim (s : State) : Option Nat :=
  ((s.ftl.sbs.filter s.gcCandidate).foldl (fun b e =>
    match b with
    | none => some e.1
    | some j => if s.score e.1 < s.score j then some e.1 else b) none)

/-- A VERIFIED superblock moves to RELOCATING. -/
def State.sbRelocate (s : State) (k : Nat) : State := (s.sbMove k { s.sb k with state := 4 }).sbCheck k

/-- Garbage collection runs (R110): from FREE below FREE_LOW until FREE reaches FREE_HIGH. -/
def State.gcRefresh (s : State) : State :=
  let f := s.freeCount
  let on := if !s.enabled 0x240000 then false else if f < s.get R.FTL_GC_CFG_FREE_LOW then true
    else if s.get R.FTL_GC_CFG_FREE_HIGH ≤ f then false else s.flag R.FTL_GC_STS_ACTIVE
  s.put R.FTL_GC_STS_ACTIVE (b2n on)

/-! ### Class drop and lost dies (R108, R109, R117) -/

/-- A relocation from or into the class is in flight. -/
def State.relocIn (s : State) (c : Nat) : Bool :=
  s.ftl.pus.any (fun e => e.2.req.reloc && (decide (e.2.req.cls = c)
    || e.2.req.old.any fun o => match o with | some p => decide ((s.sb (s.sbOf p)).cls = c) | none => false))

/-- Step 3 of a class drop: entries of the class unmapped without journal entries; the segments changed. -/
def State.dropScan (s : State) (c : Nat) : List Nat × State :=
  let go := fun (acc : List Nat × State) (ns : Nat) =>
    (acc.2.mappedIus ns).foldl (fun a iu =>
      let e := a.2.entryAt ns iu
      if entState e ≠ 0 ∧ (a.2.sb (a.2.sbOf (entPsa e))).cls = c ∧ 1 ≤ (a.2.sb (a.2.sbOf (entPsa e))).state
          ∧ (a.2.sb (a.2.sbOf (entPsa e))).state ≤ 4 then
        let s := a.2.mapStore ns iu 0 a.2.seqNext
        let s := if entState e = 1 then s.addValid (entPsa e) false (iuUnits ns) else s
        (insertNat (s.segBase ns + iu / 4096) a.1, s)
      else a) acc
  go (go ([], s) 0) 1

/-- Step 5: every superblock of the class is FREE, an OPEN one padded first; the command completes. -/
def State.dropEnd (s : State) (c : Nat) : State :=
  let ks := (s.ftl.sbs.filter fun e => decide (e.2.cls = c) && decide (1 ≤ e.2.state) && decide (e.2.state ≤ 4)).map (·.1)
  let s := ks.foldl (fun s k =>
    let s := if (s.sb k).state = 1 then s.sbPad k else s
    if (s.sb k).state = 0 then s else (s.releaseParity k).sbFree k) s
  let s := (s.put (R.FTL_CLASS_STS_DROPPING c) 0).onFtl fun x => { x with drop := none }
  (((s.put R.FTL_CMD_STS_RESULT 0).put R.FTL_CMD_GO 0).pulse 325).gcRefresh

/-- A running class drop goes on as far as it can (R108). -/
def State.dropStep (s : State) : State :=
  match s.ftl.drop with
  | none => s
  | some (c, none) =>
    if s.relocIn c then s
    else
      match s.dropScan c with
      | (segs, s) =>
        let s := s.onPlj fun x => { x with
          dirty := x.dirty.map fun d => if segs.contains d.seg then { d with since := 0 } else d }
        let s := s.put R.FTL_CMD_STS_PROGRESS ((s.mapCap 0 + s.mapCap 1) / 2 ^ 20)
        if segs.isEmpty then s.dropEnd c else s.onFtl fun x => { x with drop := some (c, some segs) }
  | some (c, some segs) =>
    if s.plj.dirty.any (fun d => segs.contains d.seg) then s else s.dropEnd c

/-- Another PU of the row of a position lies on a lost die. -/
def State.rowDamaged (s : State) (k p : Nat) : Bool :=
  let n := max 1 (s.sb k).rowLen
  (List.range n).any fun i =>
    let q := p / n * n + i
    decide (q ≠ p) && decide (q < (s.sb k).wptr)
      && (let m := s.posMember k q; s.dieGone (32 * m.1 + m.2.1))

/-- A die is lost (R117): a rebuild is owed for the PUs that parity still covers, and every other entry becomes REMOTE or
LOST by its class. -/
def State.dieLost (s : State) (d : Nat) : State :=
  let go := fun (s : State) (ns : Nat) =>
    (s.mappedIus ns).foldl (fun s iu =>
      let e := s.entryAt ns iu
      if entState e = 1 ∧ psaDie (entPsa e) = d then
        let k := s.sbOf (entPsa e)
        let p := s.posOf (entPsa e)
        if (s.sb k).parityHeld ∧ !s.rowDamaged k p then
          if s.ftl.repairs.contains (k, p) then s else s.onFtl fun x => { x with repairs := x.repairs ++ [(k, p)] }
        else s.mapUpdate (.mark ns iu (if s.flag (R.FTL_CLASS_CTL_PEER (s.sb k).cls) then 3 else 2) (some (entPsa e)))
      else s) s
  (go (go (s.onFtl fun x => { x with lost := insertNat d x.lost }) 0) 1).lifeUpdate

/-! ### The FTL pages -/

/-- The FTL is enabled (R90): the superblocks that exist are counted. -/
def State.ftlEnable (s : State) : State :=
  let home := (List.range 32).map fun l =>
    (List.range 32).foldl (fun m c => if s.dieState c l = 0 ∨ s.dieState c l = 2 then m + 2 ^ c else m) 0
  let s := s.onFtl fun x => { x with home := home, lost := [] }
  let n := ((List.range 32).filter fun l => decide (s.minWidth ≤ 32 - popcount 32 (s.homeMissing l))).length
  s.put R.FTL_SB_CNT_TOTAL (n * s.gBpp)

/-- FTL's own checks (R122 and the captions). -/
def ftlChecks : Checks := fun s _ p o v =>
  let en := s.enabled p.base0
  if p.page = 0 then
    failIf (en && (decide (o = 0x80) || (decide (0x88 ≤ o) && decide (o < 0xBC)) || decide (o = 0xC0) || decide (o = 0xC8))) 4
      ++ failIf (decide (0x88 ≤ o) && decide (o < 0xB0) && decide (o % 8 = 0) && decide (v.fld 0 16 ≠ 0)) 5
      ++ failIf (decide (o = 0xCC) && decide (v.fld 16 16 ≤ v.fld 0 16)) 7
      ++ failIf (decide (o = 0xD0) && (decide (v.fld 0 16 < 4) || decide (s.get R.FTL_GC_CFG_FREE_LOW ≤ v.fld 0 16))) 1
  else if p.page = 2 ∧ o = 0x80 then
    failIf (v.bit 4 && s.flag R.FTL_CMD_GO) 4
      ++ failIf (decide (v.fld 0 4 = 0) || decide (5 < v.fld 0 4) || decide (67 < v.fld 8 7)) 1
  else []

/-- An FTL command ends. -/
def State.ftlCmdEnd (s : State) (result : Nat) : State :=
  ((s.put R.FTL_CMD_STS_RESULT result).put R.FTL_CMD_GO 0).pulse 325

/-- An FTL command as CMD and CMD_ARG hold it. -/
def State.ftlCmd (s : State) : State :=
  let op := s.get R.FTL_CMD_OP
  let k := s.get R.FTL_CMD_ARG_TARGET
  if op = 1 then
    let c := s.get R.FTL_CMD_CLASS
    if 64 ≤ c ∨ s.flag (R.FTL_CLASS_CTL_WRITABLE c) ∨ s.ftl.drop.isSome then s.ftlCmdEnd 2
    else ((s.put (R.FTL_CLASS_STS_DROPPING c) 1).onFtl fun x => { x with drop := some (c, none) }).dropStep
  else if op = 5 then
    let d := k % 1024
    if s.dieState (d / 32) (d % 32) = 0 then s.ftlCmdEnd 1 else (s.dieLost d).ftlCmdEnd 0
  else if !s.sbExists k then s.ftlCmdEnd 1
  else
    let r := s.sb k
    if op = 2 then (if r.state = 1 then (s.sbPad k).ftlCmdEnd 0 else s.ftlCmdEnd 2)
    else if op = 3 then (if r.state = 3 ∧ r.cls ≠ 66 then (s.sbRelocate k).ftlCmdEnd 0 else s.ftlCmdEnd 2)
    else
      if r.state = 0 then
        let good := (s.members k).filter fun m => !s.memberBad m
        let s := s.sbMove k { r with state := 5, erased := false }
        (((good.foldl (fun s m => s.setOwner (32 * m.1 + m.2.1) m.2.2 k 2) s).pulse 324).lifeUpdate).ftlCmdEnd 0
      else s.ftlCmdEnd 2

/-- What a write to an FTL register does beyond its fields: enabling, commands, and the RO bits of CLASS registers for
the internal classes. -/
def ftlEffect : Effect := fun s _ p o old v =>
  if o = 4 ∧ v.bit 0 ∧ !old.bit 0 then s.ftlEnable
  else if p.page = 1 ∧ 0x80 + 0x10 * 64 ≤ o then
    if o % 16 = 0 then s.wr (p.base + o) old else if o % 16 = 4 then s.wr (p.base + o) ((old.setFld 1 1 (v.fld 1 1)))
    else s
  else if p.page = 2 ∧ o = 0x80 ∧ v.bit 4 then s.ftlCmd
  else s

/-- What FTL registers show beyond the words they hold. -/
def ftlView : View := fun s r p o =>
  if p.page = 0 then
    if o = 0xDC then some (BitVec.ofNat 32 s.freeCount)
    else if o = 0xE0 then
      some (BitVec.ofNat 32 ((s.sbsIn 1).length % 128 + min 255 (s.sbsIn 2).length * 2 ^ 8 + (s.sbsIn 4).length * 2 ^ 16))
    else if o = 0xE4 then
      some (BitVec.ofNat 32 (s.get R.FTL_GC_STS_ACTIVE
        + b2n (decide (s.freeCount < s.get R.FTL_GC_CFG2_FREE_CRIT)) * 2 + b2n s.ftl.wl.isSome * 4
        + (s.ftl.victim.getD 0) * 2 ^ 12))
    else if o = 0xE8 then some (BitVec.ofNat 32 (min 65535 s.peStats.2.2.1 + min 65535 s.peStats.2.2.2 * 2 ^ 16))
    else if o = 0xEC then some (BitVec.ofNat 32 (s.peStats.2.1 / max 1 s.peStats.1))
    else none
  else if p.page = 1 then
    let c := (o - 0x80) / 16
    let mine := s.ftl.sbs.filter fun e => decide (e.2.cls = c) && decide (1 ≤ e.2.state) && decide (e.2.state ≤ 4)
    if o % 16 = 8 then
      some (BitVec.ofNat 32 (mine.length + (mine.filter fun e => decide (e.2.state = 1)).length * 2 ^ 20
        + b2n (s.flag (R.FTL_CLASS_STS_DROPPING c)) * 2 ^ 25))
    else if o % 16 = 12 then some (BitVec.ofNat 32 ((mine.map fun e => e.2.valid).sum * 4096 / 2 ^ 20))
    else none
  else if p.page = 2 then
    if 0xA0 ≤ o ∧ o < 0xE0 then
      let k := s.get R.FTL_SB_IDX_SBID
      if o = 0xA0 then some (BitVec.ofNat 32 (leNat (((s.sb k).bytes k).take 4)))
      else some (s.copyGet (R.FTL_SB_REC 0) r ((o - 0xA0) / 4))
    else none
  else if 0x200 ≤ o ∧ o < 0x280 then
    let c := (o - 0x200) / 4
    some (BitVec.ofNat 32 (min 65535 (s.chDonors c).length + min 65535 (s.chBad c).length * 2 ^ 16))
  else none

/-- What a read of SB_REC_0 does: one consistent copy of the record for the requester (R92). -/
def ftlReadEffect : ReadEffect := fun s r p o =>
  if p.page = 2 ∧ o = 0xA0 then
    let k := s.get R.FTL_SB_IDX_SBID
    let b := (s.sb k).bytes k
    s.copySet (R.FTL_SB_REC 0) r ((List.range 16).map fun i => leNat ((b.drop (4 * i)).take 4))
  else s

end Sys2Proof.Machine
end

