-- ==== Sys2Proof/Machine/Rdp.lean ====
section
/-! DEFINITION. The read path (chapter 05): read offsets and their refinement, codewords and the retry ladder, uncorrectable
reports, read disturb, patrol and the WEAK queue. -/

namespace Sys2Proof.Machine

open Sys2Proof

/-! ### Read offsets (R129 to R135) -/

/-- A byte as a signed number. -/
def signed8 (b : Nat) : Int := if b % 256 < 128 then (b % 256 : Nat) else ((b % 256 : Nat) : Int) - 256

/-- A signed number limited to −128 to 127, as a byte. -/
def toByte8 (v : Int) : Nat := ((if v < -128 then -128 else if 127 < v then 127 else v) % 256).toNat

/-- The age bin of an age in seconds (R129). -/
def ageBin (age : Nat) : Nat :=
  ([3600, 14400, 43200, 86400, 172800, 345600, 604800, 1209600, 2592000, 5184000, 7776000, 15552000, 31536000, 63072000,
    94608000].filter fun t => decide (t ≤ age)).length

/-- The bin of a temperature difference (R129). -/
def dtBin (d : Int) : Nat := ([-40, -25, -10, 10, 25, 40, 55].filter fun t => decide (t ≤ d)).length

/-- A read of the superblock reaches bin 15 because device time is before its OPEN_TIME (R130). -/
def State.ageNeg (s : State) (k : Nat) : Bool :=
  !s.timeUnknown && !(s.sb k).timeUnk && decide (s.secs < (s.sb k).openTime)

/-- The age bin of a superblock (R129, R130). -/
def State.sbAgeBin (s : State) (k : Nat) : Nat :=
  let r := s.sb k
  if s.timeUnknown || r.timeUnk || decide (s.secs < r.openTime) then 15
  else ageBin (s.secs - r.openTime + cdiv (s.get R.AON_TIME_UNC_US) (10 ^ 6))

/-- The temperature of a die: measured, or the governor's estimate (R75). -/
def State.readTemp (s : State) (n l : Nat) : Int :=
  let d := s.dieSt n l
  if d.tempOk then signed8 d.temp
  else
    let v := s.get R.ESC_EST_DIE_VALUE
    (if v < 2 ^ 31 then (v : Int) else (v : Int) - 2 ^ 32) / 65536

/-- The offset entry of a read of a PSA (R129, R131): native entries 0 to 1,023, SLC entries from 1,024. -/
def State.offsetEntry (s : State) (psa : Nat) (verify : Bool) : Nat :=
  let k := s.sbOf psa
  let r := s.sb k
  let age := if verify then 0 else s.sbAgeBin k
  if r.slc then 1024 + age
  else
    let d := psaDie psa
    let dt := dtBin (s.readTemp (d / 32) (d % 32) - signed8 r.tempAvg)
    64 * age + 8 * dt + min 7 (8 * r.pe / max 1 (s.get R.FTL_PE_RATED_RATED))

/-- Addresses of an entry, its factory base and its counters in the table region (R132). -/
def State.tblBase (s : State) : Nat := s.rd64 R.RDP_TBL_BASE_LO % 2 ^ 37
def State.entryAddr (s : State) (e : Nat) : Nat := s.tblBase + 128 * e
def State.factAddr (s : State) (e : Nat) : Nat := s.tblBase + 0x20800 + 16 * e
def State.cntAddr (s : State) (e : Nat) : Nat := s.tblBase + 0x28000 + 16 * e

/-- Bytes of a table of the read path read through port 2, as numbers; empty where uncorrectable. -/
def State.rdpLoad (s : State) (a n : Nat) : List Nat × State :=
  if !s.dramOpen then ([], s)
  else
    match s.dramLoad 2 a n with
    | (none, s) => ([], s)
    | (some x, s) => (x.1.map (·.toNat), s)

def State.rdpStore (s : State) (a : Nat) (v : List Nat) : State :=
  if !s.dramOpen then s else (s.dramStore 2 a (v.map (BitVec.ofNat 8)) false).2

/-- The eight counters of a row. -/
def rowCounters (b : List Nat) : List Nat := (List.range 8).map fun i => b.getD (2 * i) 0 + 256 * b.getD (2 * i + 1) 0

/-- The re-read step with the largest counter, the lowest on a tie. -/
def bestStep (c : List Nat) : Nat :=
  [2, 3, 4, 5, 6, 7].foldl (fun b k => if c.getD b 0 < c.getD k 0 then k else b) 1

/-- A base offset moved half-way to a step, held within DRIFT of the factory base (R135). -/
def refined (ofs delta fact drift : Nat) : Nat :=
  let v := signed8 ofs + Int.tdiv (signed8 delta) 2
  let lo := signed8 fact - drift
  let hi := signed8 fact + drift
  toByte8 (if v < lo then lo else if hi < v then hi else v)

/-- A refinement of an entry (R135). -/
def State.refine (s : State) (e : Nat) (c : List Nat) : State :=
  let best := bestStep c
  let s :=
    if s.get R.RDP_REFINE_PCT * c.sum ≤ c.getD best 0 * 100 then
      match s.rdpLoad (s.entryAddr e) 128 with
      | (ent, s) =>
        match s.rdpLoad (s.factAddr e) 16 with
        | (fact, s) =>
          let new := (List.range 15).map fun i =>
            refined (ent.getD i 0) (ent.getD (16 * best + i) 0) (fact.getD i 0) (s.get R.RDP_REFINE_DRIFT)
          ((s.rdpStore (s.entryAddr e) (new ++ [0])).bump R.RDP_REFINE_STS_COUNT 1).pulse 339
    else s
  s.rdpStore (s.cntAddr e) (List.replicate 16 0)

/-- A success at step 1 (k = 0) or at re-read step k counted (R135). -/
def State.countSuccess (s : State) (e k : Nat) : State :=
  match s.rdpLoad (s.cntAddr e) 16 with
  | (b, s) =>
    if b.isEmpty then s
    else
      let c := (rowCounters b).zipIdx.map fun x => if x.2 = k then satAdd 65535 x.1 1 else x.1
      let s := s.rdpStore (s.cntAddr e) (c.flatMap fun v => [v % 256, v / 256])
      if s.get R.RDP_REFINE_N ≤ c.sum ∧ s.flag R.RDP_REFINE_EN then s.refine e c else s

/-! ### Issuing reads (R128, R133) -/

/-- Hidden bookkeeping of a superblock changed: no change of its record. -/
def State.sbHidden (s : State) (k : Nat) (f : SbRec → SbRec) : State :=
  s.onFtl fun x => { x with sbs := match x.sbs.find k with | some r => x.sbs.put k (f r) | none => x.sbs }

/-- The page operations of a read of `n` units from a PSA: page and plane mask. -/
def State.readPages (s : State) (psa n : Nat) : List (Nat × Nat × Nat) :=
  let u := psa % 2 ^ 27 % s.blockUnits
  let per := 4 * s.gPlanes
  (List.range ((u + n - 1) / per - u / per + 1)).map fun i =>
    let pg := u / per + i
    let lo := max u (pg * per)
    let hi := min (u + n) ((pg + 1) * per)
    (pg, (List.range s.gPlanes).foldl (fun m p =>
      if lo < pg * per + 4 * p + 4 ∧ pg * per + 4 * p < hi then m + 2 ^ p else m) 0, lo)

/-- A read of codewords issued to its channel at a step of the offset entry; the superblock counts it (R113). -/
def State.issueRead (s : State) (who : ReadFor) (ladder : Option Nat) (psa n step senses : Nat) : State :=
  let d := psaDie psa
  let verify := match who with | .verify _ => true | _ => false
  let k := s.sbOf psa
  let s := if s.ageNeg k then s.bump R.RDP_AGE_STS_NEG 1 else s
  let e := s.offsetEntry psa verify
  (s.readPages psa n).foldl (fun s g =>
    let per := 4 * s.gPlanes
    let first := psa / 2 ^ 27 * 2 ^ 27 + s.psaBlock psa * s.blockUnits + g.2.2
    let cnt := min (psa + n) ((first / per + 1) * per) - first
    (s.sbHidden k fun r => { r with reads := r.reads + 1 }).opEnqueue (d / 32)
      ⟨if senses = 0 then 0 else 1, false, d % 32, s.psaBlock psa, g.1, g.2.1, senses, e * 8 + step, (s.sb k).slc, [],
        .read who ladder first cnt, []⟩) s

/-! ### Delivery and the WEAK queue -/

/-- A unit delivered to its reader. -/
def State.deliver (s : State) (who : ReadFor) (psa : Nat) (data : Option Bytes) : State :=
  s.onRdp fun x => { x with got := x.got ++ [⟨who, psa, data⟩] }

/-- An entry for the WEAK queue (R148). -/
def State.weakPush (s : State) (w : Weak) : State :=
  if 64 ≤ s.rdp.weak.length then (s.bump R.RDP_WEAK_CNT_OVF 1).pulse 338
  else (s.onRdp fun x => { x with weak := x.weak ++ [w] }).setLevel 337 true

/-- A host or IST read. -/
def ReadFor.service : ReadFor → Bool
  | .nvm _ | .flow _ => true
  | _ => false

/-- The last step of the ladder for a requester (R143); an NVMe read is named by twice its command, plus LR (R289). -/
def ReadFor.lastStep : ReadFor → Nat
  | .nvm c => if c % 2 = 1 then 3 else 6
  | .verify _ => 1
  | .patrol _ | .rdCheck _ | .recovery => 3
  | .firmware => 0
  | _ => 6

/-- A requester as UNC_INFO shows it (R150); which code a read for Tarragon has, the spec does not say, and a free value
decides (log entry 24). -/
def ReadFor.code (s : State) : ReadFor → Nat × State
  | .nvm _ => (0, s)
  | .flow _ | .index => (1, s)
  | .recovery => (3, s)
  | .firmware => (4, s)
  | .tgn _ => s.fresh 5
  | _ => (2, s)

/-- A read-disturb trigger falls on a superblock (R146). -/
def State.rdTrigger (s : State) (k bits : Nat) : State :=
  let r := s.sb k
  if r.state = 3 then
    ((s.sbRelocate k).pulse 341).weakPush ⟨k, min 255 bits, false, 1⟩
  else if r.state = 1 ∨ r.state = 2 then
    if s.rdp.heldRd.contains k then s else s.onRdp fun x => { x with heldRd := x.heldRd ++ [k] }
  else s

/-- A decoded codeword judged by patrol or a read-disturb check (R146, R148). -/
def State.judge (s : State) (who : ReadFor) (bits step : Nat) : State :=
  match who with
  | .patrol _ => s.onRdp fun x => { x with
      patBits := max x.patBits (min 255 bits)
      patWeak := x.patWeak || decide (s.get R.RDP_RD_BER_PAT_THR < bits) || decide (2 ≤ step) }
  | .rdCheck k => if s.get R.RDP_RD_BER_RD_THR < bits then s.rdTrigger k bits else s
  | _ => s

/-! ### The ladder (R136 to R142) -/

/-- A ladder by the codeword's PSA. -/
def State.ladderAt (s : State) (psa : Nat) : Option Ladder := s.rdp.ladders.find? fun l => decide (l.psa = psa)

def State.setLadder (s : State) (l : Ladder) : State :=
  s.onRdp fun x => { x with ladders := x.ladders.map fun y => if y.id = l.id then l else y }

/-- A failed codeword enters a ladder, joins the one of its PSA, or waits for one (R137). -/
def State.ladderEnter (s : State) (c : CwRead) (unsat : Nat) : State :=
  match s.ladderAt c.psa with
  | some l => s.setLadder { l with who := l.who ++ [c.who] }
  | none =>
    if 256 ≤ s.rdp.ladders.length then s.onRdp fun x => { x with waiting := x.waiting ++ [c] }
    else s.onRdp fun x => { x with
      ladders := x.ladders ++ [⟨x.nextId, c.psa, [c.who], 1, 0, 1, c.entry * 8, unsat, false, c.entry⟩]
      nextId := x.nextId + 1 }

/-- A ladder ends, and a waiting codeword takes its place. -/
def State.ladderFree (s : State) (l : Ladder) : State :=
  let s := s.onRdp fun x => { x with ladders := x.ladders.filter fun y => y.id ≠ l.id }
  match s.rdp.waiting with
  | [] => s
  | c :: cs => (s.onRdp fun x => { x with waiting := cs }).ladderEnter c 0

/-- The STEP_CNT counter of a step, and its page event. -/
def State.stepCount (s : State) (step : Nat) : State :=
  let s := s.addCount (R.RDP_STEP_CNT_LO (step - 1)) 1
  if 2 ≤ step then s.evtB 0x280000 (0x10 + step) 1 else s

/-- A ladder yields good data at a step: everybody who waits is served; a host or IST read that needed step 3 or beyond
leaves a WEAK entry (R143). -/
def State.ladderOk (s : State) (l : Ladder) (step bits : Nat) (data : Bytes) : State :=
  let s := (s.stepCount step).ladderFree l
  let s := l.who.foldl (fun s w => (s.judge w bits step).deliver w l.psa (some data)) s
  if 3 ≤ step ∧ l.who.any ReadFor.service then s.weakPush ⟨s.sbOf l.psa, min 255 bits, false, 2⟩ else s

/-- The IU whose entry holds a PSA: its namespace and number. -/
def State.iuOf (s : State) (psa : Nat) : Option (Nat × Nat) :=
  let at_ := fun (ns p : Nat) => ((s.mappedIus ns).find? fun iu =>
    decide (entPsa (s.entryAt ns iu) = p ∧ 1 ≤ entState (s.entryAt ns iu) ∧ entState (s.entryAt ns iu) ≤ 3)).map
      fun iu => (ns, iu)
  match at_ 0 (psa / 16 * 16) with
  | some x => some x
  | none => at_ 1 psa

/-- The UNC record of a step-6 result (R150): the low and high words of its PSA and UNC_INFO. -/
def uncRecord (psa req tried : Nat) : List Nat :=
  [psa % 2 ^ 32, psa / 2 ^ 32 % 32, req + tried % 64 * 2 ^ 4 + psa % 16 * 2 ^ 12]

def State.putUnc (s : State) (w : List Nat) : State :=
  ((s.wr R.RDP_UNC_PSA_LO (BitVec.ofNat 32 (w.getD 0 0))).wr R.RDP_UNC_PSA_HI (BitVec.ofNat 32 (w.getD 1 0))).wr
    R.RDP_UNC_INFO (BitVec.ofNat 32 (w.getD 2 0))

/-- Step 6 (R142): the entry is LOST or REMOTE, the result is counted and recorded, source 336 pulses, at most one fault
per superblock and second is raised, and the readers get nothing. -/
def State.ladderUnc (s : State) (l : Ladder) : State :=
  let k := s.sbOf l.psa
  let peer := s.flag (R.FTL_CLASS_CTL_PEER (s.sb k).cls)
  let s := match s.iuOf l.psa with
    | some (ns, iu) => s.mapUpdate (.mark ns iu (if peer then 3 else 2) (some (entPsa (s.entryAt ns iu))))
    | none => s
  let x := ReadFor.code s (l.who.headD .firmware)
  let w := uncRecord l.psa x.1 (l.tried ||| 32)
  let s := (x.2.stepCount 6).bump R.RDP_UNC_CNT_CNT 1
  let s := if s.rdp.uncFrozen.isEmpty then s.putUnc w else s.onRdp fun x => { x with uncShadow := some w }
  let s := s.pulse 336
  let s := if s.rdp.lastUnc.holds k s.second then s
    else (s.onRdp fun x => { x with lastUnc := x.lastUnc.put k s.second }).raise .rdp 0 0x01 .u (l.psa % 2 ^ 37)
  l.who.foldl (fun s w => s.deliver w l.psa none) (s.ladderFree l)

/-- A ladder of patrol, a check or recovery ends without data after step 3 (R143, R148). -/
def State.ladderGiveUp (s : State) (l : Ladder) : State :=
  let s := s.ladderFree l
  l.who.foldl (fun s w =>
    let s := match w with
      | .patrol _ => s.onRdp fun x => { x with patWeak := true, patUnc := true }
      | _ => s
    s.deliver w l.psa none) s

/-- The reader may be served by peers: a GET_SHARD served for one may not (R250, R574). -/
def State.peerable (s : State) : ReadFor → Bool
  | .flow i => match s.ist.flows.find i with
    | some f => decide (f.kind ≠ .shardOut)
    | none => false
  | _ => true

/-- An IU handed to Tarragon by the PSA of its first unit (R140). -/
def State.reconAsk (s : State) (psa : Nat) : State :=
  if s.rdp.recon.contains psa then s else s.onRdp fun x => { x with recon := x.recon ++ [psa] }

/-- Step 5 may be entered for data of a superblock's class (R136, R140). -/
def State.step5 (s : State) (psa : Nat) : Bool :=
  !s.limp && s.flag R.RDP_CFG_PEER_EN && s.boot.content && s.flag (R.FTL_CLASS_CTL_PEER (s.sb (s.sbOf psa)).cls)

/-- A ladder enters the first later step whose entry condition holds (R136). -/
def State.ladderStep (s : State) (l : Ladder) : State :=
  let top := l.who.foldl (fun a w => max a w.lastStep) 0
  let k := s.sbOf l.psa
  let go := fun (s : State) (step sub : Nat) =>
    s.setLadder { l with step := step, sub := sub, tried := l.tried ||| 2 ^ (step - 1), busy := true }
  if l.busy then s
  else if l.step ≤ 2 ∧ l.sub < s.get R.RDP_CFG_MAX_RETRY then
    (go s 2 (l.sub + 1)).issueRead (l.who.headD .firmware) (some l.id) l.psa 1 (l.sub + 1) 0
  else if l.step < 3 ∧ s.flag R.RDP_CFG_SOFT_EN then
    (go s 3 0).issueRead (l.who.headD .firmware) (some l.id) l.psa 1 (l.best % 8) (s.get R.RDP_CFG_SOFT_LEVELS)
  else if l.step < 4 ∧ 4 ≤ top ∧ s.flag R.RDP_CFG_PAR_EN ∧ (s.sb k).parityHeld ∧ !s.rowDamaged k (s.posOf l.psa) then
    go s 4 0
  else if l.step < 5 ∧ 5 ≤ top ∧ s.step5 l.psa ∧ l.who.any s.peerable then (go s 5 0).reconAsk (l.psa / 16 * 16)
  else if top < 6 ∧ !(l.who.any fun w => match w with | .nvm _ => true | _ => false) then s.ladderGiveUp l
  else s.ladderUnc l

/-- A HELD notice for peer-protected data starts a reconstruct beside the read (R140). -/
def State.heldRecon (s : State) (psa : Nat) : State :=
  if s.step5 psa then s.reconAsk (psa / 16 * 16) else s

/-- Units of an IU whose entry is REMOTE go straight to step 5, or to step 6 where step 5 is closed to their reader (R140). -/
def State.remoteRead (s : State) (who : ReadFor) (psa n : Nat) : State :=
  let can := s.step5 psa && s.peerable who
  (List.range n).foldl (fun s i =>
    match s.ladderAt (psa + i) with
    | some l => s.setLadder { l with who := l.who ++ [who] }
    | none =>
      let l : Ladder := ⟨s.rdp.nextId, psa + i, [who], 5, 0, 16 * b2n can, 0, 2 ^ 32, can, 0⟩
      let s := s.onRdp fun x => { x with ladders := x.ladders ++ [l], nextId := x.nextId + 1 }
      if can then s.reconAsk (psa / 16 * 16) else s.ladderUnc l) s

/-! ### Codewords (R126, R128) -/

/-- A codeword leaves its decoder: `syn` says that the syndrome is zero, `data` and `crc` are its content, `bits` the bits
corrected and `unsat` the unsatisfied checks of a failed hard decode. -/
def State.codeword (s : State) (psa : Nat) (soft syn : Bool) (data : Bytes) (crc bits unsat : Nat) : State :=
  match s.rdp.cws.zipIdx.find? fun c => decide (c.1.psa = psa) with
  | none => s
  | some (c, i) =>
    let s := s.onRdp fun x => { x with cws := x.cws.eraseIdx i }
    let s := s.evtB 0x280000 (if soft then 0x11 else 0x10) 1
    let ok := syn && decide (crc = crc32c (data ++ leBytes 8 psa))
    let bits := min 4095 bits
    match c.ladder.bind fun id => s.rdp.ladders.find? fun l => decide (l.id = id) with
    | none =>
      if ok then ((((s.countSuccess c.entry 0).stepCount 1).judge c.who bits 1).deliver c.who psa (some data))
      else
        match c.who with
        | .verify k => s.sbHidden k fun r => { r with vfyBad := true }
        | .rdCheck k => (s.rdTrigger k 0).ladderEnter c unsat
        | _ => s.ladderEnter c unsat
    | some l =>
      if ok then
        (if l.step = 2 then s.countSuccess l.entry l.sub else s).ladderOk l l.step bits data
      else
        s.setLadder { l with
          busy := false
          best := if l.step = 2 ∧ unsat < l.unsat then l.entry * 8 + l.sub else l.best
          unsat := if l.step = 2 then min l.unsat unsat else l.unsat }

/-- The data of a read has gone to the decoder (R128, R146): its codewords wait for their decodes. -/
def State.toDecoder (s : State) (who : ReadFor) (ladder : Option Nat) (psa n entry : Nat) : State :=
  s.onRdp fun x => { x with cws := x.cws ++ (List.range n).map fun i => ⟨who, psa + i, entry, ladder⟩ }

/-- A read whose operation did not return data: its codewords fail as they would at a decode. -/
def State.readFailed (s : State) (who : ReadFor) (ladder : Option Nat) (psa n entry : Nat) : State :=
  match ladder.bind fun id => s.rdp.ladders.find? fun l => decide (l.id = id) with
  | some l => s.setLadder { l with busy := false }
  | none => (List.range n).foldl (fun s i =>
      match who with
      | .verify k => s.sbHidden k fun r => { r with vfyBad := true }
      | _ => s.ladderEnter ⟨who, psa + i, entry, none⟩ (2 ^ 32)) s

/-! ### Read disturb (R146) -/

/-- A READ or READ_SOFT of a block counted; at each multiple of CHECK × 1,024, or at the limit, a check is owed. -/
def State.rdCount (s : State) (d b : Nat) : State :=
  match s.rdpLoad (s.rd64 R.RDP_RD_BASE_LO % 2 ^ 37 + 4 * (d * s.gBpp + b)) 4 with
  | (v, s) =>
    if v.isEmpty then s
    else
      let c := satAdd (2 ^ 32 - 1) (leNat (v.map (BitVec.ofNat 8))) 1
      let s := s.setRd d b c
      let per := 1024 * s.get R.RDP_RD_CFG_CHECK
      if per ≠ 0 ∧ c % per = 0 ∨ c = 1024 * s.get R.RDP_RD_CFG_LIMIT then
        s.onRdp fun x => { x with checks := x.checks ++ [(d, b, c)] }
      else s

/-- The oldest check owed: at the limit the superblock is relocated, else every 64th PU of the block is read. -/
def State.rdCheck (s : State) : State :=
  match s.rdp.checks with
  | [] => s
  | (d, b, c) :: cs =>
    let s := (s.onRdp fun x => { x with checks := cs }).evtB 0x280000 0x18 1
    let k := s.owner d b % 2 ^ 20
    if 1024 * s.get R.RDP_RD_CFG_LIMIT ≤ c then s.rdTrigger k 0
    else
      let start := c / max 1 (1024 * s.get R.RDP_RD_CFG_CHECK) % 64
      let pus := s.memberPus (s.sb k).slc
      (List.range (cdiv (pus - start) 64)).foldl (fun s i =>
        s.issueRead (.rdCheck k) none (d * 2 ^ 27 + b * s.blockUnits + 16 * (start + 64 * i)) 16 0 0) s

/-! ### Patrol (R147, R148) -/

/-- The patrol table's entry of a superblock: LAST_H. -/
def State.lastHour (s : State) (k : Nat) : Nat × State :=
  match s.rdpLoad (s.rd64 R.RDP_PAT_BASE_LO % 2 ^ 37 + 4 * k) 4 with
  | (v, s) => (leNat (v.map (BitVec.ofNat 8)) % 2 ^ 24, s)

def State.setHour (s : State) (k bits : Nat) : State :=
  let h := s.devTime / (3600 * 10 ^ 9) % 2 ^ 24
  s.rdpStore (s.rd64 R.RDP_PAT_BASE_LO % 2 ^ 37 + 4 * k) ((leBytes 4 (h + min 255 bits * 2 ^ 24)).map (·.toNat))

/-- The interval of an age bin in days. -/
def State.patDays (s : State) (bin : Nat) : Nat := (s.rd (R.RDP_PAT_INT_0 + 4 * (bin / 4))).fld (8 * (bin % 4)) 8

/-- Patrol goes on to the next SBID; from the last to 0 it pulses source 340 (R151). -/
def State.patNext (s : State) : State :=
  let k := s.get R.RDP_PAT_STS_SBID + 1
  let s := s.put R.RDP_PAT_STS_ACTIVE 0
  if 32 * s.gBpp ≤ k then (s.put R.RDP_PAT_STS_SBID 0).pulse 340 else s.put R.RDP_PAT_STS_SBID k

/-- One step of patrol: the next units of the superblock being patrolled, as many of a position as the window's rate allows,
the end of its pass, or the examination of the next superblock. -/
def State.patrol (s : State) : State :=
  let k := s.get R.RDP_PAT_STS_SBID
  let r := s.sb k
  if !s.flag R.RDP_PAT_CFG_EN ∨ !s.calm then s
  else if !s.flag R.RDP_PAT_STS_ACTIVE then
    match s.lastHour k with
    | (h, s) =>
      if r.state = 3 ∧ h + 24 * s.patDays (s.sbAgeBin k) ≤ s.devTime / (3600 * 10 ^ 9) then
        (s.put R.RDP_PAT_STS_ACTIVE 1).onRdp fun x =>
          { x with patPos := 0, patBits := 0, patWeak := false, patUnc := false }
      else s.patNext
  else if r.state ≠ 3 then s.patNext
  else if s.rdp.patPos < 16 * r.wptr then
    let p := s.rdp.patPos
    let n := min (16 - p % 16) ((s.get R.RDP_PAT_CFG_RATE * 6400 - s.rdp.patBytes) / 4096)
    if n = 0 then s
    else
      let s := s.onRdp fun x => { x with patPos := p + n, patBytes := x.patBytes + 4096 * n }
      (s.evtB 0x280000 0x17 n).issueRead (.patrol k) none (s.posPsa k (p / 16) + p % 16) n 0 0
  else if r.reads ≠ 0 ∨ s.rdp.cws.any (fun c => decide (c.who = ReadFor.patrol k))
      ∨ s.rdp.ladders.any (fun l => l.who.contains (.patrol k)) then s
  else
    let x := s.rdp
    let s := if x.patWeak then s.weakPush ⟨k, x.patBits, x.patUnc, 0⟩ else s
    ((s.setHour k x.patBits).bump R.RDP_PAT_DONE_CNT 1).patNext

/-! ### The RDP pages -/

/-- RDP's own checks (R149 and the captions). -/
def rdpChecks : Checks := fun s _ p o v =>
  if p.page = 0 ∧ 0x84 ≤ o ∧ o < 0xA0 then
    failIf (s.enabled p.base0) 4 ++ failIf (decide (0x88 ≤ o) && decide (o % 8 = 0) && decide (v.fld 0 16 ≠ 0)) 5
  else if p.page = 2 ∧ o = 0x80 then failIf (decide (v.fld 16 16 ≤ v.fld 0 16)) 7
  else []

/-- What RDP registers show: ladders, WEAK's oldest entry and depth, and WORST. -/
def rdpView : View := fun s _ p o =>
  if p.page = 0 ∧ o = 0xA0 then
    some (BitVec.ofNat 32 (s.rdp.ladders.length + min 65535 s.rdp.waiting.length * 2 ^ 16))
  else if p.page = 1 ∧ o = 0x88 then some ((s.rd (p.base + o)).setFld 0 1 (b2n s.timeUnknown))
  else if p.page = 2 ∧ o = 0xA8 then
    some (match s.rdp.weak with
      | [] => 0
      | w :: _ => BitVec.ofNat 32 (w.sb + w.maxBits * 2 ^ 20 + b2n w.unc * 2 ^ 28 + w.src * 2 ^ 29 + 2 ^ 31))
  else if p.page = 2 ∧ o = 0xAC then some ((s.rd (p.base + o)).setFld 0 7 s.rdp.weak.length)
  else none

/-- What reads of RDP registers do: WEAK gives up its oldest entry (R148), and the UNC record freezes (R150). -/
def rdpReadEffect : ReadEffect := fun s r p o =>
  if p.page = 2 ∧ o = 0xA8 then
    let s := s.onRdp fun x => { x with weak := x.weak.drop 1 }
    s.setLevel 337 (!s.rdp.weak.isEmpty)
  else if p.page = 3 ∧ o = 0xB0 then s.onRdp fun x => { x with uncFrozen := insertNat r.idx x.uncFrozen }
  else if p.page = 3 ∧ o = 0xB8 then
    let s := s.onRdp fun x => { x with uncFrozen := x.uncFrozen.filter (· ≠ r.idx) }
    match s.rdp.uncFrozen, s.rdp.uncShadow with
    | [], some w => (s.putUnc w).onRdp fun x => { x with uncShadow := none }
    | _, _ => s
  else s

end Sys2Proof.Machine
end

