-- ==== Sys2Proof/Machine/Plj.lean ====
section
/-! DEFINITION. Block PLJ (chapter 06): journal chunks and the flush, map write-back and checkpoints, the brace, resume,
and recovery. -/

namespace Sys2Proof.Machine

open Sys2Proof

/-- The PLJ page. -/
def pljPage : Nat := 0x2C0000

/-! ### Chunks (R153, R157, R258) -/

/-- The 16 bytes of a journal entry (R153). -/
def JEntry.bytes (e : JEntry) : Bytes :=
  leBytes 1 (e.type % 16 + e.ns % 2 * 16 + b2n e.grp * 32 + b2n e.last * 64) ++ leBytes 5 e.addr ++ leBytes 5 e.value
    ++ leBytes 5 e.seq

/-- The 32 bytes of an intent record (R258). -/
def IntentRec.bytes (x : IntentRec) : Bytes :=
  leBytes 1 (x.type % 16 + x.set % 16 * 16) ++ leBytes 1 (x.cls % 128) ++ leBytes 1 (x.slot % 64 + x.role % 4 * 64)
    ++ leBytes 1 (x.pslot % 64) ++ leBytes 1 (x.qslot % 64) ++ leBytes 5 x.where_ ++ leBytes 3 x.gen ++ leBytes 3 0
    ++ leBytes 8 x.seq ++ leBytes 8 0

/-- A string of bytes cut or filled with zeros to a length. -/
def fit (n : Nat) (b : Bytes) : Bytes := (b ++ List.replicate n 0).take n

/-- The 16 KiB of a chunk (R157): SEQ_BASE, body, and the CRC over the header and the body. -/
def ChunkJob.bytes (c : ChunkJob) (base : Nat) (body : Bytes) : Bytes :=
  let count := if c.ents.isEmpty then c.recs.length else c.ents.length
  let h := leBytes 8 base ++ leBytes 8 c.time ++ leBytes 4 c.no ++ leBytes 2 count ++ leBytes 1 c.flags
    ++ List.replicate 37 0
  let body := fit 16320 body
  h ++ leBytes 4 (crc32c (h ++ body)) ++ body

/-- A chunk's content as it is programmed.  SEQ_BASE is the first entry's number; the spec gives none for a chunk without
entries, and no layout of the HW table in a SNAP chunk (R258): both are free values. -/
def State.chunkData (s : State) (c : ChunkJob) : Bytes × State :=
  match c.snap, c.ents, c.recs with
  | some _, _, _ =>
    match s.fresh (2 ^ 64) with
    | (b, s) =>
      match s.fresh (2 ^ (8 * 16320)) with
      | (t, s) => (c.bytes b (leBytes 16320 t), s)
  | none, e :: es, _ => (c.bytes e.seq ((e :: es).flatMap JEntry.bytes), s)
  | none, [], r :: rs => (c.bytes r.seq ((r :: rs).flatMap IntentRec.bytes), s)
  | none, [], [] =>
    match s.fresh (2 ^ 64) with
    | (b, s) => (c.bytes b [], s)

/-- The plane page `pp` of a position of an SLC superblock as an operation: channel, die, block, page, plane mask. -/
def State.slcPage (s : State) (k p pp : Nat) : Nat × Nat × Nat × Nat × Nat :=
  let m := s.posMember k p
  let pl := max 1 s.gPlanes
  (m.1, m.2.1, m.2.2, p / max 1 (s.members k).length * (4 / pl) + pp / pl, 2 ^ (pp % pl))

/-- The page counter of the journal (false) or the intent journal (true). -/
def State.logPage (s : State) (intent : Bool) : Nat := if intent then s.plj.ipage else s.plj.jpage

def State.setLogPage (s : State) (intent : Bool) (v : Nat) : State :=
  s.onPlj fun x => if intent then { x with ipage := v } else { x with jpage := v }

/-- A superblock's record where a position of it is used for the first time. -/
def SbRec.started (r : SbRec) (p secs seq now : Nat) (unk : Bool) : SbRec :=
  { r with
    openTime := if p = 0 then secs else r.openTime
    openSeq := if p = 0 then seq else r.openSeq
    timeUnk := r.timeUnk || unk
    lastWrite := now }

/-- The next plane page of a superblock that is filled page by page: the position moves on after its fourth page, and the
superblock closes after its last position. -/
def State.nextPage (s : State) (intent : Bool) (k : Nat) : Nat × State :=
  let r := s.sb k
  let pp := s.logPage intent
  let r' := r.started r.wptr s.secs s.seqNext s.now s.timeUnknown
  let at_ := r.wptr * 4 + pp
  if pp < 3 then (at_, (s.setSb k r').setLogPage intent (pp + 1))
  else
    let s := (s.setSb k { r' with wptr := r.wptr + 1 }).setLogPage intent 0
    (at_, if s.positions k ≤ r.wptr + 1 then s.sbClose k false else s)

/-- The next plane page of the journal or intent superblock, one being opened where none is OPEN. -/
def State.takePage (s : State) (intent : Bool) : Option (Nat × Nat) × State :=
  let use := if intent then 4 else 2
  match (s.openOf 66 use).head? with
  | some k => let x := s.nextPage intent k; (some (k, x.1), x.2)
  | none =>
    if s.mayOpen 66 false then
      match s.openChoice 66 with
      | some k => let x := ((s.sbOpen k 66 use).setLogPage intent 0).nextPage intent k; (some (k, x.1), x.2)
      | none => (none, s)
    else (none, s)

/-- The chunks of a journal. -/
def State.logChunks (s : State) (intent : Bool) : List ChunkJob := if intent then s.plj.ichunks else s.plj.chunks

def State.setChunks (s : State) (intent : Bool) (cs : List ChunkJob) : State :=
  s.onPlj fun x => if intent then { x with ichunks := cs } else { x with chunks := cs }

/-- A chunk changed. -/
def State.updChunk (s : State) (intent : Bool) (no : Nat) (f : ChunkJob → ChunkJob) : State :=
  s.setChunks intent ((s.logChunks intent).map fun c => if c.no = no then f c else c)

/-- A chunk programmed at the next plane page, if there is one (R158). -/
def State.chunkIssue (s : State) (intent : Bool) (c : ChunkJob) : State :=
  match s.takePage intent with
  | (none, s) => s
  | (some (k, at_), s) =>
    match s.chunkData c with
    | (bs, s) =>
      let g := s.slcPage k (at_ / 4) (at_ % 4)
      (s.updChunk intent c.no fun c => { c with pos := some (k, at_), result := none }).opEnqueue g.1
        ⟨3, false, g.2.1, g.2.2.1, g.2.2.2.1, g.2.2.2.2, 0, 0, true, [], if intent then .ichunk c.no else .chunk c.no, bs⟩

/-- Chunks that wait for a page are tried again. -/
def State.chunkRetry (s : State) (intent : Bool) : State :=
  ((s.logChunks intent).filter fun c => c.pos.isNone).foldl (fun s c => s.chunkIssue intent c) s

/-! ### The flush (R155, R158, R159) -/

/-- The confirmed position of a superblock (R155): its lowest position whose program has not completed. -/
def State.confirmed (s : State) (k : Nat) : Nat :=
  let jobs := (s.ftl.pus.filter fun e => decide (e.1 / 2 ^ 18 = k)).map fun e => e.1 % 2 ^ 18
  let pages := ((s.plj.chunks ++ s.plj.ichunks).filterMap fun c =>
    match c.pos with | some (j, a) => if j = k then some (a / 4) else none | none => none)
  (jobs ++ pages).foldl min (s.sb k).wptr

/-- A CPTR entry for each OPEN superblock whose confirmed position has moved (R155). -/
def State.cptrs (s : State) : State :=
  (s.sbsIn 1).foldl (fun s e =>
    let c := s.confirmed e.1
    if c = (s.sb e.1).conf then s
    else (s.sbHidden e.1 fun r => { r with conf := c }).jnl 4 0 false false e.1 c none) s

/-- Entries cut into chunks of up to 1,020 (R158), or records into chunks of up to 510 (R258). -/
def cut {α : Type} (n : Nat) : Nat → List α → List (List α)
  | 0, _ => []
  | f + 1, l => if l.isEmpty then [] else l.take n :: cut n f (l.drop n)

/-- A flush takes every unflushed entry. -/
def State.flushStart (s : State) (flags : Nat) : State :=
  let s := s.cptrs
  let parts := cut 1020 s.plj.ents.length s.plj.ents
  let t := s.devTime
  let cs := parts.zipIdx.map fun p => (⟨s.plj.chunkNo + p.2, p.1, [], none, flags, t, none, none⟩ : ChunkJob)
  s.onPlj fun x => { x with ents := [], chunks := x.chunks ++ cs, chunkNo := x.chunkNo + cs.length }

/-- A flush is due (R158), or sleep entry asks for one (R397). -/
def State.flushDue (s : State) : Bool :=
  !s.plj.ents.isEmpty && s.plj.chunks.isEmpty && s.enabled pljPage && decide (s.get R.PLJ_PF_STS_STATE = 0)
    && (decide (s.plj.since + 1000 * s.get R.PLJ_CFG_FLUSH_US ≤ s.now)
      || decide (s.get R.PLJ_CFG_FLUSH_ENT ≤ s.plj.ents.length) || decide (s.pwr.step = .flush))

/-- A flush starts if one is due. -/
def State.flush (s : State) : State := if s.flushDue then (s.flushStart 0).chunkRetry false else s

/-- An intent record appended (R258). -/
def State.intent (s : State) (x : IntentRec) : State :=
  s.onPlj fun p => { p with
    recSince := if p.recs.isEmpty then s.now else p.recSince
    recs := p.recs ++ [{ x with seq := p.recNo }]
    recNo := p.recNo + 1 }

/-- The intent records are flushed as they stand (R259). -/
def State.intentStart (s : State) (flags : Nat) : State :=
  let parts := cut 510 s.plj.recs.length s.plj.recs
  let t := s.devTime
  let cs := parts.zipIdx.map fun p => (⟨s.plj.ichunkNo + p.2, [], p.1, none, flags, t, none, none⟩ : ChunkJob)
  s.onPlj fun x => { x with recs := [], ichunks := x.ichunks ++ cs, ichunkNo := x.ichunkNo + cs.length }

/-- A snapshot of the HW table as 33 SNAP chunks (R259). -/
def State.snapStart (s : State) : State :=
  let t := s.devTime
  let cs := (List.range 33).map fun i => (⟨s.plj.ichunkNo + i, [], [], some i, 8, t, none, none⟩ : ChunkJob)
  (s.onPlj fun x => { x with ichunks := x.ichunks ++ cs, ichunkNo := x.ichunkNo + 33, sinceSnap := 0 }).chunkRetry true

/-- Records no longer unflushed: at most 32,640 of them may be (R259). -/
def State.unflushedRecs (s : State) : Nat := s.plj.recs.length + (s.plj.ichunks.map fun c => c.recs.length).sum

/-- A journal superblock is freed that ended before the replay point of the previous checkpoint (R163). -/
def State.freeJournals (s : State) : State :=
  ((s.ftl.sbs.filter fun e => decide (e.2.use = 2) && decide (e.2.cls = 66) && decide (2 ≤ e.2.state)
    && decide (e.2.state ≤ 4) && decide (e.2.lastSeq < s.plj.prevReplay)).map (·.1)).foldl (fun s k => s.sbFree k) s

/-- The oldest kept directory goes when a third one is complete: its units are no longer valid. -/
def State.dropDir (s : State) : State :=
  match s.plj.dirs with
  | a :: b :: (k, n) :: _ =>
    let s := s.onPlj fun x => { x with dirs := [a, b] }
    let s := s.setSb k { s.sb k with valid := (s.sb k).valid - 16 * n }
    s.sbCheck k
  | _ => s

/-- A checkpoint's CKPT entry is flushed (R163, R184). -/
def State.ckptFlushed (s : State) (j : CkptJob) : State :=
  let s := (s.pulse 356).evtB pljPage 0x13 1
  let s := s.freeJournals
  let s := s.onPlj fun x => { x with
    ckpt := none, prevReplay := j.replay, dirs := (j.sb.getD 0, j.done) :: x.dirs }
  s.dropDir

/-- The entries of a chunk count as flushed (R158). -/
def State.entsFlushed (s : State) (es : List JEntry) : State :=
  let top := es.foldl (fun a e => max a e.seq) (s.rd64 R.PLJ_FLUSHED_LO)
  let s := s.wr64 R.PLJ_FLUSHED_LO top
  match s.plj.ckpt with
  | some j =>
    match j.entry with
    | some q => if es.any fun e => decide (e.type = 6 ∧ e.seq = q) then s.ckptFlushed j else s
    | none => s
  | none => s

/-- The oldest journal chunk whose result is known (R158): its entries are flushed, or it is written again at the next plane
page after the journal superblock has closed early. -/
def State.chunkDone (s : State) : State :=
  match s.plj.chunks.find? fun c => c.result.isSome with
  | none => s
  | some c =>
    let k := match c.pos with | some x => x.1 | none => 0
    if c.result = some true then
      let s := s.setChunks false (s.plj.chunks.filter fun x => x.no ≠ c.no)
      let s := s.sbHidden k fun r => { r with lastSeq := c.ents.foldl (fun a e => max a e.seq) r.lastSeq }
      let s := ((s.entsFlushed c.ents).evtB pljPage 0x11 1).stallRefresh
      (s.unstall s.ftl.stalled.length).flush
    else
      let s := s.updChunk false c.no fun x => { x with pos := none, result := none }
      let s := if (s.sb k).state = 1 then (s.sbClose k true).setLogPage false 0 else s
      s.chunkRetry false

/-! ### Map write-back and checkpoints (R161 to R163) -/

/-- Where a segment lies in DRAM, and its bytes. -/
def State.segAddr (s : State) (k : Nat) : Nat :=
  if k < s.segBase 1 then s.mapBase 0 + 20480 * k
  else if k < s.segBase 2 then s.mapBase 1 + 20480 * (k - s.segBase 1)
  else if k < s.segBase 3 then s.rd64 R.FTL_SBT_BASE_LO % 2 ^ 37 + 20480 * (k - s.segBase 2)
  else s.rd64 R.FTL_OWN_BASE_LO % 2 ^ 37 + 20480 * (k - s.segBase 3)

/-- A segment read through PLJ's port; none where a line of it is uncorrectable (R541). -/
def State.segRead (s : State) (k : Nat) : Option Bytes × State :=
  if !s.dramOpen then (none, s)
  else
    match s.dramLoad 2 (s.segAddr k) (min 20480 (s.dramCap - s.segAddr k)) with
    | (none, s) => (none, s)
    | (some x, s) => (some (fit 20480 x.1), s)

/-- The replay window asks for write-back (R161, R162). -/
def State.wbHurry (s : State) : Bool := decide (s.keepEntries ≤ s.seqNext - 1 - s.replayPoint)

/-- The dirty segments that may be written back now, in the order in which they became dirty (R160, R161). -/
def State.wbDue (s : State) : List DirtySeg :=
  s.plj.dirty.takeWhile fun d =>
    (decide (d.since + 10 ^ 7 * s.get R.PLJ_CFG2_WB_AGE ≤ s.now) || s.wbHurry)
      && decide (d.seq ≤ s.rd64 R.PLJ_FLUSHED_LO)

/-- The last 4 KiB of a MAP PU (R161). -/
def mapTrailer (ds : List (DirtySeg × Bytes)) : Bytes :=
  fit 4096 (ds.flatMap fun d => leBytes 4 d.1.seg ++ leBytes 8 d.1.seq ++ leBytes 4 (crc32c d.2) ++ List.replicate 16 0)

/-- The segments of a PU read; none where one cannot be. -/
def State.segLoad : List DirtySeg → State → Option (List (DirtySeg × Bytes)) × State
  | [], s => (some [], s)
  | d :: ds, s =>
    match s.segRead d.seg with
    | (none, s) => (none, s)
    | (some b, s) =>
      match State.segLoad ds s with
      | (none, s) => (none, s)
      | (some r, s) => (some ((d, b) :: r), s)

/-- Up to three due segments are copied to a MAP-class PU (R161); a PU of fewer repeats its last. -/
def State.writeBack3 (s : State) : State :=
  match (s.wbDue.take 3) with
  | [] => s
  | ds =>
    match State.segLoad ds s with
    | (none, s) => s
    | (some r, s) =>
      let last := r.getLast?
      let r := match last with | some x => (r ++ [x, x]).take 3 | none => r
      let s := s.onPlj fun x => { x with dirty := x.dirty.drop ds.length }
      let s := s.evtB pljPage 0x12 ds.length
      s.place ⟨7, 0, 65, [], false, [], none, false, [], r.map (·.1.seg) ++ r.map (·.1.seq),
        (r.flatMap (·.2)) ++ mapTrailer r, .nobody⟩

/-- A copy of a segment is on flash (R161): a SEG entry, its place, and the units valid there and no longer at the old
copy. -/
def State.segCopied (s : State) (seg seq psa slot : Nat) : State :=
  let s := match s.plj.segs.find seg with
    | some o => let s := s.addValid (o.1 / 4) false 5; s.sbCheck (s.sbOf (o.1 / 4))
    | none => s
  let s := s.onPlj fun x => { x with segs := x.segs.put seg (psa * 4 + slot, seq) }
  (s.addValid psa true 5).jnl 5 0 false false seg (psa + slot * 2 ^ 37) none

/-- A MAP PU has been programmed at a position: a SEG entry for each segment it holds first. -/
def State.mapPuDone (s : State) (psa : Nat) (ref : List Nat) : State :=
  (List.range 3).foldl (fun s i =>
    let g := ref.getD i 0
    if (ref.take i).contains g then s else s.segCopied g (ref.getD (3 + i) 0) psa i) s

/-- A MAP PU failed: its segments are dirty again, first in line. -/
def State.mapPuFailed (s : State) (ref : List Nat) : State :=
  let ds := (List.range 3).filterMap fun i =>
    let g := ref.getD i 0
    if (ref.take i).contains g || s.plj.dirty.any (fun d => decide (d.seg = g)) then none
    else some (⟨g, 0, ref.getD (3 + i) 0⟩ : DirtySeg)
  s.onPlj fun x => { x with dirty := ds ++ x.dirty }

/-- Directory PUs of a checkpoint (R163). -/
def State.dirPus (s : State) : Nat := cdiv (s.segBase 4) 8184

/-- The content of a directory PU (R163). -/
def State.dirData (s : State) (j : CkptJob) (i : Nat) : Bytes :=
  let h := leBytes 8 j.seq ++ leBytes 8 j.replay ++ leBytes 4 i ++ leBytes 4 (s.segBase 4) ++ List.replicate 36 0
  let ents := (List.range 8184).flatMap fun e =>
    match s.plj.segs.find (8184 * i + e) with
    | some x => leBytes 8 (x.1 / 4 + x.1 % 4 * 2 ^ 37 + 2 ^ 39)
    | none => leBytes 8 0
  fit 65536 (h ++ leBytes 4 (crc32c h) ++ ents)

/-- The superblock of a checkpoint: an OPEN one for directories with room for all of it, or one opened. -/
def State.ckptSb (s : State) : Option Nat × State :=
  match (s.openOf 65 5).find? fun k => decide ((s.sb k).wptr + s.dirPus ≤ s.positions k) with
  | some k => (some k, s)
  | none =>
    let s := (s.openOf 65 5).foldl (fun s k => s.sbClose k true) s
    if s.mayOpen 65 false then
      match s.openChoice 65 with
      | some k => (some k, s.sbOpen k 65 5)
      | none => (none, s)
    else (none, s)

/-- A checkpoint goes on: its next directory PU, or its CKPT entry (R163). -/
def State.ckptStep (s : State) : State :=
  match s.plj.ckpt with
  | none => s
  | some j =>
    if j.busy ∨ j.entry.isSome ∨ !s.calm then s
    else if j.sb.isSome ∧ s.dirPus ≤ j.done then
      let q := s.seqNext
      (s.jnl 6 0 false false s.dirPus j.first none).onPlj fun x => { x with ckpt := some { j with entry := some q } }
    else
      match (match j.sb with | some k => (some k, s) | none => s.ckptSb) with
      | (none, s) => s
      | (some k, s) =>
        if !s.rowOpen k then s.onPlj fun x => { x with ckpt := some { j with sb := some k } }
        else
          let r : PuReq := ⟨8, 0, 65, [], false, [], none, false, [], [j.done], s.dirData j j.done, .nobody⟩
          match s.putAt k r with
          | (p, s) =>
            let s := s.addParity k p r (s.seqNext - 1)
            let s := s.setSb k { s.sb k with valid := (s.sb k).valid + 16 }
            s.onPlj fun x => { x with ckpt := some { j with
              sb := some k
              first := if j.done = 0 then s.posPsa k p else j.first
              busy := true } }

/-- A directory PU's program has ended: the next one follows, or the checkpoint starts over in another superblock. -/
def State.dirDone (s : State) (ok : Bool) : State :=
  match s.plj.ckpt with
  | none => s
  | some j =>
    let j' := if ok then { j with busy := false, done := j.done + 1 } else { j with busy := false, done := 0, sb := none }
    (s.onPlj fun x => { x with ckpt := some j' }).ckptStep

/-! ### The reserve (R168) -/

/-- Positions of the reserve that are not written. -/
def State.reserveLeft (s : State) : Nat :=
  match s.plj.reserve with
  | some k => s.positions k - (s.sb k).wptr
  | none => 0

/-- The choice of a reserve: the widest erased superblock, of lowest PE, of lowest SBID. -/
def State.reserveChoice (s : State) : Option Nat :=
  let top := s.erasedFree.foldl (fun a k => max a (s.sb k).width) 0
  s.lowestPe (s.erasedFree.filter fun k => decide ((s.sb k).width = top))

/-- A new reserve is designated with a RESERVE entry; the old one stays a journal superblock. -/
def State.designate (s : State) : State :=
  match s.reserveChoice with
  | none => s
  | some k =>
    let s := match s.plj.reserve with
      | some o => (s.setSb o { s.sb o with use := 2, lastSeq := s.seqNext }).sbClose o true
      | none => s
    let s := s.sbOpen k 66 3
    let s := s.onPlj fun x => { x with reserve := some k, rpage := 0 }
    s.jnl 7 0 false false k 0 none

/-- A reserve is due: none after recovery, or fewer than 1,024 unwritten positions. -/
def State.reserveDue (s : State) : Bool :=
  decide (s.get R.PLJ_REC_STS_STEP = 7) && decide (s.get R.PLJ_PF_STS_STATE = 0) && decide (s.reserveLeft < 1024)

/-! ### The brace (R166 to R175) -/

/-- The next plane page of the reserve. -/
def State.reservePage (s : State) (k : Nat) : Nat × State :=
  let r := s.sb k
  let pp := s.plj.rpage
  let r' := r.started r.wptr s.secs s.seqNext s.now s.timeUnknown
  if pp < 3 then (r.wptr * 4 + pp, (s.setSb k r').onPlj fun x => { x with rpage := pp + 1 })
  else (r.wptr * 4 + pp, (s.setSb k { r' with wptr := r.wptr + 1 }).onPlj fun x => { x with rpage := 0 })

/-- The reserve's next position, past one that is partly used. -/
def State.reservePos (s : State) (k : Nat) : Nat × State :=
  let r := s.sb k
  let p := if s.plj.rpage = 0 then r.wptr else r.wptr + 1
  let r' := r.started p s.secs s.seqNext s.now s.timeUnknown
  (p, (s.setSb k { r' with wptr := p + 1 }).onPlj fun x => { x with rpage := 0 })

/-- A brace write of one plane page. -/
def State.bracePage (s : State) (k kind no : Nat) (bs : Bytes) : State :=
  let x := s.reservePage k
  let g := x.2.slcPage k (x.1 / 4) (x.1 % 4)
  (x.2.onPlj fun y => { y with waitTails := y.waitTails + 1 }).opEnqueue g.1
    ⟨3, true, g.2.1, g.2.2.1, g.2.2.2.1, g.2.2.2.2, 0, 0, true, [], .tail kind [no], bs⟩

/-- A brace write of a whole PU: one operation for each page of its member. -/
def State.bracePu (s : State) (k : Nat) (ref : List Nat) (bs : Bytes) : State :=
  let x := s.reservePos k
  let pl := max 1 x.2.gPlanes
  let m := x.2.posMember k x.1
  let idx := x.1 / max 1 (x.2.members k).length
  (List.range (4 / pl)).foldl (fun s j =>
    (s.onPlj fun y => { y with waitTails := y.waitTails + 1 }).opEnqueue m.1
      ⟨3, true, m.2.1, m.2.2, idx * (4 / pl) + j, 2 ^ pl - 1, 0, 0, true, [], .tail 4 ref,
        (bs.drop (j * 16384 * pl)).take (16384 * pl)⟩) x.2

/-- The chunks of a journal that a brace writes to the reserve: those not yet flushed, then the tail. -/
def State.braceChunks (s : State) (intent : Bool) (k flags : Nat) : State :=
  (s.logChunks intent).foldl (fun s c =>
    let c := { c with flags := c.flags ||| flags }
    match s.chunkData c with
    | (bs, s) => s.bracePage k (if intent then 6 else 5) c.no bs) s

/-- The stripe rows of OPEN superblocks whose parity PU has not completed (R167 step 3). -/
def State.parityTails (s : State) : List (Nat × ParRow) :=
  s.ftl.par.filter fun e => !e.2.durable && decide (0 < e.2.n) && decide ((s.sb (e.1 / 2 ^ 18)).state = 1)

/-- The tails are written to the reserve (R167 steps 3 and 4). -/
def State.braceTails (s : State) (flags : Nat) : State :=
  let s := (s.flushStart flags).intentStart flags
  match s.plj.reserve with
  | none => s
  | some k =>
    let s := (s.braceChunks false k flags).braceChunks true k flags
    s.parityTails.foldl (fun s e =>
      let sb := e.1 / 2 ^ 18
      let row := e.1 % 2 ^ 18
      let part := decide (e.2.n < min (max 1 (s.sb sb).rowLen) (s.positions sb - row * max 1 (s.sb sb).rowLen))
      (s.takeSeq.2).bracePu k [sb, row, b2n part] (fit 65536 e.2.data)) s

/-- The quiesce reaches every channel (R77). -/
def State.quiesceAll (s : State) (mode : Nat) : State :=
  (List.range 32).foldl (fun s n => (s.put (R.CHAN_QUIESCE_MODE n) mode).quiesce n mode) s

/-- A sequence under way ends for a brace: the ramping group's gate goes low, and no further group starts (R421). -/
def State.braceSeq (s : State) : State :=
  let s := (List.range 8).foldl (fun s g => if s.railState g = 1 then s.railDrop g else s) s
  if s.flag R.RAIL_STS_SEQ_BUSY then
    ((s.onRail fun x => { x with seq := [], slot := none }).put R.RAIL_STS_SEQ_BUSY 0).put R.RAIL_CTL_SEQ 0
  else s

/-- Recovery is running (STEP 1 to 6). -/
def State.recovering (s : State) : Bool :=
  decide (1 ≤ s.get R.PLJ_REC_STS_STEP) && decide (s.get R.PLJ_REC_STS_STEP ≤ 6)

/-- Nothing on flash can be lost (R173, R400), or the device is BRACED already. -/
def State.braceNull (s : State) : Bool :=
  !(List.range 8).any s.railDriven || s.recovering || decide (2 ≤ s.cur) || decide (s.get R.PLJ_PF_STS_STATE = 2)
    || decide (s.pwr.step = .park) || decide (s.pwr.step = .settle)

/-- A recovery that a null brace cuts short ends with RESULT ABORTED and is run again from its first step (R173). -/
def State.recAbort (s : State) : State :=
  if s.recovering then
    let s := (s.put R.PLJ_REC_STS_RESULT 4).put R.PLJ_REC_STS_STEP 0
    (((s.put R.PLJ_REC_STS_PERMILLE 0).put R.PLJ_REC_TIME_MS ((s.now - s.plj.recStart) / 10 ^ 6)).put
      R.PLJ_REC_CTL_START 0).pulse 355
  else s

/-- A brace starts (R167, R172, R173): full, short within the dead time where `store` says that it runs on the hold-up
store, or null. -/
def State.braceStart (s : State) (store : Bool) : State :=
  let null := s.braceNull
  let short := store && s.flag R.PLJ_PF_STS_DEAD
  let kind := if null then 3 else if short then 2 else 1
  let s := (s.put R.PLJ_PF_STS_STATE 1).put R.PLJ_PF_STS_SHORT (b2n (null || short))
  let s := s.onPlj fun x => { x with brace := some ⟨kind, s.now, false, null⟩, waitTails := 0 }
  let s := s.braceSeq
  if null then s.recAbort
  else (s.quiesceAll (if short then 2 else 1)).braceTails (if short then 3 else 1)

/-- PFAIL_N is recognised as asserted (R166, R174). -/
def State.pfAssert (s : State) : State :=
  let s := ((s.put R.PLJ_PF_STS_SEEN 1).put R.PLJ_PF_STS_PFAIL 1).pulse 352
  if s.get R.PLJ_PF_STS_STATE = 1 then s else s.braceStart true

/-- Every queued operation completes CANCELLED, and its requester keeps the work (R167 step 6). -/
def State.cancelAll (s : State) : State :=
  (List.range 32).foldl (fun s n =>
    let q := (s.chanSt n).ops.filter fun o => !o.inFlight && !o.req.brace
    let keep := (q.map (·.req) ++ (s.chanSt n).backlog).filter fun r => r.fwOpc.isNone
    let s := s.onChan n fun c => { c with backlog := [] }
    let d := s.done
    let s := { q.foldl (fun s o => s.opDone n o 4) s with done := d }
    s.onPlj fun x => { x with kept := x.kept ++ keep.map fun r => (n, r) }) s

/-- All tails are written: the END chunk follows, queued operations are cancelled, and the rails may go (R167). -/
def State.tailsWritten (s : State) : State :=
  match s.plj.brace with
  | none => s
  | some b =>
    if b.ended ∨ b.rails ∨ s.plj.waitTails ≠ 0 then s
    else
      let flags := if b.kind = 2 then 7 else 5
      let top := (s.plj.chunks.flatMap (·.ents)).foldl (fun a e => max a e.seq) (s.rd64 R.PLJ_FLUSHED_LO)
      let s := s.evtB pljPage 0x11 s.plj.chunks.length
      let s := match s.plj.reserve with
        | none => s
        | some k =>
          let s := (s.wr64 R.PLJ_FLUSHED_LO top).onPlj fun x => { x with chunks := [], ichunks := [] }
          let c : ChunkJob := ⟨s.plj.chunkNo, [], [], none, flags, s.devTime, none, none⟩
          match s.chunkData c with
          | (bs, s) => ((s.onPlj fun x => { x with chunkNo := x.chunkNo + 1 }).bracePage k 5 c.no bs).evtB pljPage 0x11 1
      (s.cancelAll).onPlj fun x => { x with brace := some { b with ended := true, rails := true } }

/-- A brace write has ended; one that failed is written again at the next page or position of the reserve. -/
def State.tailDone (s : State) (o : OpReq) (ok : Bool) : State :=
  let s := s.onPlj fun x => { x with waitTails := x.waitTails - 1 }
  if ok then s
  else
    match s.plj.reserve, o.use with
    | some k, .tail 4 ref =>
      let x := s.reservePos k
      let m := x.2.posMember k x.1
      (x.2.onPlj fun y => { y with waitTails := y.waitTails + 1 }).opEnqueue m.1
        { o with die := m.2.1, block := m.2.2,
                 page := x.1 / max 1 (x.2.members k).length * (4 / max 1 x.2.gPlanes) + o.page % (4 / max 1 x.2.gPlanes),
                 use := .tail 4 ref }
    | some k, .tail kind ref => s.bracePage k kind (ref.getD 0 0) o.data
    | _, _ => s

/-- The next driven rail group goes, at least 100 µs after the one before; in HALT the first goes at once (R420). -/
def State.railStep (s : State) : State :=
  let on := s.flt.halt || match s.plj.brace with
    | some b => b.rails && decide (s.plj.waitTails = 0)
    | none => false
  if on ∧ (s.rail.lastDrop = 0 ∨ s.rail.lastDrop + 100000 ≤ s.now) then
    match (List.range 8).find? fun g => s.railDriven g with
    | some g => (s.railDrop g).onRail fun x => { x with lastDrop := s.now }
    | none => s
  else s

/-- The brace has ended: DRAM is in self-refresh, and PF_STS.STATE reads BRACED (R167 step 8). -/
def State.bracedNow (s : State) : Bool :=
  match s.plj.brace with
  | some b => b.rails && decide (s.plj.waitTails = 0) && !(List.range 8).any s.railDriven
  | none => false

def State.braced (s : State) : State :=
  match s.plj.brace with
  | none => s
  | some b =>
    let dur := (s.now - b.start) / 1000
    let late := (b.kind = 1 && decide (7000 < dur)) || (b.kind = 2 && decide (4000 < dur))
    let s := s.srEnter
    let s := ((s.put R.PLJ_BRACE_REC_DUR (min 65535 dur)).put R.PLJ_BRACE_REC_KIND b.kind).put R.PLJ_BRACE_REC_LATE
      (b2n late)
    let s := (s.bump R.PLJ_BRACE_REC_COUNT 1).put R.PLJ_PF_STS_STATE 2
    (s.onPlj fun x => { x with brace := none }).pulse 353

/-- The dead time starts (R172). -/
def State.deadStart (s : State) : State :=
  (s.put R.PLJ_PF_STS_DEAD 1).onPlj fun x => { x with deadEnd := some (s.now + 10 ^ 6 * s.get R.PLJ_PF_CFG_DEAD_T) }

/-- PFAIL_N is recognised as deasserted (R166, R172, R176, R501). -/
def State.pfDeassert (s : State) : State :=
  if !s.flag R.PLJ_PF_STS_PFAIL then s
  else
    let s := (s.put R.PLJ_PF_STS_PFAIL 0).deadStart
    if s.get R.PLJ_PF_STS_STATE = 2 then (s.srExit).pulse 354 else s

/-- READMIT (R176): IDLE again, the channels released, OPEN superblocks CLOSING, the PUs that a short brace aborted owed a
repair, and cancelled operations issued again. -/
def State.readmit (s : State) : State :=
  let s := ((s.put R.PLJ_PF_STS_STATE 0).put R.PLJ_PF_CTL_READMIT 0).quiesceAll 0
  let s := (s.sbsIn 1).foldl (fun s e => if e.2.use = 3 then s else s.sbClose e.1 true) s
  let s := (s.setLogPage false 0).setLogPage true 0
  let ab := s.plj.abortedPus
  let s := s.onFtl fun x => { x with repairs := x.repairs ++ ab }
  let s := s.put R.PLJ_REC_CNT_REPAIRED (min 65535 ab.length)
  let kept := s.plj.kept
  let s := s.onPlj fun x => { x with kept := [], abortedPus := [] }
  kept.foldl (fun s k => s.opEnqueue k.1 k.2) s

/-! ### Recovery (R177 to R181) -/

/-- Discovery has finished on every channel, and the FTL and RDP are enabled, which R121 lets firmware do once their bases
are set. -/
def State.recReady (s : State) : Bool :=
  (List.range 32).all (fun n => s.flag (R.CHAN_DISC_STS_DONE n)) && s.enabled 0x240000 && s.enabled 0x280000

/-- Recovery starts (R177). -/
def State.recStart (s : State) : State :=
  let s := (s.put R.PLJ_REC_STS_STEP 1).put R.PLJ_REC_STS_RESULT 0
  let s := ((s.put R.PLJ_REC_STS_PERMILLE 0).put R.PLJ_REC_STS_LAST_BRACE 0).put R.PLJ_REC_STS_UNCLEAN 0
  s.onPlj fun x => { x with recStart := s.now }

/-- A superblock record read from its 64 bytes (R92). -/
def sbOfBytes (b : Bytes) : SbRec :=
  let w := fun (i : Nat) => leNat ((b.drop (4 * i)).take 4)
  let w0 := w 0
  let w1 := w 1
  let t := w 4
  { SbRec.fresh (w 7) with
    state := w0 / 2 ^ 20 % 8
    erased := w0.testBit 23
    cls := w0 / 2 ^ 24 % 128
    slc := w0.testBit 31
    pe := w1 % 2 ^ 20
    vfyFail := w1.testBit 29
    early := w1.testBit 30
    spare := w1.testBit 31
    openTime := w 2
    closeTime := w 3
    tempSum := t % 2 ^ 8
    tempN := 1
    tempMin := t / 2 ^ 8 % 2 ^ 8
    tempMax := t / 2 ^ 16 % 2 ^ 8
    tempEst := t.testBit 24
    timeUnk := t.testBit 25
    parityHeld := t.testBit 26
    valid := w 5 % 2 ^ 22
    wptr := w 6 % 2 ^ 18
    substs := (List.range 4).filterMap fun i =>
      let x := w (8 + i)
      if x.testBit 10 then some ⟨x % 2 ^ 5, x / 2 ^ 5 % 2 ^ 5, x / 2 ^ 11⟩ else none
    openSeq := leNat ((b.drop 48).take 8)
    plogCnt := w 14 % 2 ^ 16 }

/-- A segment loaded from flash (R177 step 3). -/
def State.segRestore (s : State) (x : Nat × Nat × Nat × Bytes) : State :=
  (s.poke (s.segAddr x.1) x.2.2.2).onPlj fun p => { p with segs := p.segs.put x.1 (x.2.1, x.2.2.1) }

/-- The structured tables rebuilt from the loaded superblock and block-owner tables. -/
def State.tablesRestore (s : State) : State :=
  let n := 32 * s.gBpp
  let sbt := s.rd64 R.FTL_SBT_BASE_LO % 2 ^ 37
  let own := s.rd64 R.FTL_OWN_BASE_LO % 2 ^ 37
  let s := s.onFtl fun x => { x with sbs := [], own := [] }
  let s := (List.range n).foldl (fun s k =>
    let b := getBytes s.mem.dram (sbt + 64 * k) 64
    if leNat b = 0 then s else s.onFtl fun x => { x with sbs := x.sbs.put k (sbOfBytes b) }) s
  (List.range (1024 * s.gBpp)).foldl (fun s k =>
    let v := leNat (getBytes s.mem.dram (own + 4 * k) 4)
    if v = 0 then s else s.onFtl fun x => { x with own := x.own.put k (v % 2 ^ 22) }) s

/-- The segment that holds an entry's target. -/
def State.entSeg (s : State) (e : JEntry) : Nat :=
  if e.type = 3 then s.segBase 2 + 64 * e.addr / 20480 else s.segBase e.ns + e.addr / 4096

/-- SEG_SEQ of a segment. -/
def State.segSeq (s : State) (k : Nat) : Nat := match s.plj.segs.find k with | some x => x.2 | none => 0

/-- Entries of a group whose LAST entry is missing are discarded (R178). -/
def wholeGroups : List JEntry → List JEntry → List JEntry
  | [], _ => []
  | e :: es, held =>
    if e.grp then
      (if e.last then held ++ e :: wholeGroups es [] else wholeGroups es (held ++ [e]))
    else e :: wholeGroups es []

/-- A later SB entry, or the record's state after it, shows the superblock FREE or erased (R178). -/
def laterFree (es : List JEntry) (k : Nat) : Bool :=
  es.any fun e => decide (e.type = 3 ∧ e.addr = k) && (decide (e.value % 8 = 0) || e.value.testBit 3)

/-- A map entry written by replay. -/
def State.replayMap (s : State) (ns iu v seq : Nat) : State :=
  (s.poke (s.mapBase ns + 5 * iu) (leBytes 5 v)).dirtySeg (s.segBase ns + iu / 4096) seq

/-- Replay of the entries in order (R178). -/
def State.replay : List JEntry → State → State
  | [], s => s
  | e :: es, s =>
    let s :=
      if e.type = 1 then
        let k := s.sbOf (entPsa e.value)
        if e.seq ≤ s.segSeq (s.entSeg e) ∨ (entState e.value = 1 ∧ (laterFree es k ∨ (s.sb k).state = 0)) then s
        else s.replayMap e.ns e.addr e.value e.seq
      else if e.type = 2 then
        if e.seq ≤ s.segSeq (s.entSeg e) then s
        else (s.mappedIus e.ns).foldl (fun s iu =>
          if e.addr ≤ iu ∧ iu < e.addr + e.value then s.replayMap e.ns iu 0 e.seq else s) s
      else if e.type = 3 then
        if e.seq ≤ s.segSeq (s.entSeg e) then s
        else s.setSb e.addr { s.sb e.addr with
          state := e.value % 8, erased := e.value.testBit 3, cls := e.value / 2 ^ 4 % 128, slc := e.value.testBit 11
          early := e.value.testBit 12, vfyFail := e.value.testBit 13, pe := e.value / 2 ^ 20 % 2 ^ 20 }
      else if e.type = 4 then s.sbHidden e.addr fun r => { r with conf := e.value }
      else if e.type = 5 then
        s.onPlj fun x => { x with segs := x.segs.put e.addr (e.value % 2 ^ 37 * 4 + e.value / 2 ^ 37 % 4, e.seq) }
      else s
    State.replay es s

/-- A 48-bit serial number is newer than another. -/
def newer48 (a b : Nat) : Bool :=
  let d := (a % 2 ^ 48 + 2 ^ 48 - b % 2 ^ 48) % 2 ^ 48
  decide (0 < d) && decide (d < 2 ^ 47)

/-- The tags of the scan that are newer than the newest flushed entry are applied (R179): of two tags that name one IU, the
newer one. -/
def State.applyTags (s : State) (newest : Nat) (ts : List (Nat × Nat × Nat × Nat)) : State :=
  ts.foldl (fun s t =>
    if newer48 t.2.2.2 newest ∧ !(ts.any fun u => decide (u.1 = t.1) && decide (u.2.1 = t.2.1) && newer48 u.2.2.2 t.2.2.2) then
      s.replayMap t.1 t.2.1 (mapped t.2.2.1) t.2.2.2
    else s) s

/-- The map entries that point at a PU become REMOTE or LOST (R179, R142). -/
def State.loseP (s : State) (k p : Nat) : State :=
  let psa := s.posPsa k p
  let go := fun (s : State) (ns : Nat) =>
    (s.mappedIus ns).foldl (fun s iu =>
      let e := s.entryAt ns iu
      if entState e = 1 ∧ entPsa e / 16 = psa / 16 then
        s.mapUpdate (.mark ns iu (if s.flag (R.FTL_CLASS_CTL_PEER (s.sb k).cls) then 3 else 2) (some (entPsa e)))
      else s) s
  go (go s 0) 1

/-- A rebuild failed (R179): source 358, the fault, and the entries. -/
def State.repairLost (s : State) (k p : Nat) : State :=
  ((s.loseP k p).pulse 358).raise .plj 0 0x04 .u (s.posPsa k p % 2 ^ 37)

/-- The damaged PUs of the scan (R179). -/
def State.damagedPus (s : State) (ds : List (Nat × Nat × Bool)) : State :=
  let s := (s.put R.PLJ_REC_CNT_REPAIRED (min 65535 (ds.filter (·.2.2)).length)).put R.PLJ_REC_CNT_LOST
    (min 65535 (ds.filter (!·.2.2)).length)
  ds.foldl (fun s d =>
    if d.2.2 then s.onFtl fun x => { x with repairs := x.repairs ++ [(d.1, d.2.1)] } else s.repairLost d.1 d.2.1) s

/-- VALID of every superblock counted from the maps and the segment copies (R177 step 6). -/
def State.recount (s : State) : State :=
  let s := s.ftl.sbs.foldl (fun s e => s.sbHidden e.1 fun r => { r with valid := 0 }) s
  let go := fun (s : State) (ns : Nat) =>
    (s.mappedIus ns).foldl (fun s iu =>
      let e := s.entryAt ns iu
      if entState e = 1 then s.sbHidden (s.sbOf (entPsa e)) fun r => { r with valid := r.valid + iuUnits ns } else s) s
  let s := go (go s 0) 1
  s.plj.segs.foldl (fun s x => s.sbHidden (s.sbOf (x.2.1 / 4)) fun r => { r with valid := r.valid + 5 }) s

/-- Recovery gives AON the TIME of the newest valid chunk, unless device time is known (R180, R408). -/
def State.recTime (s : State) (t : Option Nat) : State :=
  match t with
  | some t => if s.timeUnknown then s.timeLoad t 3 else s
  | none => s

/-- The map rebuilt from what flash holds (R177 steps 3 to 6). -/
def State.rebuild (s : State) (f : RecFacts) : State :=
  let s := f.segs.foldl (fun s x => s.segRestore x) s
  let s := s.tablesRestore
  let newest := f.ents.foldl (fun a e => max a e.seq) 0
  let s := State.replay (wholeGroups f.ents []) s
  let s := s.applyTags newest f.tags
  let s := s.wr64 R.PLJ_SEQ_LO (max (newest + 1) (f.tags.foldl (fun a t => max a (t.2.2.2 + 1)) s.seqNext))
  let s := (s.wr64 R.PLJ_FLUSHED_LO newest).onPlj fun x => { x with chunkNo := f.chunkNo }
  let s := s.damagedPus f.damaged
  let s := s.recount
  let s := (s.sbsIn 1).foldl (fun s e => s.sbClose e.1 true) s
  s.onPlj fun x => { x with ckpt := some ⟨s.seqNext, s.replayPoint, none, 0, 0, false, none⟩ }

/-- Recovery ends (R177, R180). -/
def State.recDone (s : State) (f : RecFacts) : State :=
  if !s.recovering then s
  else
    let s := if f.result = 0 ∨ f.result = 2 then s.rebuild f else s
    let s := s.recTime f.time
    let s := (s.put R.PLJ_REC_STS_STEP 7).put R.PLJ_REC_STS_RESULT f.result
    let s := (s.put R.PLJ_REC_STS_LAST_BRACE f.lastBrace).put R.PLJ_REC_STS_UNCLEAN (b2n (decide (f.lastBrace = 0)))
    let s := s.put R.PLJ_REC_TIME_MS ((s.now - s.plj.recStart) / 10 ^ 6)
    let s := (s.put R.PLJ_REC_CTL_START 0).pulse 355
    let s := if s.reserveDue then s.designate else s
    s.ckptStep

/-! ### The PLJ page -/

/-- PLJ's own checks (R174, R176, R177, R183). -/
def pljChecks : Checks := fun s _ p o v =>
  if 0x80 ≤ o ∧ o < 0x90 then
    failIf (s.enabled p.base0) 4 ++ failIf (decide (o = 0x88) && decide (v.fld 0 16 ≠ 0)) 5
  else if o = 0xC4 then failIf (v.bit 1 && s.flag R.PLJ_PF_STS_PFAIL) 4
  else if o = 0xCC then failIf (v.bit 0 && (s.flag R.PLJ_PF_STS_PFAIL || decide (s.get R.PLJ_PF_STS_STATE ≠ 2))) 4
  else if o = 0xD0 then failIf (v.bit 0 && (s.recovering || !s.recReady)) 4
  else []

/-- What a write to a PLJ register does beyond its fields. -/
def pljEffect : Effect := fun s _ _ o _ v =>
  if o = 0xCC ∧ v.bit 0 then s.readmit else if o = 0xD0 ∧ v.bit 0 then s.recStart else s

/-- What PLJ registers show beyond the words they hold. -/
def pljView : View := fun s _ _ o =>
  if o = 0x90 then
    some (BitVec.ofNat 32 (s.plj.ents.length + (s.plj.chunks.map fun c => c.ents.length).sum
      + b2n (!s.plj.chunks.isEmpty) * 2 ^ 15 + s.get R.PLJ_JNL_STS_STALL * 2 ^ 16))
  else if o = 0xA8 then some (BitVec.ofNat 32 s.plj.dirty.length)
  else if o = 0xAC then some (BitVec.ofNat 32 (min (2 ^ 32 - 1) (s.seqNext - 1 - s.replayPoint)))
  else none

end Sys2Proof.Machine
end

