-- ==== Sys2Proof/Machine/Media.lean ====
section
/-! DEFINITION. What follows when flash operations end (chapters 03 to 06). -/

namespace Sys2Proof.Machine

open Sys2Proof

/-! ### Results of operations -/

/-- The temperature that a program completion carries (R76): the die's, or the governor's estimate. -/
def State.progTemp (s : State) (k n l : Nat) : State :=
  let d := s.dieSt n l
  let est := !d.tempOk || decide (d.temp = 0x80)
  let t := if est then toByte8 (s.readTemp n l) else d.temp
  let r := s.sb k
  s.setSb k { r with
    tempSum := r.tempSum + tempKey t
    tempN := r.tempN + 1
    tempMin := if r.tempN = 0 ∨ tempKey t < tempKey r.tempMin then t else r.tempMin
    tempMax := if r.tempN = 0 ∨ tempKey r.tempMax < tempKey t then t else r.tempMax
    tempEst := r.tempEst || est }

/-- All programs of a PU have completed. -/
def State.puDurable (s : State) (k p : Nat) (j : PuJob) : State :=
  let s := if (s.sb k).slc then s else (s.addCount R.FTL_MEDIA_WR_LO 16).evtB 0x240000 0x11 16
  let psa := s.posPsa k p
  let s := s.tell j.req.who (.durable psa)
  if j.req.kind = 4 then
    let key := j.req.ref.getD 0 0 * 2 ^ 18 + j.req.ref.getD 1 0
    match s.ftl.par.find key with
    | some x => if x.psa = some psa then s.onFtl fun y => { y with par := y.par.put key { x with durable := true } } else s
    | none => s
  else if j.req.kind = 7 then s.mapPuDone psa j.req.ref
  else if j.req.kind = 8 then s.dirDone true
  else s

/-- A program of a PU did not complete.  `bad` says that its block is bad (R65, R103); a PU whose row still has parity is
owed a rebuild; a parity PU, map segments and a directory PU are written again. -/
def State.puFailed (s : State) (k p d b : Nat) (bad : Bool) (j : PuJob) : State :=
  let s := if bad then s.puFail k p d b
    else
      let s := if (s.sb k).slc then s else s.onFtl fun x => { x with repairs := x.repairs ++ [(k, p)] }
      if (s.sb k).state = 1 then s.sbClose k true else s
  let s := s.tell j.req.who .failed
  if j.req.kind = 4 then
    let key := j.req.ref.getD 0 0 * 2 ^ 18 + j.req.ref.getD 1 0
    let s := (s.setSb k { s.sb k with plogCnt := (s.sb k).plogCnt - 1 }).logCheck k
    match s.ftl.par.find key with
    | some x => (s.onFtl fun y => { y with par := y.par.put key { x with psa := none } }).place j.req
    | none => s
  else if j.req.kind = 7 then s.mapPuFailed j.req.ref
  else if j.req.kind = 8 then s.dirDone false
  else s

/-- One program of a PU has ended with a completion code. -/
def State.puResult (s : State) (n : Nat) (o : OpReq) (k p code : Nat) : State :=
  match s.ftl.pus.find (k * 2 ^ 18 + p) with
  | none => s
  | some j =>
    let s := if code = 0 then s.progTemp k n o.die else s
    let j := { j with left := j.left - 1, bad := j.bad || decide (code ≠ 0) }
    let s := s.onFtl fun x => { x with
      pus := if j.left = 0 then x.pus.del (k * 2 ^ 18 + p) else x.pus.put (k * 2 ^ 18 + p) j }
    if j.left ≠ 0 then s
    else if !j.bad then s.puDurable k p j
    else if code = 5 ∧ s.get R.PLJ_PF_STS_STATE ≠ 0 then
      s.onPlj fun x => { x with abortedPus := x.abortedPus ++ [(k, p)] }
    else s.puFailed k p (32 * n + o.die) o.block (decide (code = 1 ∨ code = 2 ∨ code = 5)) j

/-- An erase of a member has ended: done, failed (R115), aborted and queued again (R77), or its die is lost (R116). -/
def State.eraseResult (s : State) (n : Nat) (o : OpReq) (k code : Nat) : State :=
  let d := 32 * n + o.die
  if code = 0 then s.eraseOk k d o.block
  else if code = 5 then
    if s.get R.PLJ_PF_STS_STATE = 0 then s.opEnqueue n o else s.onPlj fun x => { x with kept := x.kept ++ [(n, o)] }
  else if code = 3 then
    let s := s.repairMember k n
    if (s.sb k).state = 5 then s
    else
      match (s.members k).find? fun m => decide (m.1 = n) with
      | some m => s.eraseMember k m
      | none => s.memberErased k
  else s.eraseFail k n d o.block

/-- A read has ended: its codewords go to the decoder, or count as failed (R128, R146). -/
def State.readResult (s : State) (n : Nat) (o : OpReq) (who : ReadFor) (lad : Option Nat) (psa cnt code : Nat) : State :=
  let s := s.sbHidden (s.sbOf psa) fun r => { r with reads := r.reads - 1 }
  if code = 0 then (s.rdCount (32 * n + o.die) o.block).toDecoder who lad psa cnt (o.ofs / 8)
  else if code = 4 then s
  else s.readFailed who lad psa cnt (o.ofs / 8)

/-- A completed operation reaches its requester. -/
def State.takeDone (s : State) (n : Nat) (o : OpReq) (code : Nat) : State :=
  match o.use with
  | .read who lad psa cnt => s.readResult n o who lad psa cnt code
  | .pu k p => if code = 4 then s else s.puResult n o k p code
  | .parity _ _ => s
  | .chunk no => if code = 4 then s else s.updChunk false no fun c => { c with result := some (decide (code = 0)) }
  | .ichunk no => if code = 4 then s else s.updChunk true no fun c => { c with result := some (decide (code = 0)) }
  | .tail _ _ => s.tailDone o (decide (code = 0))
  | .erase k => if code = 4 then s else s.eraseResult n o k code
  | .temp | .feature | .fw _ => s

/-- The completed operations taken in order; what they complete in turn is taken too. -/
def State.drainLoop : Nat → State → State
  | 0, s => s
  | fuel + 1, s =>
    match s.done with
    | [] => s
    | (n, o, code) :: ds => State.drainLoop fuel ({ s with done := ds }.takeDone n o.req code)

/-- Parity of VERIFIED superblocks is released once no step 4 of a ladder runs on them (R104, R139). -/
def State.lateRelease (s : State) : State :=
  (s.ftl.sbs.filter fun e => decide (e.2.state = 3) && e.2.parityHeld
    && !s.rdp.ladders.any fun l => decide (l.step = 4) && l.busy && decide (s.sbOf l.psa = e.1)).foldl
      (fun s e => s.releaseParity e.1) s

/-- The victims of collection and wear levelling that are no longer being relocated. -/
def State.victimsRefresh (s : State) : State :=
  s.onFtl fun x => { x with
    victim := x.victim.filter fun k => decide ((s.sb k).state = 4)
    wl := x.wl.filter fun k => decide ((s.sb k).state = 4) }

/-- What follows from a change at the flash: completed operations reach their requesters, and whatever waited for
superblocks, pages, the journal or a class drop goes on. -/
def State.settle (s : State) : State :=
  let s := State.drainLoop (s.done.length + 4096) s
  let s := (s.chunkRetry false).chunkRetry true
  let s := s.retryPlace
  let s := s.unstall s.ftl.stalled.length
  let s := (s.dropStep.lateRelease.victimsRefresh).gcRefresh
  s.ckptStep

/-- The IUs of a relocated PU that are still valid: those whose entry holds the PSA that was read (R112). -/
def State.stillValid (s : State) (ns psa : Nat) (ius : List (Option Nat)) : List (Option Nat) :=
  ius.zipIdx.map fun x => x.1.bind fun iu =>
    if condHolds (some (if ns = 0 then psa else psa + x.2)) (s.entryAt ns iu) then some iu else none

/-- The IUs of a PU that are still valid written to their class by conditional updates (R85, R112); map and index segments
are written anew. -/
def State.moveIus (s : State) (k p ns : Nat) (ius : List (Option Nat)) (data : Bytes) : State :=
  let psa := s.posPsa k p
  let cls := (s.sb k).cls
  if cls = 65 then
    let mine := s.plj.segs.filter fun e => decide (e.2.1 / 4 = psa)
    mine.foldl (fun s e =>
      if s.plj.dirty.any (fun d => decide (d.seg = e.1)) then
        s.onPlj fun x => { x with dirty := x.dirty.map fun d => if d.seg = e.1 then { d with since := 0 } else d }
      else s.onPlj fun x => { x with dirty := x.dirty ++ [⟨e.1, 0, e.2.2⟩] }) s
  else if cls = 67 then ius.foldl (fun s x => match x with | some g => s.tell (.index g) .failed | none => s) s
  else
    let ok := s.stillValid ns psa ius
    if ok.all (·.isNone) then s
    else
      let old := ok.zipIdx.map fun x => x.1.map fun _ => if ns = 0 then psa else psa + x.2
      s.place ⟨ns + 1, ns, if ns = 0 then cls else 64, ok, true, old, none, false, [], [], data, .nobody⟩

/-- A rebuilt PU written to an open superblock of its class by conditional updates (R103, R141); not in LIMP (R563). -/
def State.rebuiltWrite (s : State) (k p : Nat) (data : Bytes) : State :=
  if s.limp then s
  else
    let psa := s.posPsa k p
    match s.iuOf psa with
    | none => s
    | some (0, iu) => s.moveIus k p 0 [some iu] data
    | some (ns, _) =>
      s.moveIus k p ns ((List.range 16).map fun i => (s.iuOf (psa + i)).bind fun x => if x.1 = 1 then some x.2 else none)
        data

end Sys2Proof.Machine
end

