-- ==== Sys2Proof/Machine/Mcl.lean ====
section
/-! DEFINITION. Microcode engines and control stores (chapter 15): word formats, sequencing, safe points and vectors, stops,
and the LOAD, VERIFY and PATCH commands of MCL. -/

namespace Sys2Proof.Machine

open Sys2Proof

/-! ### Stores (R463, R464, R475) -/

/-- Words of a store of a class; 1 SEQ, 2 PAR, 3 CHV microstore, 4 nanostore. -/
def storeWords (c : Nat) : Nat := if c = 1 then 4096 else if c = 2 then 2048 else if c = 3 then 16384 else 2048

/-- Bytes of a slot and bits of a word. -/
def slotSize (c : Nat) : Nat := if c = 2 then 16 else if c = 3 then 4 else 32
def wordBits (c : Nat) : Nat := if c = 1 then 144 else if c = 2 then 128 else if c = 3 then 24 else 256

/-- Instances of a class. -/
def storeInsts (c : Nat) : Nat := if c = 1 then 32 else if c = 2 then 2 else if c = 3 then 16 else 4

/-- The key of a word, and of an engine. -/
def engKey (c i : Nat) : Nat := c * 32 + i
def storeKey (c i a : Nat) : Nat := engKey c i * 16384 + a

/-- A word of a store; a word never loaded reads 0. -/
def State.mword (s : State) (c i a : Nat) : Nat := s.mcl.store.get (fun _ => 0) (storeKey c i a)

def State.setMword (s : State) (c i a w : Nat) : State :=
  s.onMcl fun x => { x with store := x.store.set (fun _ => 0) (storeKey c i a) w }

/-- The power domain of a store (R463, R464). -/
def storeDomain (c i : Nat) : Nat :=
  if c = 1 then 17 + i / 4 else if c = 2 then 32 else if c = 3 then 11 + i / 4 else 11 + i

/-- LOADED of a store: one bit for the nanostore in all its copies. -/
def State.loaded (s : State) (c i : Nat) : Bool :=
  if c = 1 then s.fbit R.MCL_LOADED_0_SEQ i
  else if c = 2 then s.fbit R.MCL_LOADED_1_PAR i
  else if c = 3 then s.fbit R.MCL_LOADED_1_CHV i
  else s.flag R.MCL_LOADED_1_NANO

def State.setLoaded (s : State) (c i : Nat) (b : Bool) : State :=
  if c = 1 then s.putBit R.MCL_LOADED_0_SEQ i b
  else if c = 2 then s.putBit R.MCL_LOADED_1_PAR i b
  else if c = 3 then s.putBit R.MCL_LOADED_1_CHV i b
  else s.put R.MCL_LOADED_1_NANO (b2n b)

/-- The instances that a command names: those of the mask, or the copies of the nanostore whose domain is on. -/
def State.instsOf (s : State) (c mask : Nat) : List Nat :=
  if c = 4 then (List.range 4).filter fun q => s.domSts (11 + q)
  else (List.range (storeInsts c)).filter fun i => mask.testBit i

/-- The page of an engine. -/
def engPage (c i : Nat) : Nat := if c = 1 then chanPage i else if c = 2 then 0x380000 else 0x300000 + 0x1000 * i

/-- The engine, or for the nanostore any Chervil engine, has EN = 1 (R476). -/
def State.engBusy (s : State) (c i : Nat) : Bool :=
  if c = 4 then (List.range 16).any fun n => s.enabled (engPage 3 n) else s.enabled (engPage c i)

/-- The words of a range in slot form. -/
def State.rangeBytes (s : State) (c i off n : Nat) : Bytes :=
  (List.range n).flatMap fun k => leBytes (slotSize c) (s.mword c i (off + k))

/-- Slots in bytes cut into words; none where a slot's bytes beyond the word are not 0 (R475). -/
def slotsOf (c : Nat) : Nat → Bytes → List (Option Nat)
  | 0, _ => []
  | n + 1, bs =>
    let v := leNat (bs.take (slotSize c))
    (if v < 2 ^ wordBits c then some v else none) :: slotsOf c n (bs.drop (slotSize c))

/-- Words written to consecutive addresses of every named instance, up to the first bad slot. -/
def State.writeWords (c off : Nat) (is : List Nat) : List (Option Nat) → Nat → State → Bool × State
  | [], _, s => (true, s)
  | none :: _, _, s => (false, s)
  | some w :: ws, k, s =>
    State.writeWords c off is ws (k + 1)
      ((is.foldl (fun s i => s.setMword c i (off + k) w) s).evtB 0x90000 0x10 is.length)

/-- DRAM bytes read through MCL's port; none on a bus error. -/
def State.mclRead (s : State) (a n : Nat) : Option Bytes × State :=
  if !s.dramOpen then (none, s)
  else
    match s.dramLoad 6 a n with
    | (none, s) => (none, s)
    | (some x, s) => (some x.1, s)

/-! ### Commands (R476, R481, R482) -/

/-- A command completes with a result, the record and the instance that failed. -/
def State.mclEnd (s : State) (result record inst : Nat) : State :=
  let s := ((s.put R.MCL_CMD_STS_RESULT result).put R.MCL_CMD_STS_RECORD record).put R.MCL_CMD_STS_INSTANCE inst
  (s.put R.MCL_CMD_GO 0).pulse 52

/-- LOAD (R476). -/
def State.mclLoad (s : State) : State :=
  let c := s.get R.MCL_CMD_STORE
  let is := s.instsOf c (s.get R.MCL_INST_MASK)
  match is.find? fun i => s.engBusy c i with
  | some i => s.mclEnd 1 0 i
  | none =>
    let s := is.foldl (fun s i => s.setLoaded c i false) s
    let n := s.get R.MCL_RANGE_COUNT
    match s.mclRead (s.rd64 R.MCL_SRC_LO % 2 ^ 37) (n * slotSize c) with
    | (none, s) => s.mclEnd 5 0 0
    | (some bs, s) =>
      match State.writeWords c (s.get R.MCL_RANGE_OFFSET) is (slotsOf c n bs) 0 s with
      | (false, s) => s.mclEnd 4 0 0
      | (true, s) => (is.foldl (fun s i => s.setLoaded c i true) s).mclEnd 0 0 0

/-- VERIFY (R476): each instance's CRC against MCL.CRC. -/
def State.mclVerify (s : State) : State :=
  let c := s.get R.MCL_CMD_STORE
  let off := s.get R.MCL_RANGE_OFFSET
  let n := s.get R.MCL_RANGE_COUNT
  let want := s.get R.MCL_CRC_CRC
  let rs := (s.instsOf c (s.get R.MCL_INST_MASK)).map fun i => (i, crc32c (s.rangeBytes c i off n))
  match rs.find? fun r => decide (r.2 ≠ want) with
  | some r => (s.put R.MCL_CRC_OUT_CRC r.2).mclEnd 2 0 r.1
  | none =>
    let s := match rs.getLast? with
      | some r => s.put R.MCL_CRC_OUT_CRC r.2
      | none => s
    s.mclEnd 0 0 0

/-- A record of a patch payload (R480). -/
structure PatchRec where
  store : Nat
  insts : Nat
  off : Nat
  count : Nat
  base : Nat
  new : Nat
  bytes : Bytes
  ok : Bool
  deriving DecidableEq, Repr

/-- The records of a payload, each at the first 32-byte boundary after the one before; `ok` is false for one with bytes that
must be 0 or a store or range that does not exist. -/
def patchRecs : Nat → Bytes → List PatchRec
  | 0, _ => []
  | n + 1, b =>
    let w := fun (o k : Nat) => leNat ((b.drop o).take k)
    let c := w 0 1 % 8
    let cnt := w 10 2
    let body := (b.drop 32).take (cnt * slotSize c)
    let next := (32 + cnt * slotSize c + 31) / 32 * 32
    let ok := decide (w 0 1 < 8) && decide (w 1 3 = 0) && decide (w 20 12 = 0) && decide (1 ≤ c) && decide (c ≤ 4)
      && decide (1 ≤ cnt) && decide (cnt ≤ 4096) && decide (w 8 2 + cnt ≤ storeWords c)
      && (decide (c = 4) || decide (w 4 4 < 2 ^ storeInsts c)) && decide (body.length = cnt * slotSize c)
      && (slotsOf c cnt body).all (·.isSome)
    ⟨c, w 4 4, w 8 2, cnt, w 12 4, w 16 4, body, ok⟩ :: patchRecs n (b.drop next)

/-- Two records name the same word of the same store in the same instance. -/
def patchOverlap (a b : PatchRec) : Bool :=
  decide (a.store = b.store) && (decide (a.store = 4) || decide (a.insts &&& b.insts ≠ 0))
    && decide (a.off < b.off + b.count) && decide (b.off < a.off + a.count)

/-- Index of the first record that is badly formed or overlaps an earlier one. -/
def patchBad : Nat → List PatchRec → List PatchRec → Option Nat
  | _, _, [] => none
  | k, seen, r :: rs => if !r.ok || seen.any (patchOverlap r) then some k else patchBad (k + 1) (r :: seen) rs

/-- The first pass over the records (R476, R481): the result, record and instance of the first failure. -/
def State.patchCheck (s : State) : Nat → List PatchRec → Option (Nat × Nat × Nat)
  | _, [] => none
  | k, r :: rs =>
    let is := s.instsOf r.store r.insts
    match is.find? (fun i => s.engBusy r.store i), is.find? (fun i => !s.loaded r.store i),
        is.find? (fun i => decide (crc32c (s.rangeBytes r.store i r.off r.count) ≠ r.base)) with
    | some i, _, _ => some (1, k, i)
    | none, some i, _ => some (6, k, i)
    | none, none, some i => some (3, k, i)
    | none, none, none => s.patchCheck (k + 1) rs

/-- The stores that the records name get or lose LOADED. -/
def State.patchLoaded (b : Bool) (rs : List PatchRec) (s : State) : State :=
  rs.foldl (fun s r => (s.instsOf r.store r.insts).foldl (fun s i => s.setLoaded r.store i b) s) s

/-- The first record and instance whose words do not give NEW_CRC. -/
def State.patchVerify (s : State) : Nat → List PatchRec → Option (Nat × Nat × Nat)
  | _, [] => none
  | k, r :: rs =>
    match (s.instsOf r.store r.insts).find? fun i => decide (crc32c (s.rangeBytes r.store i r.off r.count) ≠ r.new) with
    | some i => some (2, k, i)
    | none => s.patchVerify (k + 1) rs

/-- The second pass: every record is written, and then each instance checked against NEW_CRC; LOADED of every store that the
command writes is 0 from then on, and sets again where all of it passes (R476, R481). -/
def State.patchWrite (rs : List PatchRec) (s : State) : Option (Nat × Nat × Nat) × State :=
  let s := rs.foldl
    (fun s r => (State.writeWords r.store r.off (s.instsOf r.store r.insts) (slotsOf r.store r.count r.bytes) 0 s).2)
    (s.patchLoaded false rs)
  match s.patchVerify 0 rs with
  | some x => (some x, s)
  | none => (none, s.patchLoaded true rs)

/-- PATCH ends with a result other than OK: source 54 (R481). -/
def State.patchFail (s : State) (x : Nat × Nat × Nat) : State := (s.mclEnd x.1 x.2.1 x.2.2).pulse 54

/-- PATCH (R480, R481).  A payload may reach as far as its records say; DRAM beyond it is not read. -/
def State.mclPatch (s : State) : State :=
  let a := s.rd64 R.MCL_SRC_LO % 2 ^ 37
  match s.mclRead a 64 with
  | (none, s) => s.patchFail (5, 0, 0)
  | (some h, s) =>
    let n := leNat ((h.drop 5).take 1)
    let head := decide (leNat (h.take 4) = 0x5A505443) && decide (leNat ((h.drop 4).take 1) = 1) && decide (1 ≤ n)
      && decide (leNat ((h.drop 6).take 2) = 0) && decide (leNat ((h.drop 16).take 44) = 0)
      && decide (leNat ((h.drop 60).take 4) = crc32c (h.take 60))
    if !head then s.patchFail (4, 0, 0)
    else
      match s.mclRead (a + 64) (min (n * (32 + 32 * 4096)) (s.dramCap - (a + 64))) with
      | (none, s) => s.patchFail (5, 0, 0)
      | (some b, s) =>
        let rs := patchRecs n b
        match patchBad 0 [] rs with
        | some k => s.patchFail (4, k, 0)
        | none =>
          match s.patchCheck 0 rs with
          | some x => s.patchFail x
          | none =>
            match State.patchWrite rs s with
            | (some x, s) => s.patchFail x
            | (none, s) => (s.wr64 R.MCL_PATCH_ID_LO (leNat ((h.drop 8).take 8))).mclEnd 0 0 0

/-- MCL's own checks (R482 and the captions). -/
def mclChecks : Checks := fun s _ p o v =>
  if p.page ≠ 0 then []
  else if o = 0x80 then
    let c := v.fld 5 3
    let op := v.fld 0 4
    let go := v.bit 4
    failIf (go && s.flag R.MCL_CMD_GO) 4
      ++ failIf (decide (op = 0) || decide (3 < op)) 1
      ++ failIf (go && decide (op ≠ 3) && (decide (c = 0) || decide (4 < c))) 1
      ++ failIf (go && decide (op ≠ 3) && (decide (storeWords c < s.get R.MCL_RANGE_OFFSET + s.get R.MCL_RANGE_COUNT)
          || (decide (c ≠ 4) && decide (2 ^ storeInsts c ≤ s.get R.MCL_INST_MASK)))) 7
  else if 0x88 ≤ o ∧ o < 0x98 then
    failIf (s.flag R.MCL_CMD_GO) 4
      ++ failIf (decide (o = 0x88) && decide (v.fld 0 5 ≠ 0)) 5
      ++ failIf (decide (o = 0x90) && (decide (v.fld 16 15 = 0) || decide (16384 < v.fld 16 15))) 1
  else []

/-- What a write to MCL does beyond its fields. -/
def mclEffect : Effect := fun s _ p o _ v =>
  if p.page = 0 ∧ o = 0x80 ∧ v.bit 4 then
    let op := v.fld 0 4
    if op = 1 then s.mclLoad else if op = 2 then s.mclVerify else s.mclPatch
  else s

/-! ### Words and sequencing (R465 to R474) -/

/-- Bits of a word. -/
def bitsAt (w lo n : Nat) : Nat := w / 2 ^ lo % 2 ^ n

/-- A condition code of a class is defined. -/
def condLegal (c k : Nat) : Bool :=
  decide (k ≤ 0x08)
    || (decide (c = 1) && decide (k ≤ 0x0E))
    || (decide (c = 3) && (decide (k ≤ 0x0E) || (decide (0x20 ≤ k) && decide (k ≤ 0x3F))))

/-- A word as its sequencing sees it: CYC, POLL, NEXT, COND, its target where that is fixed, and whether every field has a
defined encoding. -/
structure SeqView where
  cyc : Nat
  poll : Bool
  next : Nat
  cond : Nat
  target : Option Nat
  legal : Bool
  deriving DecidableEq, Repr

/-- A sequencer word (144 bits). -/
def seqWord (w : Nat) : SeqView :=
  { cyc := bitsAt w 0 2 + 1
    poll := w.testBit 2
    next := bitsAt w 3 3
    cond := bitsAt w 6 6
    target := some (bitsAt w 12 12)
    legal := condLegal 1 (bitsAt w 6 6) && decide (bitsAt w 24 4 ≤ 6) && decide (bitsAt w 36 3 ≤ 5)
      && decide (bitsAt w 74 4 ≤ 8) && decide (bitsAt w 82 3 ≤ 3) && decide (bitsAt w 85 3 ≤ 2)
      && decide (bitsAt w 112 8 ≤ 5) && decide (bitsAt w 120 24 = 0) }

/-- A parity engine word (128 bits). -/
def parWord (w : Nat) : SeqView :=
  { cyc := bitsAt w 0 2 + 1
    poll := w.testBit 2
    next := bitsAt w 3 3
    cond := bitsAt w 6 6
    target := some (bitsAt w 12 11)
    legal := condLegal 2 (bitsAt w 6 6) && decide (bitsAt w 23 1 = 0) && decide (bitsAt w 24 4 ≤ 6)
      && decide (bitsAt w 63 4 ≤ 4) && decide (bitsAt w 67 61 = 0) }

/-- A Chervil pair: microword `m` at an address and its nanoword `w` (R473, R474).  A target taken from a register is not
fixed by the words. -/
def chvPair (m w addr : Nat) : SeqView :=
  let br := m.testBit 12
  let imm := bitsAt m 13 11
  let t : Int := (addr : Int) + 1 + (if imm < 1024 then (imm : Int) else (imm : Int) - 2048)
  { cyc := bitsAt w 0 2 + 1
    poll := m.testBit 11
    next := bitsAt w 2 3
    cond := bitsAt w 5 6
    target := if br then some (if t < 0 then 16384 else t.toNat) else none
    legal := condLegal 3 (bitsAt w 5 6) && decide (bitsAt w 11 5 ≤ 0x0C) && !(w.testBit 34 && (br || w.testBit 35))
      && decide (bitsAt w 68 4 ≤ 9) && decide (bitsAt w 80 4 ≤ 4) && decide (bitsAt w 84 4 ≤ 3)
      && decide (bitsAt w 88 4 ≤ 6) && decide (bitsAt w 100 4 ≤ 3) && decide (bitsAt w 104 152 = 0) }

/-- The word that an engine fetches. -/
def State.fetchWord (s : State) (c i a : Nat) : SeqView :=
  if c = 1 then seqWord (s.mword 1 i a)
  else if c = 2 then parWord (s.mword 2 i a)
  else
    let m := s.mword 3 i a
    chvPair m (s.mword 4 (i / 4) (bitsAt m 0 11)) a

def State.engSt (s : State) (c i : Nat) : EngSt := s.mcl.eng.get (fun _ => EngSt.reset) (engKey c i)

def State.setEng (s : State) (c i : Nat) (e : EngSt) : State :=
  s.onMcl fun x => { x with eng := x.eng.set (fun _ => EngSt.reset) (engKey c i) e }

/-- The next address of a word (R466): some address with the stack after it, or none where the word is ILLEGAL. -/
def nextAddr (c : Nat) (v : SeqView) (f : WordFact) (pc : Nat) (stack : List Nat) : Option (Nat × List Nat) :=
  let t := v.target.getD (f.reg % 16384)
  let hold := if v.cond = 0 then true else if v.cond = 1 then false else f.cond
  let go := fun (x : Nat × List Nat) => if x.1 < storeWords c then some x else none
  if v.next = 0 then go (pc + 1, stack)
  else if v.next = 1 then go (t, stack)
  else if v.next = 2 then go (if hold then t else pc + 1, stack)
  else if v.next = 3 then go (if hold then pc + 1 else t, stack)
  else if v.next = 4 then (if 8 ≤ stack.length then none else go (t, (pc + 1) :: stack))
  else if v.next = 5 then
    match stack with
    | [] => none
    | a :: st => go (a, st)
  else if v.next = 6 then go (if hold then pc + 1 else pc, stack)
  else go (1, stack)

/-- How the execution of a word ends: the engine's next place and whether a safe point was reached, or a stop with its
cause and address (R469, R470). -/
inductive WordEnd where
  | run (e : EngSt) (safe : Bool)
  | stop (cause addr : Nat)
  deriving DecidableEq, Repr

/-- One word executed. -/
def runWord (c : Nat) (v : SeqView) (f : WordFact) (e : EngSt) : WordEnd :=
  if !v.legal then .stop 3 e.pc
  else if 64 < e.clocks + v.cyc then .stop 2 e.pc
  else
    match nextAddr c v f e.pc e.stack with
    | none => .stop 3 e.pc
    | some (a, st) =>
      let waits := decide (v.next = 6) && decide (a = e.pc)
      let safe := v.poll || decide (v.next = 7) || waits
      let vec := match e.vec with
        | some d => if v.next = 5 ∧ st.length < d then none else some d
        | none => none
      .run { e with pc := a, stack := st, vec := vec, clocks := if safe then 0 else e.clocks + v.cyc } safe

/-- A safe point (R468): a fault notice before any interrupt, interrupts lowest first, none inside a vector routine. -/
def takeInput (e : EngSt) : Option EngSt :=
  if e.vec.isSome ∨ e.pend % 32 = 0 then none
  else
    let fault := e.pend.testBit 4
    let k := if fault then 4 else ((List.range 4).find? fun k => e.pend.testBit k).getD 0
    some { e with
      pc := if fault then 3 else 2
      stack := e.pc :: e.stack
      vec := some (e.stack.length + 1)
      pend := e.pend - 2 ^ k }

/-- The highest count since the last read (R469). -/
def State.pollMark (s : State) (c n : Nat) : State :=
  let f := if c = 1 then R.MCL_POLL_HWM_SEQ else if c = 2 then R.MCL_POLL_HWM_PAR else R.MCL_POLL_HWM_CHV
  s.put f (max (s.get f) n)

/-- An engine runs (RUN_SEQ, PAR_STS, CHV_n.STS). -/
def State.engRuns (s : State) (c i : Nat) : Bool :=
  if c = 1 then s.fbit R.MCL_RUN_SEQ_BITS i
  else if c = 2 then s.fbit R.MCL_PAR_STS_RUN i
  else s.flag (R.CHV_STS_RUNNING i)

def State.setRuns (s : State) (c i : Nat) (b : Bool) : State :=
  if c = 1 then s.putBit R.MCL_RUN_SEQ_BITS i b
  else if c = 2 then s.putBit R.MCL_PAR_STS_RUN i b
  else s.put (R.CHV_STS_RUNNING i) (b2n b)

/-- An engine is stopped on a cause of R470. -/
def State.setStopped (s : State) (c i : Nat) (b : Bool) : State :=
  if c = 1 then s.putBit R.MCL_STOP_SEQ_BITS i b
  else if c = 2 then s.putBit R.MCL_PAR_STS_STOP i b
  else s.put (R.CHV_STS_STOPPED i) (b2n b)

/-- An engine starts (R467): word 0, an empty stack. -/
def State.engStart (s : State) (c i : Nat) : State := (s.setEng c i EngSt.reset).setRuns c i true

/-- An engine has stopped: RUNNING of its page clears, for TGN once neither parity engine runs (R472, R584). -/
def State.engHalt (s : State) (c i : Nat) : State :=
  let s := s.setRuns c i false
  if c = 2 ∧ s.engRuns 2 (1 - i) then s else s.put (hRUNNING (engPage c i)) 0

/-- The record, fault and event of a stop (R470, R483). -/
def State.stopReport (s : State) (c i cause addr : Nat) (more : Bool) : State :=
  let s := (s.engHalt c i).setStopped c i true
  let s := if c = 3 then s.put (R.CHV_STS_CAUSE i) cause else s
  let s := s.wr R.MCL_STOP_REC
    (BitVec.ofNat 32 (c + i * 2 ^ 2 + cause * 2 ^ 7 + b2n more * 2 ^ 10 + 2 ^ 11 + addr % 16384 * 2 ^ 12))
  let s := s.raise .mcl 0 0x07 .u (c + i * 2 ^ 2 + cause * 2 ^ 7 + addr % 16384 * 2 ^ 10)
  s.pulse (if c = 3 then 360 + 4 * i else 53)

/-- A sequencer stops (R471): every operation of its channel completes ABORTED. -/
def State.seqStopped (s : State) (n : Nat) : State :=
  let s := s.onChan n fun c => { c with backlog := [] }
  s.flushOps n 5 fun _ => true

/-- An engine stops on a cause of R470. -/
def State.engStop (s : State) (c i cause addr : Nat) (more : Bool) : State :=
  if s.engRuns c i then
    let s := s.stopReport c i cause addr more
    if c = 1 then s.seqStopped i else s
  else s

/-- An engine executes words until it takes a pending input at a safe point, or the facts run out, or it stops. -/
def State.runWords (c i : Nat) : List WordFact → State → State
  | [], s => s
  | f :: fs, s =>
    let e := s.engSt c i
    let v := s.fetchWord c i e.pc
    match runWord c v f e with
    | .stop cause addr => s.engStop c i cause addr false
    | .run e' safe =>
      let s := s.pollMark c (min 255 (e.clocks + v.cyc))
      if safe then
        match takeInput e' with
        | some x =>
          if 8 < x.stack.length then s.engStop c i 3 e'.pc false
          else (s.setEng c i x).evtB 0x90000 0x12 1
        | none => State.runWords c i fs (s.setEng c i e')
      else State.runWords c i fs (s.setEng c i e')

/-- MCL_LOAD: a write of CMD that starts LOAD of a store (R476, R482). -/
def execMclLoad (r : Requester) (c : BitVec 3) (s : State) : Host.Outcome State Fault Refusal :=
  act s fun s => s.softWrite mclChecks mclEffect r R.MCL_CMD (BitVec.ofNat 32 (1 + 16 + c.toNat * 32))

/-- MCL_VERIFY: a write of CMD that starts VERIFY of a store (R476, R482). -/
def execMclVerify (r : Requester) (c : BitVec 3) (s : State) : Host.Outcome State Fault Refusal :=
  act s fun s => s.softWrite mclChecks mclEffect r R.MCL_CMD (BitVec.ofNat 32 (2 + 16 + c.toNat * 32))

/-- MCL_PATCH: a write of CMD that starts PATCH (R481, R482). -/
def execMclPatch (r : Requester) (s : State) : Host.Outcome State Fault Refusal :=
  act s fun s => s.softWrite mclChecks mclEffect r R.MCL_CMD 19

/-- An engine's class and instance exist. -/
def engExists (c i : Nat) : Bool := decide (1 ≤ c) && decide (c ≤ 3) && decide (i < storeInsts c)

end Sys2Proof.Machine
end

