-- ==== Sys2Proof/Machine/Boot.lean ====
section
/-! DEFINITION. Boot and firmware update (chapter 14): images and their checks, the BOOT and SPI commands, fuses, security
states and unlock tokens, and the TAP.  The reboot itself is in `System`. -/

namespace Sys2Proof.Machine

open Sys2Proof

/-! ### The serial NOR and the cores' memories -/

/-- Bytes of the NOR that can be reached (R442). -/
def State.norSize (s : State) : Nat := if s.boot.norMode = 2 then 2 ^ 24 else 2 ^ 26

/-- `n` bytes of the NOR; an erased byte reads 0xFF. -/
def State.norBytes (s : State) (a n : Nat) : Bytes :=
  (List.range n).map fun i => s.boot.nor.get (fun _ => 0xFF) (a + i)

/-- Bytes stored in the NOR. -/
def norPut : Nat → Bytes → SMap Byte → SMap Byte
  | _, [], m => m
  | a, b :: bs, m => norPut (a + 1) bs (m.set (fun _ => 0xFF) a b)

/-- A region of R27 that holds data: kind (0 DRAM, 2 staging, 3 local SRAM), offset within it, and bytes to its end. -/
def State.coreRegion (s : State) (core a : Nat) : Option (Nat × Nat × Nat) :=
  if 2 ^ 36 ≤ a ∧ a < 2 ^ 36 + s.dramCap then some (0, a - 2 ^ 36, s.dramCap - (a - 2 ^ 36))
  else if 2 ^ 30 ≤ a ∧ a < 2 ^ 30 + 2 ^ 26 then some (2, a - 2 ^ 30, 2 ^ 26 - (a - 2 ^ 30))
  else if 2 ^ 25 ≤ a ∧ a < 2 ^ 25 + 2 ^ 22 then some (3, a - 2 ^ 25, 2 ^ 22 - (a - 2 ^ 25))
  else if 2 ^ 24 ≤ a ∧ a < 2 ^ 24 + 2 ^ 20 then some (3, core * 2 ^ 20 + (a - 2 ^ 24), 2 ^ 20 - (a - 2 ^ 24))
  else none

/-- Staging lines read in order. -/
def State.stgLines : Nat → Nat → State → Option Bytes × State
  | 0, _, s => (some [], s)
  | n + 1, a, s =>
    match s.stgLine a with
    | (none, s) => (none, s)
    | (some x, s) =>
      match State.stgLines n (a + 64) s with
      | (none, s) => (none, s)
      | (some y, s) => (some (x.1 ++ y), s)

/-- Staging lines written in order. -/
def State.stgStore : Nat → Nat → Bytes → State → State
  | 0, _, _, s => s
  | n + 1, a, bs, s =>
    State.stgStore n (a + 64) (bs.drop 64) (s.setWords (a / 4096) (a % 4096 / 16) (bs.take 64) false)

/-- `n` bytes, whole lines, of a region; none where a read ends as a bus error. -/
def State.coreLoad (s : State) (kind a n : Nat) : Option Bytes × State :=
  if kind = 0 then
    if !s.dramOpen then (none, s)
    else
      match s.dramLoad 6 a n with
      | (some x, s) => (some x.1, s)
      | (none, s) => (none, s)
  else if kind = 2 then State.stgLines (n / 64) a s
  else (some (getBytes s.mem.sram a n), s)

/-- Whole lines written to a region; false where a write ends as a bus error. -/
def State.coreStore (s : State) (kind a : Nat) (bs : Bytes) : Bool × State :=
  if kind = 0 then (if !s.dramOpen then (false, s) else s.dramStore 6 a bs false)
  else if kind = 2 then (true, State.stgStore (bs.length / 64) a bs s)
  else (true, s.onMem fun x => { x with sram := putBytes x.sram a bs })

/-! ### Images (R445, R446) -/

/-- A little-endian number of a header. -/
def hdrNum (h : Bytes) (o k : Nat) : Nat := leNat ((h.drop o).take k)

/-- The board configuration in force (R444): the first valid copy. -/
def State.boardCfg (s : State) : Option Bytes :=
  ([0, 0x10000].map fun a => s.norBytes a 128).find? fun b =>
    decide (hdrNum b 0 4 = 0x5A434647) && decide (hdrNum b 4 1 = 1) && decide (hdrNum b 124 4 = crc32c (b.take 124))

/-- The mode that the board configuration gives (R1, R444): content mode, or plain-NVMe mode also where no copy is valid. -/
def State.boardContent (s : State) : Bool :=
  match s.boardCfg with
  | some b => (hdrNum b 5 1).testBit 0
  | none => false

/-- Where an image lies: the NOR, or a region of memory, with the offset there and the bytes to its end; or the bytes that
Firmware Image Download has collected (R312). -/
inductive ImgSrc where
  | nor (a left : Nat)
  | mem (kind a left : Nat)
  | held (b : Bytes)
  deriving DecidableEq, Repr

def ImgSrc.left : ImgSrc → Nat
  | .nor _ l => l
  | .mem _ _ l => l
  | .held b => b.length

/-- `n` bytes of an image from its byte `o`; none for a read error. -/
def State.imgRead (s : State) (src : ImgSrc) (o n : Nat) : Option Bytes × State :=
  if src.left < o + n then (none, s)
  else
    match src with
    | .nor a _ => (some (s.norBytes (a + o) n), s)
    | .mem k a _ => s.coreLoad k (a + o) n
    | .held b => (some ((b.drop o).take n), s)

/-- The fused SVN that a string of blown bits gives (R448). -/
def Fuses.svnNum (f : Fuses) : Nat := if f.svn = 0 then 0 else Nat.log2 f.svn + 1

/-- The owner hash of a key. -/
def Fuses.owner (f : Fuses) (k : Nat) : Bytes := if k = 0 then f.owner0 else f.owner1

/-- An owner hash is set: it is not all zero. -/
def hashSet (b : Bytes) : Bool := b.any fun x => decide (x ≠ 0)

/-- An owner key is set, not revoked, and matches a public key. -/
def Fuses.keyOk (f : Fuses) (k : Nat) (pub : Bytes) : Bool :=
  decide (k ≤ 1) && hashSet (f.owner k) && !f.keyRevoke.testBit k && decide (sha384 pub = f.owner k)

/-- Check 6 of R446. -/
def State.imgKeyOk (s : State) (h : Bytes) (kind : Nat) : Bool :=
  let k := hdrNum h 6 1
  let pub := (h.drop 256).take 96
  if kind = 3 then
    decide (k ≤ 3) && !s.boot.sensed.patchRevoke.testBit k && decide (pub = Config.patchKey k)
  else s.get R.BOOT_STS_SEC_STATE = 0 || s.boot.sensed.keyOk k pub

/-- Checks 1 to 9 and SEALED (R446): the first code that fails, for a header, the kind expected, the bytes to the end of
the source, and those to the end of the destination. -/
def State.imgHeadCode (s : State) (h : Bytes) (kind left : Nat) (dst : Option Nat) : Option Nat :=
  let sec := s.get R.BOOT_STS_SEC_STATE
  let n := hdrNum h 20 4
  let len := hdrNum h 24 4
  let enc := hdrNum h 7 1 % 2 = 1
  let size := decide (1 ≤ n) && decide (n ≤ 895) && (decide (kind ≠ 1) || decide (n ≤ 16)) && decide ((n - 1) * 65536 < len)
    && decide (len ≤ n * 65536) && decide ((n + 1) * 65536 ≤ left)
    && (match dst with | some d => decide (n * 65536 ≤ d) | none => true)
  if hdrNum h 0 4 ≠ 0x5A494D47 ∨ hdrNum h 4 1 ≠ 1 then some 1
  else if hdrNum h 4092 4 ≠ crc32c (h.take 4092) then some 2
  else if hdrNum h 5 1 ≠ kind then some 3
  else if hdrNum h 8 4 ≠ (s.rd R.SYS_DEV_ID).toNat ∨ !(hdrNum h 12 4).testBit ((s.rd R.SYS_DEV_REV).fld 0 5) then some 4
  else if (hdrNum h 7 1).testBit 1 ∧ sec ≠ 0 ∧ sec ≠ 2 then some 5
  else if !s.imgKeyOk h kind then some 6
  else if !ecdsaVerify ((h.drop 256).take 96) (h.take 256) ((h.drop 352).take 96) then some 7
  else if kind ≠ 3 ∧ hdrNum h 16 1 < s.get R.BOOT_SVN_FUSED then some 8
  else if !size then some 9
  else if enc ∧ (kind ≠ 3 ∨ (dst.isSome ∧ s.flag R.BOOT_STS_SEALED)) then some 0x0C
  else none

/-- AES-256 in CTR mode over the blocks of a string of bytes, from a block counter. -/
def ctrRun (key nonce : Bytes) : Nat → Nat → Bytes → Bytes
  | 0, _, _ => []
  | n + 1, c, bs => xorB (bs.take 16) (aesEnc key (nonce ++ beBytes 4 c)) ++ ctrRun key nonce n (c + 1) (bs.drop 16)

/-- A payload block as LOAD writes it: decrypted up to the payload's end when ENC = 1 (R447). -/
def imgPlain (h : Bytes) (b : Nat) (bs : Bytes) : Bytes :=
  if hdrNum h 7 1 % 2 = 1 then
    let live := min 65536 (hdrNum h 24 4 - b * 65536)
    let x := bs.take live
    ctrRun (leBytes 32 Config.classKey.toNat) ((h.drop 40).take 12) (cdiv x.length 16) (b * 4096) x ++ bs.drop live
  else bs

/-- The payload blocks from block `b` on (checks 10 and 11): what has been read before, newest block first; the answer is
the code and block of a failure. -/
def State.imgBlocks (src : ImgSrc) (h : Bytes) (f : NorFact) (dst : Option (Nat × Nat)) :
    Nat → Nat → List Bytes → State → Option (Nat × Nat) × State
  | 0, b, seen, s =>
    if sha384 (seen.reverse.flatten.take (hdrNum h 24 4)) = (h.drop 64).take 48 then (none, s)
    else (some (0x0B, b - 1), s)
  | n + 1, b, seen, s =>
    let s := s.put R.BOOT_CMD_STS_BLOCK b
    if f = .silent (b + 1) then (some (0x0D, b), s)
    else
      match s.imgRead src ((b + 1) * 65536) 65536 with
      | (none, s) => (some (0x0D, b), s)
      | (some bs, s) =>
        let s := match src with
          | .nor _ _ => s.evtB 0x80000 0x10 1
          | _ => s
        if f = .garbled (b + 1) ∨ crc32c bs ≠ hdrNum h (512 + 4 * b) 4 then (some (0x0A, b), s)
        else
          match dst with
          | none => State.imgBlocks src h f dst n (b + 1) (bs :: seen) s
          | some (k, a) =>
            match s.coreStore k (a + b * 65536) (imgPlain h b bs) with
            | (true, s) => State.imgBlocks src h f dst n (b + 1) (bs :: seen) s
            | (false, s) =>
              let p := s.fresh 255
              (some (p.1 + 1, b), p.2)

/-- An image checked, and loaded where a destination is given: the code (0 where it passes), the block of a failure, the
image's header, and the state. -/
def State.imgRun (s : State) (src : ImgSrc) (kind : Nat) (f : NorFact) (dst : Option (Nat × Nat × Nat)) :
    (Nat × Nat × Bytes) × State :=
  if f = .silent 0 then ((0x0D, 0, []), s)
  else
    match s.imgRead src 0 4096 with
    | (none, s) => ((0x0D, 0, []), s)
    | (some h, s) =>
      match if f = .garbled 0 then some 2 else s.imgHeadCode h kind src.left (dst.map (·.2.2)) with
      | some c => ((c, 0, h), s)
      | none =>
        match State.imgBlocks src h f (dst.map fun d => (d.1, d.2.1)) (hdrNum h 20 4) 0 [] s with
        | (none, s) => ((0, 0, h), s)
        | (some x, s) => ((x.1, x.2, h), s)

/-- Slot of an image at a NOR offset (R443). -/
def norSlot (a : Nat) : Nat :=
  if 0x200000 ≤ a ∧ a < 0x2100000 then 1 else if 0x2100000 ≤ a ∧ a < 0x4000000 then 2 else 0

/-- BOOT.FAIL takes a failure. -/
def State.bootFail (s : State) (code kind slot block : Nat) : State :=
  (((s.put R.BOOT_FAIL_CODE code).put R.BOOT_FAIL_KIND kind).put R.BOOT_FAIL_SLOT slot).put R.BOOT_FAIL_BLOCK block

/-- The counts of an image check and, for one that fails, BOOT.FAIL; its BLOCK for another code than 0x0A is a free value
(log entry 24). -/
def State.imgCount (s : State) (code kind slot block : Nat) : State :=
  let s := s.evtB 0x80000 0x11 1
  if code = 0 then s
  else
    let x := if code = 0x0A then (block, s) else s.fresh 1024
    (x.2.bootFail code kind slot x.1).evtB 0x80000 0x12 1

/-- A BOOT command completes. -/
def State.bootEnd (s : State) (result : Nat) : State :=
  (((s.put R.BOOT_CMD_STS_RESULT result).put R.BOOT_CMD_STS_BUSY 0).put R.BOOT_CMD_GO 0).pulse 48

/-- A NOR source at an offset. -/
def State.norSrc (s : State) (a : Nat) : ImgSrc := .nor a (s.norSize - a)

/-- LOAD (1), CHECK (2) or VERIFY (3) as the registers hold it (R447); `core` sees its own local SRAM in R27's map. -/
def State.imgCmd (s : State) (core op : Nat) (f : NorFact) : State :=
  let kind := s.get R.BOOT_CMD_KIND
  let a := s.rd64 R.BOOT_SRC_LO
  let src := if op = 2 then (s.coreRegion core a).map fun x => ImgSrc.mem x.1 x.2.1 x.2.2 else some (s.norSrc a)
  let dst := if op = 1 then s.coreRegion core (s.rd64 R.BOOT_DST_LO) else none
  let slot := if op = 2 then 0 else norSlot a
  let f := if op = 2 then .ok else f
  let run : (Nat × Nat × Bytes) × State :=
    match src with
    | none => ((0x0D, 0, []), s)
    | some src => s.imgRun src kind f (if op = 1 then some (dst.getD (3, 0, 0)) else none)
  let s := run.2.imgCount run.1.1 kind slot run.1.2.1
  let s :=
    if op = 1 ∧ kind = 2 ∧ run.1.1 = 0 then
      (s.put R.BOOT_STS_MAIN_OK 1).put R.BOOT_SVN_ACTIVE (hdrNum run.1.2.2 16 1)
    else s
  s.bootEnd run.1.1

/-! ### The boot record (R443, R454) -/

/-- NOR offset of a slot. -/
def slotBase (k : Nat) : Nat := if k = 2 then 0x2100000 else 0x200000

/-- A copy is valid. -/
def recValid (b : Bytes) : Bool :=
  decide (hdrNum b 0 4 = 0x5A425452) && decide (hdrNum b 4 1 = 1) && decide (hdrNum b 60 4 = crc32c (b.take 60))
    && decide (1 ≤ hdrNum b 5 1) && decide (hdrNum b 5 1 ≤ 2) && decide (hdrNum b 6 1 ≠ hdrNum b 5 1)

/-- The record: ACTIVE, PENDING, SEQ, and the offset of the copy that holds it. -/
def State.bootRec (s : State) : Nat × Nat × Nat × Option Nat :=
  let copies := [0x20000, 0x30000].filter fun a => recValid (s.norBytes a 64)
  let seq := fun (a : Nat) => hdrNum (s.norBytes a 64) 8 8
  let best := copies.foldl (fun (m : Option Nat) a => match m with
    | some x => if seq x < seq a then some a else some x
    | none => some a) none
  match best with
  | some a => (hdrNum (s.norBytes a 64) 5 1, hdrNum (s.norBytes a 64) 6 1, seq a, some a)
  | none => (1, 0, 0, none)

/-- A new record written into the copy that does not hold the record, which is erased first. -/
def State.putRec (s : State) (active pending : Nat) : State :=
  let r := s.bootRec
  let a := if r.2.2.2 = some 0x20000 then 0x30000 else 0x20000
  let b := leBytes 4 0x5A425452 ++ leBytes 1 1 ++ leBytes 1 active ++ leBytes 1 pending ++ leBytes 1 0
    ++ leBytes 8 (r.2.2.1 + 1) ++ List.replicate 44 0
  s.onBoot fun x => { x with nor := norPut a (b ++ leBytes 4 (crc32c b)) (norPut a (List.replicate 65536 0xFF) x.nor) }

/-- FW_REV of the STAGE1 image in a slot; zeros where the slot is empty (R305). -/
def State.slotRev (s : State) (k : Nat) : Bytes :=
  let h := s.norBytes (slotBase k) 40
  if hdrNum h 0 4 = 0x5A494D47 then (h.drop 32).take 8 else List.replicate 8 0

/-- The code with which a package fails its checks, 0 where it passes, and whether FW_REV and SVN of its images agree. -/
def State.pkgRun (s : State) (at_ : Nat → ImgSrc) (f : NorFact) : Nat × Bool × State :=
  match s.imgRun (at_ 0) 1 f none with
  | (x, s) =>
    let s := s.imgCount x.1 1 0 x.2.1
    if x.1 ≠ 0 then (x.1, false, s)
    else
      match s.imgRun (at_ ((hdrNum x.2.2 20 4 + 1) * 65536)) 2 f none with
      | (y, s) =>
        let agree := decide ((x.2.2.drop 32).take 8 = (y.2.2.drop 32).take 8) && decide (hdrNum x.2.2 16 1 = hdrNum y.2.2 16 1)
        (y.1, agree, s.imgCount y.1 2 0 y.2.1)

/-- The images of a slot. -/
def State.slotAt (s : State) (k : Nat) (o : Nat) : ImgSrc := .nor (slotBase k + o) (min (s.norSize - slotBase k - o) (0x1F00000 - o))

/-! ### Tokens, fuses and the security version (R448 to R452) -/

/-- The challenge replaced by 128 new bits. -/
def State.newChallenge (s : State) : State :=
  (List.range 4).foldl (fun s i => let p := s.fresh (2 ^ 32); p.2.wr (R.BOOT_CHAL i) (BitVec.ofNat 32 p.1)) s

/-- The first check of R452 that a token fails. -/
def State.tokenCode (s : State) (t : Bytes) : Nat :=
  let pub := (t.drop 40).take 96
  if s.boot.sensed.dbgDisable ∨ 8 ≤ s.get R.BOOT_TRY_TOK_FAILS then 0x15
  else if hdrNum t 0 4 ≠ 0x5A544B4E ∨ hdrNum t 4 1 ≠ 1 ∨ hdrNum t 6 2 ≠ 0 ∨ hdrNum t 36 4 ≠ 0 then 0x10
  else if hdrNum t 8 8 ≠ Config.uid.toNat then 0x11
  else if hdrNum t 16 16 ≠ (List.range 4).foldr (fun i a => (s.rd (R.BOOT_CHAL i)).toNat + 2 ^ 32 * a) 0 then 0x12
  else if !s.boot.sensed.keyOk (hdrNum t 5 1) pub then 0x13
  else if !ecdsaVerify pub (t.take 136) ((t.drop 136).take 96) then 0x14
  else 0

/-- The token in the buffer. -/
def State.tokBytes (s : State) : Bytes := (List.range 58).flatMap fun w => leBytes 4 (s.rd (R.BOOT_TOK w)).toNat

/-- The Hairspring's count. -/
def State.hsCount (s : State) : Nat := s.count R.AON_HS_LO

/-- TOKEN (R452). -/
def State.tokenCmd (s : State) : State :=
  if s.get R.BOOT_STS_SEC_STATE ≠ 1 then s.bootEnd 4
  else
    let t := s.tokBytes
    let c := s.tokenCode t
    let s := s.newChallenge
    if c ≠ 0 then
      let k := s.fresh 8
      let b := k.2.fresh 1024
      (((b.2.put R.BOOT_TRY_TOK_FAILS (min 15 (s.get R.BOOT_TRY_TOK_FAILS + 1))).bootFail c k.1 0 b.1).pulse 50).bootEnd c
    else
      let d := hdrNum t 32 4
      let s := s.onBoot fun x =>
        { x with noRoot := true, debugEnd := if d = 0 then none else some (s.hsCount + d * 32768) }
      ((((s.put R.BOOT_STS_SEC_STATE 2).clearSlots).pulse 124).pulse 49).bootEnd 0

/-- PROVISION (R448, R450). -/
def State.provision (s : State) : State :=
  let f := s.boot.fuses
  let sel := s.get R.BOOT_CMD_SEL
  let w := (s.rd (R.BOOT_TOK 0)).toNat
  if s.debugOpen ∨ (sel ≤ 1 ∧ hashSet (f.owner sel)) then s.bootEnd 4
  else
    let h := (s.tokBytes).take 48
    let g : Fuses :=
      if sel = 0 then { f with owner0 := h }
      else if sel = 1 then { f with owner1 := h }
      else if sel = 2 then { f with keyRevoke := f.keyRevoke ||| w % 4 }
      else if sel = 3 then { f with patchRevoke := f.patchRevoke ||| w % 16 }
      else { f with dbgDisable := true }
    (s.onBoot fun x => { x with fuses := g }).bootEnd 0

/-- ADVANCE_SVN (R449). -/
def State.advanceSvn (s : State) : State :=
  if !s.flag R.BOOT_STS_BOOT_OK then s.bootEnd 4
  else
    let a := s.get R.BOOT_SVN_ACTIVE
    let f := s.get R.BOOT_SVN_FUSED
    if a ≤ f then s.bootEnd 0
    else
      let up := fun (g : Fuses) => { g with svn := g.svn ||| (2 ^ a - 2 ^ f) }
      let s := s.onBoot fun x => { x with fuses := up x.fuses, sensed := up x.sensed }
      (s.put R.BOOT_SVN_FUSED a).bootEnd 0

/-! ### The SPI commands -/

/-- An SPI command completes. -/
def State.spiEnd (s : State) (bad : Bool) : State :=
  ((s.put R.BOOT_SPI_CMD_ERR (b2n bad)).put R.BOOT_SPI_CMD_GO 0).pulse 48

/-- ERASE, PROGRAM or READ as the registers hold it; `err` is the number of bytes after which the NOR reported an error
or no longer answered.  Bytes beyond the NOR are not answered. -/
def State.spiRun (s : State) (op : Nat) (err : Option Nat) : State :=
  let a := s.get R.BOOT_SPI_ADDR_ADDR
  let len := s.get R.BOOT_SPI_LEN_LEN
  let room := s.norSize - a
  let n := min (min len room) (err.getD len)
  let bad := err.isSome || decide (room < len)
  let buf := s.rd64 R.BOOT_SPI_BUF_LO % 2 ^ 37
  if op = 1 then (s.onBoot fun x => { x with nor := norPut a (List.replicate n 0xFF) x.nor }).spiEnd bad
  else if op = 2 then
    if !s.dramOpen then s.spiEnd true
    else
      match s.dramLoad 6 buf n with
      | (none, s) => s.spiEnd true
      | (some d, s) =>
        let old := s.norBytes a n
        (s.onBoot fun x => { x with nor := norPut a (List.zipWith (· &&& ·) old d.1) x.nor }).spiEnd bad
  else if !s.dramOpen then s.spiEnd true
  else
    let d := s.norBytes a n
    let s := s.evtB 0x80000 0x10 (n / 65536)
    match s.dramStore 6 buf d false with
    | (true, s) => s.spiEnd bad
    | (false, s) => s.spiEnd true

/-- An SPI_ADDR or SPI_LEN of `v` is aligned as an operation requires (R460). -/
def spiAligned (op v : Nat) : Bool :=
  if op = 1 then decide (v % 65536 = 0) else if op = 2 then decide (v % 256 = 0) else true

/-! ### The BOOT page -/

/-- BOOT's own checks (R458, R460 and the captions). -/
def bootChecks : Checks := fun s _ _ o v =>
  if o = 0x84 then failIf (decide (v.fld 4 3 ≠ 0) && !s.flag R.BOOT_STS_MAIN_OK) 4
  else if o = 0x88 then failIf (s.flag R.BOOT_STS_BOOT_OK) 4
  else if o = 0xC0 then
    failIf (v.bit 4 && (s.flag R.BOOT_CMD_GO || s.flag R.BOOT_SPI_CMD_GO)) 4
      ++ failIf s.boot.tapShift 4 ++ failIf (decide (4 < v.fld 12 3)) 1
  else if o = 0xC4 ∨ o = 0xCC then failIf (decide (v.fld 0 6 ≠ 0)) 5
  else if 0x100 ≤ o ∧ o < 0x1E8 then failIf s.boot.tapShift 4
  else if o = 0x200 then
    failIf (v.bit 2 && (s.flag R.BOOT_CMD_GO || s.flag R.BOOT_SPI_CMD_GO)) 4
      ++ failIf (v.bit 2 && decide (v.fld 0 2 = 0)) 1
      ++ failIf (v.bit 2 && !(spiAligned (v.fld 0 2) (s.get R.BOOT_SPI_ADDR_ADDR)
          && spiAligned (v.fld 0 2) (s.get R.BOOT_SPI_LEN_LEN))) 5
  else if o = 0x204 then failIf (!spiAligned (s.get R.BOOT_SPI_CMD_OP) (v.fld 0 26)) 5
  else if o = 0x208 then
    failIf (!spiAligned (s.get R.BOOT_SPI_CMD_OP) (v.fld 0 25)) 5 ++ failIf (decide (2 ^ 24 < v.fld 0 25)) 1
  else if o = 0x20C then failIf (decide (v.fld 0 6 ≠ 0)) 5
  else []

/-- What BOOT registers show: the UID of the fuses. -/
def bootView : View := fun _ _ _ o =>
  if o = 0xA0 then some (BitVec.ofNat 32 Config.uid.toNat)
  else if o = 0xA4 then some (BitVec.ofNat 32 (Config.uid.toNat / 2 ^ 32))
  else none

/-- What a write to BOOT does beyond its fields, but for FAIL_SLOT: a command started is busy until its row completes it;
BOOT_OK stops the watchdog (R456); SEAL (R458). -/
def bootBase : Effect := fun s _ _ o _ v =>
  if o = 0xC0 ∧ v.bit 4 then s.put R.BOOT_CMD_STS_BUSY 1
  else if o = 0x84 then
    let s := if v.bit 1 then s.put R.BOOT_STS_SEALED 1 else s
    if v.bit 0 then ((s.put R.BOOT_STS_BOOT_OK 1).put R.BOOT_WDT_RUNNING 0).put R.BOOT_TRY_CNT 0 else s
  else s

/-- The core that a requester is, for the local SRAM of R27; the host's commands see core 0's. -/
def Requester.core0 : Requester → Nat
  | .host => 0
  | .core c => c.val

/-- A BOOT command: the write of CMD unless a command is set already, and its run where CMD holds that command. -/
def State.bootCmd (s : State) (r : Requester) (op kind sel : Nat) (run : State → State) : State :=
  let w := BitVec.ofNat 32 (op + 16 + kind * 256 + sel * 4096)
  let s := if s.flag R.BOOT_CMD_GO then s else s.softWrite bootChecks bootBase r R.BOOT_CMD w
  if s.rd R.BOOT_CMD = w then run s else s

/-- LOAD_IMAGE (R447). -/
def execLoadImage (r : Requester) (kind : BitVec 2) (f : NorFact) (s : State) : Host.Outcome State Fault Refusal :=
  act s fun s => s.bootCmd r 1 kind.toNat 0 fun s => s.imgCmd r.core0 1 f

/-- CHECK (R447). -/
def execCheck (r : Requester) (kind : BitVec 2) (s : State) : Host.Outcome State Fault Refusal :=
  act s fun s => s.bootCmd r 2 kind.toNat 0 fun s => s.imgCmd r.core0 2 .ok

/-- VERIFY (R447). -/
def execVerify (r : Requester) (kind : BitVec 2) (f : NorFact) (s : State) : Host.Outcome State Fault Refusal :=
  act s fun s => s.bootCmd r 3 kind.toNat 0 fun s => s.imgCmd r.core0 3 f

/-- TOKEN (R452). -/
def execToken (r : Requester) (s : State) : Host.Outcome State Fault Refusal :=
  act s fun s => s.bootCmd r 4 0 0 State.tokenCmd

/-- PROVISION (R448, R450). -/
def execProvision (r : Requester) (sel : BitVec 3) (s : State) : Host.Outcome State Fault Refusal :=
  act s fun s => s.bootCmd r 5 0 sel.toNat State.provision

/-- ADVANCE_SVN (R449). -/
def execAdvanceSvn (r : Requester) (s : State) : Host.Outcome State Fault Refusal :=
  act s fun s => s.bootCmd r 6 0 0 State.advanceSvn

/-- An SPI command: the write of SPI_CMD unless a command is set already, and its run. -/
def State.spiCmd (s : State) (r : Requester) (op : Nat) (err : Option Nat) : State :=
  let s := if s.flag R.BOOT_SPI_CMD_GO then s
    else s.softWrite bootChecks bootBase r R.BOOT_SPI_CMD (BitVec.ofNat 32 (op + 4))
  if s.flag R.BOOT_SPI_CMD_GO ∧ s.get R.BOOT_SPI_CMD_OP = op then s.spiRun op err else s

/-- SPI_ERASE (R460): the blocks at SPI_ADDR read 0xFF. -/
def execSpiErase (r : Requester) (err : Option Nat) (s : State) : Host.Outcome State Fault Refusal :=
  act s fun s => s.spiCmd r 1 err

/-- SPI_PROGRAM (R460): the NOR takes SPI_BUF's bytes. -/
def execSpiProgram (r : Requester) (err : Option Nat) (s : State) : Host.Outcome State Fault Refusal :=
  act s fun s => s.spiCmd r 2 err

/-- SPI_READ (R460): SPI_BUF takes the NOR's bytes. -/
def execSpiRead (r : Requester) (err : Option Nat) (s : State) : Host.Outcome State Fault Refusal :=
  act s fun s => s.spiCmd r 3 err

/-- BOOT_OK: a write of CTL.BOOT_OK (R456). -/
def execBootOk (r : Requester) (s : State) : Host.Outcome State Fault Refusal :=
  act s fun s => s.softWrite bootChecks bootBase r R.BOOT_CTL 1

/-- SEAL: a write of CTL.SEAL (R458). -/
def execCtlSeal (r : Requester) (s : State) : Host.Outcome State Fault Refusal :=
  act s fun s => s.softWrite bootChecks bootBase r R.BOOT_CTL 2

/-- CORE_RELEASE: a write of CTL.CORE_REL (R458). -/
def execCoreRelease (r : Requester) (cores : BitVec 3) (s : State) : Host.Outcome State Fault Refusal :=
  act s fun s => s.softWrite bootChecks bootBase r R.BOOT_CTL (BitVec.ofNat 32 (cores.toNat * 16))

/-- Nanoseconds since the watchdog was armed, and its timeout. -/
def State.wdtPast (s : State) (num : Nat) : Bool :=
  s.flag R.BOOT_WDT_RUNNING && decide (s.boot.wdtAt + s.get R.BOOT_WDT_TIMEOUT * 10 ^ 9 / num ≤ s.now)

/-- WDT_HALF: half of the watchdog's timeout has passed without BOOT_OK (R456). -/
def execWdtHalf (s : State) : Host.Outcome State Fault Refusal :=
  act s fun s =>
    if s.wdtPast 2 ∧ !s.boot.wdtHalf then (s.onBoot fun x => { x with wdtHalf := true }).pulse 51 else s

/-- DEBUG_OPEN_EXPIRE: the token's DURATION has passed, and DEBUG_OPEN returns to SECURE (R450, R452). -/
def execDebugOpenExpire (s : State) : Host.Outcome State Fault Refusal :=
  act s fun s =>
    match s.boot.debugEnd with
    | none => s
    | some t =>
      if s.debugOpen ∧ t ≤ s.hsCount then
        ((s.put R.BOOT_STS_SEC_STATE 1).onBoot fun x => { x with debugEnd := none }).pulse 49
      else s

/-! ### The TAP (R453) -/

/-- The TAP selects an instruction, in HALT too; a shift into the token buffer ends. -/
def State.tap (s : State) (code : Nat) : State :=
  (s.onBoot fun x => { x with tapIr := code, tapShift := false }).emit (.tapSelect code)

/-- TAP_EXTEST: boundary scan, through which the NOR can be rewritten by its pins. -/
def execTapExtest (nor : Option (BitVec 26 × Bytes)) (s : State) : Host.Outcome State Fault Refusal :=
  .next <|
    let s := s.tap 0
    match nor with
    | none => s
    | some x => s.onBoot fun b => { b with nor := norPut x.1.toNat (x.2.take (2 ^ 26 - x.1.toNat)) b.nor }

/-- TAP_SAMPLE_PRELOAD: boundary scan. -/
def execTapSamplePreload (s : State) : Host.Outcome State Fault Refusal := .next (s.tap 1)

/-- TAP_IDCODE: 0x2964_055D. -/
def execTapIdcode (s : State) : Host.Outcome State Fault Refusal := .next ((s.tap 2).emit (.tapOut 32 0x2964055D))

/-- TAP_CHALLENGE: the 128 bits of CHAL_0 to CHAL_3. -/
def execTapChallenge (s : State) : Host.Outcome State Fault Refusal :=
  .next ((s.tap 0x10).emit (.tapOut 128 ((List.range 4).foldr (fun i a => (s.rd (R.BOOT_CHAL i)).toNat + 2 ^ 32 * a) 0)))

/-- TAP_UNLOCK: without a token, the instruction is selected and a shift into TOK is in progress; with one, the token has
been shifted in and Update-DR starts TOKEN (R452, R460).  In HALT it acts as BYPASS. -/
def execTapUnlock (tok : Option (BitVec 1856)) (s : State) : Host.Outcome State Fault Refusal :=
  .next <|
    if s.flt.halt then s.tap 0xFF
    else
      match tok with
      | none => (s.tap 0x11).onBoot fun x => { x with tapShift := true }
      | some t =>
        let s := s.tap 0x11
        let s := (List.range 58).foldl (fun s w => s.wr (R.BOOT_TOK w) (BitVec.ofNat 32 (t.toNat / 2 ^ (32 * w)))) s
        (s.put R.BOOT_CMD_OP 4).tokenCmd

/-- TAP_DEBUG: core debug and register access in UNPROVISIONED and DEBUG_OPEN, BYPASS otherwise and in HALT. -/
def execTapDebug (s : State) : Host.Outcome State Fault Refusal :=
  .next (if s.flt.halt ∨ s.get R.BOOT_STS_SEC_STATE = 1 then s.tap 0xFF else s.tap 0x20)

/-- TAP_BYPASS: the 1-bit bypass register. -/
def execTapBypass (s : State) : Host.Outcome State Fault Refusal := .next (s.tap 0xFF)

/-- TAP_RESET: Test-Logic-Reset selects IDCODE. -/
def execTapReset (s : State) : Host.Outcome State Fault Refusal := .next (s.tap 2)

end Sys2Proof.Machine
end

