-- ==== Sys2Proof/Machine/Tags.lean ====
section
/-! DEFINITION. Host memory as the controller's requests reach it: the tag pool and its shares (R343, R344), read
requests, and posted writes split into TLPs (R342, R349, R511). -/

namespace Sys2Proof.Machine

open Sys2Proof

/-- Tag mode: 0 8-bit, 1 10-bit, 2 14-bit (R343): Device 3's 14-Bit Tag Requester Enable, then Device Control 2's 10-Bit
Tag Requester Enable. -/
def State.tagMode (s : State) : Nat := if (s.cfgRd 0x268).bit 2 then 2 else if (s.cfgRd 0x88).bit 12 then 1 else 0

/-- The pool that a tag mode and MAX_OUT give (R343). -/
def State.modePool (s : State) : Nat :=
  min (s.get R.PCI_TAG_CFG_MAX_OUT) (if s.tagMode = 2 then 4096 else if s.tagMode = 1 then 768 else 256)

/-- The pool in force: until no read is outstanding after a change of mode, the smaller of the two (R344). -/
def State.tagPool (s : State) : Nat :=
  match s.pci.oldPool with
  | some p => if s.pci.reads.isEmpty then s.modePool else min p s.modePool
  | none => s.modePool

/-- Tags the NVMe command engine holds (R344). -/
def State.nvmShare (s : State) : Nat := s.tagPool * s.get R.PCI_TAG_CFG_NVM_RSV / 4096

/-- A read belongs to a DMA channel. -/
def HostRead.ofDma (r : HostRead) : Bool := match r.owner with | .dma _ _ => true | _ => false

/-- A tag can be given: to the DMA channels within their share of the pool, or to the NVMe command engine (R344). -/
def State.tagFree (s : State) (dma : Bool) : Bool :=
  decide (s.pci.reads.length + s.pci.tagHold.length < s.tagPool)
    && (if dma then
        decide ((s.pci.reads.filter fun r => r.2.ofDma).length + s.pci.tagHold.length < s.tagPool - s.nvmShare)
      else decide ((s.pci.reads.filter fun r => !r.2.ofDma).length < s.nvmShare))

/-- The lowest tag that is neither outstanding nor held. -/
def State.nextTag (s : State) : Nat :=
  ((List.range (s.pci.reads.length + s.pci.tagHold.length + 1)).find? fun t =>
    (s.pci.reads.find t).isNone && (s.pci.tagHold.find t).isNone).getD 0

/-- Max_Read_Request_Size and Max_Payload_Size in bytes (Device Control). -/
def State.maxRead (s : State) : Nat := 128 * 2 ^ (s.cfgRd 0x68).fld 12 3
def State.maxPayload (s : State) : Nat := 128 * 2 ^ (s.cfgRd 0x68).fld 5 3

/-- One read request issued to host memory (R343). -/
def State.hostReadIssue (s : State) (o : ReadOwner) (addr len off : Nat) : State :=
  let t := s.nextTag
  let s := s.onPci fun x => { x with reads := x.reads.put t ⟨o, addr, len, off, s.now⟩ }
  (((s.put R.PCI_TAG_STS_OUTST s.pci.reads.length).evt 0x100000 0x12 1).evt 0x100000 0x11 1).emit (.hostRead t addr len)

/-- The largest read at an address: no read passes Max_Read_Request_Size or a 4 KiB boundary (R344). -/
def State.readChunk (s : State) (addr left : Nat) : Nat := min left (min s.maxRead (4096 - addr % 4096))

/-- A posted write to host memory sent as TLPs of at most Max_Payload_Size that cross no 4 KiB boundary; only TLPs that
carry poisoned bytes have EP = 1, and each counts in POISON_CNT and pulses source 151 (R349). -/
def State.hostWriteTlps : Nat → Nat → List (Byte × Bool) → State → State
  | 0, _, _, s => s
  | fuel + 1, addr, bs, s =>
    if bs.isEmpty then s
    else
      let n := min bs.length (min s.maxPayload (4096 - addr % 4096))
      let t := bs.take n
      let ep := t.any (·.2)
      let s := (s.emit (.hostWrite addr (t.map (·.1)) ep)).evt 0x100000 0x11 1
      let s := s.addCount R.PCI_TX_UNITS_LO (cdiv n 64)
      let s := if ep then (s.bump R.PCI_POISON_CNT_OUT 1).pulse 151 else s
      State.hostWriteTlps fuel (addr + n) (bs.drop n) s

/-- Bytes with one poison mark written to host memory. -/
def State.hostWrite (s : State) (addr : Nat) (bs : Bytes) (ep : Bool) : State :=
  State.hostWriteTlps (bs.length + 1) addr (bs.map fun b => (b, ep)) s

/-- The record of a host read that ended in a bus error (R361), unless a requester holds the record frozen: kind 1
timeout, 2 status, 3 poison, 4 link down. -/
def State.readError (s : State) (kind tag : Nat) (r : HostRead) : State :=
  if s.pci.errFrozen.isEmpty then
    let src := match r.owner with | .dma ch _ => ch | _ => 32
    let s := s.wr R.PCI_ERR_0 (BitVec.ofNat 32 (kind + src * 2 ^ 8 + tag % 2 ^ 14 * 2 ^ 16))
    (s.wr R.PCI_ERR_1 (BitVec.ofNat 32 r.addr)).wr R.PCI_ERR_2 (BitVec.ofNat 32 (r.addr / 2 ^ 32))
  else s

end Sys2Proof.Machine
end

