-- ==== Sys2Proof/Machine/Dma.lean ====
section
/-! DEFINITION. The DMA channels (chapter 17, R507 to R517, R530): descriptors, the ring, transfers, errors, pulse modes
and stopping. -/

namespace Sys2Proof.Machine

open Sys2Proof

/-- The page of a channel. -/
def dmaPage (n : Nat) : Nat := 0xA0000 + 0x1000 * n

/-- The descriptor that 64 bytes spell (R508). -/
def Desc.ofBytes (b : Bytes) : Desc :=
  let w := leNat (b.take 4)
  { own := w.testBit 0
    op := w / 2 % 4
    irq := w.testBit 3
    fence := w.testBit 4
    group := w.testBit 5
    resv := decide (w / 64 % 4 ≠ 0) || decide (w / 4096 ≠ 0) || decide (leNat ((b.drop 40).take 8) ≠ 0)
    srcT := w / 256 % 4
    dstT := w / 1024 % 4
    len := leNat ((b.drop 4).take 4)
    src := leNat ((b.drop 8).take 8)
    dst := leNat ((b.drop 16).take 8)
    pattern := leNat ((b.drop 24).take 8) }

/-- The channel belongs to the NVMe command engine; its mode in force (R507). -/
def State.dmaNvm (s : State) (n : Nat) : Bool := s.flag (R.DMA_CFG_OWNER n)
def State.dmaMode (s : State) (n : Nat) : Nat := if s.dmaNvm n then 0 else s.get (R.DMA_CFG_MODE n)

/-- Entries of the ring, and the entries from `a` up to, but not including, `b` (R510). -/
def State.ringSize (s : State) (n : Nat) : Nat := 2 ^ s.get (R.DMA_CFG_RING_LOG2 n)
def State.ringDist (s : State) (n a b : Nat) : Nat := (b + s.ringSize n - a) % s.ringSize n

/-- A range lies within its region; DRAM 0, HOST 1, STAGE 2, CORE 3 (R509). -/
def State.inRegion (s : State) (t a len : Nat) : Bool :=
  if t = 0 then decide (a + len ≤ s.dramCap)
  else if t = 1 then decide (a + len ≤ 2 ^ 64)
  else if t = 2 then decide (a + len ≤ 0x4000000)
  else decide (a + len ≤ 0x400000)

/-- The check of a descriptor before it moves anything, in the order of R509; 0 where it passes. -/
def State.descCheck (s : State) (n : Nat) (d : Desc) : Nat :=
  let fill := decide (d.op = 1)
  let stage := s.dmaNvm n || decide (s.dmaMode n = 2)
  if d.op = 3 || d.resv || (decide (d.op = 2) && (s.dmaNvm n || decide (s.dmaMode n ≠ 2))) then 3
  else if d.len % 64 ≠ 0 || d.dst % 64 ≠ 0 || (!fill && decide (d.src % 64 ≠ 0)) then 1
  else if d.len < 64 || decide (2 ^ 30 < d.len) || (!fill && decide (d.srcT = 1) && decide (d.dstT = 1))
      || (!stage && (decide (d.dstT = 2) || (!fill && decide (d.srcT = 2))))
      || !s.inRegion d.dstT d.dst d.len || (!fill && !s.inRegion d.srcT d.src d.len) then 2
  else 0

/-- The host side of a transfer that is read: SRC, or DST of a COMPARE. -/
def Desc.hostRead (d : Desc) : Option Nat :=
  if d.op ≠ 1 ∧ d.srcT = 1 then some d.src else if d.op = 2 ∧ d.dstT = 1 then some d.dst else none

/-! ### Units of 64 bytes -/

/-- A unit read from a local endpoint: its bytes and poison mark, or the bus error kind of R508. -/
def State.unitRead (s : State) (t a : Nat) : (Bytes × Bool ⊕ Nat) × State :=
  if t = 0 then
    if !s.dramOpen then (.inr 6, s)
    else
      match s.readLine 5 (a / 64) 0 with
      | (some x, s) => (.inl x, s)
      | (none, s) => (.inr 5, s)
  else if t = 2 then
    match s.stgLine a with
    | (some x, s) => (.inl x, s)
    | (none, s) => (.inr 5, s)
  else (.inl (getBytes s.mem.sram a 64, false), s)

/-- A unit written to a local endpoint, or the bus error kind. -/
def State.unitWrite (s : State) (t a : Nat) (bs : Bytes) (poison : Bool) : Option Nat × State :=
  if t = 0 then
    if !s.dramOpen then (some 6, s)
    else
      match s.dramStore 5 a bs poison with
      | (true, s) => (none, s)
      | (false, s) => (some 5, s)
  else if t = 2 then (none, s.setWords (a / 4096) (a % 4096 / 16) bs poison)
  else (none, s.onMem fun x => { x with sram := putBytes x.sram a bs })

/-- What became of units moved: code, bus error kind, bytes done, poison mark, and what goes to the host. -/
structure Moved where
  code : Nat
  detail : Nat
  done : Nat
  poison : Bool
  host : List (Byte × Bool)
  deriving DecidableEq, Repr

/-- One unit of a descriptor at an offset, with the source unit already known (R513, R514, R516). -/
def State.unitPut (s : State) (d : Desc) (off : Nat) (bs : Bytes) (p : Bool) (m : Moved) : Moved × State :=
  if d.op = 2 then
    let x := if d.dstT = 1 then s.unitRead d.srcT (d.src + off) else s.unitRead d.dstT (d.dst + off)
    match x with
    | (.inr k, s) => ({ m with code := if d.dstT = 1 then 4 else 5, detail := k, done := off }, s)
    | (.inl y, s) =>
      if y.1 = bs then ({ m with done := off + 64, poison := m.poison || p || y.2 }, s)
      else ({ m with code := 7, done := off, poison := m.poison || p || y.2 }, s)
  else if d.dstT = 1 then
    ({ m with done := off + 64, poison := m.poison || p, host := m.host ++ bs.map fun b => (b, p) }, s)
  else
    match s.unitWrite d.dstT (d.dst + off) bs p with
    | (some k, s) => ({ m with code := 5, detail := k, done := off }, s)
    | (none, s) => ({ m with done := off + 64, poison := m.poison || p }, s)

/-- Units of a descriptor with a local source moved from an offset on, `fuel` of them, up to the first error. -/
def State.moveUnits (d : Desc) : Nat → Nat → Moved → State → Moved × State
  | 0, _, m, s => (m, s)
  | fuel + 1, off, m, s =>
    let src := if d.op = 1 then
        (Sum.inl ((List.range 8).flatMap (fun _ => leBytes 8 d.pattern), false), s)
      else s.unitRead d.srcT (d.src + off)
    match src with
    | (.inr k, s) => ({ m with code := 4, detail := k, done := off }, s)
    | (.inl x, s) =>
      match s.unitPut d off x.1 x.2 m with
      | (m, s) => if m.code = 0 then State.moveUnits d fuel (off + 64) m s else (m, s)

/-- The first `len` bytes of a descriptor with a local source moved, and what goes to the host sent. -/
def State.moveLocal (s : State) (d : Desc) (len : Nat) : Moved × State :=
  match State.moveUnits d (len / 64) 0 ⟨0, 0, 0, false, []⟩ s with
  | (m, s) => (m, State.hostWriteTlps (m.host.length + 1) d.dst m.host s)

/-! ### Starting (R509, R511) -/

/-- ERROR pulsed and its record kept for a descriptor whose code is neither OK nor SKIPPED (R515). -/
def State.dmaError (s : State) (n : Nat) (j : DmaJob) : State :=
  match j.code with
  | none => s
  | some c =>
    if c = 0 ∨ c = 6 then s
    else
      let st := c + b2n j.poison * 2 ^ 4 + j.detail * 2 ^ 8
      (s.wr (R.DMA_ERR_INFO n) (BitVec.ofNat 32 (st + (if s.dmaNvm n then 0 else j.idx) * 2 ^ 16))).pulse (57 + 2 * n)

/-- Reads of a descriptor's host side issued while a tag is free and fewer than 256 are outstanding (R344, R511). -/
def State.dmaReads (n idx host len : Nat) : Nat → Nat → State → Nat × State
  | 0, asked, s => (asked, s)
  | fuel + 1, asked, s =>
    let mine := (s.pci.reads.filter fun r => match r.2.owner with | .dma ch _ => decide (ch = n) | _ => false).length
    if asked < len ∧ s.tagFree true ∧ mine < 256 ∧ s.busMaster then
      let k := s.readChunk (host + asked) (len - asked)
      let s := (s.hostReadIssue (.dma n idx) (host + asked) k asked).evt (dmaPage n) 0x13 1
      State.dmaReads n idx host len fuel (asked + k) s
    else (asked, s)

/-- Further reads issued for the channel's descriptors in progress. -/
def State.dmaIssue (s : State) (n : Nat) : State :=
  (List.range 4).foldl (fun s i =>
    match (s.dmaSt n).active[i]? with
    | none => s
    | some j =>
      match j.code, j.d.hostRead with
      | none, some h =>
        match State.dmaReads n j.idx h j.d.len 256 j.asked s with
        | (asked, s) => s.setDma n fun d => { d with active := d.active.modify i fun j => { j with asked := asked } }
      | _, _ => s) s

/-- The 64 bytes of the ring entry at an index, from DRAM or core local SRAM (R510). -/
def State.ringEntry (s : State) (n idx : Nat) : Option Bytes × State :=
  let a := s.rd64 (R.DMA_RING_BASE_LO n) + 64 * idx
  if s.flag (R.DMA_CFG_RING_CORE n) then (some (getBytes s.mem.sram a 64), s)
  else if !s.dramOpen then (none, s)
  else
    match s.readLine 5 (a / 64) 0 with
    | (some x, s) => (some x.1, s)
    | (none, s) => (none, s)

/-- A descriptor taken up by the channel: refused by the checks, skipped with its group, or started (R509, R513). -/
def State.descTake (s : State) (n : Nat) (d : Desc) (idx : Nat) : State :=
  let st := s.dmaSt n
  let c := s.descCheck n d
  let bad := st.inGroup && st.groupBad
  let code := if bad then some 6 else if c ≠ 0 then some c else none
  let j : DmaJob := ⟨idx, d, code, 0, 0, false, 0, 0⟩
  let s := s.setDma n fun x => { x with active := x.active ++ [j], inGroup := d.group }
  (s.dmaError n j).dmaIssue n

/-- The channel may take another descriptor now: enabled, fewer than 4 in progress, none of the present group, and in
LIMP only as its mode keeps running (R507, R511, R513). -/
def State.dmaReady (s : State) (n : Nat) : Bool :=
  s.flag (hEN (dmaPage n)) && decide ((s.dmaSt n).active.length < 4)
    && (!(s.dmaSt n).inGroup || (s.dmaSt n).active.isEmpty)
    && (!s.limp || s.dmaNvm n || decide (s.dmaMode n = 3))

/-- A descriptor cannot start beside the ones in progress: a fence waits for them (R511). -/
def State.descWaits (s : State) (n : Nat) (d : Desc) : Bool := d.fence && !(s.dmaSt n).active.isEmpty

/-- A descriptor has a host endpoint. -/
def State.needsHost (d : Desc) : Bool := decide (d.dstT = 1) || (decide (d.op ≠ 1) && decide (d.srcT = 1))

/-- A descriptor that will move data to or from the host waits for Bus Master Enable (R340, R509, R511). -/
def State.bmeWaits (s : State) (n : Nat) (d : Desc) : Bool :=
  State.needsHost d && !s.busMaster && decide (s.descCheck n d = 0) && !((s.dmaSt n).inGroup && (s.dmaSt n).groupBad)

/-- DESCRIPTOR_START: channel `n` takes its next descriptor, checks it, and starts it or gives it its failure code. -/
def execDescriptorStart (n : Fin 32) (s : State) : Host.Outcome State Fault Refusal :=
  act s fun s =>
    let n := n.val
    let st := s.dmaSt n
    if !s.dmaReady n then s
    else if s.dmaNvm n then
      match st.jobs with
      | [] => s
      | d :: ds =>
        if s.descWaits n d then s
        else if s.bmeWaits n d then s.put (R.DMA_STS_BME_WAIT n) 1
        else ((s.put (R.DMA_STS_BME_WAIT n) 0).setDma n fun x => { x with jobs := ds }).descTake n d 0
    else
      let normal := decide (s.dmaMode n = 0)
      let avail := if normal then decide (st.next ≠ s.get (R.DMA_TAIL_IDX n)) && !s.flag (R.DMA_STS_OWN_WAIT n)
        else decide (st.released ≠ 0)
      if !avail then s
      else
        match s.ringEntry n st.next with
        | (none, s) => s
        | (some b, s) =>
          let d := Desc.ofBytes b
          if normal && !d.own then s.put (R.DMA_STS_OWN_WAIT n) 1
          else if s.descWaits n d then s
          else if s.bmeWaits n d then s.put (R.DMA_STS_BME_WAIT n) 1
          else
            let s := s.put (R.DMA_STS_BME_WAIT n) 0
            let size := s.ringSize n
            (s.setDma n fun x => { x with next := (st.next + 1) % size, released := x.released - 1 }).descTake n d st.next

/-! ### Completing (R511 to R517) -/

/-- Bytes 48 to 63 of a completed descriptor (R508). -/
def State.statusBytes (s : State) (j : DmaJob) : Bytes :=
  leBytes 4 (j.code.getD 0 + b2n j.poison * 2 ^ 4 + j.detail * 2 ^ 8) ++ leBytes 4 j.doneLen
    ++ leBytes 8 s.devTime

/-- The write-back of a NORMAL-mode firmware channel, status first and then OWN (R512). -/
def State.writeBack (s : State) (n : Nat) (j : DmaJob) : State :=
  let a := s.rd64 (R.DMA_RING_BASE_LO n) + 64 * j.idx
  let s := (s.dramStore 5 (a + 48) (s.statusBytes j) false).2
  match s.dramLoad 5 a 4 with
  | (some x, s) => (s.dramStore 5 a (leBytes 4 (leNat x.1 / 2 * 2)) false).2
  | (none, s) => s

/-- The oldest descriptor retired with its code: write-back, report or pulse, counters, HEAD (R507, R511 to R516). -/
def State.retire (s : State) (n : Nat) : State :=
  match (s.dmaSt n).active with
  | [] => s
  | j :: js =>
    let code := j.code.getD 0
    let normal := decide (s.dmaMode n = 0)
    let nvm := s.dmaNvm n
    let s := s.setDma n fun d => { d with
      active := js
      groupBad := if j.d.group then d.groupBad || decide (code ≠ 0) else false }
    let s := if nvm then s.emit (.dmaReport n code) else if normal then s.writeBack n j else s
    let s := if nvm then s else s.put (R.DMA_HEAD_IDX n) ((j.idx + 1) % s.ringSize n)
    let units := if j.d.op = 2 then 0 else j.doneLen / 64
    let s := (s.addCount (R.DMA_UNITS_LO n) units).evt (dmaPage n) 0x10 units
    let s := (s.addCount (R.DMA_DESC_LO n) 1).evt (dmaPage n) 0x11 1
    let s := if code = 0 then s else (s.bump (R.DMA_BAD_CNT_CNT n) 1).evt (dmaPage n) 0x12 1
    let s := if (!nvm && !normal) || (normal && !nvm && j.d.irq) then s.pulse (56 + 2 * n) else s
    if js.isEmpty && !s.flag (hEN (dmaPage n)) then s.put (hRUNNING (dmaPage n)) 0 else s

/-- The job at the head of a channel given its outcome. -/
def State.headDone (s : State) (n : Nat) (code detail done : Nat) (poison : Bool) : State :=
  match (s.dmaSt n).active with
  | [] => s
  | j :: js =>
    let j := { j with code := some code, detail := detail, doneLen := done, poison := j.poison || poison }
    (s.setDma n fun d => { d with active := j :: js }).dmaError n j

/-- DESCRIPTOR_COMPLETE: the oldest descriptor of channel `n` finishes its transfers and completes in ring order. -/
def execDescriptorComplete (n : Fin 32) (s : State) : Host.Outcome State Fault Refusal :=
  act s fun s =>
    let n := n.val
    match (s.dmaSt n).active with
    | [] => s
    | j :: _ =>
      match j.code with
      | some _ => s.retire n
      | none =>
        match j.d.hostRead with
        | some _ => if j.recv = j.d.len then (s.headDone n 0 0 j.d.len false).retire n else s
        | none =>
          if State.needsHost j.d && !s.busMaster then s.put (R.DMA_STS_BME_WAIT n) 1
          else
            match s.moveLocal j.d j.d.len with
            | (m, s) => (s.headDone n m.code m.detail m.done m.poison).retire n

/-- Reads of a descriptor discarded: their data goes nowhere, and their tags return when they end (R513). -/
def State.dropReads (s : State) (n idx : Nat) : State :=
  s.onPci fun x => { x with reads := x.reads.map fun r =>
    if r.2.owner = ReadOwner.dma n idx then (r.1, { r.2 with owner := .gone }) else r }

/-- Bytes written to DST from the start up to the first byte not written, while host reads of a descriptor are out. -/
def State.doneBytes (s : State) (n : Nat) (j : DmaJob) : Nat :=
  (s.pci.reads.filter fun r => decide (r.2.owner = ReadOwner.dma n j.idx)).foldl (fun m r => min m r.2.off) j.asked

/-- A descriptor marked bad (R513): code 4 for a read of SRC and 5 for a write to DST. -/
def State.descBad (s : State) (n idx code detail done : Nat) : State :=
  let s := s.dropReads n idx
  match (s.dmaSt n).active.find? fun j => decide (j.idx = idx) && j.code.isNone with
  | none => s
  | some j =>
    let j := { j with code := some code, detail := detail, doneLen := done }
    (s.setDma n fun d => { d with active := d.active.map fun k => if k.idx = idx ∧ k.code.isNone = true then j else k }).dmaError n j

/-- DMA_BUS_ERROR: a read or write of the `k`-th descriptor in progress ends in a bus error at `units` units; what lies
before has been moved. -/
def execDmaBusError (n : Fin 32) (k : Fin 4) (write : Bool) (detail : BitVec 3) (units : Nat) (s : State) :
    Host.Outcome State Fault Refusal :=
  act s fun s =>
    let n := n.val
    match (s.dmaSt n).active[k.val]? with
    | none => s
    | some j =>
      if j.code.isSome then s
      else
        let done := min (64 * units) (j.d.len - 64)
        match j.d.hostRead with
        | some _ => s.descBad n j.idx (if write then 5 else 4) detail.toNat (s.doneBytes n j)
        | none =>
          match s.moveLocal j.d done with
          | (m, s) =>
            if m.code = 0 then s.descBad n j.idx (if write then 5 else 4) detail.toNat done
            else s.descBad n j.idx m.code m.detail m.done

/-- Units that a host read brought for a descriptor, put in place from an offset on. -/
def State.recvUnits (d : Desc) (p : Bool) : Nat → Nat → Bytes → Moved → State → Moved × State
  | 0, _, _, m, s => (m, s)
  | fuel + 1, off, bs, m, s =>
    if bs.isEmpty then (m, s)
    else
      match s.unitPut d off (bs.take 64) p m with
      | (m, s) => if m.code = 0 then State.recvUnits d p fuel (off + 64) (bs.drop 64) m s else (m, s)

/-- A host read of a channel's descriptor completes with data (R511, R514). -/
def State.dmaRecv (s : State) (n idx off : Nat) (bs : Bytes) (poison : Bool) : State :=
  match (s.dmaSt n).active.find? fun j => decide (j.idx = idx) && j.code.isNone with
  | none => s
  | some j =>
    match State.recvUnits j.d poison (bs.length + 1) off bs ⟨0, 0, off, false, []⟩ s with
    | (m, s) =>
      if m.code ≠ 0 then s.descBad n idx m.code m.detail (min m.done (s.doneBytes n j))
      else
        (s.setDma n fun d => { d with active := d.active.map fun k =>
          if k.idx = idx ∧ k.code.isNone then { k with recv := k.recv + bs.length, poison := k.poison || m.poison }
          else k }).dmaIssue n

/-- Released descriptors, and triggers that waited, after TAIL moved (R516). -/
def State.trigPending (s : State) (n : Nat) : State :=
  let st := s.dmaSt n
  let room := s.ringDist n st.next (s.get (R.DMA_TAIL_IDX n)) - st.released
  let k := min room (s.get (R.DMA_STS_TRIG_PEND n))
  (s.put (R.DMA_STS_TRIG_PEND n) (s.get (R.DMA_STS_TRIG_PEND n) - k)).setDma n fun d =>
    { d with released := d.released + k }

/-! ### The DMA pages -/

/-- DMA's own checks (R517, R530). -/
def dmaChecks : Checks := fun s _ p o v =>
  let n := p.inst
  let en := s.flag (hEN (dmaPage n))
  let nvm := s.dmaNvm n
  if o = 0x80 then
    failIf en 4
      ++ failIf ((v.bit 8 && decide (v.fld 0 2 = 0)) || (v.bit 3 && decide (v.fld 0 2 ≠ 1))) 7
  else if o = 0x88 then failIf en 4 ++ failIf (v.fld 0 6 ≠ 0) 5
  else if o = 0x8C then failIf en 4
  else if o = 0x94 then failIf nvm 4 ++ failIf (decide (s.ringSize n ≤ v.fld 0 16)) 1
  else if o = 0x98 then
    failIf (v.bit 0 && (nvm || s.get (R.DMA_CFG_MODE n) = 0 || s.flag (R.DMA_CFG_TRIG_EN n))) 4
      ++ failIf (v.bit 1 && (en || (s.dmaSt n).active.isEmpty)) 4
  else []

/-- The descriptors in progress ended at once (R517). -/
def State.dmaAbort (s : State) (n : Nat) : State :=
  let js := (s.dmaSt n).active
  let s := js.foldl (fun s j => s.dropReads n j.idx) s
  let s := js.foldl (fun s _ =>
    match (s.dmaSt n).active with
    | [] => s
    | j :: _ => if j.code.isSome then s.retire n else (s.headDone n 8 0 (s.doneBytes n j) false).retire n) s
  (s.setDma n fun d => { d with inGroup := false, groupBad := false }).put (R.DMA_CTL_ABORT n) 0

/-- What a write to a DMA register does beyond its fields. -/
def dmaEffect : Effect := fun s _ p o old v =>
  let n := p.inst
  if o = 4 ∧ v.bit 0 ∧ !old.bit 0 then
    s.setDma n fun d => { d with next := s.get (R.DMA_HEAD_IDX n), inGroup := false, groupBad := false }
  else if o = 0x94 then (s.put (R.DMA_STS_OWN_WAIT n) 0).trigPending n
  else if o = 0x98 then
    let s := if v.bit 0 then
        let k := s.ringDist n (s.dmaSt n).next (s.get (R.DMA_TAIL_IDX n))
        (s.setDma n fun d => { d with released := k }).put (R.DMA_CTL_START n) 0
      else s
    if v.bit 1 then s.dmaAbort n else s
  else s

/-- What DMA registers show: RUNNING and ACTIVE. -/
def dmaView : View := fun s _ p o =>
  if o = 0x9C then
    let k := (s.dmaSt p.inst).active.length
    some (((s.rd (p.base + o)).setFld 0 1 (b2n (decide (k ≠ 0)))).setFld 8 3 k)
  else none

/-- DMA_TAIL_WRITE: a write of TAIL (R510). -/
def execDmaTailWrite (r : Requester) (n : Fin 32) (idx : BitVec 16) (s : State) : Host.Outcome State Fault Refusal :=
  act s fun s => s.softWrite dmaChecks dmaEffect r (R.DMA_TAIL n.val) (BitVec.ofNat 32 idx.toNat)

/-- DMA_START: a write that sets CTL.START (R516). -/
def execDmaStart (r : Requester) (n : Fin 32) (s : State) : Host.Outcome State Fault Refusal :=
  act s fun s => s.softWrite dmaChecks dmaEffect r (R.DMA_CTL n.val) 1

/-- DMA_ABORT: a write that sets CTL.ABORT (R517). -/
def execDmaAbort (r : Requester) (n : Fin 32) (s : State) : Host.Outcome State Fault Refusal :=
  act s fun s => s.softWrite dmaChecks dmaEffect r (R.DMA_CTL n.val) 2

/-- DMA_TRIGGER: a pulse of the selected event-pulse output releases one descriptor, or is counted (R516). -/
def execDmaTrigger (n : Fin 32) (s : State) : Host.Outcome State Fault Refusal :=
  act s fun s =>
    let n := n.val
    let st := s.dmaSt n
    if st.trig = 0 ∨ s.dmaNvm n ∨ s.dmaMode n = 0 ∨ !s.flag (R.DMA_CFG_TRIG_EN n) then s
    else
      let s := s.setDma n fun d => { d with trig := d.trig - 1 }
      if st.released < s.ringDist n st.next (s.get (R.DMA_TAIL_IDX n)) then
        s.setDma n fun d => { d with released := d.released + 1 }
      else s.bump (R.DMA_STS_TRIG_PEND n) 1

end Sys2Proof.Machine
end

