-- ==== Sys2Proof/Machine/Net.lean ====
section
/-! DEFINITION. The NET ports (chapter 07): received frames and why they are dropped, neighbours, IST headers and their
authenticator, and datagrams sent. -/

namespace Sys2Proof.Machine

open Sys2Proof

/-- Contexts held by NVMe commands. -/
def State.nvmCtx (s : State) : Nat := (s.nvm.cmds.filter fun c => decide (c.2.sq ≠ 0)).length

/-- The page of a port. -/
def netPage (n : Nat) : Nat := 0x340000 + 0x10000 * n

/-- First event source of a port. -/
def netSrc (n : Nat) : Nat := 440 + 16 * n

/-- The port's MAC address, its own IP address of a family, and whether that address is in use. -/
def State.netMac (s : State) (n : Nat) : Nat := s.get (R.NET_MAC_LO_MAC n) + s.get (R.NET_MAC_HI_MAC n) * 2 ^ 32

/-- An IPv6 address held in four registers, byte 4w in [31:24]. -/
def State.ip6At (s : State) (off : Nat) : Nat :=
  (List.range 4).foldl (fun a w => a * 2 ^ 32 + (s.rd (off + 4 * w)).toNat) 0

def State.netIp (s : State) (n : Nat) (v6 : Bool) : Nat :=
  if v6 then s.ip6At (R.NET_IP6 n 0) else (s.rd (R.NET_IP4 n)).toNat

def State.netIpOn (s : State) (n : Nat) (v6 : Bool) : Bool :=
  if v6 then s.flag (R.NET_IP_CTL_V6_EN n) else s.flag (R.NET_IP_CTL_V4_EN n)

/-- The gateway's address and its resolved MAC (R189). -/
def State.gwIp (s : State) (n : Nat) (v6 : Bool) : Nat :=
  if v6 then s.ip6At (R.NET_GW6 n 0) else (s.rd (R.NET_GW4 n)).toNat

def State.gwMac (s : State) (n : Nat) (v6 : Bool) : Option Nat :=
  if v6 then
    if s.flag (R.NET_GW_MAC6_HI_VALID n) then some (s.get (R.NET_GW_MAC6_LO_MAC n) + s.get (R.NET_GW_MAC6_HI_MAC n) * 2 ^ 32)
    else none
  else if s.flag (R.NET_GW_MAC4_HI_VALID n) then
    some (s.get (R.NET_GW_MAC4_LO_MAC n) + s.get (R.NET_GW_MAC4_HI_MAC n) * 2 ^ 32)
  else none

def State.setGw (s : State) (n : Nat) (v6 : Bool) (mac : Option Nat) : State :=
  let m := mac.getD 0
  if v6 then
    ((s.put (R.NET_GW_MAC6_LO_MAC n) m).put (R.NET_GW_MAC6_HI_MAC n) (m / 2 ^ 32)).put (R.NET_GW_MAC6_HI_VALID n)
      (b2n mac.isSome)
  else
    ((s.put (R.NET_GW_MAC4_LO_MAC n) m).put (R.NET_GW_MAC4_HI_MAC n) (m / 2 ^ 32)).put (R.NET_GW_MAC4_HI_VALID n)
      (b2n mac.isSome)

/-- The port runs: enabled and started, and not shut by LIMP (R563). -/
def State.netRuns (s : State) (n : Nat) : Bool := s.enabled (netPage n) && s.flag (hRUNNING (netPage n)) && !s.limp

/-- The port sends, or receives. -/
def State.netTx (s : State) (n : Nat) : Bool :=
  s.netRuns n && s.flag (R.NET_MODE_TX_EN n) && s.flag (R.NET_LINK_STS_UP n)

def State.netRx (s : State) (n : Nat) : Bool :=
  s.netRuns n && s.flag (R.NET_MODE_RX_EN n) && s.flag (R.NET_LINK_STS_UP n)

/-- A frame dropped for a reason (R190). -/
def State.netDrop (s : State) (n r : Nat) : State :=
  (s.bump (R.NET_DROP_CNT n r) 1).evtB (netPage n) 0x12 1

/-- The frame is IPv6. -/
def Frame.v6 (f : Frame) : Bool := decide (f.etype = 0x86DD)

/-- The frame is ARP, or IPv6 neighbour discovery carried in ICMPv6 (R190). -/
def Frame.neigh (f : Frame) : Bool := decide (f.etype = 0x0806) || (f.v6 && decide (f.proto = 58))

/-- Why a frame is not taken (R187, R188, R190), the first reason that holds in the order of the layers; none for ARP,
neighbour discovery and datagrams to the IST port. -/
def State.frameReason (s : State) (f : Frame) : Option Nat :=
  let n := f.port.val
  let ip := f.etype = 0x86DD ∨ f.etype = 0x0800
  let tagOk : Bool := match f.tags with
    | [] => s.flag (R.NET_VLAN_UNTAG_OK n)
    | [v] => s.flag (R.NET_VLAN_TAG_EN n) && decide (v.toNat = s.get (R.NET_VLAN_VID n))
    | _ => false
  if !f.fcs then some 1
  else if !f.room then some 17
  else if f.etype = 0x8808 then some 3
  else if !tagOk then some 2
  else if f.neigh then none
  else if f.dst.toNat ≠ s.netMac n then some 0
  else if ¬ip then some 7
  else if f.dstIp.toNat ≠ s.netIp n f.v6 ∨ !s.netIpOn n f.v6 then some 0
  else if f.frag then some 4
  else if !f.hdr ∨ s.get (R.NET_MTU_MTU n) < f.ipLen then some 5
  else if f.proto ≠ 17 ∨ f.dstPort.toNat ≠ s.get R.IST_CFG_PORT then some 7
  else if f.csum = 2 ∨ (f.csum = 1 ∧ (f.v6 ∨ s.flag (R.NET_IP_CTL_CSUM4_REQ n))) then some 6
  else none

/-- The arrival of a frame counted. -/
def State.frameCount (s : State) (f : Frame) : State :=
  let n := f.port.val
  (((s.addCount (R.NET_RX_FRAMES_LO n) 1).addCount (R.NET_RX_BYTES_LO n) f.size)).evtB (netPage n) 0x11 1

/-! ### IST headers (R192) -/

/-- A message's header by its fields. -/
structure Msg where
  ver : Nat
  op : Nat
  flags : Nat
  status : Nat
  cid : Nat
  reqId : Nat
  flow : Nat
  key : Nat
  off : Nat
  len : Nat
  arg : Nat
  seq : Nat
  deriving DecidableEq, Repr

/-- Flags of a header. -/
def Msg.resp (m : Msg) : Bool := m.flags.testBit 0
def Msg.data (m : Msg) : Bool := m.flags.testBit 1
def Msg.last (m : Msg) : Bool := m.flags.testBit 2
def Msg.peer (m : Msg) : Bool := m.flags.testBit 4
def Msg.replace (m : Msg) : Bool := m.flags.testBit 5
def Msg.fin (m : Msg) : Bool := m.flags.testBit 6

/-- A big-endian number of a header. -/
def wireNum (b : Bytes) (o n : Nat) : Nat := beNat ((b.drop o).take n)

/-- The header of 64 bytes. -/
def Msg.ofBytes (b : Bytes) : Msg :=
  { ver := wireNum b 0 1 / 16, op := wireNum b 1 1, flags := wireNum b 2 1, status := wireNum b 3 1, cid := wireNum b 4 4,
    reqId := wireNum b 8 4, flow := wireNum b 12 4, key := wireNum b 16 16, off := wireNum b 32 8, len := wireNum b 40 4,
    arg := wireNum b 44 4, seq := wireNum b 48 8 }

/-- Header bytes 0 to 55. -/
def Msg.bytes (m : Msg) : Bytes :=
  beBytes 1 (m.ver * 16) ++ beBytes 1 m.op ++ beBytes 1 m.flags ++ beBytes 1 m.status ++ beBytes 4 m.cid ++ beBytes 4 m.reqId
    ++ beBytes 4 m.flow ++ beBytes 16 m.key ++ beBytes 8 m.off ++ beBytes 4 m.len ++ beBytes 4 m.arg ++ beBytes 8 m.seq

/-- Doubling in GF(2^128) of a big-endian block, for the subkeys of CMAC (SP 800-38B). -/
def cmacDbl (b : Bytes) : Bytes :=
  let v := beNat b
  beBytes 16 (if 2 ^ 127 ≤ v then (2 * v % 2 ^ 128) ^^^ 0x87 else 2 * v)

/-- The authenticator of a header's bytes 0 to 55 (R197): four AES blocks, the last padded and masked with K2. -/
def authOf (key : Bytes) (h : Bytes) : Nat :=
  let k2 := cmacDbl (cmacDbl (aesEnc key (List.replicate 16 0)))
  let pad := (h.drop 48).take 8 ++ [0x80] ++ List.replicate 7 0
  let step := fun (c b : Bytes) => aesEnc key (xorB c b)
  let c := step (step (step (List.replicate 16 0) (h.take 16)) ((h.drop 16).take 16)) ((h.drop 32).take 16)
  beNat ((step c (xorB pad k2)).take 8)

/-! ### Client keys (R198, R199) -/

/-- The client's table entry, read in one access of port 3; none where the DRAM does not give it. -/
def State.istLoad (s : State) (a n : Nat) : Option Bytes × State :=
  if !s.dramOpen then (none, s)
  else
    match s.dramLoad 3 a n with
    | (some x, s) => (some x.1, s)
    | (none, s) => (none, s)

def State.clientEntry (s : State) (cid : Nat) : Option Bytes × State :=
  s.istLoad (s.rd64 R.IST_CLT_BASE_LO % 2 ^ 37 + 64 * cid) 64

/-- The least recently used slot of the cache, the lowest on a tie. -/
def State.lruSlot (s : State) : Nat :=
  let b := s.get R.IST_KSLOT_BASE
  let age := fun (k : Nat) => ((s.ist.cache.find k).map (·.used)).getD 0
  ((List.range (s.get R.IST_KSLOT_COUNT)).map (b + ·)).foldl (fun a k => if age k < age a then k else a) b

/-- The key of a client: from the cache, or unwrapped into its least recently used slot; none where the blob fails. -/
def State.clientKey (s : State) (cid : Nat) (e : Bytes) : Option Bytes × State :=
  let gen := hdrNum e 44 4
  let use := s.ist.uses + 1
  let s := s.onIst fun x => { x with uses := use }
  match s.ist.cache.find? fun t => decide (t.2.cid = cid) && decide (t.2.gen = gen) && (s.keySlot t.1).valid with
  | some t => (some (s.keySlot t.1).key, s.onIst fun x => { x with cache := x.cache.put t.1 ⟨cid, gen, use⟩ })
  | none =>
    if s.debugOpen ∨ s.boot.noRoot then (none, s.pulse 430)
    else
      match s.unwrap ((hdrNum e 40 1).testBit 0) 1 e with
      | (.inr _, s) => (none, s.pulse 430)
      | (.inl k, s) =>
        let n := s.lruSlot
        let s := s.setKeySlot n { k with gen := nextGen (s.keySlot n).gen }
        (some k.key, s.onIst fun x => { x with cache := x.cache.put n ⟨cid, gen, use⟩ })

/-- The peer key in the slot of TGN.PKEY (R249). -/
def State.peerKey (s : State) : Option Bytes :=
  let k := s.keySlot (s.get R.TGN_PKEY_SLOT)
  if s.flag R.TGN_PKEY_VALID ∧ k.valid then some k.key else none

/-- The key under which a message to a client or member is authenticated. -/
def State.sendKey (s : State) (peer : Bool) (cid : Nat) : Option Bytes × State :=
  if peer then (s.peerKey, s)
  else
    match s.clientEntry cid with
    | (none, s) => (none, s)
    | (some e, s) => s.clientKey cid e

/-- Own member ID. -/
def State.member (s : State) : Nat := s.get R.TGN_CFG_MEMBER

/-- A message in wire form: version 1, own member ID where it goes to a member, AUTH filled in; none without a key. -/
def State.seal (s : State) (m : Msg) (peer : Bool) (payload : Bytes) : Option Bytes × State :=
  match s.sendKey peer m.cid with
  | (none, s) => (none, s)
  | (some k, s) =>
    let h := { m with ver := 1, cid := if peer then s.member else m.cid, flags := (m.flags ||| (b2n peer * 16)) }.bytes
    (some (h ++ beBytes 8 (authOf k h) ++ payload), s)

/-- A message without data waits at its port (R226). -/
def State.sendMsg (s : State) (to_ : NetAddr) (m : Msg) (peer : Bool) : State :=
  match s.seal m peer [] with
  | (none, s) => s
  | (some b, s) => s.onNet to_.port fun x => { x with ctrl := x.ctrl ++ [⟨to_, b⟩] }

/-! ### Sending (R187 to R191, R226) -/

/-- Bytes of a datagram's frame from the MAC header to the FCS, and on the wire with preamble and gap (R191). -/
def State.frameBytes (s : State) (d : Dgram) : Nat :=
  14 + (if s.flag (R.NET_VLAN_TAG_EN d.to_.port) then 4 else 0) + (if d.to_.v6 then 40 else 20) + 8 + d.data.length + 4

def State.wireBytes (s : State) (d : Dgram) : Nat := s.frameBytes d + 20

/-- Picoseconds of a byte on the line at a port's speed (R186). -/
def State.psPerByte (s : State) (n : Nat) : Nat := 20 * 2 ^ s.get (R.NET_MODE_SPEED n)

/-- Bytes of the line in a 100 µs window. -/
def State.winBytes (s : State) (n : Nat) : Nat := 5000000 / 2 ^ s.get (R.NET_MODE_SPEED n)

/-- Payload bytes of a full data packet (R191). -/
def State.dataMax (s : State) (a : NetAddr) : Nat := s.get (R.NET_MTU_MTU a.port) - (if a.v6 then 40 else 20) - 72

/-- A datagram leaves its port by the gateway of its family. -/
def State.transmit (s : State) (d : Dgram) (mac : Nat) : State :=
  let n := d.to_.port
  let tag := if s.flag (R.NET_VLAN_TAG_EN n) then some (s.get (R.NET_VLAN_VID n) + s.get (R.NET_VLAN_PCP n) * 2 ^ 13) else none
  let b := s.frameBytes d
  let t := max (s.netSt n).line (s.now * 1000) + s.wireBytes d * s.psPerByte n
  let s := s.emit (.datagram n mac tag d.to_.v6 (s.netIp n d.to_.v6) d.to_.ip (s.get R.IST_CFG_PORT) d.to_.udp
    (s.get (R.NET_IP_CTL_HOP n)) (s.get (R.NET_IP_CTL_DSCP n)) d.data)
  (((s.onNet n fun x => { x with line := t }).addCount (R.NET_TX_FRAMES_LO n) 1).addCount (R.NET_TX_BYTES_LO n) b).evtB
    (netPage n) 0x10 1

/-- The line of a port is free before the end of the present 1 µs slot. -/
def State.lineOpen (s : State) (n : Nat) : Bool := decide ((s.netSt n).line < (s.now + 1000) * 1000)

/-- Waiting messages sent in order while the line is free in this slot; one whose gateway is not resolved waits. -/
def State.sendCtrl (n : Nat) : List Dgram → State → State
  | [], s => s
  | d :: ds, s =>
    let keep := s.onNet n fun x => { x with ctrl := x.ctrl ++ [d] }
    if !s.lineOpen n then State.sendCtrl n ds keep
    else
      match s.gwMac n d.to_.v6 with
      | none => State.sendCtrl n ds keep
      | some mac => State.sendCtrl n ds (s.transmit d mac)

/-! ### Registers of the NET pages -/

/-- NET's own checks (R238 and the captions). -/
def netChecks : Checks := fun s _ p o v =>
  let n := p.inst
  let en := s.enabled (netPage n)
  if p.page = 0 then
    (if o = 0x80 then failIf (decide (v.fld 0 2 = 3)) 1 ++ failIf (en && decide (v.fld 0 2 ≠ s.get (R.NET_MODE_SPEED n))) 4
     else if o = 0x84 ∨ o = 0x88 ∨ o = 0x8C then failIf en 4
     else [])
  else if p.page = 1 then
    if o = 0xAC then failIf (v.bit 15 && (decide (v.fld 0 12 = 0) || decide (v.fld 0 12 = 4095))) 1 else []
  else []

/-- What a write to a NET register does beyond its fields: the wake token is kept. -/
def netEffect : Effect := fun s _ p o _ v =>
  if p.page = 1 ∧ o = 0xC8 then s.onNet p.inst fun x => { x with tok := x.tok / 2 ^ 32 * 2 ^ 32 + v.toNat }
  else if p.page = 1 ∧ o = 0xCC then s.onNet p.inst fun x => { x with tok := x.tok % 2 ^ 32 + v.toNat * 2 ^ 32 }
  else s

/-- What NET registers show: flows on the wheel. -/
def netView : View := fun s _ p o =>
  if p.page = 2 ∧ o = 0x88 then
    some (BitVec.ofNat 32 (s.ist.flows.filter fun f =>
      decide (f.2.addr.port = p.inst) && decide (f.2.snd.why = 0) && decide (f.2.snd.len ≠ 0) && !f.2.snd.ended).length)
  else none

/-! ### Links and neighbours -/

/-- ARP_REQUEST: a request for an address; the port answers for its own (R189). -/
def execArpRequest (n : Fin 2) (v6 : Bool) (target : BitVec 128) (mac : BitVec 48) (ip : BitVec 128) (s : State) :
    Host.Outcome State Fault Refusal :=
  act s fun s =>
    if s.netRx n.val ∧ s.netTx n.val ∧ s.netIpOn n.val v6 ∧ target.toNat = s.netIp n.val v6 then
      s.emit (.neighReply n.val v6 mac.toNat ip.toNat (s.netMac n.val) (s.netIp n.val v6))
    else s

/-- GATEWAY_REPLY: a neighbour reply resolves or changes a gateway's MAC (R189, source 443). -/
def execGatewayReply (n : Fin 2) (v6 : Bool) (ip : BitVec 128) (mac : BitVec 48) (s : State) :
    Host.Outcome State Fault Refusal :=
  act s fun s =>
    if s.netRx n.val ∧ ip.toNat = s.gwIp n.val v6 then
      let s := s.onNet n.val fun x => if v6 then { x with ask6 := false } else { x with ask4 := false }
      if s.gwMac n.val v6 = some mac.toNat then s else (s.setGw n.val v6 (some mac.toNat)).pulse (netSrc n.val + 3)
    else s

/-- One gateway asked for: one that has not answered the last request has stopped answering. -/
def State.neighAsk (s : State) (n : Nat) (v6 : Bool) : State :=
  if !s.netIpOn n v6 then s
  else
    let late := if v6 then (s.netSt n).ask6 else (s.netSt n).ask4
    let s := if late ∧ (s.gwMac n v6).isSome then (s.setGw n v6 none).pulse (netSrc n + 3) else s
    (s.onNet n fun x => if v6 then { x with ask6 := true } else { x with ask4 := true }).emit (.neighAsk n v6 (s.gwIp n v6))

/-- A port that sends asks for both its gateways. -/
def State.gatewayAsk (s : State) (n : Nat) : State := if s.netTx n then (s.neighAsk n false).neighAsk n true else s

/-- NEIGH_REFRESH: the port resolves GW4 and GW6 (R189). -/
def execNeighRefresh (n : Fin 2) (s : State) : Host.Outcome State Fault Refusal :=
  act s fun s => s.gatewayAsk n.val

/-- NET_LINK_UP: every lane in use is aligned and the FEC locked (R239). -/
def execNetLinkUp (n : Fin 2) (sig : BitVec 4) (s : State) : Host.Outcome State Fault Refusal :=
  act s fun s =>
    if s.netRuns n.val ∧ !s.flag (R.NET_LINK_STS_UP n.val) then
      (((((s.put (R.NET_LINK_STS_UP n.val) 1).put (R.NET_LINK_STS_FEC_LOCK n.val) 1).put (R.NET_LINK_STS_SIG n.val)
        sig.toNat).put (R.NET_LINK_STS_SPEED n.val) (s.get (R.NET_MODE_SPEED n.val))).pulse (netSrc n.val)).gatewayAsk n.val
    else s

/-- A port's link goes down. -/
def State.netDown (s : State) (n sig : Nat) : State :=
  if s.flag (R.NET_LINK_STS_UP n) then
    (((((s.put (R.NET_LINK_STS_UP n) 0).put (R.NET_LINK_STS_FEC_LOCK n) 0).put (R.NET_LINK_STS_SIG n) sig).bump
      (R.NET_LINK_CNT_DOWN n) 1).pulse (netSrc n + 1))
  else s

/-- NET_LINK_DOWN (R239). -/
def execNetLinkDown (n : Fin 2) (sig : BitVec 4) (s : State) : Host.Outcome State Fault Refusal :=
  act s fun s => s.netDown n.val sig.toNat

/-- FEC_UNCORRECTABLE_CODEWORD (R239). -/
def execFecUncorrectableCodeword (n : Fin 2) (s : State) : Host.Outcome State Fault Refusal :=
  act s fun s =>
    if s.flag (R.NET_LINK_STS_UP n.val) then (s.addCount (R.NET_FEC_UNC_LO n.val) 1).pulse (netSrc n.val + 2) else s

end Sys2Proof.Machine
end

