-- ==== Sys2Proof/Machine/Esc.lean ====
section
/-! DEFINITION. The Escapement governor (chapter 11): its arithmetic, the sample of a window, budgets and caps, pins, the
trace buffer, and the registers the BMC reaches over SMBus. -/

namespace Sys2Proof.Machine

open Sys2Proof

/-- Page 0 of ESC. -/
def escPage : Nat := 0x70000

/-! ### Arithmetic (R367) -/

/-- A register read as a signed Q16.16 number. -/
def State.rdQ (s : State) (off : Nat) : Int := (s.rd off).toInt

/-- A signed number put into a register. -/
def State.wrQ (s : State) (off : Nat) (v : Int) : State := s.wr off (BitVec.ofInt 32 v)

/-- A quotient rounded to nearest, ties away from zero. -/
def rnd (n : Int) (d : Nat) : Int :=
  let q : Int := (((2 * n.natAbs + d) / (2 * d) : Nat) : Int)
  if n < 0 then -q else q

/-- A result with the number of saturations on the way to it. -/
abbrev Sat := Int × Nat

/-- Saturation to the Q16.16 range. -/
def satQ (v : Int) : Sat :=
  if 2147483647 < v then (2147483647, 1) else if v < -2147483648 then (-2147483648, 1) else (v, 0)

/-- A Q32.32 number rounded to Q16.16 and saturated. -/
def roundQ (v : Int) : Sat := satQ (rnd v 65536)

/-- One step of the 64-bit accumulator, which saturates at its own range. -/
def accum (a : Sat) (p : Int) : Sat :=
  let v := a.1 + p
  if 9223372036854775807 < v then (9223372036854775807, a.2 + 1)
  else if v < -9223372036854775808 then (-9223372036854775808, a.2 + 1) else (v, a.2)

/-- A dot product on top of a start value, exact in the accumulator and rounded once. -/
def dotQ (start : Int) (cs xs : List Int) : Sat :=
  let a := ((cs.zip xs).map fun p => p.1 * p.2).foldl accum (start, 0)
  let r := roundQ a.1
  (r.1, a.2 + r.2)

/-- A quotient of two Q16.16 numbers; a divisor of 0 gives the largest positive value. -/
def divQ (a b : Int) : Sat :=
  if b = 0 then (2147483647, 0)
  else satQ (rnd (if b < 0 then -(a * 65536) else a * 65536) b.natAbs)

/-- The range of an integrator (R373), in Q32. -/
def limitInt (v : Int) : Int :=
  if 12884901888 < v then 12884901888 else if v < -8589934592 then -8589934592 else v

/-! ### The sample -/

/-- What a sample has computed: measurements y0, y1 (none where not valid), w, I_FLASH, P_BOARD, the estimates, the errors,
and the saturations so far. -/
structure EscSample where
  y0 : Int
  y0ok : Bool
  y1 : Option Int
  w : List Int
  iflash : Int
  board : Int
  xh : List Int
  e : List Int
  sat : Nat
  deriving DecidableEq, Repr

/-- Entry `i` of a list of numbers. -/
def nth (xs : List Int) (i : Nat) : Int := xs.getD i 0

/-- The highest TEMP_MAX among the channels with a sample, as Q16.16 (y1). -/
def State.hottest (s : State) : Option Int :=
  (List.range 32).foldl (fun (b : Option Int) n =>
    match s.tempMax n with
    | none => b
    | some t =>
      let v : Int := ((tempKey t.1 : Int) - 128) * 65536
      match b with
      | none => some v
      | some x => some (if x < v then v else x)) none

/-- The board cap in W as Q16.16, none where neither party sets one (R370). -/
def State.boardCap (s : State) : Option Int :=
  let h := s.get R.ESC_HOST_CAP_CAP
  let b := s.get R.ESC_BMC_CAP_CAP
  let c := if h = 0 then b else if b = 0 then h else min h b
  if c = 0 then none else some (rnd ((c : Int) * 65536) 10)

/-- The error of loop 3 (R370). -/
def State.errPower (s : State) (pkg board : Int) : Sat :=
  let a := divQ pkg (rnd ((s.get R.ESC_PS_CAP_CAP : Int) * 65536) 100)
  let b : Sat := match s.boardCap with
    | none => (a.1, 0)
    | some c => divQ board c
  let m := satQ (65536 - (if a.1 < b.1 then b.1 else a.1))
  (m.1, a.2 + b.2 + m.2)

/-- The rows of the model's matrices. -/
def State.escRow (s : State) (base row n : Nat) : List Int := (List.range n).map fun j => s.rdQ (base + 4 * (n * row + j))

/-- The model, the observer and the loop errors on latched measurements (R368, R370). -/
def State.escObserve (s : State) (y0 : Int) (y0ok : Bool) (pkg iflash : Int) : EscSample :=
  let y1 := if s.esc.y1new ∧ s.flag R.ESC_MEAS_CFG_Y1_EN then s.hottest else none
  let w1 := roundQ (s.rdQ R.ESC_FLASH_V * iflash)
  let w := [pkg, w1.1, s.rdQ R.ESC_T_AMB, 65536]
  let board := satQ (pkg + w1.1 + s.rdQ R.ESC_BOARD_OFS)
  let x := (List.range 8).map fun i => s.rdQ (R.ESC_X i)
  let xp := (List.range 8).map fun i => dotQ 0 (s.escRow (R.ESC_A 0) i 8 ++ s.escRow (R.ESC_B 0) i 4) (x ++ w)
  let xm := xp.map Prod.fst
  let cx := (List.range 2).map fun i => dotQ 0 (s.escRow (R.ESC_C 0) i 8) xm
  let nu0 : Sat := if y0ok then satQ (y0 - nth (cx.map Prod.fst) 0) else (0, 0)
  let nu1 : Sat := match y1 with
    | some y => satQ (y - nth (cx.map Prod.fst) 1)
    | none => (0, 0)
  let xh := (List.range 8).map fun i => dotQ (nth xm i * 65536) (s.escRow (R.ESC_L 0) i 2) [nu0.1, nu1.1]
  let xs := xh.map Prod.fst
  let e1 := satQ (s.rdQ R.ESC_T_J_LIM - nth xs 0)
  let e2 := satQ (s.rdQ R.ESC_T_DIE_LIM - nth xs 3)
  let e3 := s.errPower pkg board.1
  let e4 := satQ (s.rdQ R.ESC_I_FLASH_LIM - iflash)
  { y0 := y0, y0ok := y0ok, y1 := y1, w := w, iflash := iflash, board := board.1, xh := xs, e := [e1.1, e2.1, e3.1, e4.1],
    sat := w1.2 + board.2 + ((xp ++ cx ++ xh).map Prod.snd).sum + nu0.2 + nu1.2 + e1.2 + e2.2 + e3.2 + e4.2 }

/-- The saturations of a sample counted (R367, R388). -/
def State.escSat (s : State) (n : Nat) : State :=
  (List.range n).foldl (fun s _ => ((s.bump R.ESC_CNT_SAT 1).evtB escPage 0x12 1).pulse 45) s

/-- Junction temperature as the LOC byte of a THERMAL fault (R550). -/
def tjByte (y : Int) : Nat := ((y / 65536) % 256).toNat

/-- The T_J_CRIT pin (R381). -/
def State.escCrit (s : State) (m : EscSample) : State :=
  let x0 := nth m.xh 0
  let crit := s.rdQ R.ESC_T_J_CRIT
  let low := crit - s.rdQ R.ESC_BAND_HYST
  if !s.flag R.ESC_STS_CRIT then
    if crit ≤ x0 ∨ (m.y0ok ∧ crit ≤ m.y0) then
      ((s.put R.ESC_STS_CRIT 1).pulse 43).raise .esc 0 0x0A .u (tjByte m.y0 * 256)
    else s
  else if m.y0ok ∧ x0 < low ∧ m.y0 < low then s.put R.ESC_STS_CRIT 0
  else s

/-- Sensor loss judged at a sample (R369); `age` is the time since a thermal sensor last reported. -/
def State.escSensors (s : State) (ok : Bool) (age : Nat) : State :=
  if !s.flag R.ESC_STS_SENS_LOST then
    if 10 ^ 6 ≤ age then
      (((s.put R.ESC_STS_SENS_LOST 1).onEsc fun x => { x with good := 0 }).pulse 46).raise .esc 0 0x0B .u 0
    else s
  else
    let g := if ok then s.esc.good + 1 else 0
    let s := s.onEsc fun x => { x with good := g }
    if 16 ≤ g then s.put R.ESC_STS_SENS_LOST 0 else s

/-- The pinned output, if there is a pin (R381). -/
def State.escPin (s : State) : Option Int :=
  if s.limp ∨ s.flag R.ESC_STS_CRIT ∨ s.flag R.ESC_STS_SENS_LOST then some 0
  else if s.get R.ESC_CTL_MODE = 1 then some (s.rdQ R.ESC_U_MAN)
  else none

/-- The band bit after a sample (R375). -/
def State.escBand (s : State) (x0 : Int) : Nat :=
  let t := s.rdQ R.ESC_BAND_T
  if t ≤ x0 then 1 else if x0 < t - s.rdQ R.ESC_BAND_HYST then 0 else s.esc.hband

/-- The gain region (R375). -/
def State.escRegion (s : State) (h : Nat) : Nat := (if s.get R.ESC_PS_CAP_CAP = 5200 then 0 else 2) + h

/-- Gains of a region: proportional and integral, loop 1 to 4. -/
def State.escKp (s : State) (r : Nat) : List Int :=
  (List.range 4).map fun k => s.rdQ (0x71080 + 0x20 * r + 8 * k)
def State.escKi (s : State) (r : Nat) : List Int :=
  (List.range 4).map fun k => s.rdQ (0x71084 + 0x20 * r + 8 * k)

/-- The loop is enabled (R371): loop k + 1. -/
def State.loopOn (s : State) (k : Nat) : Bool := decide (k = 0) || (s.rd R.ESC_LOOP_EN).bit k

/-- A loop is held in saturation (R373): Kp·e + I and e. -/
def loopHeld (v e : Int) : Bool :=
  (decide (4294967296 ≤ v) && decide (0 < e)) || (decide (v ≤ 0) && decide (e < 0))

/-- A list with entry `i` changed. -/
def setNth (xs : List Int) (i : Nat) (v : Int) : List Int := xs.set i v

/-- The integrators before the selection: set up at the first sample of the loops (R382), or the last winner's own step,
where neither the region changed nor a pin holds (R373, R381). -/
def State.escIntegrate (s : State) (m : EscSample) (kp ki : List Int) (still : Bool) : List Int :=
  if s.esc.fresh then
    (List.range 4).map fun k => limitInt (s.rdQ R.ESC_U_INIT * 65536 - nth kp k * nth m.e k)
  else
    let win := s.get R.ESC_STS_WINNER
    if still ∧ win ≠ 0 then
      let k := win - 1
      if loopHeld (nth kp k * nth m.e k + nth s.esc.ints k) (nth m.e k) then s.esc.ints
      else setNth s.esc.ints k (limitInt (nth s.esc.ints k + rnd (nth ki k * nth m.e k) 10000))
    else s.esc.ints

/-- The output of a loop (R371). -/
def State.escLoop (s : State) (m : EscSample) (kp ints : List Int) (k : Nat) : Sat :=
  if !s.loopOn k then (65536, 0)
  else
    let r := roundQ (nth kp k * nth m.e k + nth ints k)
    (if r.1 < 0 then 0 else if 65536 < r.1 then 65536 else r.1, r.2)

/-- The winner (R372): the enabled loop with the lowest output below 1; the present winner keeps its place on a tie. -/
def State.escPick (s : State) (us : List Int) : Nat :=
  let win := s.get R.ESC_STS_WINNER
  let low : Int := (List.range 4).foldl (fun (b : Int) k => if s.loopOn k ∧ nth us k < b then nth us k else b) 65536
  if low = 65536 then 0
  else if win ≠ 0 ∧ s.loopOn (win - 1) ∧ nth us (win - 1) = low then win
  else
    match (List.range 4).find? fun k => s.loopOn k && decide (nth us k = low) with
    | some k => k + 1
    | none => 0

/-- The count towards CAP_UNMET (R380). -/
def State.escCapRun (s : State) (win : Nat) (u e3 : Int) : State :=
  if 0 ≤ e3 then
    ((s.onEsc fun x => { x with capRun := 0 }).put R.ESC_STS_CAP_UNMET 0).setLevel 42 false
  else if win = 3 ∧ u = 0 then
    let n := s.esc.capRun + 1
    let s := s.onEsc fun x => { x with capRun := n }
    if 1000 ≤ n then (s.put R.ESC_STS_CAP_UNMET 1).setLevel 42 true else s
  else s.onEsc fun x => { x with capRun := 0 }

/-- Budgets and caps from the output (R376), to be applied at the next boundary (R15, R365). -/
def State.escBudgets (s : State) (u : Int) : State :=
  let lo := s.get R.ESC_BUD_CFG_MIN_CRED
  let b := lo + u.toNat * (s.get R.ESC_BUD_CFG_FULL_CRED - lo) / 65536
  let el := s.get R.ESC_EGR_MIN_BYTES
  let e := el + u.toNat * (s.get R.ESC_EGR_FULL_BYTES - el) / 65536
  let e0 := e / 2 ^ s.get (R.NET_MODE_SPEED 0)
  let e1 := e / 2 ^ s.get (R.NET_MODE_SPEED 1)
  let s := (List.range 8).foldl (fun s g => s.put (R.ESC_BUDGET_CRED g) b) s
  let s := (s.put (R.ESC_EGR_OUT_BYTES 0) e0).put (R.ESC_EGR_OUT_BYTES 1) e1
  s.onEsc fun x => { x with bud := some b, egr := some (e0, e1) }

/-- Loops, selection, back-calculation and output of a sample (R371 to R374, R381): the state, with U outputs of the loops. -/
def State.escLoops (s : State) (m : EscSample) (reg : Nat) (regChg : Bool) : State × List Int :=
  let kp := s.escKp reg
  let ki := s.escKi reg
  let pin := s.escPin
  let release := s.esc.wasPinned && pin.isNone
  let uPrev := if s.esc.fresh then s.rdQ R.ESC_U_INIT else s.esc.uPrev
  let ints := s.escIntegrate m kp ki (!regChg && pin.isNone && !s.esc.wasPinned)
  let us := (List.range 4).map fun k => s.escLoop m kp ints k
  let u0 := us.map Prod.fst
  let win := s.escPick u0
  let old := s.get R.ESC_STS_WINNER
  let back : Bool := decide (win ≠ 0) && pin.isNone && (decide (win ≠ old) || regChg || release)
  let k := win - 1
  let ints := if back then setNth ints k (limitInt (uPrev * 65536 - nth kp k * nth m.e k)) else ints
  let u1 := if back then setNth u0 k uPrev else u0
  let u : Int := match pin with
    | some v => v
    | none => if win = 0 then 65536 else nth u1 k
  let s := s.escSat ((us.map Prod.snd).sum)
  let s := if win ≠ old then ((s.bump R.ESC_CNT_WIN 1).evtB escPage 0x11 1).pulse 40 else s
  let s := s.put R.ESC_STS_WINNER win
  let s := s.put R.ESC_STS_PINNED (b2n pin.isSome)
  let s := s.wrQ R.ESC_U_OUT u
  let s := s.onEsc fun x => { x with ints := ints, uPrev := u, fresh := false, wasPinned := pin.isSome }
  let s := (List.range 4).foldl (fun s k => (s.wrQ (R.ESC_E k) (nth m.e k)).wrQ (R.ESC_I k) (satQ (rnd (nth ints k) 65536)).1) s
  ((s.escCapRun win u (nth m.e 2)).escBudgets u, u1)

/-! ### The trace (R384 to R386) -/

/-- A node's value as 32 bits. -/
def State.traceNode (s : State) (m : EscSample) (us : List Int) (c : Nat) : Nat :=
  let q (v : Int) : Nat := (BitVec.ofInt 32 v).toNat
  if c = 0 then 0
  else if c ≤ 8 then q (nth m.xh (c - 1))
  else if c ≤ 0x0C then q (nth m.w (c - 9))
  else if c = 0x0D then q m.y0
  else if c = 0x0E then (match m.y1 with | some y => q y | none => 0x80000000)
  else if c ≤ 0x13 then (s.rd (R.ESC_E (c - 0x10))).toNat
  else if c ≤ 0x17 then q (nth us (c - 0x14))
  else if c ≤ 0x1B then (s.rd (R.ESC_I (c - 0x18))).toNat
  else if c = 0x1C then (s.rd R.ESC_U_OUT).toNat
  else if c = 0x1D then
    s.get R.ESC_STS_WINNER + s.get R.ESC_STS_REGION * 16 + s.get R.ESC_STS_PINNED * 256
  else if c ≤ 0x27 then s.get (R.ESC_BUDGET_CRED (c - 0x20))
  else s.get (R.ESC_EGR_OUT_BYTES (c - 0x28))

/-- Recording ends: DONE sets and ARM clears (R385). -/
def State.traceDone (s : State) : State :=
  ((((s.put R.ESC_TRC_STS_DONE 1).put R.ESC_TRC_CTL_ARM 0).put R.ESC_TRC_STS_ARMED 0).onEsc fun x =>
    { x with trig := false, post := none }).pulse 44

/-- One entry recorded, and what the trigger makes of it (R385). -/
def State.traceEntry (s : State) (row : List Nat) : State :=
  let i := s.get R.ESC_TRC_STS_WR_IDX
  let s := (s.onEsc fun x => { x with trace := SMap.put x.trace i row, decim := 2 ^ s.get R.ESC_TRC_CTL_DEC - 1 }).put
    R.ESC_TRC_STS_WR_IDX (i + 1)
  if !s.flag R.ESC_TRC_CTL_MODE then (if i = 16383 then s.traceDone else s)
  else
    match s.esc.post with
    | some n => if n ≤ 1 then s.traceDone else s.onEsc fun x => { x with post := some (n - 1) }
    | none =>
      if s.esc.trig then
        let s := (s.put R.ESC_TRC_TRIG_IDX_IDX i).put R.ESC_TRC_STS_TRIGGERED 1
        let n := s.get R.ESC_TRC_CTL_POST
        if n = 0 then s.traceDone else s.onEsc fun x => { x with trig := false, post := some n }
      else s

/-- What a sample does for the trace: a trigger of its own, and an entry every 2^DEC samples. -/
def State.traceSample (s : State) (m : EscSample) (us : List Int) (winChg regChg : Bool) : State :=
  if !s.flag R.ESC_TRC_CTL_ARM then s.put R.ESC_TRC_CTL_TRIG_NOW 0
  else
    let t := s.get R.ESC_TRC_CTL_TRIG
    let hit : Bool := s.flag R.ESC_TRC_CTL_TRIG_NOW || (decide (t = 1) && winChg) || (decide (t = 2) && regChg)
    let s := s.put R.ESC_TRC_CTL_TRIG_NOW 0
    let s := if hit then s.onEsc fun x => { x with trig := true } else s
    if s.esc.decim ≠ 0 then s.onEsc fun x => { x with decim := x.decim - 1 }
    else
      s.traceEntry ((List.range 8).map fun k =>
        s.traceNode m us ((s.rd (if k < 4 then R.ESC_TRC_SEL_0 else R.ESC_TRC_SEL_1)).fld (8 * (k % 4)) 8))

/-! ### One window -/

/-- One sample of the governor (R365 to R383). -/
def State.escSample (s : State) (y0 : Int) (age : Nat) (pkg iflash : Int) : State :=
  let ok : Bool := decide (age ≤ 50000)
  let m := s.escObserve y0 ok pkg iflash
  let s := (s.escSat m.sat).evtB escPage 0x10 1
  let s := s.put R.ESC_STS_RUNNING 1
  let warm : Bool := decide (s.esc.warm ≠ 0)
  let s := s.put R.ESC_STS_WARMING (b2n warm)
  let s := if ok then s.wrQ R.ESC_TJ y0 else s
  let s : State := match m.y1 with | some y => s.wrQ R.ESC_TDIE y | none => s
  let s := ((s.wrQ R.ESC_P_PKG pkg).wrQ R.ESC_I_FLASH iflash).wrQ R.ESC_P_BOARD m.board
  let s := (s.wrQ R.ESC_EST_TJ (nth m.xh 0)).wrQ R.ESC_EST_DIE (nth m.xh 3)
  let s := (List.range 8).foldl (fun s i => s.wrQ (R.ESC_X i) (nth m.xh i)) s
  let s := s.onEsc fun x => { x with y1new := false }
  let s := (s.escCrit m).escSensors ok age
  if warm then
    (s.onEsc fun x => { x with warm := x.warm - 1 }).traceSample m [65536, 65536, 65536, 65536] false false
  else
    let h := s.escBand (nth m.xh 0)
    let reg := s.escRegion h
    let regChg : Bool := decide (reg ≠ s.get R.ESC_STS_REGION)
    let s := if regChg then (s.put R.ESC_STS_REGION reg).pulse 41 else s
    let s := s.onEsc fun x => { x with hband := h }
    let old := s.get R.ESC_STS_WINNER
    let p := s.escLoops m reg regChg
    p.1.traceSample m p.2 (decide (p.1.get R.ESC_STS_WINNER ≠ old)) regChg

/-- The budget written to the pools and the cap of the ports take effect (R15), every pool is refilled (R73), and each
port has its cap and its share of the line anew (R230). -/
def State.windowRefill (s : State) : State :=
  let s : State := match s.esc.bud with
    | some b => (List.range 32).foldl (fun s n => s.put (R.CHAN_BUDGET_GRP_BUDGET n) b) s
    | none => s
  let s : State := match s.esc.egr with
    | some e => (s.put (R.NET_EGR_CAP_BYTES 0) e.1).put (R.NET_EGR_CAP_BYTES 1) e.2
    | none => s
  let s := s.onEsc fun x => { x with bud := none, egr := none }
  let s := (List.range 32).foldl (fun s n =>
    let c := s.chanSt n
    let s := s.put (R.CHAN_BUDGET_GRP_LEFT n) (s.get (R.CHAN_BUDGET_GRP_BUDGET n))
    let s := (s.put (R.CHAN_SPENT_LAST n) c.spent).put (R.CHAN_SPENT_WAITED n) (min 65535 c.refused)
    s.onChan n fun c => { c with spent := 0, refused := 0, ops := c.ops.map fun o => { o with waited := false } }) s
  let s := [0, 1].foldl (fun (s : State) n =>
    let cap := s.get (R.NET_EGR_CAP_BYTES n)
    let share := (256 - s.get (R.NET_PACE_CFG_CTRL_RSV n)) * s.winBytes n / 256
    s.onNet n fun x => { x with cap := cap, newB := share, hit := false }) s
  s.onRdp fun x => { x with patBytes := 0 }

/-- WINDOW_BOUNDARY (R365): the window begins; a running governor takes its sample. `y0` is the highest junction reading,
`age` the ns since a sensor last reported, `pkg` and `iflash` the means of the last window in Q16.16. -/
def execWindowBoundary (y0 : Word) (age : Nat) (pkg iflash : Word) (s : State) : Host.Outcome State Fault Refusal :=
  act s fun s =>
    if 2 ≤ s.cur then s
    else
      let s := s.windowRefill
      if s.flag R.ESC_CTL_RUN ∧ s.flag (hRUNNING escPage) ∧ s.pwr.step ≠ .settle then s.escSample y0.toInt age pkg.toInt iflash.toInt
      else (s.put R.ESC_STS_RUNNING 0).put R.ESC_STS_WARMING 0

/-- The samples begin again after a sleep (R383). -/
def State.escWake (s : State) : State :=
  if s.flag R.ESC_CTL_RUN then s.onEsc fun x => { x with warm := s.get R.ESC_CTL_WARM } else s

/-! ### Registers -/

/-- A node code that TRC_SEL takes (R384). -/
def nodeLegal (c : Nat) : Bool :=
  decide (c ≤ 0x0E) || (decide (0x10 ≤ c) && decide (c ≤ 0x1D)) || (decide (0x20 ≤ c) && decide (c ≤ 0x29))

/-- ESC's own checks (R381, R382, R386, the limits' and budgets' tables). -/
def escChecks : Checks := fun s _ p o v =>
  if p.page = 0 then
    failIf (decide (o = 0x80) && s.limp && decide (v.fld 1 2 ≠ s.get R.ESC_CTL_MODE)) 4
      ++ failIf (decide (o = 0x94) && decide (s.rdQ R.ESC_T_J_CRIT ≤ v.toInt)) 1
      ++ failIf (decide (o = 0x98) && decide (v.toInt ≤ s.rdQ R.ESC_T_J_LIM)) 1
      ++ failIf (decide (o = 0xBC) && decide (v.fld 16 16 ≤ v.fld 0 16)) 7
      ++ failIf (decide (o = 0xC0) && decide (s.get R.ESC_EGR_FULL_BYTES ≤ v.fld 0 23)) 7
      ++ failIf (decide (o = 0xC4) && decide (v.fld 0 23 ≤ s.get R.ESC_EGR_MIN_BYTES)) 7
  else if p.page = 2 then failIf (decide (0x80 ≤ o) && s.flag R.ESC_CTL_RUN) 4
  else if p.page = 3 then
    let armed := s.flag R.ESC_TRC_CTL_ARM
    failIf (armed && decide (o = 0x80) && decide (v &&& 0xFFFFFFFC ≠ s.rd R.ESC_TRC_CTL &&& 0xFFFFFFFC)) 4
      ++ failIf (armed && (decide (o = 0x84) || decide (o = 0x88) || decide (o = 0x94))) 4
      ++ failIf ((decide (o = 0x84) || decide (o = 0x88))
          && (List.range 4).any fun k => !nodeLegal (v.fld (8 * k) 8)) 1
  else []

/-- What a write to an ESC register does beyond its fields (R382, R385). -/
def escEffect : Effect := fun s _ p o old v =>
  if p.page = 0 ∧ o = 0x80 then
    if v.bit 0 ∧ !old.bit 0 then s.onEsc fun x => { x with warm := v.fld 8 8, fresh := true } else s
  else if p.page = 3 ∧ o = 0x80 then
    if v.bit 0 ∧ !old.bit 0 then
      ((((s.put R.ESC_TRC_CTL_TRIG_NOW 0).put R.ESC_TRC_STS_ARMED 1).put R.ESC_TRC_STS_TRIGGERED 0).put
        R.ESC_TRC_STS_WR_IDX 0).onEsc fun x => { x with trace := [], decim := 0, trig := false, post := none }
    else s
  else s

/-- TRC_RD_w shows the entry at TRC_RD_IDX; positions not yet written read 0 (R385). -/
def escView : View := fun s _ p o =>
  if p.page = 3 ∧ 0xA0 ≤ o ∧ o < 0xC0 then
    some (BitVec.ofNat 32 (((SMap.find s.esc.trace (s.get R.ESC_TRC_RD_IDX_IDX)).getD []).getD ((o - 0xA0) / 4) 0))
  else none

/-- GOVERNOR_RUN: a write of CTL with RUN as given (R382). -/
def execGovernorRun (r : Requester) (run : Bool) (s : State) : Host.Outcome State Fault Refusal :=
  act s fun s => s.softWrite escChecks escEffect r R.ESC_CTL ((s.rd R.ESC_CTL).setFld 0 1 (b2n run))

/-- GOVERNOR_MODE: a write of CTL with MODE as given (R381). -/
def execGovernorMode (r : Requester) (mode : BitVec 2) (s : State) : Host.Outcome State Fault Refusal :=
  act s fun s => s.softWrite escChecks escEffect r R.ESC_CTL ((s.rd R.ESC_CTL).setFld 1 2 mode.toNat)

/-- TRACE_ARM: a write of TRC_CTL that sets ARM beside the other fields of `v` (R385). -/
def execTraceArm (r : Requester) (v : Word) (s : State) : Host.Outcome State Fault Refusal :=
  act s fun s => s.softWrite escChecks escEffect r R.ESC_TRC_CTL (v.setFld 0 1 1)

/-- TRACE_TRIGGER: a write of TRC_CTL that sets TRIG_NOW and leaves the other fields (R385, R386). -/
def execTraceTrigger (r : Requester) (s : State) : Host.Outcome State Fault Refusal :=
  act s fun s => s.softWrite escChecks escEffect r R.ESC_TRC_CTL (((s.rd R.ESC_TRC_CTL).setFld 0 1 0).setFld 1 1 1)

end Sys2Proof.Machine
end

