-- ==== Sys2Proof/Machine/Events.lean ====
section
/-! DEFINITION. The EVC pages and the event commands of chapter 02 (R46 to R51, R583, R585). -/

namespace Sys2Proof.Machine

open Sys2Proof

/-- EVC's own checks: auto-clear and a core line exclude each other (R49). -/
def evcChecks : Checks := fun _ _ p o v =>
  failIf (decide (p.page = 1) && decide (0x80 ≤ o) && v.bit 21 && v.bit 15) 7

/-- A snapshot of the eight global counters (R51). -/
def State.snapshot (s : State) : State :=
  let s := (List.range 8).foldl (fun s k => s.wr64 (R.EVC_GSNAP_LO k) (s.count (R.EVC_GCNT_LO k))) s
  s.put R.EVC_EVC_CTL_SNAP 0

/-- Level sources among the cleared bits of PEND_w that are still active set their bits again (R47). -/
def State.repend (s : State) (w : Nat) (cleared : Word) : State :=
  (List.range 32).foldl (fun s b =>
    if cleared.bit b ∧ s.flag (levelRef (32 * w + b)) then s.pendSet (32 * w + b) else s) s

/-- What a write to an EVC register does beyond its fields. -/
def evcEffect : Effect := fun s _ p o old v =>
  if p.page = 0 then
    if o = 0x80 then (if v.bit 0 then s.snapshot else s)
    else if o = 0x300 then s.pulse (512 + v.fld 0 7)
    else s
  else if p.page = 1 then s.intaRefresh
  else if 0x80 ≤ o ∧ o < 0xD0 then (s.repend ((o - 0x80) / 4) (old &&& v)).intaRefresh
  else s

/-- EVENT_RAISE: a source pulses, or a level source takes a level (R47). -/
def execEventRaise (src : Fin 640) (on : Bool) (s : State) : Host.Outcome State Fault Refusal :=
  act s fun s =>
    if isLevel src.val then s.setLevel src.val on
    else if on then s.pulse src.val else s

/-- PEND_CLEAR: a write of ones to PEND_w (R47). -/
def execPendClear (r : Requester) (w : Fin 20) (v : Word) (s : State) : Host.Outcome State Fault Refusal :=
  act s fun s => s.softWrite evcChecks evcEffect r (R.EVC_PEND w.val) v

/-- SNAP: a write that sets EVC_CTL.SNAP (R51). -/
def execSnap (r : Requester) (s : State) : Host.Outcome State Fault Refusal :=
  act s fun s => s.softWrite evcChecks evcEffect r R.EVC_EVC_CTL 1

/-- SW_RAISE: a write of an index to SW_RAISE pulses source 512 + index (R46). -/
def execSwRaise (r : Requester) (i : Fin 128) (s : State) : Host.Outcome State Fault Refusal :=
  act s fun s => s.softWrite evcChecks evcEffect r R.EVC_SW_RAISE (BitVec.ofNat 32 i.val)

end Sys2Proof.Machine
end

