-- ==== Sys2Proof/Machine/Flow.lean ====
section
/-! DEFINITION. Flows (chapter 07): contexts, reading, pacing, acknowledgement and retransmission. -/

namespace Sys2Proof.Machine

open Sys2Proof

/-! ### Contexts and flow indexes (R22, R201 to R203) -/

/-- The FLOW_ID of a flow. -/
def flowId (i : Nat) (f : Flow) : Nat := i + f.eng * 2 ^ 17 + f.gen * 2 ^ 21

def State.setFlow (s : State) (i : Nat) (f : Flow) : State := s.onIst fun x => { x with flows := x.flows.put i f }

/-- The live flow that a message names by its FLOW_ID, of the message's sender (R195 step 8). -/
def State.flowOf (s : State) (m : Msg) : Option (Nat × Flow) :=
  match s.ist.flows.find (m.flow % 2 ^ 17) with
  | some f =>
    if f.eng = m.flow / 2 ^ 17 % 16 ∧ f.gen = m.flow / 2 ^ 21 ∧ f.cid = m.cid ∧ f.peer = m.peer then some (m.flow % 2 ^ 17, f)
    else none
  | none => none

/-- The flow that the controller started towards a member with a request number. -/
def State.flowAsked (s : State) (m : Msg) : Option (Nat × Flow) :=
  s.ist.flows.find? fun f => f.2.peer && decide (f.2.cid = m.cid) && decide (f.2.reqId = m.reqId) &&
    (match f.2.kind with
     | .shardIn _ _ | .shareOut _ | .epochOut _ => true
     | _ => false)

/-- The lowest free flow index from `k` on. -/
def freeIndex : Nat → SMap Flow → Nat
  | k, [] => k
  | k, (i, _) :: m => if i = k then freeIndex (k + 1) m else k

/-- Contexts held by the segment service, and free ones of the pool of 65,536 (R22). -/
def State.istCtx (s : State) : Nat := (s.ist.flows.filter fun f => f.2.ctx).length

def State.ctxFree (s : State) : Nat := 65536 - s.istCtx - s.nvmCtx

/-- A flow opened; none while no index is free. -/
def State.openFlow (s : State) (f : Flow) : Option (Nat × State) :=
  let i := freeIndex 0 s.ist.flows
  if 131072 ≤ i then none
  else
    let g := (s.ist.gens.get (fun _ => 0) i + 1) % 2048
    some (i, (s.onIst fun x => { x with gens := x.gens.set (fun _ => 0) i g }).setFlow i { f with gen := g })

/-- A flow freed with its context and the slots it holds. -/
def State.closeFlow (s : State) (i : Nat) : State :=
  match s.ist.flows.find i with
  | none => s
  | some f =>
    let s := (f.snd.slots.map (·.2) ++ f.rcv.slots.map (·.2)).foldl (fun s k => s.freeSlot k) s
    s.onIst fun x => { x with flows := x.flows.del i }

/-! ### Responses -/

/-- A response without data to a request: RESP and LAST, a status and an argument. -/
def State.reply (s : State) (to_ : NetAddr) (m : Msg) (status arg : Nat) : State :=
  let s := if status = 3 then (s.addCount R.IST_BUSY_LO 1).evtB 0x310000 0x11 1 else s
  s.sendMsg to_ { m with flags := 5, status := status, off := 0, len := 0, arg := arg, seq := 0 } m.peer

/-- The header of a message about a flow. -/
def Flow.msg (i : Nat) (f : Flow) (op flags : Nat) : Msg :=
  ⟨1, op, flags, 0, f.cid, f.reqId,
    match f.kind with
    | .shardIn _ _ | .shareOut _ | .epochOut _ => f.remote
    | _ => flowId i f,
    f.key, 0, 0, 0, 0⟩

/-- The one response with which the controller ends a flow (R205, R225, R235). -/
def State.endFlow (s : State) (i status : Nat) : State :=
  match s.ist.flows.find i with
  | none => s
  | some f => (s.sendMsg f.addr { f.msg i f.op 5 with status := status } f.peer).closeFlow i

/-- A flow aborted (R225). -/
def State.abortFlow (s : State) (i : Nat) : State :=
  ((s.endFlow i 9).addCount R.IST_ABORTED_LO 1).pulse 427

/-! ### Rates (R227 to R229) -/

/-- A rate limit in Mb/s. -/
def State.rateLimit (s : State) (x : Snd) : Nat :=
  let a := min x.adv (10 * s.get R.IST_RATE_CFG_FLOW_CAP)
  if x.cap = 0 then a else min a (100 * x.cap)

def State.rateNow (s : State) (x : Snd) : Nat := min x.rate (s.rateLimit x)

/-- The present time in 1/256 µs. -/
def State.now256 (s : State) : Nat := s.now * 256 / 1000

/-- A sender as a flow starts: rate in Mb/s and window in bytes as the request asks, 0 for INIT_RATE and INIT_WIN. -/
def State.newSnd (s : State) (pre : Bytes) (iu start len rate win cap : Nat) : Snd :=
  let x : Snd := { Snd.none_ with
    pre := pre, iu := iu, start := start, len := len, next := start / 4096
    adv := if rate = 0 then 10 * s.get R.IST_RATE_CFG_INIT_RATE else rate
    win := if win = 0 then 4096 * s.get R.IST_WIN_CFG_INIT_WIN else win
    cap := cap, srtt := 10000 * s.get R.IST_RTO_CFG_RTT_INIT, due := s.now256 }
  { x with rate := s.rateLimit x, why := if x.adv = 0 ∨ x.win = 0 then 3 else 0 }

/-- A loss is declared: the rate halves at most once per round trip (R229). -/
def State.rateCut (s : State) (x : Snd) : Snd :=
  if s.now < x.change + x.srtt ∧ x.change ≠ 0 then { x with clean := false }
  else { x with rate := max (s.get R.IST_RATE_CFG2_MIN_RATE) (s.rateNow x / 2), change := s.now, clean := false }

/-- An ACK a round trip after the last rate change with no loss declared since: the rate grows. -/
def State.rateGrow (s : State) (x : Snd) : Snd :=
  if x.change + x.srtt ≤ s.now then
    if x.clean then
      { x with rate := min (s.rateLimit x) (s.rateNow x + s.get R.IST_RATE_CFG2_AI_STEP), change := s.now }
    else { x with clean := true }
  else x

/-! ### Units of a sender -/

/-- Units (4 KiB) that a sender reads from the object: first, and one past the last. -/
def Snd.lastUnit (x : Snd) : Nat := cdiv (x.start + (x.len - x.pre.length)) 4096

/-- Offset in the flow of a unit's first byte, and of the byte after its last. -/
def Snd.unitOff (x : Snd) (u : Nat) : Nat := x.pre.length + (4096 * u - x.start)
def Snd.unitEnd (x : Snd) (u : Nat) : Nat := min x.len (x.pre.length + (4096 * (u + 1) - x.start))

/-- Bytes that the flow can send: up to the first unreadable unit (R220). -/
def Snd.end_ (x : Snd) : Nat := match x.bad with
  | some u => min x.len (x.unitOff u)
  | none => x.len

/-- Sent bytes that are not acknowledged. -/
def Snd.unacked (x : Snd) : Nat := (x.pkts.filter fun p => !p.2.acked).foldl (fun a p => a + p.2.len) 0

/-- The units that a stretch of the flow takes bytes from. -/
def Snd.unitsOf (x : Snd) (off n : Nat) : List Nat :=
  if off + n ≤ x.pre.length ∨ n = 0 then []
  else
    let a := x.start + (off - x.pre.length)
    let b := x.start + (off + n - x.pre.length)
    (List.range (cdiv b 4096 - a / 4096)).map (a / 4096 + ·)

/-- The stretch is in staging. -/
def Snd.staged (x : Snd) (off n : Nat) : Bool := (x.unitsOf off n).all fun u => (x.slots.find u).isSome

/-- Staged slots read in order, cut to the stretch; none where a slot holds an uncorrectable word. -/
def State.readUnits (x : Snd) : List Nat → State → Option Bytes × State
  | [], s => (some [], s)
  | u :: us, s =>
    match s.readSlot ((x.slots.find u).getD 0) with
    | (none, s) => (none, s)
    | (some d, s) =>
      match State.readUnits x us s with
      | (none, s) => (none, s)
      | (some r, s) => (some (d.1 ++ r), s)

/-- The bytes of a stretch. -/
def State.stretch (s : State) (x : Snd) (off n : Nat) : Option Bytes × State :=
  let head := (x.pre.drop off).take n
  let us := x.unitsOf off n
  match State.readUnits x us s with
  | (none, s) => (none, s)
  | (some b, s) =>
    let a := x.start + (off - x.pre.length)
    (some (head ++ (b.drop (a - 4096 * (us.headD 0))).take (n - head.length)), s)

/-- Slots whose every byte has been acknowledged are freed (R223). -/
def State.freeAcked (s : State) (x : Snd) : Snd × State :=
  let held := fun (u : Nat) => decide (x.off < x.unitEnd u)
    || x.pkts.any fun p => !p.2.acked && (x.unitsOf p.2.off p.2.len).contains u
  let gone := x.slots.filter fun e => !held e.1
  ({ x with slots := x.slots.filter fun e => held e.1 }, gone.foldl (fun s e => s.freeSlot e.2) s)

/-! ### Reading (R217, R218, R223) -/

/-- A 4 KiB unit put into a free staging slot; none while none is free. -/
def State.stage (s : State) (o : SlotOwner) (d : Bytes) : Option (Nat × State) :=
  match s.freeSlots 1 with
  | k :: _ => some (k, (s.setSlot k { StgSlot.free with owner := o }).setWords k 0 ((d ++ List.replicate 4096 0).take 4096) false)
  | [] => none

/-- A unit that is not read from flash: zeros, or the content of a parity IU in the share buffer (R253) once the stored IU has
been added to it. -/
def State.memUnit (s : State) (iu u : Nat) : Option Bytes :=
  match s.tgn.par.find iu with
  | some p => if p.base.isSome then none else some ((p.data.drop (4096 * (u % 16))).take 4096)
  | none => some []

/-- Units of an IU read for a flow: the entry looked up, and the units read from flash, or from peers where it is REMOTE; an
unmapped IU reads as zeros, and a LOST or uncorrectable entry makes the first of them unreadable. -/
def State.readIu (s : State) (i : Nat) (f : Flow) (us : List Nat) : State :=
  let x := f.snd
  let u0 := us.headD 0
  match s.mapLookup 0 (x.iu + u0 / 16) with
  | (e, s) =>
    let bad := fun (s : State) => s.setFlow i { f with snd := { x with bad := some (min u0 (x.bad.getD u0)) } }
    match e with
    | none => bad s
    | some e =>
      let psa := entPsa e
      let s' := s.setFlow i { f with snd := { x with wait := x.wait ++ us.map fun u => (u, psa + u % 16) } }
      if entState e = 0 ∨ (s.tgn.par.find (x.iu + u0 / 16)).isSome then
        s.setFlow i { f with snd := { x with wait := x.wait ++ us.map fun u => (u, 2 ^ 37) } }
      else if entState e = 1 then us.foldl (fun s u => s.issueRead (.flow i) none (psa + u % 16) 1 0 0) s'
      else if entState e = 3 then us.foldl (fun s u => s.remoteRead (.flow i) (psa + u % 16) 1) s'
      else bad s

/-- The next units a flow reads: those of its next IU, or of an IU that a retransmission needs again (R223). -/
def Snd.nextUnits (x : Snd) : List Nat :=
  let again := (x.retx.flatMap fun p => match x.pkts.find p with
    | some k => (x.unitsOf k.off k.len).filter fun u => (x.slots.find u).isNone && !(x.wait.any fun w => decide (w.1 = u))
    | none => [])
  match again with
  | u :: _ => again.filter fun v => decide (v / 16 = u / 16)
  | [] =>
    if x.next < x.lastUnit ∧ x.bad.isNone then
      (List.range (min x.lastUnit ((x.next / 16 + 1) * 16) - x.next)).map (x.next + ·)
    else []

/-- The projected time at which the pacer sends the first byte of a unit, in 1/256 µs. -/
def State.projected (s : State) (x : Snd) (u : Nat) : Nat :=
  x.due + (x.unitOff u - x.off) * 8 * 256 / max 1 (s.rateNow x)

/-- FLOW_READ_ISSUE's conditions (R217). -/
def State.mayRead (s : State) (x : Snd) (us : List Nat) : Bool :=
  let free := 16384 - s.stgUsed
  decide (s.projected x (us.headD 0) ≤ s.now256 + 256 * s.get R.IST_STAGE_CFG_READ_LEAD)
    && decide (x.slots.length + 16 ≤ s.get R.IST_FLOW_CFG_FLOW_SLOTS)
    && decide (s.get R.IST_STAGE_CFG_LOW_WATER + 16 < free) && decide (s.rateNow x ≠ 0)

/-- The flow has no more to read: its context is free (R203). -/
def State.ctxDone (s : State) (i : Nat) : State :=
  match s.ist.flows.find i with
  | none => s
  | some f =>
    let x := f.snd
    if f.ctx ∧ x.wait.isEmpty ∧ (x.lastUnit ≤ x.next ∨ x.bad.isSome) ∧ x.nextUnits.isEmpty
        ∧ (f.kind = .get ∨ f.kind = .shardOut) then
      s.setFlow i { f with ctx := false }
    else s

/-- A unit that arrives for a flow: decrypted into a slot, or unreadable (R218, R220). -/
def State.unitArrives (s : State) (i : Nat) (f : Flow) (u psa : Nat) (d : Option Bytes) : Bool × State :=
  let x := { f.snd with wait := f.snd.wait.filter fun w => decide (w ≠ (u, psa)) }
  let bad := fun (s : State) => (true, s.setFlow i { f with snd := { x with bad := some (min u (x.bad.getD u)) } })
  match d with
  | none => bad s
  | some d =>
    match s.cipher (.atRest 0 true ((x.iu + u / 16) * 16 + u % 16)) d with
    | (none, s) => bad s
    | (some p, s') =>
      match s'.stage (.flow i) p with
      | none => (false, s)
      | some (k, s) => (true, s.setFlow i { f with snd := { x with slots := x.slots.put u k } })

/-- Units delivered by the read path taken into staging: those of the flows that satisfy a predicate. -/
def State.flowArrivals (ok : Flow → Bool) : List Got → State → State
  | [], s => s
  | g :: gs, s =>
    let keep := s.onRdp fun x => { x with got := x.got ++ [g] }
    match g.who with
    | .flow i =>
      match s.ist.flows.find i with
      | none => State.flowArrivals ok gs s
      | some f =>
        match f.snd.wait.find? fun w => decide (w.2 = g.psa) with
        | none => State.flowArrivals ok gs s
        | some w =>
          if !ok f then State.flowArrivals ok gs keep
          else
            match s.unitArrives i f w.1 g.psa g.data with
            | (true, s) => State.flowArrivals ok gs (s.ctxDone i)
            | (false, _) => State.flowArrivals ok gs keep
    | _ => State.flowArrivals ok gs keep

/-- Units that do not come from flash are staged. -/
def State.zeroUnits (s : State) : State :=
  s.ist.flows.foldl (fun s e => (e.2.snd.wait.filter fun w => decide (w.2 = 2 ^ 37)).foldl (fun s w =>
    match s.ist.flows.find e.1, s.memUnit (e.2.snd.iu + w.1 / 16) w.1 with
    | some f, some d =>
      match s.stage (.flow e.1) d with
      | some (k, s) => (s.setFlow e.1 { f with snd := { f.snd with
          wait := f.snd.wait.filter fun v => decide (v ≠ w), slots := f.snd.slots.put w.1 k } }).ctxDone e.1
      | none => s
    | _, _ => s) s) s

/-- What the read path has delivered goes to the flows; a flow that left the wheel for its data takes it at
FLOW_DATA_STAGED. -/
def State.flowTake (s : State) (all : Bool) : State :=
  let gs := s.rdp.got
  (State.flowArrivals (fun f => all || decide (f.snd.why ≠ 1)) gs (s.onRdp fun x => { x with got := [] })).zeroUnits

/-! ### Sending data (R219, R220, R226, R230) -/

/-- The flow sends an epoch message. -/
def Flow.isEpoch (f : Flow) : Bool := match f.kind with
  | .epochOut _ => true
  | _ => false

/-- The data packet of a stretch of a flow in wire form; an epoch's OFFSET is the root's device time, which the flow keeps as
the length of what it receives (R266). -/
def State.dataPacket (s : State) (i : Nat) (f : Flow) (psn off : Nat) (d : Bytes) (retx : Bool) : Option Bytes × State :=
  let x := f.snd
  let last := decide (off + d.length = x.len)
  let serve := decide (f.kind = .get) || decide (f.kind = .shardOut)
  let first := decide (psn = 0) && serve
  let flags := b2n first + 2 + b2n last * 4 + b2n retx * 8
  let objOff := if f.kind = .get then x.start + off else if f.isEpoch then f.rcv.len else off
  s.seal { f.msg i f.op flags with off := objOff, len := if first then x.len else d.length, seq := psn } f.peer d

/-- The port may still send `n` payload bytes in this window (R230). -/
def State.capOpen (s : State) (p n : Nat) : Bool := decide (n ≤ (s.netSt p).cap)

/-- A window in which EGR_CAP keeps a packet back counts once. -/
def State.capHit (s : State) (p : Nat) : State :=
  if (s.netSt p).hit then s
  else (s.onNet p fun x => { x with hit := true }).bump (R.NET_PACE_LATE_CAPPED p) 1

/-- A data packet goes out: the cap is charged, and the flow's next turn follows its bytes at its rate. -/
def State.sendData (s : State) (i : Nat) (f : Flow) (x : Snd) (b : Bytes) (n at256 mac : Nat) (retx : Bool) : State :=
  let p := f.addr.port
  let d : Dgram := ⟨f.addr, b⟩
  let w := s.wireBytes d
  let s := (s.transmit d mac).onNet p fun y => { y with cap := y.cap - n, newB := if retx then y.newB else y.newB - w }
  let s := (s.addCount R.IST_PAYLOAD_LO n)
  let s := if retx then (s.addCount R.IST_RETX_LO 1).evtB 0x310000 0x13 1 else s
  s.setFlow i { f with snd := { x with due := at256 + n * 8 * 256 / max 1 (s.rateNow x) } }

/-- The line's next free moment in 1/256 µs, not before the present slot. -/
def State.lineAt (s : State) (p : Nat) : Nat := cdiv (max (s.netSt p).line (s.now * 1000) * 256) 1000000

/-- One retransmission of a flow, whose bytes are staged (R223, R226). -/
def State.sendRetx (s : State) (i : Nat) : State :=
  match s.ist.flows.find i with
  | none => s
  | some f =>
    let p := f.addr.port
    match f.snd.retx, s.gwMac p f.addr.v6 with
    | psn :: rest, some mac =>
      match f.snd.pkts.find psn with
      | none => s.setFlow i { f with snd := { f.snd with retx := rest } }
      | some k =>
        if !s.lineOpen p ∨ !f.snd.staged k.off k.len then s
        else if !s.capOpen p k.len then s.capHit p
        else
          match s.stretch f.snd k.off k.len with
          | (none, s) => s.abortFlow i
          | (some d, s) =>
            let r := if k.len = 0 then
                s.seal { f.msg i f.op (1 + 4 + 8) with status := 4, off := f.snd.start + k.off, seq := psn } f.peer []
              else s.dataPacket i f psn k.off d true
            match r with
            | (none, s) => s
            | (some b, s) =>
              let x := { f.snd with retx := rest, pkts := f.snd.pkts.put psn { k with at_ := s.now, times := k.times + 1 } }
              s.sendData i f x b k.len (s.lineAt p) mac true
    | _, _ => s

/-- The bytes of a flow's next packet (R191). -/
def State.nextLen (s : State) (f : Flow) : Nat := min (s.dataMax f.addr) (f.snd.end_ - f.snd.off)

/-- The due flow at the head of a port: on the wheel, with data to send, and due in this slot; the oldest due time first, the
lowest index on a tie. -/
def State.headFlow (s : State) (p : Nat) : Option (Nat × Flow) :=
  (s.ist.flows.filter fun e => decide (e.2.addr.port = p) && decide (e.2.snd.why = 0) && decide (e.2.snd.off < e.2.snd.end_)
      && decide (e.2.snd.due * 1000 < (s.now + 1000) * 256) && (s.gwMac p e.2.addr.v6).isSome).foldl
    (fun a e => match a with
      | none => some e
      | some b => if e.2.snd.due < b.2.snd.due then some e else a) none

/-- Lateness of a flow, in µs, kept as the greatest since the last read. -/
def State.late (s : State) (p due at256 : Nat) : State :=
  let l := min 65535 ((at256 - due) / 256)
  if s.get (R.NET_PACE_LATE_LATE_MAX p) < l then s.put (R.NET_PACE_LATE_LATE_MAX p) l else s

/-- Due flows sent one packet per turn while the port can send within the slot; a flow without its data or beyond its window
leaves the wheel (R217, R226). -/
def State.sendDue (p : Nat) : Nat → State → State
  | 0, s => s
  | fuel + 1, s =>
    match s.headFlow p with
    | none => s
    | some (i, f) =>
      let n := s.nextLen f
      let x := f.snd
      if s.rateNow x = 0 then State.sendDue p fuel (s.setFlow i { f with snd := { x with why := 3 } })
      else if !x.staged x.off n then State.sendDue p fuel (s.setFlow i { f with snd := { x with why := 1 } })
      else if x.win < x.unacked + n then State.sendDue p fuel (s.setFlow i { f with snd := { x with why := 2 } })
      else if !s.lineOpen p then s
      else if !s.capOpen p n then s.capHit p
      else
        match s.stretch x x.off n, s.gwMac p f.addr.v6 with
        | (some d, s), some mac =>
          match s.dataPacket i f x.psn x.off d false with
          | (some b, s) =>
            if (s.netSt p).newB < s.wireBytes ⟨f.addr, b⟩ then s
            else
              let t := max x.due (s.lineAt p)
              let y := { x with
                off := x.off + n, psn := x.psn + 1, ended := x.ended || decide (x.off + n = x.len)
                pkts := x.pkts.put x.psn ⟨x.off, n, s.now, 1, false, false⟩ }
              State.sendDue p fuel ((s.late p x.due t).sendData i f y b n t mac false)
          | (none, s) => State.sendDue p fuel (s.closeFlow i)
        | (none, s), _ => State.sendDue p fuel (s.abortFlow i)
        | (some _, s), none => s

/-- The pacers are at rest during a brace, in BRACED and in LIMP (R231). -/
def State.paced (s : State) : Bool := decide (s.get R.PLJ_PF_STS_STATE = 0) && !s.limp

/-- A pacer slot of a port (R226): retransmissions, messages without data, due flows. -/
def State.pacerSlot (s : State) (p : Nat) : State :=
  if !s.netTx p ∨ !s.paced then s
  else
    let s := (s.ist.flows.filter fun e => decide (e.2.addr.port = p)).foldl (fun s e => s.sendRetx e.1) s
    let ctrl := (s.netSt p).ctrl
    let s := State.sendCtrl p ctrl (s.onNet p fun x => { x with ctrl := [] })
    State.sendDue p 1024 s

/-! ### Acknowledgement (R221 to R225) -/

/-- PSNs that an ACK with CUM `c` and a bitmap shows as received. -/
def ackShows (c bm psn : Nat) : Bool := decide (psn < c) || (decide (c < psn) && bm.testBit (psn - c - 1))

/-- The round trip of an ACK that advances CUM over packets sent once. -/
def rttSample (now c : Nat) (x : Snd) : Option Nat :=
  let new := x.pkts.filter fun p => !p.2.acked && decide (p.1 < c)
  if new.all fun p => decide (p.2.times = 1) then new.getLast?.map fun p => now - p.2.at_ else none

/-- An ACK applied to a sender: packets, round trip, losses declared, rate. -/
def State.ackSnd (s : State) (x : Snd) (cum bm : Nat) : Snd :=
  let adv := decide (x.cum < cum)
  let c := if adv then min cum x.psn else min cum x.cum
  let x := match if adv then rttSample s.now c x else none with
    | some t => { x with srtt := if x.srtt ≤ t then x.srtt + (t - x.srtt) / 8 else x.srtt - (x.srtt - t) / 8 }
    | none => x
  let x := { x with
    pkts := (x.pkts.map fun (p : Nat × Pkt) => (p.1, { p.2 with acked := p.2.acked || ackShows c bm p.1 })).filter
      fun (p : Nat × Pkt) => !p.2.acked || decide (max c x.cum ≤ p.1)
    cum := max x.cum c
    expiries := if adv then 0 else x.expiries }
  let above := fun (p : Nat) => (x.pkts.filter fun (q : Nat × Pkt) => decide (p < q.1) && q.2.acked).length
  let lost : List Nat :=
    (x.pkts.filter fun (p : Nat × Pkt) => !p.2.acked && !p.2.declared && decide (3 ≤ above p.1)).map (·.1)
  let x := { x with
    pkts := x.pkts.map fun (p : Nat × Pkt) => if lost.contains p.1 then (p.1, { p.2 with declared := true }) else p
    retx := (x.retx ++ lost).filter fun (p : Nat) => match SMap.find x.pkts p with
      | some k => !k.acked
      | none => false }
  if lost.isEmpty then s.rateGrow x else s.rateCut x

/-- A flow that left the wheel for its window returns when the window is open again (R226). -/
def State.rewheel (s : State) (f : Flow) : Flow :=
  let x := f.snd
  if x.why = 2 ∧ x.unacked + s.nextLen f ≤ x.win then { f with snd := { x with why := 0, due := max x.due s.now256 } }
  else if x.why = 3 ∧ x.adv ≠ 0 ∧ x.win ≠ 0 then { f with snd := { x with why := 0, due := max x.due s.now256 } }
  else f

/-- An ACK for a sending flow (R221 to R224): with its last packet acknowledged, or with FIN, the flow ends. -/
def State.ackFlow (s : State) (i : Nat) (f : Flow) (m : Msg) : State :=
  let x := s.ackSnd f.snd (m.seq % 2 ^ 32) m.off
  let done := m.fin || (x.ended && x.pkts.all fun p => p.2.acked)
  match s.freeAcked x with
  | (x, s) =>
    let s := s.setFlow i (s.rewheel { f with snd := x })
    if done ∧ (f.kind = .get ∨ f.kind = .shardOut ∨ m.fin ∨ f.isEpoch) then
      s.closeFlow i
    else s

/-- The retransmission timer of a flow expires (R222, R225). -/
def State.rtoFlow (s : State) (i : Nat) (f : Flow) : State :=
  let x := f.snd
  match x.pkts.find? fun p => !p.2.acked with
  | none => s
  | some p =>
    if s.get R.IST_RTO_CFG_RETX_MAX ≤ x.expiries + 1 then s.abortFlow i
    else
      let x := { x with
        expiries := x.expiries + 1
        retx := if x.retx.contains p.1 then x.retx else p.1 :: x.retx }
      s.setFlow i { f with snd := s.rateCut x }

/-- Bytes received without a gap from the start. -/
def Rcv.low (r : Rcv) : Nat := match r.have_ with
  | (0, b) :: _ => b
  | _ => 0

/-- The window of a receiver in wire form goes to the sender (R228, R232, R233). -/
def State.sendCredit (s : State) (i : Nat) (f : Flow) (rate win : Nat) : State :=
  (s.setFlow i { f with rcv := { f.rcv with adv := win, win := max f.rcv.win (f.rcv.low + win) } }).sendMsg f.addr
    { f.msg i 6 0 with off := win, arg := rate } f.peer

/-- An ACK of what has been received (R221). -/
def State.sendAck (s : State) (i : Nat) (f : Flow) : State :=
  let r := f.rcv
  let bm := r.above.foldl (fun a p => if p ≤ r.cum + 64 then a ||| 2 ^ (p - r.cum - 1) else a) 0
  s.sendMsg f.addr { f.msg i 5 0 with off := bm, seq := r.cum } f.peer

/-! ### Receiving (R221, R233) -/

/-- A range joined to a list of disjoint ranges in rising order. -/
def addRange (a b : Nat) : List (Nat × Nat) → List (Nat × Nat)
  | [] => [(a, b)]
  | (c, d) :: rs =>
    if b < c then (a, b) :: (c, d) :: rs
    else if d < a then (c, d) :: addRange a b rs
    else addRange (min a c) (max b d) rs

/-- The range is covered. -/
def covers (rs : List (Nat × Nat)) (a b : Nat) : Bool := rs.any fun r => decide (r.1 ≤ a) && decide (b ≤ r.2)

/-- The lowest PSN not received after one more, and those above it. -/
def takePsn (psn cum : Nat) (above : List Nat) : Nat × List Nat :=
  let l := if psn < cum then above else insertNat psn above
  l.foldl (fun (a : Nat × List Nat) p => if p = a.1 then (a.1 + 1, a.2.filter fun q => decide (q ≠ p)) else a) (cum, l)

/-- Bytes stored in the staging slots of a receiving flow; the first copy of a byte is kept.  False while a slot is wanted
and none is free. -/
def State.storeBytes (i : Nat) (old : List (Nat × Nat)) : Nat → Nat → Bytes → State → Bool × State
  | 0, _, _, s => (true, s)
  | fuel + 1, off, d, s =>
    if d.isEmpty then (true, s)
    else
      match s.ist.flows.find i with
      | none => (true, s)
      | some f =>
        let u := off / 4096
        let n := min d.length (4096 - off % 4096)
        let go := fun (k : Nat) (s : State) =>
          let e := s.slot k
          let data := (e.data ++ List.replicate 4096 0).take 4096
          let new := (d.take n).zipIdx.map fun b =>
            if old.any fun r => decide (r.1 ≤ off + b.2) && decide (off + b.2 < r.2) then data.getD (off % 4096 + b.2) 0 else b.1
          State.storeBytes i old fuel (off + n) (d.drop n)
            (s.setWords k 0 (data.take (off % 4096) ++ new ++ data.drop (off % 4096 + n)) false)
        match f.rcv.slots.find u with
        | some k => go k s
        | none =>
          match s.stage (.put i) [] with
          | none => (false, s)
          | some (k, s) => go k (s.setFlow i { f with rcv := { f.rcv with slots := f.rcv.slots.put u k } })

/-- A data packet for a receiving flow: stored within its length and window, acknowledged after every 4 packets and when a
gap fills; otherwise dropped with reason 12. -/
def State.recvData (s : State) (i : Nat) (f : Flow) (port : Nat) (off psn : Nat) (d : Bytes) : Bool × State :=
  let r := f.rcv
  if r.len < off + d.length ∨ r.win < off + d.length then (false, s.netDrop port 12)
  else
    match State.storeBytes i r.have_ (d.length / 4096 + 2) off d s with
    | (false, s) => (false, s.netDrop port 12)
    | (true, s) =>
      match s.ist.flows.find i with
      | none => (false, s)
      | some f =>
        let t := takePsn psn f.rcv.cum f.rcv.above
        let filled := decide (f.rcv.cum + 1 < t.1)
        let n := f.rcv.sinceAck + 1
        let f := { f with rcv := { f.rcv with
          have_ := if d.isEmpty then f.rcv.have_ else addRange off (off + d.length) f.rcv.have_
          cum := t.1, above := t.2, sinceAck := if 4 ≤ n ∨ filled then 0 else n, last := s.now } }
        let f := { f with rcv := { f.rcv with win := max f.rcv.win (f.rcv.low + f.rcv.adv) } }
        let s := s.setFlow i f
        (true, if 4 ≤ n ∨ filled then s.sendAck i f else s)

/-! ### Eviction (R17, R224) -/

/-- The oldest evictable slot: a unit of content that has been sent and not acknowledged. -/
def State.evictable (s : State) : Option (Nat × Nat × Nat) :=
  let cand := s.ist.flows.flatMap fun e =>
    if e.2.kind = .get ∨ e.2.kind = .shardOut then
      (e.2.snd.slots.filter fun u => decide (e.2.snd.unitEnd u.1 ≤ e.2.snd.off)).map fun u =>
        (e.1, u.1, ((e.2.snd.pkts.filter fun p => (e.2.snd.unitsOf p.2.off p.2.len).contains u.1).map (·.2.at_)).foldl min s.now)
    else []
  cand.foldl (fun a c => match a with
    | none => some c
    | some b => if c.2.2 < b.2.2 then some c else a) none

/-- Slots evicted, oldest first, until LOW_WATER are free. -/
def State.evict : Nat → State → State
  | 0, s => s
  | fuel + 1, s =>
    if s.get R.IST_STAGE_CFG_LOW_WATER ≤ 16384 - s.stgUsed then s
    else
      match s.evictable with
      | none => s
      | some (i, u, _) =>
        match s.ist.flows.find i with
        | none => s
        | some f =>
          let s := s.freeSlot ((f.snd.slots.find u).getD 0)
          let s := s.setFlow i { f with snd := { f.snd with slots := f.snd.slots.del u } }
          State.evict fuel ((s.addCount R.IST_EVICTED_LO 1).evtB 0x310000 0x14 1)

end Sys2Proof.Machine
end

