-- ==== Sys2Proof/Machine/Index.lean ====
section
/-! DEFINITION. The object index (chapter 07): entries, lookup and insert, extents and extent sets, segment copies, and the
commands of the IST page. -/

namespace Sys2Proof.Machine

open Sys2Proof

/-- An entry (R207); KEY is the object key with its flags. -/
structure IdxEnt where
  key : Nat
  iu : Nat
  len : Nat
  cls : Nat
  state : Nat
  rset : Nat
  wtime : Nat
  deriving DecidableEq, Repr

def IdxEnt.ofBytes (b : Bytes) : IdxEnt :=
  { key := hdrNum b 0 8 * 2 ^ 64 + hdrNum b 8 1 * 2 ^ 56 + hdrNum b 9 4 * 2 ^ 24 + hdrNum b 13 3
    iu := hdrNum b 16 5 % 2 ^ 33, len := hdrNum b 21 4, cls := hdrNum b 25 1 % 128, state := hdrNum b 26 1 % 4
    rset := hdrNum b 27 1, wtime := hdrNum b 28 4 }

def IdxEnt.bytes (e : IdxEnt) : Bytes :=
  leBytes 8 (e.key / 2 ^ 64) ++ leBytes 1 (e.key / 2 ^ 56) ++ leBytes 4 (e.key / 2 ^ 24) ++ leBytes 3 e.key
    ++ leBytes 5 (e.iu % 2 ^ 33) ++ leBytes 4 e.len ++ leBytes 1 (e.cls % 128) ++ leBytes 1 (e.state % 4) ++ leBytes 1 e.rset
    ++ leBytes 4 e.wtime

/-- The entry is VALID or WRITING. -/
def IdxEnt.live (e : IdxEnt) : Bool := decide (e.state = 1) || decide (e.state = 2)

/-- IUs of an object (R207). -/
def IdxEnt.ius (e : IdxEnt) : Nat := cdiv e.len 65536

/-- Buckets (R206), and the address of an entry by its number. -/
def State.idxNb (s : State) : Nat := 2 ^ s.get R.IST_IDX_CFG_LOG2_NB
def State.idxBase (s : State) : Nat := s.rd64 R.IST_IDX_BASE_LO % 2 ^ 37

/-- The entries that a lookup of a key examines, in order. -/
def State.probes (s : State) (key : Nat) : List Nat :=
  let h := crc32c (leBytes 8 (key / 2 ^ 64) ++ leBytes 1 (key / 2 ^ 56) ++ leBytes 4 (key / 2 ^ 24))
  (List.range (s.get R.IST_IDX_CFG_PROBE)).flatMap fun i =>
    let b := (h + i) % s.idxNb
    [2 * b, 2 * b + 1]

/-- An entry read in one access; none where the DRAM does not give it. -/
def State.idxRead (s : State) (n : Nat) : Option IdxEnt × State :=
  match s.istLoad (s.idxBase + 32 * n) 32 with
  | (some b, s) => (some (IdxEnt.ofBytes b), s)
  | (none, s) => (none, s)

/-- What a lookup finds. -/
inductive Look where
  | found (n : Nat) (e : IdxEnt)
  | miss
  | failed
  deriving DecidableEq, Repr

/-- The entries examined up to the first EMPTY one or the first match (R206). -/
def State.lookLoop (key : Nat) : List Nat → State → Look × State
  | [], s => (.miss, s)
  | n :: ns, s =>
    match s.idxRead n with
    | (none, s) => (.failed, s)
    | (some e, s) =>
      if e.state = 0 then (.miss, s)
      else if e.live ∧ e.key / 2 ^ 24 = key / 2 ^ 24 then (.found n e, s)
      else State.lookLoop key ns s

def State.idxLook (s : State) (key : Nat) : Look × State := State.lookLoop key (s.probes key) (s.evtB 0x310000 0x15 1)

/-- A change of an index segment counted: the segment is dirty (R211). -/
def State.idxDirty (s : State) (seg : Nat) : State :=
  let no := s.ist.changes + 1
  s.onIst fun x => { x with
    changes := no
    dirty := if x.dirty.any (fun d => decide (d.1 = seg)) then
        x.dirty.map fun (d : Nat × Nat × Nat) => if d.1 = seg then (seg, d.2.1, no) else d
      else x.dirty ++ [(seg, s.now, no)] }

/-- An entry written in one access; ENTRIES follows. -/
def State.idxWrite (s : State) (n : Nat) (e : IdxEnt) : State :=
  let old := IdxEnt.ofBytes (getBytes s.mem.dram (s.idxBase + 32 * n) 32)
  match s.dramStore 3 (s.idxBase + 32 * n) e.bytes false with
  | (_, s) =>
    let c := s.get R.IST_IDX_STS_ENTRIES + b2n e.live - b2n old.live
    (s.put R.IST_IDX_STS_ENTRIES (if c < 2 ^ 31 then c else 2 ^ 31 - 1)).idxDirty (n / 2048)

/-- The first EMPTY or TOMB entry among those probed (R206); without one, source 425 pulses. -/
def State.slotLoop : List Nat → State → Option Nat × State
  | [], s => (none, s.pulse 425)
  | n :: ns, s =>
    match s.idxRead n with
    | (some e, s) => if e.live then State.slotLoop ns s else (some n, s)
    | (none, s) => State.slotLoop ns s

def State.idxSlot (s : State) (key : Nat) : Option Nat × State := State.slotLoop (s.probes key) s

/-- The entries of the table that are not all zeros, in rising order. -/
def State.idxUsed (s : State) : List Nat :=
  let b := s.idxBase
  ((s.mem.dram.filter fun c => decide (b ≤ c.1) && decide (c.1 < b + 64 * s.idxNb)).map fun c => (c.1 - b) / 32).eraseReps

def State.idxAt (s : State) (n : Nat) : IdxEnt := IdxEnt.ofBytes (getBytes s.mem.dram (s.idxBase + 32 * n) 32)

/-! ### Extents (R209, R244) -/

def State.extBase (s : State) : Nat := s.rd64 R.IST_EXT_BASE_LO % 2 ^ 37
def State.extents (s : State) : Nat := s.get R.IST_IU_CNT_EXTENTS
def State.iuBase (s : State) : Nat := s.rd64 R.IST_IU_BASE_LO % 2 ^ 33
def State.xsetBase (s : State) : Nat := s.rd64 R.TGN_XSET_BASE_LO % 2 ^ 37

/-- The class of an extent, 0x7F free. -/
def State.extCls (s : State) (e : Nat) : Nat := (SMap.get (fun _ => (0 : Byte)) s.mem.dram (s.extBase + e)).toNat

def State.setExt (s : State) (e cls : Nat) : State := (s.dramStore 3 (s.extBase + e) [BitVec.ofNat 8 cls] false).2

/-- The extent-set entry of an extent: SET, VALID, HELD, ORD. -/
def State.xset (s : State) (e : Nat) : Nat := leNat (getBytes s.mem.dram (s.xsetBase + 4 * e) 4)

def xsetValid (x : Nat) : Bool := x.testBit 4
def xsetHeld (x : Nat) : Bool := x.testBit 5

/-- Segments of the index, and of the extent-set table behind them. -/
def State.idxSegs (s : State) : Nat := s.idxNb / 1024
def State.xsetSegs (s : State) : Nat := if s.boot.content then cdiv (4 * s.extents) 65536 else 0

def State.setXset (s : State) (e v : Nat) : State :=
  ((s.dramStore 4 (s.xsetBase + 4 * e) (leBytes 4 v) false).2).idxDirty (s.idxSegs + e / 16384)

/-- The extent of a content IU of the IST range. -/
def State.extOf (s : State) (iu : Nat) : Option Nat :=
  if s.iuBase ≤ iu ∧ iu < s.iuBase + 4096 * s.extents then some ((iu - s.iuBase) / 4096) else none

/-- The IU lies in a set extent (R256). -/
def State.inSet (s : State) (iu : Nat) : Bool := match s.extOf iu with
  | some e => xsetValid (s.xset e)
  | none => false

/-- The lowest free extent. -/
def State.freeExt (s : State) : Option Nat := (List.range s.extents).find? fun e => decide (s.extCls e = 0x7F)

/-- The extents of a set and class of a kind, by ordinal. -/
def State.setExtents (s : State) (set cls : Nat) (held : Bool) : List (Nat × Nat) :=
  ((List.range s.extents).filter fun e =>
    let x := s.xset e
    xsetValid x && decide (x % 16 = set) && decide (xsetHeld x = held) && decide (s.extCls e = cls)).map
      fun e => (s.xset e / 2 ^ 8, e)

/-- The extent of a set and class with an ordinal. -/
def State.setExtent (s : State) (set cls : Nat) (held : Bool) (ord : Nat) : Option Nat :=
  ((s.setExtents set cls held).find? fun p => decide (p.1 = ord)).map (·.2)

/-- An extent taken for a class, or for a class and set with an ordinal. -/
def State.takeExt (s : State) (cls : Nat) (set : Option (Nat × Bool × Nat)) : Option (Nat × State) :=
  s.freeExt.map fun e =>
    let s := s.setExt e cls
    (e, match set with
      | some (n, held, ord) => s.setXset e (n % 16 + 16 + b2n held * 32 + ord * 2 ^ 8)
      | none => s)

/-- IUs for an object of a class, or of a class and set: the current extent in rising order, or the lowest free one. -/
def State.allocIus (s : State) (cls : Nat) (set : Option Nat) (n : Nat) : Option (Nat × State) :=
  let key := cls + 64 * (match set with
    | some k => k + 1
    | none => 0)
  let put := fun (e next : Nat) (s : State) =>
    (s.iuBase + 4096 * e + next, s.onIst fun x => { x with cur := x.cur.put key (e, next + n) })
  let fresh := fun (_ : Unit) =>
    let ord := match set with
      | some k => ((s.setExtents k cls false).map fun p => p.1 + 1).foldl max 0
      | none => 0
    (s.takeExt cls (set.map fun k => (k, false, ord))).map fun x => put x.1 0 x.2
  match s.ist.cur.find key with
  | some (e, next) => if next + n ≤ 4096 then some (put e next s) else fresh ()
  | none => fresh ()

/-! ### Deallocation -/

/-- A context holds a lookup of the entry whose object begins at an IU. -/
def State.lookHeld (s : State) (iu : Nat) : Bool :=
  s.ist.flows.any fun f => f.2.ctx && decide (f.2.kind = .get) && decide (f.2.snd.iu = iu)

/-- IUs unmapped. -/
def State.dealloc (s : State) (iu n : Nat) : State := if n = 0 then s else s.mapUpdate (.trim 0 iu n)

/-- IUs of a removed or replaced object unmapped, at once or when no context holds a lookup of them (R215, R234); those of a set
extent stay (R256). -/
def State.deallocLater (s : State) (iu n : Nat) : State :=
  if s.inSet iu then s
  else if s.lookHeld iu then s.onIst fun x => { x with free := x.free ++ [(iu, n)] }
  else s.dealloc iu n

/-- Deallocations that no lookup holds back any more. -/
def State.freeWaiting (s : State) : State :=
  let go := s.ist.free.filter fun p => !s.lookHeld p.1
  let s := s.onIst fun x => { x with free := x.free.filter fun p => !go.contains p }
  go.foldl (fun s p => s.dealloc p.1 p.2) s

/-! ### Segment copies (R211) -/

/-- Address of a segment's directory entry. -/
def State.dirAddr (s : State) (seg : Nat) : Nat := s.idxBase + 64 * s.idxNb + 8 * seg

/-- The 64 KiB of a segment. -/
def State.segData (s : State) (seg : Nat) : Option Bytes × State :=
  if seg < s.idxSegs then s.istLoad (s.idxBase + 65536 * seg) 65536
  else
    let o := 65536 * (seg - s.idxSegs)
    match s.istLoad (s.xsetBase + o) (min 65536 (4 * s.extents - o)) with
    | (some b, s) => (some (fit 65536 b), s)
    | (none, s) => (none, s)

/-- A segment's copy given to placement: a PU of class 67 with KIND INDEX. -/
def State.segCopy (s : State) (seg no : Nat) : State :=
  match s.segData seg with
  | (none, s) => s
  | (some b, s) =>
    (s.onIst fun x => { x with dirty := x.dirty.filter fun d => decide (d.1 ≠ seg), copies := x.copies ++ [(seg, no)] }).place
      ⟨9, 0, 67, [], false, [], none, false, [], [seg, s.idxSegs, 0], b, .index seg⟩

/-- Segments dirty for WB_US (all of them while entry to a sleep state flushes) of which no copy is being written. -/
def State.segsDue (s : State) : List (Nat × Nat × Nat) :=
  s.ist.dirty.filter fun d => !(s.ist.copies.any fun c => decide (c.1 = d.1))
    && (decide (d.2.1 + 1000 * s.get R.IST_IDX_CFG_WB_US ≤ s.now) || decide (s.pwr.step = .flush))

/-- A copy is programmed: the directory moves to it, and the units of the copy before it are no longer valid. -/
def State.segDone (s : State) (seg psa : Nat) : State :=
  let old := leNat (getBytes s.mem.dram (s.dirAddr seg) 8) % 2 ^ 37
  let s := (s.dramStore 3 (s.dirAddr seg) (leBytes 8 psa) false).2
  let s := if old = 0 then s else s.addValid old false 16
  let s := s.addValid psa true 16
  s.onIst fun x => { x with copies := x.copies.filter fun c => decide (c.1 ≠ seg) }

/-- A copy failed: the segment is dirty again. -/
def State.segFailed (s : State) (seg : Nat) : State :=
  let no := ((s.ist.copies.find? fun c => decide (c.1 = seg)).map (·.2)).getD 0
  s.onIst fun x => { x with
    copies := x.copies.filter fun c => decide (c.1 ≠ seg)
    dirty := if x.dirty.any fun d => decide (d.1 = seg) then x.dirty else x.dirty ++ [(seg, s.now, no)] }

/-- The change `no` of a segment is on flash: neither dirty since nor in a copy under way. -/
def State.segClean (s : State) (seg : Nat) : Bool :=
  !(s.ist.dirty.any fun d => decide (d.1 = seg)) && !(s.ist.copies.any fun c => decide (c.1 = seg))

/-! ### The commands (R212 to R215) -/

/-- Class c is purged. -/
def State.purged (s : State) (c : Nat) : Bool := s.fbit ⟨R.IST_PURGED (c / 32), 0, 32⟩ (c % 32)

/-- A command ends: RESULT, GO clears, source 424. -/
def State.istEnd (s : State) (result : Nat) : State :=
  ((s.put R.IST_CMD_STS_RESULT result).put R.IST_CMD_GO 0).pulse 424

/-- PROGRESS after a scan of the table. -/
def State.istScanned (s : State) : State := s.put R.IST_CMD_STS_PROGRESS (s.idxNb / 2 ^ 16)

/-- Entries made TOMB. -/
def State.tomb (s : State) (ns : List Nat) : State := ns.foldl (fun s n => s.idxWrite n { s.idxAt n with state := 3 }) s

/-- A context holds a lookup of an entry of a class. -/
def State.clsHeld (s : State) (c : Nat) : Bool :=
  s.ist.flows.any fun f => f.2.ctx && decide (f.2.kind = .get) && decide (f.2.cls = c)

/-- PURGE's last step, once no context holds a lookup of the class. -/
def State.purgeCheck (s : State) : State :=
  match s.ist.purge with
  | some c => if s.clsHeld c then s else (s.onIst fun x => { x with purge := none }).istEnd 0
  | none => s

def State.istPurge (s : State) (c : Nat) : State :=
  if s.flag (R.FTL_CLASS_CTL_WRITABLE c) then s.istEnd 2
  else
    let s := s.putBit ⟨R.IST_PURGED (c / 32), 0, 32⟩ (c % 32) true
    let s := s.tomb (s.idxUsed.filter fun n => (s.idxAt n).live && decide ((s.idxAt n).cls = c))
    let s := ((List.range s.extents).filter fun e => decide (s.extCls e = c)).foldl (fun s e =>
      let s := s.setExt e 0x7F
      if xsetValid (s.xset e) then s.setXset e 0 else s) s
    let s := s.onIst fun x => { x with purge := some c, cur := x.cur.filter fun p => decide (p.1 % 64 ≠ c) }
    s.istScanned.purgeCheck

/-- The image in ENT. -/
def State.entBytes (s : State) : Bytes := (List.range 8).flatMap fun w => leBytes 4 (s.rd (R.IST_ENT w)).toNat

def State.istInsert (s : State) : State :=
  let e := { IdxEnt.ofBytes s.entBytes with state := 1 }
  match s.idxLook e.key with
  | (.found _ _, s) => s.istEnd 3
  | (_, s) =>
    match s.idxSlot e.key with
    | (some n, s) => (s.idxWrite n e).istEnd 0
    | (none, s) => s.istEnd 4

def State.istRemove (s : State) : State :=
  match s.idxLook (IdxEnt.ofBytes s.entBytes).key with
  | (.found n e, s) =>
    let s := s.idxWrite n { e with state := 3 }
    let s := if (s.extOf e.iu).isSome then s.deallocLater e.iu e.ius else s
    s.istEnd 0
  | (_, s) => s.istEnd 1

/-- The extent table as the index gives it: extents of live entries, and set extents. -/
def State.extRebuild (s : State) : State :=
  let s := (List.range s.extents).foldl (fun s e => if xsetValid (s.xset e) then s else s.setExt e 0x7F) s
  s.idxUsed.foldl (fun s n =>
    let e := s.idxAt n
    match s.extOf e.iu with
    | some x => if e.live then s.setExt x e.cls else s
    | none => s) s

/-- IDX_LOAD (R212): the copies found, as segment, PSA and bytes, and the segments of which the newest copy failed. -/
def State.idxLoad (s : State) (segs : List (Nat × Nat × Bytes)) (lost : List Nat) : State :=
  if s.get R.PLJ_REC_STS_STEP ≠ 7 then s.istEnd 2
  else
    let s := segs.foldl (fun s g =>
      let a := if g.1 < s.idxSegs then s.idxBase + 65536 * g.1 else s.xsetBase + 65536 * (g.1 - s.idxSegs)
      let n := if g.1 < s.idxSegs then 65536 else 4 * s.extents - 65536 * (g.1 - s.idxSegs)
      if g.1 < s.idxSegs + s.xsetSegs then (s.poke a ((fit 65536 g.2.2).take n)).poke (s.dirAddr g.1) (leBytes 8 g.2.1)
      else s) s
    let s := lost.foldl (fun s g => (s.raise .ist 0 0x05 .u (g % 2 ^ 32)).pulse 429) s
    let s := s.onIst fun x => { x with cur := [], dirty := [] }
    let s := s.put R.IST_IDX_STS_ENTRIES (s.idxUsed.filter fun n => (s.idxAt n).live).length
    let w := s.idxUsed.filter fun n => decide ((s.idxAt n).state = 2)
    let s := w.foldl (fun s n => s.dealloc (s.idxAt n).iu (s.idxAt n).ius) s
    let s := (s.tomb w).extRebuild
    (((s.put R.IST_STS_READY 1).istScanned.pulse 428)).istEnd 0

/-- What a write of GO starts. -/
def State.istCmd (s : State) (segs : List (Nat × Nat × Bytes)) (lost : List Nat) : State :=
  let c := s.get R.IST_CMD_CLASS
  match s.get R.IST_CMD_OP with
  | 1 => s.istPurge c
  | 2 => (s.putBit ⟨R.IST_PURGED (c / 32), 0, 32⟩ (c % 32) false).istEnd 0
  | 3 => s.istInsert
  | 4 => s.istRemove
  | 5 => s.idxLoad segs lost
  | _ => s

/-- IST's own checks (R238 and the captions). -/
def istChecks : Checks := fun s _ p o v =>
  if p.page = 0 then
    (if s.enabled 0x310000 ∧ o < 0xBC ∧ 0x80 ≤ o then [4] else [])
      ++ (if o = 0x88 ∨ o = 0x98 ∨ o = 0xA8 then failIf (decide (v.fld 0 16 ≠ 0)) 5
          else if o = 0xB0 then failIf (decide (v.fld 0 12 ≠ 0)) 5
          else if o = 0x94 then failIf (decide (256 < v.fld 0 8 + v.fld 8 8)) 7
          else [])
  else if o = 0x80 then
    failIf (v.bit 4 && s.flag R.IST_CMD_GO) 4 ++ failIf (decide (v.fld 0 4 = 0) || decide (5 < v.fld 0 4)) 1
  else []

/-- What a write to an IST register does beyond its fields. -/
def istEffectWith (segs : List (Nat × Nat × Bytes)) (lost : List Nat) : Effect := fun s _ p o old v =>
  if p.page = 1 ∧ o = 0x80 ∧ v.bit 4 ∧ !old.bit 4 then s.istCmd segs lost else s

def istEffect : Effect := istEffectWith [] []

/-- What IST registers show: live flows, contexts held, staging below LOW_WATER. -/
def istView : View := fun s _ p o =>
  if p.page ≠ 1 then none
  else if o = 0xC4 then some (BitVec.ofNat 32 s.ist.flows.length)
  else if o = 0xC8 then some (BitVec.ofNat 32 s.istCtx)
  else none

/-- STAGE_LOW and its level source (R239). -/
def State.stageRefresh (s : State) : State :=
  let low := decide (16384 - s.stgUsed < s.get R.IST_STAGE_CFG_LOW_WATER)
  (s.put R.IST_STS_STAGE_LOW (b2n low)).setLevel 426 low

end Sys2Proof.Machine
end

