-- ==== Sys2Proof/Machine/TgnSet.lean ====
section
/-! DEFINITION. Tarragon's sets, peers, shares and parity (chapter 08). -/

namespace Sys2Proof.Machine

open Sys2Proof

/-! ### Sets and layout (R241 to R246) -/

def tgnPage : Nat := 0x380000

/-- Data positions, width, members and own slot of a set. -/
def State.setK (s : State) (n : Nat) : Nat := s.get (R.TGN_SET_CFG_K n) + 4
def State.setW (s : State) (n : Nat) : Nat := s.setK n + 2
def State.setG (s : State) (n : Nat) : Nat := s.get (R.TGN_SET_CFG_G n) + 1
def State.setSlot_ (s : State) (n : Nat) : Nat := s.get (R.TGN_SET_CFG_SLOT n)
def State.setOn (s : State) (n : Nat) : Bool := s.flag (R.TGN_SET_CFG_EN n)

/-- Tarragon runs: content mode, its page enabled and started, and not LIMP (R2, R563). -/
def State.tgnRuns (s : State) : Bool := s.boot.content && s.enabled tgnPage && s.flag (hRUNNING tgnPage) && !s.limp

/-- The enabled sets, and the one of a SET_UID. -/
def State.setsOn (s : State) : List Nat := (List.range 16).filter s.setOn
def State.setOfUid (s : State) (uid : Nat) : Option Nat := s.setsOn.find? fun n => decide (s.get (R.TGN_SET_UID_UID n) = uid)

/-- The set region (R241): a row's byte, a position's slot, a spare's slot, a slot's member. -/
def State.regionBase (s : State) (n : Nat) : Nat := s.rd64 R.TGN_LAYOUT_BASE_LO % 2 ^ 37 + 0x21000 * n
def State.rowByte (s : State) (n row i : Nat) : Nat := (s.dramByte (s.regionBase n + 32 * row + i)).toNat
def State.posSlot (s : State) (n row p : Nat) : Nat := s.rowByte n row p % 64
def State.spareSlot (s : State) (n row j : Nat) : Option Nat :=
  if s.rowByte n row (16 + j) = 0xFF then none else some (s.rowByte n row (16 + j) % 64)
def State.memberWord (s : State) (n m : Nat) : Nat := leNat (getBytes s.mem.dram (s.regionBase n + 0x20000 + 4 * m) 4)
def State.slotMember (s : State) (n m : Nat) : Option Nat :=
  let w := s.memberWord n m
  if w.testBit 18 then some (w % 2 ^ 18) else none

/-- The rows and positions, in ascending row order, at which a slot appears (R246): all, data, and parity. -/
def State.slotPairs (s : State) (n slot : Nat) : List (Nat × Nat) :=
  (List.range 4096).flatMap fun r =>
    ((List.range (s.setW n)).filter fun p => decide (s.posSlot n r p = slot)).map fun p => (r, p)
def State.dataPairs (s : State) (n slot : Nat) : List (Nat × Nat) := (s.slotPairs n slot).filter fun p => decide (p.2 < s.setK n)
def State.parPairs (s : State) (n slot : Nat) : List (Nat × Nat) := (s.slotPairs n slot).filter fun p => decide (s.setK n ≤ p.2)
def State.spareRows (s : State) (n slot : Nat) : List Nat :=
  (List.range 4096).filter fun r => decide (s.spareSlot n r 0 = some slot) || decide (s.spareSlot n r 1 = some slot)

/-- Stripe and position of a slot's chunk (R246), and the chunk of a slot in a stripe. -/
def State.chunkPlace (s : State) (n slot c : Nat) : Option (Nat × Nat) :=
  let l := s.dataPairs n slot
  (l[c % l.length]?).map fun p => (4096 * (c / l.length) + p.1, p.2)
def State.chunkOf (s : State) (n slot t : Nat) : Option Nat :=
  let l := s.dataPairs n slot
  (l.findIdx? fun p => decide (p.1 = t % 4096)).map fun i => l.length * (t / 4096) + i

/-! ### Peers (R264, R272) -/

def State.peerBase (s : State) : Nat := s.rd64 R.TGN_PEER_BASE_LO % 2 ^ 37

/-- The table entry of a member, by its address; the first one that is VALID. -/
def State.peerAt (s : State) (m : Nat) : Option Nat :=
  ((List.range 2048).map fun i => s.peerBase + 64 * i).find? fun a =>
    let w := leNat (getBytes s.mem.dram a 4)
    w.testBit 18 && decide (w % 2 ^ 18 = m)

/-- Where an entry's 24 bytes say that a peer is. -/
def peerAddrOf (b : Bytes) : NetAddr :=
  let w := leNat (b.take 4)
  let v6 := w.testBit 20
  ⟨b2n (w.testBit 21), v6, if v6 then beNat ((b.drop 8).take 16) else beNat ((b.drop 20).take 4), leNat ((b.drop 4).take 2)⟩

def State.peerEntry (s : State) (m : Nat) : Option Bytes := (s.peerAt m).map fun a => getBytes s.mem.dram a 64
def State.peerNet (s : State) (m : Nat) : Option NetAddr := (s.peerEntry m).map peerAddrOf

/-- A member's state: 0 UNKNOWN, 1 UP, 2 DOWN, 3 REMOVED; this member knows its own. -/
def State.memberState (s : State) (m : Nat) : Nat :=
  if m = s.member then (if s.tgn.own = 2 ∨ s.tgn.own = 3 then 1 else if s.tgn.own = 4 then 3 else 0)
  else match s.peerEntry m with
    | some b => leNat (b.take 4) / 2 ^ 22 % 4
    | none => 0

/-- The epoch of a member's last change of state. -/
def State.memberEpoch (s : State) (m : Nat) : Nat := match s.peerEntry m with
  | some b => leNat ((b.drop 24).take 8)
  | none => 0

/-- A peer's state written with the epoch; source 473 on a change (R281). -/
def State.setMember (s : State) (m st epoch : Nat) : State :=
  match s.peerAt m with
  | none => s
  | some a =>
    let w := leNat (getBytes s.mem.dram a 4)
    if w / 2 ^ 22 % 4 = st then s
    else
      let v := w % 2 ^ 22 + st * 2 ^ 22
      (((s.dramStore 4 a (leBytes 4 v) false).2.dramStore 4 (a + 24) (leBytes 8 epoch) false).2).pulse 473

/-- The state of the member of a slot; a slot without a member counts as DOWN. -/
def State.slotState (s : State) (n slot : Nat) : Nat := match s.slotMember n slot with
  | some m => s.memberState m
  | none => 2

/-- The slot is DOWN or REMOVED. -/
def State.slotLost (s : State) (n slot : Nat) : Bool := decide (2 ≤ s.slotState n slot)

/-- The latency bucket of a response (R264). -/
def histEdge (b : Nat) : Nat := [64, 90, 128, 181, 256, 362, 512, 724, 1024, 1448, 2048, 2896, 4096, 5792, 8192].getD b 0
def histBucket (us : Nat) : Nat := ((List.range 15).filter fun b => decide (histEdge b ≤ us)).length

/-- The latency counts of a peer, and one more response counted; all are halved when the total reaches HALF. -/
def State.hist (s : State) (m : Nat) : List Nat := match s.peerEntry m with
  | some b => (List.range 16).map fun i => leNat ((b.drop (32 + 2 * i)).take 2)
  | none => []

def State.countLatency (s : State) (m us : Nat) : State :=
  match s.peerAt m with
  | none => s
  | some a =>
    let h := (s.hist m).zipIdx.map fun p => if p.2 = histBucket us then min 65535 (p.1 + 1) else p.1
    let h := if s.get R.TGN_HIST_CFG_HALF ≤ h.sum then h.map (· / 2) else h
    (s.dramStore 4 (a + 32) (h.flatMap (leBytes 2)) false).2

/-- HEDGE_MAX in µs, p_x of a peer, ref_s of a set, and the hedge timer of a read in µs (R264). -/
def State.hedgeMax (s : State) : Nat := 100 * s.get R.TGN_HEDGE_CFG_MAX

def State.peer999 (s : State) (m : Nat) : Nat :=
  let h := s.hist m
  let total := h.sum
  match (List.range 16).find? fun b => decide (999 * total ≤ 1000 * (h.take (b + 1)).sum) with
  | some b => if b = 15 then s.hedgeMax else histEdge b
  | none => s.hedgeMax

def insertSorted (x : Nat) : List Nat → List Nat
  | [] => [x]
  | y :: ys => if x ≤ y then x :: y :: ys else y :: insertSorted x ys

def State.setRef (s : State) (n : Nat) : Option Nat :=
  let ms := ((List.range (s.setG n)).filterMap fun m => s.slotMember n m).filter fun m =>
    decide (m ≠ s.member) && decide (s.memberState m = 1)
  let l := (ms.map s.peer999).foldl (fun l x => insertSorted x l) []
  l[(l.length - 1) / 2]?

def State.hedgeTime (s : State) (n m : Nat) : Nat :=
  let p := s.peer999 m
  let b := match s.setRef n with
    | some r => min p r
    | none => p
  min s.hedgeMax (max (s.get R.TGN_HEDGE_CFG_MIN) (s.get (R.TGN_SET_HEDGE_FACTOR n) * b / 16))

/-! ### Holders and stand-ins (R275) -/

/-- The stand-in of a row for a slot that is REMOVED. -/
def State.standIn (s : State) (n row : Nat) : Option Nat :=
  match s.spareSlot n row 0 with
  | some a => if s.slotLost n a then s.spareSlot n row 1 else some a
  | none => none

/-- The slot that serves a position of a row: its own, or its stand-in's where it is REMOVED. -/
def State.holder (s : State) (n row p : Nat) : Option Nat :=
  let sl := s.posSlot n row p
  if s.slotState n sl = 3 then s.standIn n row else some sl

/-- The role in which this member's own slot holds a position of a row: 1 P, 2 Q, 3 stand-in. -/
def State.ownRoleOf (s : State) (n row p : Nat) : Option Nat :=
  if s.holder n row p = some (s.setSlot_ n) then
    some (if s.posSlot n row p ≠ s.setSlot_ n then 3 else if p = s.setK n then 1 else 2)
  else none

/-- Positions of a row that are REMOVED and lost before a position: by epoch, the lower position first. -/
def State.lostBefore (s : State) (n row p : Nat) : Nat :=
  let ep := fun (q : Nat) => s.memberEpoch ((s.slotMember n (s.posSlot n row q)).getD 0)
  ((List.range (s.setW n)).filter fun q => decide (q ≠ p) && decide (s.slotState n (s.posSlot n row q) = 3)
    && (decide (ep q < ep p) || (decide (ep q = ep p) && decide (q < p)))).length

/-- The number of a chunk among those that this member holds: parity by its parity list, and two places for each of its
spare rows. -/
def State.heldNo (s : State) (n t p : Nat) : Option Nat :=
  let own := s.setSlot_ n
  let l := s.parPairs n own
  let sp := s.spareRows n own
  let per := l.length + 2 * sp.length
  if s.posSlot n (t % 4096) p = own then
    (l.findIdx? fun x => decide (x = (t % 4096, p))).map fun i => per * (t / 4096) + i
  else
    (sp.findIdx? fun r => decide (r = t % 4096)).map fun i =>
      per * (t / 4096) + l.length + 2 * i + min 1 (s.lostBefore n (t % 4096) p)

/-- The content IU of IU `j` of a chunk, own or held, if its extent is assigned. -/
def State.chunkIu (s : State) (n cls : Nat) (held : Bool) (c j : Nat) : Option Nat :=
  (s.setExtent n cls held (c / 256)).map fun e => s.iuBase + 4096 * e + 16 * (c % 256) + j

/-- The same, with an extent assigned where there is none. -/
def State.chunkIuNew (s : State) (n cls : Nat) (held : Bool) (c j : Nat) : Option (Nat × State) :=
  match s.setExtent n cls held (c / 256) with
  | some e => some (s.iuBase + 4096 * e + 16 * (c % 256) + j, s)
  | none => (s.takeExt cls (some (n, held, c / 256))).map fun x => (s.iuBase + 4096 * x.1 + 16 * (c % 256) + j, x.2)

/-- Where a content IU of a set extent stands: set, class, held, chunk number, IU of the chunk. -/
def State.iuPlace (s : State) (iu : Nat) : Option (Nat × Nat × Bool × Nat × Nat) :=
  match s.extOf iu with
  | none => none
  | some e =>
    let x := s.xset e
    if !xsetValid x then none
    else
      let o := (iu - s.iuBase) % 4096
      some (x % 16, s.extCls e, xsetHeld x, 256 * (x / 2 ^ 8) + o / 16, o % 16)

/-- Stripe and position of a chunk that this member holds, by its number. -/
def State.heldPlace (s : State) (n h : Nat) : Option (Nat × Nat) :=
  let own := s.setSlot_ n
  let l := s.parPairs n own
  let sp := s.spareRows n own
  let per := l.length + 2 * sp.length
  if per = 0 then none
  else
    let i := h % per
    if i < l.length then (l[i]?).map fun x => (4096 * (h / per) + x.1, x.2)
    else
      match sp[(i - l.length) / 2]? with
      | none => none
      | some r =>
        ((List.range (s.setW n)).find? fun p => decide (s.slotState n (s.posSlot n r p) = 3)
          && decide (min 1 (s.lostBefore n r p) = (i - l.length) % 2)).map fun p => (4096 * (h / per) + r, p)

/-! ### State of a set (R274, R278) -/

def State.setState (s : State) (n : Nat) : Nat :=
  if !s.setOn n then 0
  else
    let g := List.range (s.setG n)
    let lost := (List.range (s.setG n)).filter fun m => s.slotLost n m
    let three := (List.range 4096).any fun r =>
      decide (3 ≤ ((List.range (s.setW n)).filter fun p => lost.contains (s.posSlot n r p)).length)
    if three then 3 else if g.all fun m => decide (s.slotState n m = 1) then 1 else 2

/-- A LOSS entry (R278, R280). -/
def State.lossPush (s : State) (lo hi : Nat) : State :=
  if 256 ≤ s.tgn.loss.length then (s.bump R.TGN_LOSS_CNT_OVF 1).pulse 477
  else (s.onTgn fun x => { x with loss := x.loss ++ [(lo, hi + 2 ^ 31)] }).setLevel 476 true

/-- Positions of a stripe's row that are lost. -/
def State.rowLost (s : State) (n t : Nat) : Nat :=
  ((List.range (s.setW n)).filter fun p => s.slotLost n (s.posSlot n (t % 4096) p)).length

/-- An object of a set with an IU in a stripe of which three or more positions are lost. -/
def State.objLost (s : State) (n : Nat) (e : IdxEnt) : Bool :=
  e.live && decide (e.rset = n) && (List.range e.ius).any fun i =>
    match s.iuPlace (e.iu + i) with
    | some (m, _, _, c, _) => match s.chunkPlace m (s.setSlot_ m) c with
      | some (t, _) => decide (3 ≤ s.rowLost m t)
      | none => false
    | none => false

/-- LOSS_SCAN (R278): the objects of the set that are lost. -/
def State.lossScan (s : State) (n : Nat) : State :=
  let bad := s.objLost n
  (s.idxUsed.filter fun i => bad (s.idxAt i)).foldl (fun s i =>
    s.lossPush (i % 2 ^ 31) (n * 2 ^ 8 + (s.idxAt i).cls * 2 ^ 12)) s

/-- STATE and the counts of a set brought up to date; a change pulses 480 + n, and entering LOSS runs LOSS_SCAN. -/
def State.setRefresh (s : State) (n : Nat) : State :=
  let st := s.setState n
  let old := s.get (R.TGN_SET_STS_STATE n)
  let cnt := fun (k : Nat) => if st = 0 then 0
    else ((List.range (s.setG n)).filter fun m => decide (s.slotState n m = k)).length
  let s' := ((s.put (R.TGN_SET_STS_STATE n) st).put (R.TGN_SET_STS_DOWN n) (cnt 2)).put (R.TGN_SET_STS_REMOVED n) (cnt 3)
  let s' := if st = old then s' else s'.pulse (480 + n)
  if st = 3 ∧ old ≠ 3 then s'.lossScan n else s'

/-! ### GF(2^8) of R247 -/

def gfDbl (a : Nat) : Nat := if a < 128 then 2 * a else (2 * a) ^^^ 0x11D

def gfMulAux : Nat → Nat → Nat → Nat
  | 0, _, _ => 0
  | k + 1, a, b => (if b % 2 = 1 then a else 0) ^^^ gfMulAux k (gfDbl a) (b / 2)

def gfMul (a b : Nat) : Nat := gfMulAux 8 a b

/-- g^i. -/
def gfPow : Nat → Nat
  | 0 => 1
  | i + 1 => gfDbl (gfPow i)

/-- The inverse: a^254. -/
def gfInv (a : Nat) : Nat :=
  let a2 := gfMul a a; let a4 := gfMul a2 a2; let a8 := gfMul a4 a4; let a16 := gfMul a8 a8
  let a32 := gfMul a16 a16; let a64 := gfMul a32 a32; let a128 := gfMul a64 a64
  gfMul (gfMul (gfMul a2 a4) (gfMul a8 a16)) (gfMul (gfMul a32 a64) a128)

/-- A string times a constant, and two strings added, the shorter one filled with zeros. -/
def gfScale (c : Nat) (b : Bytes) : Bytes := if c = 1 then b else b.map fun x => BitVec.ofNat 8 (gfMul c x.toNat)

end Sys2Proof.Machine
end

