-- ==== Sys2Proof/Machine/Share.lean ====
section
/-! DEFINITION. Shares and parity (chapter 08): what a contributor sends, what a holder applies, intents, and what a member
serves to its peers. -/

namespace Sys2Proof.Machine

open Sys2Proof

/-- KEY of GET_SHARD and PUT_SHARD (R248). -/
structure ShardKey where
  uid : Nat
  cls : Nat
  pos : Nat
  kind : Nat
  stripe : Nat
  first : Nat
  count : Nat
  gen : Nat
  deriving DecidableEq, Repr

def ShardKey.ofNat (k : Nat) : ShardKey :=
  ⟨k / 2 ^ 96, k / 2 ^ 89 % 128, k / 2 ^ 85 % 16, k / 2 ^ 80 % 32, k / 2 ^ 40 % 2 ^ 40, k / 2 ^ 36 % 16, k / 2 ^ 32 % 16,
    k / 2 ^ 8 % 2 ^ 24⟩

def ShardKey.toNat (k : ShardKey) : Nat :=
  k.uid % 2 ^ 32 * 2 ^ 96 + k.cls % 128 * 2 ^ 89 + k.pos % 16 * 2 ^ 85 + k.kind % 32 * 2 ^ 80 + k.stripe % 2 ^ 40 * 2 ^ 40
    + k.first % 16 * 2 ^ 36 + k.count % 16 * 2 ^ 32 + k.gen % 2 ^ 24 * 2 ^ 8

/-- The KEY of a message about IUs of a chunk of a set. -/
def State.shardKey (s : State) (n cls pos kind t first count : Nat) : Nat :=
  ShardKey.toNat ⟨s.get (R.TGN_SET_UID_UID n), cls, pos, kind, t, first, count, s.get (R.TGN_SET_GEN_GEN n)⟩

/-- A request number taken. -/
def State.takeReq (s : State) : Nat × State := (s.tgn.reqNo, s.onTgn fun x => { x with reqNo := (x.reqNo + 1) % 2 ^ 32 })

/-- A flow that the controller starts towards a member, where a flow index and a context are free (R236). -/
def State.askOpen (s : State) (member : Nat) (a : NetAddr) (op key : Nat) (kind : FlowKind) (cls : Nat) (snd : Snd)
    (rcv : Rcv) : Option (Nat × Nat × State) :=
  if s.ctxFree ≤ s.get R.IST_CTX_CFG_CTX_RSV then none
  else
    let (no, s) := s.takeReq
    let f : Flow := ⟨kind, 0, freeIndex 0 s.ist.flows % 16, member, no, true, a, 0, key, op, true, cls, snd, rcv, none⟩
    (s.openFlow f).map fun x => (no, x)

/-- The same, and its request is sent. -/
def State.askFlow (s : State) (member op key len : Nat) (kind : FlowKind) (cls : Nat) (snd : Snd) (rcv : Rcv) :
    Option (Nat × State) :=
  (s.peerNet member).bind fun a =>
    (s.askOpen member a op key kind cls snd rcv).map fun x =>
      (x.2.1, x.2.2.sendMsg a ⟨1, op, 0, 0, member, x.1, 0, key, 0, len, 0, 0⟩ true)

/-! ### The share buffer (R254) -/

/-- IUs that each part of the buffer holds. -/
def State.shbufCap (s : State) : Nat := s.get R.TGN_SHBUF_SIZE_SIZE * 512
def State.contribFull (s : State) : Bool := decide (s.shbufCap ≤ s.tgn.copies.length)
def State.holdFull (s : State) : Bool := decide (s.shbufCap ≤ s.tgn.par.length)
def State.shbufLevel (s : State) : State := s.setLevel 498 (s.contribFull || s.holdFull)

/-! ### Intents (R257 to R259) -/

/-- No record may be appended: 32,640 are unflushed (R259). -/
def State.recsFull (s : State) : Bool := decide (32640 ≤ s.unflushedRecs)

/-- A record, by its number plus one, is on flash. -/
def State.recDurable (s : State) (no : Nat) : Bool :=
  decide (no ≠ 0) && !(s.plj.recs.any fun r => decide (r.seq + 1 = no))
    && !(s.plj.ichunks.any fun c => c.recs.any fun r => decide (r.seq + 1 = no))

/-- A record appended; its number plus one. -/
def State.record (s : State) (type n cls slot role pslot qslot wh : Nat) : Nat × State :=
  (s.plj.recNo + 1, s.intent ⟨type, n, cls, slot, role, pslot, qslot, wh, s.get (R.TGN_SET_GEN_GEN n), 0⟩)

/-- What a chunk's intent is kept under: its stripe, or its region of 1,024 chunks. -/
def State.intAt (s : State) (n c : Nat) : Nat :=
  if s.flag (R.TGN_SET_CFG_INGEST n) then c / 1024 else ((s.chunkPlace n (s.setSlot_ n) c).getD (0, 0)).1

/-- The open intent of a chunk. -/
def State.intOf (s : State) (n cls c : Nat) : Option OpenInt :=
  s.tgn.ints.find? fun x => decide (x.set = n) && decide (x.cls = cls) && decide (x.at_ = s.intAt n c)
    && decide (x.dirty = s.flag (R.TGN_SET_CFG_INGEST n))

/-- OPEN of a set (R257). -/
def State.openCount (s : State) (n : Nat) : State :=
  s.put (R.TGN_SET_OPEN_OPEN n) (min (2 ^ 24 - 1) (s.tgn.ints.filter fun x => decide (x.set = n)).length)

/-- The record of an intent appended where there is room for it. -/
def State.intWrite (s : State) (x : OpenInt) : State :=
  if s.recsFull then s
  else
    match if x.dirty then s.record 4 x.set x.cls 0 0 0 0 x.at_ else s.record 1 x.set x.cls (s.setSlot_ x.set) 0 x.pslot x.qslot x.at_ with
    | (no, s) => s.onTgn fun y => { y with ints := y.ints.map fun z => if z = x then { z with no := no } else z }

/-- The intent of a chunk, or the dirty bit of its region, opened if it is not. -/
def State.intOpen (s : State) (n cls c : Nat) : State :=
  if (s.intOf n cls c).isSome then s
  else
    let t := ((s.chunkPlace n (s.setSlot_ n) c).getD (0, 0)).1
    let slotOf := fun (p : Nat) => (s.holder n (t % 4096) p).getD (s.posSlot n (t % 4096) p)
    let x : OpenInt := ⟨n, cls, s.flag (R.TGN_SET_CFG_INGEST n), s.intAt n c, slotOf (s.setK n), slotOf (s.setK n + 1), 0, s.now⟩
    ((s.onTgn fun y => { y with ints := y.ints ++ [x] }).intWrite x).openCount n

/-- Records that found no room are written. -/
def State.intRetry (s : State) : State :=
  (s.tgn.ints.filter fun x => decide (x.no = 0)).foldl (fun s x => s.intWrite x) s

/-! ### The contributor (R251, R255) -/

/-- The IU of a set extent handed to placement: its plaintext goes to the share buffer. -/
def State.shareTake (s : State) (iu : Nat) (data : Bytes) : State :=
  match s.iuPlace iu with
  | some (n, cls, false, c, j) =>
    if !s.tgnRuns ∨ !s.setOn n then s
    else ((s.onTgn fun x => { x with copies := x.copies ++ [⟨n, cls, 16 * c + j, iu, data, false, 0, 0⟩] }).intOpen n cls c).shbufLevel
  | _ => s

/-- The shares of an IU have met R19. -/
def State.shareMet (s : State) (iu : Nat) : State :=
  s.onTgn fun x => { x with copies := x.copies.map fun c => if c.iu = iu then { c with met := true } else c }

/-- The copies of a failed PUT are dropped where no share of them has been sent. -/
def State.shareDrop (s : State) (iu n : Nat) : State :=
  (s.onTgn fun x => { x with copies := x.copies.filter fun c =>
    !(decide (iu ≤ c.iu) && decide (c.iu < iu + n) && decide (c.p = 0) && decide (c.q = 0)) }).shbufLevel

/-- Stripe, position and the holder's slot of a copy's share. -/
def State.copyPlace (s : State) (c : ShareCopy) (q : Bool) : Nat × Nat × Option Nat :=
  let x := (s.chunkPlace c.set (s.setSlot_ c.set) (c.seq / 16)).getD (0, 0)
  (x.1, x.2, s.holder c.set (x.1 % 4096) (s.setK c.set + b2n q))

def ShareCopy.st (c : ShareCopy) (q : Bool) : Nat := if q then c.q else c.p
def ShareCopy.put (c : ShareCopy) (q : Bool) (v : Nat) : ShareCopy := if q then { c with q := v } else { c with p := v }

/-- The copies whose share to a holder is owed, the lowest sequence index first. -/
def State.owed (s : State) (n cls slot : Nat) (q : Bool) : List ShareCopy :=
  let l := s.tgn.copies.filter fun c => decide (c.set = n) && decide (c.cls = cls) && decide (c.st q = 0)
    && decide ((s.copyPlace c q).2.2 = some slot)
  l.foldl (fun a c => (a.takeWhile fun x => decide (x.seq < c.seq)) ++ [c] ++ a.dropWhile fun x => decide (x.seq < c.seq)) []

/-- Consecutive copies of one chunk, from the first. -/
def chunkRun : List ShareCopy → List ShareCopy
  | a :: b :: l => if b.seq = a.seq + 1 ∧ b.seq / 16 = a.seq / 16 ∧ b.met then a :: chunkRun (b :: l) else [a]
  | l => l

def holdKey (n cls slot : Nat) (q : Bool) : Nat := ((n * 64 + cls) * 64 + slot) * 2 + b2n q

/-- SHARE_SEND (R251): the next IUs owed to a holder are sent in one PUT_SHARD, if they have met R19, their intent is on
flash, the holder is not DOWN, and nothing sent to it is unanswered. -/
def State.shareSend (s : State) (n cls slot : Nat) (q : Bool) : State :=
  match chunkRun (s.owed n cls slot q), s.slotMember n slot with
  | c :: cs, some m =>
    let run := c :: cs
    let durable := match s.intOf n cls (c.seq / 16) with
      | some x => s.recDurable x.no
      | none => false
    let busy := s.tgn.jobs.any fun j => decide (j.2.set = n) && decide (j.2.cls = cls) && decide (j.2.slot = slot) && decide (j.2.q = q)
    if !s.tgnRuns ∨ !s.setOn n ∨ !c.met ∨ !durable ∨ busy ∨ s.slotLost n slot ∨ s.recsFull
        ∨ s.now < (s.tgn.holdoff.find (holdKey n cls slot q)).getD 0 then s
    else
      let (t, p, _) := s.copyPlace c q
      let d := run.flatMap fun x => gfScale (if q then gfPow p else 1) x.data
      let key := s.shardKey n cls p (if q then 2 else 1) t (c.seq % 16) (run.length - 1)
      let x := { s.newSnd d 0 0 d.length 0 0 0 with win := 0, why := 3 }
      match s.askFlow m 8 key d.length (.shareOut 0) cls x Rcv.none_ with
      | none => s
      | some (i, s) =>
        let s := s.onTgn fun y => { y with
          jobs := y.jobs.put i ⟨n, cls, q, slot, c.seq, run.length, s.now⟩
          copies := y.copies.map fun z => if run.contains z then z.put q 1 else z }
        (s.addCount R.TGN_SHARE_TX_LO run.length).evtB tgnPage 0x10 run.length
  | _, _ => s

/-- A PUT_SHARD is over: copies below `upto` are answered, the others of it are owed again. -/
def State.shareEnd (s : State) (i : Nat) (upto : Nat) (wait : Nat) : State :=
  match s.tgn.jobs.find i with
  | none => s.closeFlow i
  | some j =>
    let mine := fun (c : ShareCopy) => decide (c.set = j.set) && decide (c.cls = j.cls)
      && decide ((s.copyPlace c j.q).2.2 = some j.slot)
    let upd := fun (c : ShareCopy) =>
      if mine c && decide (c.seq < upto) && decide (c.st j.q ≤ 1) then c.put j.q 2
      else if mine c && decide (c.st j.q = 1) && decide (j.first ≤ c.seq) && decide (c.seq < j.first + j.n) then c.put j.q 0
      else c
    let s := s.onTgn fun x => { x with
      jobs := x.jobs.del i
      copies := x.copies.map upd
      ints := x.ints.map fun z => if z.set = j.set ∧ z.cls = j.cls then { z with busy := s.now } else z
      holdoff := if wait = 0 then x.holdoff else x.holdoff.put (holdKey j.set j.cls j.slot j.q) (s.now + 1000 * wait) }
    s.closeFlow i

/-- Copies of which no share is owed or unanswered leave the buffer. -/
def State.copiesClean (s : State) : State :=
  if s.tgn.copies.any fun c => decide (2 ≤ c.p) && decide (2 ≤ c.q) then
    (s.onTgn fun x => { x with copies := x.copies.filter fun c => !(decide (2 ≤ c.p) && decide (2 ≤ c.q)) }).shbufLevel
  else s

/-- An IU is protected (R255): every holder of its stripe that is UP has answered for it, and at least one has. -/
def State.protected_ (s : State) (iu : Nat) : Bool :=
  match s.tgn.copies.find? fun c => decide (c.iu = iu) with
  | none => true
  | some c =>
    let up := fun (q : Bool) => match (s.copyPlace c q).2.2 with
      | some sl => decide (s.slotState c.set sl = 1)
      | none => false
    let ok := fun (q : Bool) => decide (2 ≤ c.st q) || !up q
    ok false && ok true && (decide (c.p = 2) || decide (c.q = 2))

/-- A share of a chunk or region is still in the buffer. -/
def State.intBusy (s : State) (x : OpenInt) : Bool :=
  s.tgn.copies.any fun c => decide (c.set = x.set) && decide (c.cls = x.cls) && decide (s.intAt c.set (c.seq / 16) = x.at_)

/-- The own chunk of an INTENT is complete, or its class closed. -/
def State.chunkClosed (s : State) (x : OpenInt) : Bool :=
  !s.flag (R.FTL_CLASS_CTL_WRITABLE x.cls) ||
    (match s.chunkOf x.set (s.setSlot_ x.set) x.at_ with
     | some c => match s.chunkIu x.set x.cls false c 15 with
       | some iu => decide (entState (s.entryAt 0 iu) ≠ 0)
       | none => false
     | none => true)

/-- An intent or region closed with its record (CLEAR or CLEAN). -/
def State.intClose (s : State) (x : OpenInt) : State :=
  if s.recsFull then s
  else
    (((s.record (if x.dirty then 5 else 2) x.set x.cls 0 0 0 0 x.at_).2.onTgn fun y => { y with
      ints := y.ints.filter fun z => decide (z ≠ x) })).openCount x.set

/-- Chunks that are complete and answered get their CLEAR records (R257). -/
def State.intsClear (s : State) : State :=
  (s.tgn.ints.filter fun x => !x.dirty && decide (x.no ≠ 0) && !s.intBusy x && s.chunkClosed x
    && !s.tgn.resync.contains x.set).foldl (fun s x => s.intClose x) s

/-! ### The holder (R252, R253) -/

def hwKey (n cls slot role : Nat) : Nat := ((n * 64 + cls) * 64 + slot) * 4 + role

def State.hw (s : State) (n cls slot role : Nat) : Nat := s.tgn.hw.get (fun _ => 0) (hwKey n cls slot role)

def State.setHw (s : State) (n cls slot role v : Nat) : State :=
  s.onTgn fun x => { x with hw := x.hw.set (fun _ => 0) (hwKey n cls slot role) v }

/-- The first IU of a contributor at or above the high-water that falls to this member in a role (R252). -/
def State.nextShare (s : State) (n cls slot role pp : Nat) : Option Nat :=
  let h := s.hw n cls slot role
  let mine := fun (c : Nat) => match s.chunkPlace n slot c with
    | some (t, _) => decide (s.ownRoleOf n (t % 4096) pp = some role)
    | none => false
  if mine (h / 16) then some h
  else ((List.range (s.dataPairs n slot).length).find? fun i => mine (h / 16 + 1 + i)).map fun i => 16 * (h / 16 + 1 + i)

/-- IU `j` of position `p` of a stripe is contributed to what this member holds for a parity position. -/
def State.contributed (s : State) (n cls t pp j p : Nat) : Bool :=
  let sl := s.posSlot n (t % 4096) p
  let role := (s.ownRoleOf n (t % 4096) pp).getD 0
  (s.tgn.full.any fun x => decide (x.1 = n ∧ x.2.1 = cls ∧ x.2.2.1 = t * 16 + pp)) ||
    (match s.chunkOf n sl t with
     | some c => decide (16 * c + j < s.hw n cls sl role)
     | none => false)

/-- The contribution map of an IU (R250). -/
def State.contribMask (s : State) (n cls t pp j : Nat) : Nat :=
  (List.range (s.setK n)).foldl (fun a p => if s.contributed n cls t pp j p then a + 2 ^ p else a) 0

def State.setPar (s : State) (iu : Nat) (p : ParIu) : State := s.onTgn fun x => { x with par := x.par.put iu p }

/-- Two strings added at an offset of the first. -/
def xorAt (a : Bytes) (o : Nat) (b : Bytes) : Bytes :=
  a.take o ++ xorB ((a.drop o).take b.length) b ++ a.drop (o + b.length)

/-- A share's IU applied by XOR into its parity IU: that in the buffer, the one on flash, or zeros. -/
def State.shareIu (s : State) (n cls t pp role j slot seq flow : Nat) (d : Bytes) : Bool × State :=
  match s.heldNo n t pp with
  | none => (false, s)
  | some h =>
    match s.chunkIuNew n cls true h j with
    | none => (false, s)
    | some (iu, s) =>
      let done := fun (s : State) => (true, ((s.setHw n cls slot role (seq + 1)).addCount R.TGN_SHARE_RX_LO 1).evtB tgnPage 0x11 1)
      match s.tgn.par.find iu with
      | some p =>
        done (s.setPar iu { p with
          data := xorAt p.data 0 d, shares := p.shares ++ [(slot, seq, flow)]
          first := if p.shares.isEmpty then s.now else p.first })
      | none =>
        let new := fun (base : Option (Nat × List Nat)) (s : State) =>
          (s.setPar iu ⟨n, cls, t, j, pp, role, d, base, s.now, [(slot, seq, flow)], none⟩).shbufLevel
        match s.mapLookup 0 iu with
        | (some e, s) =>
          let psa := entPsa e
          if entState e = 0 then done (new none s)
          else if entState e = 1 then done ((new (some (psa, List.range 16)) s).issueRead (.tgn iu) none psa 16 0 0)
          else if entState e = 3 then done ((new (some (psa, List.range 16)) s).remoteRead (.tgn iu) psa 16)
          else (false, s)
        | (none, s) => (false, s)

/-- The IUs of a share applied in order; it ends with the first one that is not the next of its contributor. -/
def State.shareIus (k : ShardKey) (n slot c pp role flow : Nat) : Nat → Nat → Bytes → State → Bool × State
  | 0, _, _, s => (true, s)
  | m + 1, j, d, s =>
    if s.nextShare n k.cls slot role pp ≠ some (16 * c + j) then (false, s)
    else
      match s.shareIu n k.cls k.stripe pp role j slot (16 * c + j) flow (d.take 65536) with
      | (false, s) => (false, s)
      | (true, s) => State.shareIus k n slot c pp role flow m (j + 1) (d.drop 65536) s

/-- The bytes of a receiving flow's slots, in order, which are freed; none where a slot holds an uncorrectable word. -/
def State.takeSlots : List Nat → State → Option Bytes × State
  | [], s => (some [], s)
  | k :: ks, s =>
    match s.readSlot k with
    | (none, s) => (none, s)
    | (some d, s) =>
      match State.takeSlots ks s with
      | (some r, s) => (some (d.1 ++ r), s)
      | (none, s) => (none, s)

def State.takeRcv (s : State) (i : Nat) (f : Flow) (a n : Nat) : Option Bytes × State :=
  let us := (List.range (cdiv n 4096)).map (a / 4096 + ·)
  let ks := us.filterMap fun u => f.rcv.slots.find u
  match State.takeSlots ks s with
  | (r, s) =>
    let s := ks.foldl (fun s k => s.freeSlot k) s
    (r.map (fit n), s.setFlow i { f with rcv := { f.rcv with slots := f.rcv.slots.filter fun e => !us.contains e.1 } })

/-- Where a share of a contributor belongs: its slot, its chunk, the parity position and this member's role. -/
def State.shareRole (s : State) (k : ShardKey) (n member : Nat) : Option (Nat × Nat × Nat × Nat) :=
  let row := k.stripe % 4096
  let pp := s.setK n + (k.kind - 1)
  let slot := s.posSlot n row k.pos
  match s.ownRoleOf n row pp, s.chunkOf n slot k.stripe with
  | some role, some c => if k.pos < s.setK n ∧ s.slotMember n slot = some member then some (slot, c, pp, role) else none
  | _, _ => none

/-- All bytes of a PUT_SHARD are there: the share is applied; its final response waits for its HOLD records. -/
def State.shareApply (s : State) (i : Nat) (f : Flow) : State :=
  let k := ShardKey.ofNat f.key
  match s.setOfUid k.uid with
  | none => s.endFlow i 12
  | some n =>
    match s.shareRole k n f.cid with
    | none => s.endFlow i 10
    | some (slot, c, pp, role) =>
      match s.takeRcv i f 0 f.rcv.len with
      | (none, s) => s.abortFlow i
      | (some d, s) =>
        match State.shareIus k n slot c pp role i (k.count + 1) k.first d s with
        | (true, s) => s
        | (false, s) =>
          let nx := (s.nextShare n k.cls slot role pp).getD 0
          (s.sendMsg f.addr { f.msg i 8 5 with status := 2, off := nx } true).closeFlow i

/-- Every data position of the row has contributed the IU. -/
def State.parFull (s : State) (p : ParIu) : Bool :=
  (List.range (s.setK p.set)).all fun i => s.contributed p.set p.cls p.stripe p.pos p.j i

/-- At-rest form of an IU. -/
def State.sealIu (s : State) (iu : Nat) (d : Bytes) : Option Bytes × State :=
  (List.range 16).foldl (fun (a : Option Bytes × State) u =>
    match a.1 with
    | none => a
    | some b =>
      match a.2.cipher (.atRest 0 false (iu * 16 + u)) ((d.drop (4096 * u)).take 4096) with
      | (some c, s) => (some (b ++ c), s)
      | (none, s) => (none, s)) (some [], s)

/-- A parity IU given to the FTL in its class. -/
def State.parWrite (s : State) (iu : Nat) (p : ParIu) : State :=
  if p.base.isSome ∨ p.going.isSome ∨ p.shares.isEmpty then s
  else
    match s.sealIu iu p.data with
    | (none, s) => s
    | (some d, s) =>
      (s.setPar iu { p with shares := [], going := some p.shares }).place
        ⟨1, 0, p.cls, [some iu], false, [], none, false, [], [], d, .share iu⟩

/-- Parity IUs to which every position has contributed are written. -/
def State.parReady (s : State) : State :=
  (s.tgn.par.filter fun e => s.parFull e.2).foldl (fun s e => match s.tgn.par.find e.1 with
    | some p => s.parWrite e.1 p
    | none => s) s

/-- The lowest sequence index of a contributor whose share is not on flash. -/
def State.lowUnwritten (s : State) (n cls slot role : Nat) : Option Nat :=
  (s.tgn.par.flatMap fun e => if e.2.set = n ∧ e.2.cls = cls ∧ e.2.role = role then
    ((e.2.shares ++ e.2.going.getD []).filter fun x => decide (x.1 = slot)).map (·.2.1) else []).foldl
      (fun a x => match a with
        | none => some x
        | some b => some (min b x)) none

/-- A parity IU is programmed (R253): HOLD records with the new high-waters, for which the responses wait. -/
def State.parWritten (s : State) (iu : Nat) (p : ParIu) (done : List (Nat × Nat × Nat)) : State :=
  let s := if p.shares.isEmpty then s.onTgn fun x => { x with par := x.par.del iu } else s.setPar iu { p with going := none }
  let slots := (done.map (·.1)).foldl (fun l x => insertNat x l) []
  let s := slots.foldl (fun s sl =>
    let v := (s.lowUnwritten p.set p.cls sl p.role).getD (s.hw p.set p.cls sl p.role)
    match s.record 3 p.set p.cls sl p.role 0 0 v with
    | (no, s) => s.onTgn fun x => { x with
        holdWait := x.holdWait ++ (done.filter fun d => decide (d.1 = sl)).map fun d => (no, d.2.2) }) s
  s.shbufLevel

/-- A share flow has shares that are not on flash, or HOLD records that are not. -/
def State.shareOpen (s : State) (i : Nat) : Bool :=
  (s.tgn.holdWait.any fun h => decide (h.2 = i) && !s.recDurable h.1) ||
    (s.tgn.par.any fun e => (e.2.shares ++ e.2.going.getD []).any fun x => decide (x.2.2 = i))

/-- Final responses whose HOLD records are durable are sent. -/
def State.holdCheck (s : State) : State :=
  let fs := (s.tgn.holdWait.map (·.2)).foldl (fun l x => insertNat x l) []
  (fs.filter fun i => !s.shareOpen i).foldl (fun s i =>
    (s.onTgn fun x => { x with holdWait := x.holdWait.filter fun h => decide (h.2 ≠ i) }).endFlow i 0) s

/-- A stored parity IU cannot be read: its shares are not applied, and their flows end. -/
def State.parLost (s : State) (iu : Nat) (p : ParIu) : State :=
  let s := p.shares.foldl (fun s x => s.setHw p.set p.cls x.1 p.role (min (s.hw p.set p.cls x.1 p.role) x.2.1)) s
  let s := (s.onTgn fun x => { x with par := x.par.del iu }).shbufLevel
  p.shares.foldl (fun s x => s.abortFlow x.2.2) s

/-- A unit of a stored parity IU arrives. -/
def State.parBase (s : State) (iu psa : Nat) (d : Option Bytes) : State :=
  match s.tgn.par.find iu with
  | some p =>
    match p.base with
    | some (b, left) =>
      let u := psa - b
      if !left.contains u then s
      else
        match d with
        | none => s.parLost iu p
        | some d =>
          match s.cipher (.atRest 0 true (iu * 16 + u)) d with
          | (none, s) => s.parLost iu p
          | (some x, s) =>
            let left := left.filter fun v => decide (v ≠ u)
            s.setPar iu { p with data := xorAt p.data (4096 * u) x, base := if left.isEmpty then none else some (b, left) }
    | none => s
  | none => s

/-! ### Requests of peers (R249, R250) -/

/-- Why a peer's request about a set is turned away: 12 NOT_MEMBER, 10 BAD_REQUEST; the set otherwise. -/
def State.shardSet (s : State) (k : ShardKey) : Nat ⊕ Nat :=
  match s.setOfUid k.uid with
  | none => .inl 12
  | some n =>
    if k.gen ≠ s.get (R.TGN_SET_GEN_GEN n) ∨ s.tgn.own = 4 then .inl 12
    else if 63 < k.cls ∨ 15 < k.first + k.count then .inl 10
    else .inr n

/-- The BUSY hint. -/
def State.busyHint (s : State) : Nat := s.get R.IST_CTX_CFG_BUSY_HINT

/-- A new request takes a flow and a context (R202); none where it is answered BUSY. -/
def State.admitFlow (s : State) (f : Flow) : Option (Nat × State) :=
  if s.ctxFree ≤ s.get R.IST_CTX_CFG_CTX_RSV then none
  else
    (s.openFlow f).map fun x =>
      (x.1, ((x.2.addCount R.IST_REQ_LO 1).evtB 0x310000 0x10 1).onIst fun y => { y with lastIst := true })

/-- The rate in Mb/s that a receiving controller advertises. -/
def State.putRate (s : State) : Nat := 10 * s.get R.IST_RATE_CFG_FLOW_CAP

/-- A PUT_SHARD request (R249, R252, R254). -/
def State.putShard (s : State) (a : NetAddr) (eng : Nat) (m : Msg) : State :=
  let k := ShardKey.ofNat m.key
  match s.shardSet k with
  | .inl st => s.reply a m st 0
  | .inr n =>
    if k.kind ≠ 1 ∧ k.kind ≠ 2 then s.reply a m 10 0
    else
      match s.shareRole k n m.cid with
      | none => s.reply a m 10 0
      | some (slot, c, pp, role) =>
        if m.len ≠ 65536 * (k.count + 1) then s.reply a m 10 0
        else
          match s.nextShare n k.cls slot role pp with
          | none => s.reply a m 10 0
          | some nx =>
            if nx ≠ 16 * c + k.first then s.sendMsg a { m with flags := 5, status := 2, off := nx, len := 0, arg := 0, seq := 0 } true
            else if s.holdFull then s.reply a m 3 s.busyHint
            else
              let w := s.get R.IST_FLOW_CFG_PUT_WIN * 65536
              let r : Rcv := { Rcv.none_ with len := m.len, last := s.now }
              match s.admitFlow ⟨.shareIn, 0, eng, m.cid, m.reqId, true, a, m.flow, m.key, 8, true, k.cls, Snd.none_, r, none⟩ with
              | none => s.reply a m 3 s.busyHint
              | some (i, s) =>
                match s.ist.flows.find i with
                | some f => (s.sendMsg a (f.msg i 8 1) true).sendCredit i f s.putRate w
                | none => s

/-- A GET_SHARD request (R249, R250). -/
def State.getShard (s : State) (a : NetAddr) (eng : Nat) (m : Msg) : State :=
  let k := ShardKey.ofNat m.key
  match s.shardSet k with
  | .inl st => s.reply a m st 0
  | .inr n =>
    let row := k.stripe % 4096
    let own := s.setSlot_ n
    let cnt := k.count + 1
    let go := fun (pre : Bytes) (iu : Option Nat) (frees : Option Nat) =>
      let pre := if iu.isNone then pre ++ List.replicate (65536 * cnt) 0 else pre
      let len := pre.length + (if iu.isNone then 0 else 65536 * cnt)
      let x := s.newSnd pre (iu.getD 0) 0 len m.arg m.seq 0
      match s.admitFlow ⟨.shardOut, 0, eng, m.cid, m.reqId, true, a, m.flow, m.key, 7, true, k.cls, x, Rcv.none_, none⟩ with
      | none => s.reply a m 3 s.busyHint
      | some (i, s) =>
        match frees with
        | some h => s.onTgn fun y => { y with frees := y.frees.put i (iu.getD 0 - k.first, h) }
        | none => s
    if k.kind = 3 then
      if k.pos < s.setK n ∧ s.posSlot n row k.pos = own then
        go [] ((s.chunkOf n own k.stripe).bind fun c => s.chunkIu n k.cls false c k.first) none
      else s.reply a m 10 0
    else if k.kind = 4 ∨ k.kind = 5 then
      let pp := s.setK n + (k.kind - 4)
      if s.posSlot n row pp = own then
        let map := fit 32 ((List.range cnt).flatMap fun u => leBytes 2 (s.contribMask n k.cls k.stripe pp (k.first + u)))
        go map ((s.heldNo n k.stripe pp).bind fun h => s.chunkIu n k.cls true h k.first) none
      else s.reply a m 10 0
    else if k.kind = 6 then
      let roles := [s.setK n, s.setK n + 1].filterMap fun pp => s.ownRoleOf n row pp
      match roles with
      | role :: _ =>
        s.sendMsg a { m with flags := 5, status := 0, off := s.hw n k.cls (s.posSlot n row k.pos) role, len := 0, arg := 0, seq := 0 }
          true
      | [] => s.reply a m 10 0
    else if k.kind = 7 then
      if (s.spareRows n own).contains row then
        match s.tgn.full.find? fun x => decide (x.1 = n ∧ x.2.1 = k.cls ∧ x.2.2.1 = k.stripe * 16 + k.pos) with
        | some x =>
          let back := decide (s.slotMember n (s.posSlot n row k.pos) = some m.cid) && decide (k.first + k.count = 15)
          go [] (s.chunkIu n k.cls true x.2.2.2 k.first) (if back then some (k.stripe * 16 + k.pos) else none)
        | none => s.reply a m 3 s.busyHint
      else s.reply a m 10 0
    else s.reply a m 10 0

/-- A stand-in frees a chunk that its slot's member has copied (R276). -/
def State.freeHeld (s : State) (i : Nat) : State :=
  match s.tgn.frees.find i with
  | none => s
  | some (iu, h) =>
    let place := s.iuPlace iu
    let s := s.onTgn fun x => { x with frees := x.frees.del i, full := x.full.filter fun y =>
      !(decide (y.2.2.1 = h) && (match place with
        | some (n, cls, _, _, _) => decide (y.1 = n) && decide (y.2.1 = cls)
        | none => false)) }
    s.dealloc iu 16

end Sys2Proof.Machine
end

