-- ==== Sys2Proof/Machine/Recon.lean ====
section
/-! DEFINITION. Reconstruction from peers (chapter 08): degraded reads, hedges, repair, rebuild, backfill and resync. -/

namespace Sys2Proof.Machine

open Sys2Proof

/-! ### Reads of a reconstruct (R261) -/

def State.setRecon (s : State) (id : Nat) (r : Recon) : State := s.onTgn fun x => { x with recons := x.recons.put id r }

/-- The read of a position: of its slot, or of its stand-in where it is REMOVED; missing at once where nobody serves it. -/
def State.peerRead (s : State) (r : Recon) (p : Nat) : PeerRead :=
  let row := r.stripe % 4096
  let sl := s.posSlot r.set row p
  let kind := if p < s.setK r.set then 3 else 4 + (p - s.setK r.set)
  if s.slotState r.set sl = 3 then
    match s.standIn r.set row with
    | some a => ⟨p, 7, a, none, none, false, 0, []⟩
    | none => ⟨p, 7, sl, none, none, false, 2, []⟩
  else ⟨p, kind, sl, none, none, false, if s.slotState r.set sl = 2 then 2 else 0, []⟩

/-- The positions first read: the other data positions, and P, or Q where the P holder is DOWN or P is what is rebuilt. -/
def State.reconReads (s : State) (r : Recon) : List PeerRead :=
  let k := s.setK r.set
  let pDown := decide (s.slotState r.set (s.posSlot r.set (r.stripe % 4096) k) = 2)
  let par := if r.pos = k ∨ pDown then k + 1 else k
  (((List.range k).filter fun p => decide (p ≠ r.pos)) ++ (if par = r.pos then [] else [par])).map (s.peerRead r)

/-- Reads that wait for a flow or a context are sent as soon as there is one (R236). -/
def State.reconPump (s : State) (id : Nat) : State :=
  match s.tgn.recons.find id with
  | none => s
  | some r =>
    (List.range r.reads.length).foldl (fun s i =>
      match s.tgn.recons.find id with
      | none => s
      | some r =>
        match r.reads[i]? with
        | none => s
        | some x =>
          if x.st ≠ 0 ∨ x.flow.isSome then s
          else
            match s.slotMember r.set x.slot with
            | none => s.setRecon id { r with reads := r.reads.set i { x with st := 2 } }
            | some m =>
              let key := s.shardKey r.set r.cls x.pos x.kind r.stripe r.j 0
              match s.askFlow m 7 key 0 (.shardIn id x.pos) r.cls Snd.none_ { Rcv.none_ with last := s.now } with
              | none => if (s.peerNet m).isNone then s.setRecon id { r with reads := r.reads.set i { x with st := 2 } } else s
              | some (f, s) => s.setRecon id { r with reads := r.reads.set i { x with flow := some f, sent := some s.now } }) s

/-- The hedge: the one parity read not yet sent, at most once (R261). -/
def State.reconHedge (s : State) (id : Nat) : State :=
  match s.tgn.recons.find id with
  | none => s
  | some r =>
    let k := s.setK r.set
    let left := [k, k + 1].filter fun p => decide (p ≠ r.pos) && !(r.reads.any fun x => decide (x.pos = p))
    match r.hedged, left with
    | false, p :: _ =>
      (((s.setRecon id { r with hedged := true, reads := r.reads ++ [s.peerRead r p] }).addCount R.TGN_HEDGE_LO 1).evtB tgnPage
        0x13 1).reconPump id
    | _, _ => s

/-! ### Solving (R247, R262) -/

/-- The data of a position that was received; none where it was not. -/
def Recon.dataOf (r : Recon) (p : Nat) : Option Bytes :=
  (r.reads.find? fun x => decide (x.pos = p) && decide (x.st = 1)).map fun x => if x.kind = 4 ∨ x.kind = 5 then x.data.drop 32 else x.data

/-- The contribution map of a received parity; that of a rebuilt parity is full. -/
def Recon.mapOf (r : Recon) (k p : Nat) : Option Nat :=
  (r.reads.find? fun x => decide (x.pos = p) && decide (x.st = 1)).map fun x =>
    if x.kind = 7 then 2 ^ k - 1 else leNat (x.data.take 2)

def xorAll (l : List Bytes) : Bytes := l.foldl (fun a b => xorPad a b) (List.replicate 65536 0)

/-- What a reconstruct has come to. -/
inductive Solve where
  | wait
  | fail
  | ok (d : Bytes)
  deriving DecidableEq, Repr

/-- The right side of a parity's equation: the parity and the known positions that its map shows. -/
def Recon.rhs (r : Recon) (k : Nat) (q : Bool) (unknown : List Nat) : Bytes :=
  let p := k + b2n q
  let m := (r.mapOf k p).getD 0
  xorAll (((r.dataOf p).getD []) :: ((List.range k).filter fun i => m.testBit i && !unknown.contains i).map fun i =>
    gfScale (if q then gfPow i else 1) ((r.dataOf i).getD []))

/-- One unknown position solved by one parity. -/
def Recon.solve1 (r : Recon) (k w : Nat) (q : Bool) : Bytes := gfScale (gfInv (if q then gfPow w else 1)) (r.rhs k q [w])

/-- The first of two unknown positions solved by both parities; none where the equations do not determine it. -/
def Recon.solve2 (r : Recon) (k w v : Nat) : Option Bytes :=
  let mp := (r.mapOf k k).getD 0
  let mq := (r.mapOf k (k + 1)).getD 0
  let a1 := b2n (mp.testBit w)
  let b1 := b2n (mp.testBit v)
  let a2 := if mq.testBit w then gfPow w else 0
  let b2 := if mq.testBit v then gfPow v else 0
  let det := gfMul a1 b2 ^^^ gfMul b1 a2
  if det = 0 then none
  else some (gfScale (gfInv det) (xorAll [gfScale b2 (r.rhs k false [w, v]), gfScale b1 (r.rhs k true [w, v])]))

/-- The state of the solution: unknowns against equations. -/
def Recon.solve (r : Recon) (k : Nat) : Solve :=
  let open_ := r.reads.any fun x => decide (x.st = 0)
  match r.reads.find? fun x => decide (x.pos = r.pos) && decide (x.st = 1) with
  | some x => .ok (if x.kind = 4 ∨ x.kind = 5 then x.data.drop 32 else x.data)
  | none =>
    let pars := [k, k + 1].filter fun p => decide (p ≠ r.pos) && (r.mapOf k p).isSome
    let shown := fun (i : Nat) => pars.any fun p => ((r.mapOf k p).getD 0).testBit i
    let lack := (List.range k).filter fun i => decide (i ≠ r.pos) && (r.dataOf i).isNone
    let missing := lack.filter shown
    let dataOut := r.reads.any fun x => decide (x.st = 0) && decide (x.pos < k)
    let stuck := if open_ ∨ (!r.hedged ∧ pars.length < 2) then Solve.wait else .fail
    if r.pos < k then
      if pars.isEmpty then stuck
      else if !shown r.pos then (if dataOut ∧ pars.length < 2 ∧ !r.hedged then .fail else if pars.length = 2 ∨ !open_ then .fail else .wait)
      else
        match missing with
        | [] => match pars.find? fun p => ((r.mapOf k p).getD 0).testBit r.pos with
          | some p => .ok (r.solve1 k r.pos (decide (p = k + 1)))
          | none => stuck
        | [v] => if pars.length = 2 then (match r.solve2 k r.pos v with
            | some d => .ok d
            | none => stuck) else stuck
        | _ => stuck
    else if dataOut then .wait
    else
      let build := fun (extra : List (Nat × Bytes)) => Solve.ok (xorAll ((List.range k).map fun i =>
        gfScale (if r.pos = k then 1 else gfPow i)
          (((extra.find? fun e => decide (e.1 = i)).map (·.2)).getD ((r.dataOf i).getD []))))
      match missing, pars with
      | [], _ => if lack.isEmpty ∨ !pars.isEmpty then build [] else stuck
      | [v], p :: _ => if ((r.mapOf k p).getD 0).testBit v then build [(v, r.solve1 k v (decide (p = k + 1)))] else stuck
      | _, _ => stuck

/-! ### Ends of a reconstruct (R141, R262, R263) -/

/-- Flows of a reconstruct that are still open are abandoned. -/
def State.reconDrop (s : State) (id : Nat) : State :=
  match s.tgn.recons.find id with
  | none => s
  | some r =>
    let s := r.reads.foldl (fun s x => match x.flow with
      | some f => if x.st = 0 then s.closeFlow f else s
      | none => s) s
    s.onTgn fun x => { x with recons := x.recons.del id }

/-- Every reader of an IU is served with a unit: those of its ladders at step 5, and the reads held at a die. -/
def State.serveIu (s : State) (psa : Nat) (d : Bytes) : State :=
  let s := (List.range 16).foldl (fun s u =>
    match s.rdp.ladders.find? fun l => decide (l.psa = psa + u) && decide (l.step = 5) with
    | some l => s.ladderOk l 5 0 ((d.drop (4096 * u)).take 4096)
    | none => s) s
  let held := (List.range 32).flatMap fun n => (s.chan.get (fun _ => ChanSt.reset) n).ops.filterMap fun o => match o.req.use with
    | .read who none p c => some (who, p, c)
    | _ => none
  held.foldl (fun s h => (List.range h.2.2).foldl (fun s i =>
    let a := h.2.1 + i
    if psa ≤ a ∧ a < psa + 16 then s.deliver h.1 a (some ((d.drop (4096 * (a - psa))).take 4096)) else s) s) s

/-- A rebuilt IU of RDP: its readers are served, and it is written to its class by a conditional update (R141). -/
def State.reconServe (s : State) (psa iu : Nat) (d : Bytes) : State :=
  match s.sealIu iu d with
  | (none, s) => s
  | (some c, s) => ((s.serveIu psa c).rebuiltWrite (s.sbOf psa) (s.posOf psa) c)

/-- A reconstruct of RDP is over without data: its ladders go on to step 6. -/
def State.reconLadders (s : State) (psa : Nat) : State :=
  s.onRdp fun x => { x with
    recon := x.recon.filter (· ≠ psa)
    ladders := x.ladders.map fun l => if psa ≤ l.psa ∧ l.psa < psa + 16 ∧ l.step = 5 then { l with busy := false } else l }

def State.setReb (s : State) (id : Nat) (j : RebJob) : State := s.onTgn fun x => { x with rebs := x.rebs.put id j }

/-- A job goes past the IU it was at: the next one, or the next chunk, which counts (R275, R276).  A lost data chunk that a
stand-in could not rebuild leaves a LOSS entry instead (R278). -/
def State.rebNext (s : State) (id : Nat) (ok : Bool) : State :=
  match s.tgn.rebs.find id with
  | none => s
  | some b =>
    let b := { b with partial_ := b.partial_ || !ok, hurt := b.hurt || !ok, at_ := none, buf := [] }
    let b := if b.kind = 5 ∧ s.get R.TGN_REB_CFG_RATE ≠ 0 then
        { b with nextAt := max b.nextAt s.now + 6553600 / s.get R.TGN_REB_CFG_RATE } else b
    let whole := decide (b.kind = 2) || decide (b.kind = 6) || decide (15 ≤ b.j)
    if !whole then s.setReb id { b with j := b.j + 1 }
    else
      match b.todo with
      | [] => s.setReb id b
      | c :: rest =>
        let s := s.setReb id { b with j := 0, hurt := false, todo := rest, done := b.done + 1 }
        if b.hurt ∧ b.kind = 5 then
          if c.2 < s.setK b.set then
            s.lossPush (c.1 % 2 ^ 32) (c.1 / 2 ^ 32 % 2 ^ 8 + b.set * 2 ^ 8 + b.cls * 2 ^ 12 + 2 ^ 19)
          else s
        else if (b.kind = 4 ∨ b.kind = 5) ∧ !b.hurt then
          let h := if b.kind = 5 then s.heldNo b.set c.1 c.2 else none
          let s := match h with
            | some h => s.onTgn fun x => { x with full := x.full ++ [(b.set, b.cls, c.1 * 16 + c.2, h)] }
            | none => s
          ((s.bump (R.TGN_SET_REB_CHUNKS b.set) 1).addCount R.TGN_REBUILT_LO 1).evtB tgnPage 0x15 1
        else s

/-- A rebuilt IU of a stand-in or a returned slot is written to its own extents. -/
def State.rebWrite (s : State) (b : RebJob) (r : Recon) (d : Bytes) : State :=
  let own := s.setSlot_ b.set
  let place := if r.pos < s.setK b.set ∧ b.kind = 4 then
      (s.chunkOf b.set own r.stripe).bind fun c => s.chunkIuNew b.set b.cls false c r.j
    else (s.heldNo b.set r.stripe r.pos).bind fun h => s.chunkIuNew b.set b.cls true h r.j
  match place with
  | none => s
  | some (iu, s) =>
    match s.sealIu iu d with
    | (some c, s) => s.place ⟨1, 0, b.cls, [some iu], false, [], none, false, [], [], c, .nobody⟩
    | (none, s) => s

/-- A reconstruct succeeds. -/
def State.reconOk (s : State) (id : Nat) (r : Recon) (d : Bytes) (crcOk : Bool) : State :=
  let s := s.reconDrop id
  let iu := match r.job, r.psa with
    | some (_, iu), _ => some iu
    | none, some psa => (s.iuOf psa).map (·.2)
    | none, none => none
  let fail := fun (s : State) =>
    let s := ((s.addCount R.TGN_RECON_FAIL_LO 1).evtB tgnPage 0x14 1).pulse 497
    let s := match r.psa with
      | some psa => s.reconLadders psa
      | none => s
    match r.job with
    | some (j, _) => s.rebNext j false
    | none => s
  if r.psa.isSome ∧ !crcOk then fail s
  else
    let s := (s.addCount R.TGN_RECON_LO 1).evtB tgnPage 0x12 1
    let s := match r.psa, iu with
      | some psa, some iu => (s.onRdp fun x => { x with recon := x.recon.filter (· ≠ psa) }).reconServe psa iu d
      | _, _ => s
    match r.job with
    | some (j, _) =>
      match s.tgn.rebs.find j with
      | some b => (if b.kind = 4 ∨ b.kind = 5 then s.rebWrite b r d else s).rebNext j true
      | none => s
    | none => s

/-- A reconstruct fails (R262, R263): RECON_FAIL, source 497, and the requester goes on without it. -/
def State.reconFail (s : State) (id : Nat) (r : Recon) : State :=
  let s := ((s.reconDrop id).addCount R.TGN_RECON_FAIL_LO 1).evtB tgnPage 0x14 1
  let s := s.pulse 497
  let s := match r.psa with
    | some psa => s.reconLadders psa
    | none => s
  match r.job with
  | some (j, _) => s.rebNext j false
  | none => s

/-- A reconstruct goes on: missing sources fire the hedge, and it ends once it is solved or cannot be. -/
def State.reconStep (s : State) (id : Nat) (crcOk : Bool) : State :=
  match s.tgn.recons.find id with
  | none => s
  | some r =>
    let alone := r.reads.length = 1 && r.reads.all fun x => decide (x.pos = r.pos)
    let s := if alone ∧ r.reads.all (fun x => decide (x.st = 2)) then
        (s.setRecon id { r with reads := s.reconReads r }).reconPump id
      else s
    let s := match s.tgn.recons.find id with
      | some r => if r.reads.any (fun x => decide (x.st = 2)) then s.reconHedge id else s
      | none => s
    match s.tgn.recons.find id with
    | none => s
    | some r =>
      match r.solve (s.setK r.set) with
      | .wait => s
      | .fail => s.reconFail id r
      | .ok d => s.reconOk id r d crcOk

/-- RECONSTRUCT_START (R261). -/
def State.reconStart (s : State) (r : Recon) : State :=
  let id := s.tgn.jobNo
  let s := (s.onTgn fun x => { x with jobNo := id + 1 }).setRecon id r
  let s := match r.reads with
    | [] => s.setRecon id { r with reads := s.reconReads r }
    | _ => s
  (s.reconPump id).reconStep id true

/-- IUs that RDP has handed over and that no reconstruct serves yet are started (R140); one that is not in a set of this
member fails at once. -/
def State.reconTake (s : State) : State :=
  (s.rdp.recon.filter fun p => !(s.tgn.recons.any fun r => decide (r.2.psa = some p))).foldl (fun s psa =>
    let place := (s.iuOf psa).bind fun x => if x.1 = 0 then s.iuPlace x.2 else none
    let start := fun (n cls t p j : Nat) => s.reconStart ⟨n, cls, t, p, j, some psa, none, [], false, s.now, false⟩
    match place with
    | some (n, cls, held, c, j) =>
      if !s.tgnRuns ∨ !s.setOn n then s.reconLadders psa
      else
        match if held then s.heldPlace n c else s.chunkPlace n (s.setSlot_ n) c with
        | some (t, p) => start n cls t p j
        | none => s.reconLadders psa
    | none => s.reconLadders psa) s

/-! ### Answers to reads -/

/-- A read of a reconstruct gets its data, or counts as missing; NOT_MEMBER restarts the reconstruct once (R277). -/
def State.reconAnswer (s : State) (id pos : Nat) (status : Nat) (d : Bytes) (crcOk : Bool) : State :=
  match s.tgn.recons.find id with
  | none => s
  | some r =>
    if status = 12 then
      if r.again then s.reconFail id r
      else
        let s := s.reconDrop id
        s.reconStart { r with reads := [], hedged := false, again := true }
    else
      let upd := fun (x : PeerRead) => if x.pos = pos ∧ x.st = 0 then { x with st := if status = 0 then 1 else 2, data := d } else x
      (s.setRecon id { r with reads := r.reads.map upd }).reconStep id crcOk

/-- HEDGE_EXPIRE: the hedge timer of an outstanding read runs out (R261, R264). -/
def State.hedgeExpire (s : State) (id pos : Nat) : State :=
  match s.tgn.recons.find id with
  | none => s
  | some r =>
    match r.reads.find? fun x => decide (x.pos = pos) && decide (x.st = 0) && !x.seen with
    | some x =>
      match x.sent, s.slotMember r.set x.slot with
      | some t, some m => if t + 1000 * s.hedgeTime r.set m ≤ s.now then s.reconHedge id else s
      | _, _ => s
    | none => s

/-! ### Repair, rebuild, backfill, resync (R260, R275, R276) -/

/-- A command of TGN ends: RESULT, GO clears, source 478. -/
def State.tgnEnd (s : State) (result : Nat) : State :=
  ((s.put R.TGN_CMD_STS_RESULT result).put R.TGN_CMD_GO 0).pulse 478

/-- STS.REBUILD and a set's REBUILD. -/
def State.rebFlags (s : State) : State :=
  let busy := fun (n : Nat) => s.tgn.rebs.any fun b => decide (b.2.set = n) && (decide (b.2.kind = 4) || decide (b.2.kind = 5))
  let s' := (List.range 16).foldl (fun s n => s.put (R.TGN_SET_STS_REBUILD n) (b2n (busy n))) s
  s'.put R.TGN_STS_REBUILD (b2n ((List.range 16).any busy))

/-- Resync of a set is over when nothing of it is left to ask or to send again; READY follows (R260, R273). -/
def State.resyncCheck (s : State) : State :=
  let left := fun (n : Nat) => (s.tgn.asks.any fun a => decide (a.2.set = n) && a.2.job.isNone)
    || (s.tgn.rebs.any fun b => decide (b.2.set = n) && decide (b.2.kind = 6))
    || (s.tgn.copies.any fun c => decide (c.set = n) && c.met && (decide (c.p ≤ 1) || decide (c.q ≤ 1)))
  let go := s.tgn.resync.filter fun n => !left n
  let s := go.foldl (fun s n =>
    let s := s.onTgn fun x => { x with resync := x.resync.filter (· ≠ n) }
    let s := (s.tgn.ints.filter fun z => decide (z.set = n) && decide (z.no ≠ 0) && !s.intBusy z).foldl (fun s z => s.intClose z) s
    s.put (R.TGN_SET_STS_RESYNC n) 0) s
  let s := if !go.isEmpty ∧ s.tgn.resync.isEmpty then (s.put R.TGN_STS_RESYNC 0).pulse 479 else s
  s.put R.TGN_STS_READY (b2n (s.flag R.TGN_STS_JOINED && s.tgn.resync.isEmpty && !s.limp))

/-- A job that has nothing left ends: a command's RESULT, or source 496 when a stand-in has done all its rows. -/
def State.rebEnd (s : State) (id : Nat) (b : RebJob) : State :=
  let s := s.onTgn fun x => { x with rebs := x.rebs.del id }
  let more := s.tgn.rebs.any fun x => decide (x.2.set = b.set) && decide (x.2.kind = b.kind)
  let s := if b.kind = 2 ∨ b.kind = 4 then
      let s := s.put R.TGN_CMD_STS_PROGRESS (b.done / 2 ^ 16)
      if more then (if b.partial_ then s.onTgn fun x => { x with rebs := x.rebs.map fun y =>
        if y.2.set = b.set ∧ y.2.kind = b.kind then (y.1, { y.2 with partial_ := true }) else y } else s)
      else if s.flag R.TGN_CMD_GO then s.tgnEnd (if b.partial_ then 4 else 0) else s
    else if b.kind = 5 ∧ !more then s.pulse 496
    else s
  s.rebFlags.resyncCheck

/-- The chunks that a slot's job has to rebuild below a high-water: those of the slot that this member stands in for, or,
for a backfill, the slot's own; stripes with two positions lost first. -/
def State.rebChunks (s : State) (b : RebJob) (hw : Nat) : List (Nat × Nat) :=
  let n := b.set
  let d := s.dataPairs n b.slot
  let chunks := cdiv hw 16
  let turns := if d.isEmpty then 0 else cdiv chunks d.length
  let data := (List.range chunks).filterMap fun c => s.chunkPlace n b.slot c
  let par := (List.range turns).flatMap fun t => (s.parPairs n b.slot).map fun p => (4096 * t + p.1, p.2)
  let mine := (data ++ par).filter fun x => decide (b.kind = 4) || decide (s.ownRoleOf n (x.1 % 4096) x.2 = some 3)
  (mine.filter fun x => decide (2 ≤ s.rowLost n x.1)) ++ mine.filter fun x => decide (s.rowLost n x.1 < 2)

/-- A READ_HW to the holder of a parity position of a stripe, about a contributor's position: one that is not lost, and not
this member. -/
def State.hwHolder (s : State) (n t pp : Nat) : Option Nat :=
  ((s.holder n (t % 4096) pp).bind fun h => if s.slotLost n h then none else s.slotMember n h).filter fun m => decide (m ≠ s.member)

/-- READ_HWs that wait for a flow or a context are sent; one whose holder is lost is given up. -/
def State.askPump (s : State) : State :=
  (s.tgn.asks.filter fun a => !a.2.sent).foldl (fun s e =>
    let a := e.2
    match s.hwHolder a.set a.stripe a.pos with
    | none => s.onTgn fun x => { x with
        asks := x.asks.del e.1
        rebs := x.rebs.map fun b => if a.job = some b.1 then (b.1, { b.2 with hw := 0 }) else b }
    | some m =>
      let pos := (((List.range (s.setK a.set)).find? fun p => decide (s.posSlot a.set (a.stripe % 4096) p = a.slot)).getD 0)
      match s.askFlow m 7 (s.shardKey a.set a.cls pos 6 a.stripe 0 0) 0 (.shardIn 0 e.1) a.cls Snd.none_ Rcv.none_ with
      | some (_, s) => s.onTgn fun x => { x with asks := x.asks.put e.1 { a with sent := true } }
      | none => if (s.peerNet m).isNone then s.onTgn fun x => { x with asks := x.asks.del e.1 } else s) s

def State.askHw (s : State) (job : Option Nat) (n cls t pp slot : Nat) : State :=
  let id := s.tgn.jobNo
  s.onTgn fun y => { y with jobNo := id + 1, asks := y.asks.put id ⟨job, n, cls, t, pp, slot, false⟩ }

/-- A rebuild or backfill asks a surviving holder for the slot's high-water; without one there is nothing it can do. -/
def State.rebAsk (s : State) (id : Nat) (b : RebJob) : State :=
  let cand := (s.dataPairs b.set b.slot).flatMap fun p => [s.setK b.set, s.setK b.set + 1].map fun pp => (p.1, pp)
  match cand.find? fun c => (s.hwHolder b.set c.1 c.2).isSome with
  | none => s.rebEnd id { b with partial_ := true }
  | some (row, pp) => ((s.setReb id { b with wait := true, hw := 2 ^ 40 }).askHw (some id) b.set b.cls row pp b.slot).askPump

/-- An own IU read for a resync becomes a copy whose share is owed in the role asked for. -/
def State.resyncCopy (s : State) (b : RebJob) (seq role iu : Nat) (d : Bytes) : State :=
  if s.tgn.copies.any fun c => decide (c.set = b.set) && decide (c.cls = b.cls) && decide (c.seq = seq) then
    s.onTgn fun x => { x with copies := x.copies.map fun c =>
      if c.set = b.set ∧ c.cls = b.cls ∧ c.seq = seq then c.put (decide (role = 1)) 0 else c }
  else
    (s.onTgn fun x => { x with copies := x.copies ++
      [⟨b.set, b.cls, seq, iu, d, true, if role = 0 then 0 else 3, if role = 1 then 0 else 3⟩] }).shbufLevel

/-- The next IU of a job is begun. -/
def State.rebBegin (s : State) (id : Nat) (b : RebJob) : State :=
  let own := s.setSlot_ b.set
  match b.todo with
  | [] => s.rebEnd id b
  | (x, y) :: _ =>
    if b.kind = 2 then
      let e := s.entryAt 0 x
      match s.iuPlace x with
      | some (n, cls, held, c, j) =>
        match if held then s.heldPlace n c else s.chunkPlace n own c with
        | some (t, p) => if entState e = 3 then
            s.reconStart ⟨n, cls, t, p, j, some (entPsa e), some (id, x), [], false, s.now, false⟩ else s.rebNext id true
        | none => s.rebNext id false
      | none => s.rebNext id false
    else if b.kind = 6 then
      match s.chunkIu b.set b.cls false (x / 16) (x % 16) with
      | none => s.rebNext id true
      | some iu =>
        let e := s.entryAt 0 iu
        if entState e = 1 then
          (s.setReb id { b with at_ := some (entPsa e) }).issueRead (.tgn (2 ^ 40 + id)) none (entPsa e) 16 0 0
        else if entState e = 3 then
          (s.setReb id { b with at_ := some (entPsa e) }).remoteRead (.tgn (2 ^ 40 + id)) (entPsa e) 16
        else s.rebNext id true
    else
      let slot := s.posSlot b.set (x % 4096) y
      let empty := decide (y < s.setK b.set) && (match s.chunkOf b.set slot x with
        | some c => decide (b.hw ≤ 16 * c + b.j)
        | none => false)
      if empty then s.rebNext id true
      else
        let r : Recon := ⟨b.set, b.cls, x, y, b.j, none, some (id, 0), [], false, s.now, false⟩
        if b.kind = 4 then
          let held := [s.spareSlot b.set (x % 4096) 0, s.spareSlot b.set (x % 4096) 1].filterMap fun o =>
            o.bind fun a => if s.slotLost b.set a then none else some a
          match held with
          | a :: _ => s.reconStart { r with reads := [⟨y, 7, a, none, none, false, 0, []⟩] }
          | [] => s.reconStart r
        else s.reconStart r

/-- Jobs go on: those with no reconstruct or read of their own, in turn. -/
def State.rebPump (s : State) : State :=
  if !s.tgnRuns ∨ s.get R.PLJ_PF_STS_STATE ≠ 0 then s
  else
    s.tgn.rebs.foldl (fun s e =>
      match s.tgn.rebs.find e.1 with
      | none => s
      | some b =>
        let running := b.at_.isSome || s.tgn.recons.any fun r => match r.2.job with
          | some (j, _) => decide (j = e.1)
          | none => false
        if running ∨ s.now < b.nextAt ∨ (b.kind = 6 ∧ s.contribFull) then s
        else if b.wait then (if b.hw = 2 ^ 40 then s else s.rebAsk e.1 b)
        else s.rebBegin e.1 b) s

/-- A unit of an own IU that a resync reads. -/
def State.resyncUnit (s : State) (id psa : Nat) (d : Option Bytes) : State :=
  match s.tgn.rebs.find id with
  | none => s
  | some b =>
    match b.at_, b.todo, d with
    | some a, (seq, role) :: _, some d =>
      if psa < a ∨ a + 16 ≤ psa then s
      else
        let b := { b with buf := b.buf.put (psa - a) d }
        if b.buf.length < 16 then s.setReb id b
        else
          match s.chunkIu b.set b.cls false (seq / 16) (seq % 16) with
          | none => (s.setReb id b).rebNext id false
          | some iu =>
            let r := b.buf.foldl (fun (x : Option Bytes × State) u => match x.1 with
              | none => x
              | some acc => match x.2.cipher (.atRest 0 true (iu * 16 + u.1)) u.2 with
                | (some p, s) => (some (acc ++ p), s)
                | (none, s) => (none, s)) (some [], s)
            match r with
            | (some p, s) => ((s.setReb id b).resyncCopy b seq role iu p).rebNext id true
            | (none, s) => (s.setReb id b).rebNext id false
    | some _, _, none => s.rebNext id false
    | _, _, _ => s

/-- Units of Tarragon's own reads taken from the read path. -/
def State.tgnArrivals : List Got → State → State
  | [], s => s
  | g :: gs, s =>
    match g.who with
    | .tgn k =>
      if 2 ^ 40 ≤ k then State.tgnArrivals gs (s.resyncUnit (k - 2 ^ 40) g.psa g.data)
      else State.tgnArrivals gs (s.parBase k g.psa g.data)
    | _ => State.tgnArrivals gs (s.onRdp fun x => { x with got := x.got ++ [g] })

def State.tgnTake (s : State) : State := State.tgnArrivals s.rdp.got (s.onRdp fun x => { x with got := [] })

/-- Own IUs of a class that are written, as sequence indexes. -/
def State.ownSeqs (s : State) (n cls : Nat) : List Nat :=
  (s.mappedIus 0).filterMap fun iu => match s.iuPlace iu with
    | some (m, c, false, ch, j) => if m = n ∧ c = cls ∧ entState (s.entryAt 0 iu) ≠ 0 then some (16 * ch + j) else none
    | _ => none

/-- A holder's high-water arrives (R260, R275): a rebuild knows its chunks; a resync sends its own IUs again from there on. -/
def State.hwAnswer (s : State) (id : Nat) (hw : Option Nat) : State :=
  match s.tgn.asks.find id with
  | none => s
  | some a =>
    let s := s.onTgn fun x => { x with asks := x.asks.del id }
    match a.job, hw with
    | some j, some v => match s.tgn.rebs.find j with
      | some b => s.setReb j { b with wait := false, hw := v, todo := s.rebChunks b v }
      | none => s
    | some j, none => match s.tgn.rebs.find j with
      | some b => s.setReb j { b with hw := 0 }
      | none => s
    | none, some v =>
      let h := s.holder a.set (a.stripe % 4096) a.pos
      let q := decide (a.pos = s.setK a.set + 1)
      let mine := (s.ownSeqs a.set a.cls).filter fun x => decide (v ≤ x) &&
        (match s.chunkPlace a.set (s.setSlot_ a.set) (x / 16) with
         | some (t, _) => decide (s.holder a.set (t % 4096) a.pos = h)
         | none => false)
      let todo := mine.map fun x => (x, b2n q)
      let known := (s.tgn.rebs.filter fun b => decide (b.2.kind = 6) && decide (b.2.set = a.set) && decide (b.2.cls = a.cls)).flatMap
        fun b => b.2.todo
      let todo := todo.filter fun x => !known.contains x
      if todo.isEmpty then s.resyncCheck
      else
        let k := s.tgn.jobNo
        (s.onTgn fun x => { x with jobNo := k + 1 }).setReb k ⟨6, a.set, a.cls, s.setSlot_ a.set, todo, 0, 0, 0, 0, false, false, false, none, []⟩
    | none, none => s.resyncCheck

/-- The stripes that an open intent or dirty region of a set names. -/
def State.intStripes (s : State) (x : OpenInt) : List Nat :=
  if x.dirty then (List.range 1024).filterMap fun i => (s.chunkPlace x.set (s.setSlot_ x.set) (1024 * x.at_ + i)).map (·.1)
  else [x.at_]

/-- RESYNC (R260): READ_HW to each holder of each listed stripe of a set. -/
def State.resyncStart (s : State) (n : Nat) : State :=
  let s := (s.put (R.TGN_SET_STS_RESYNC n) 1).put R.TGN_STS_RESYNC 1
  let s := s.onTgn fun x => { x with resync := insertNat n x.resync }
  let asks := (s.tgn.ints.filter fun x => decide (x.set = n)).flatMap fun x =>
    (s.intStripes x).flatMap fun t => [(x.cls, t, s.setK n), (x.cls, t, s.setK n + 1)]
  (asks.foldl (fun s a => s.askHw none n a.1 a.2.1 a.2.2 (s.setSlot_ n)) s).askPump

/-- STANDIN_REBUILD (R275): the jobs of a slot that became REMOVED, one for each peer-protected class. -/
def State.standInStart (s : State) (n slot : Nat) : State :=
  if !s.flag R.TGN_REB_CFG_EN ∨ slot = s.setSlot_ n then s
  else
    ((List.range 64).filter fun c => s.flag (R.FTL_CLASS_CTL_PEER c)).foldl (fun s c =>
      let k := s.tgn.jobNo
      (s.onTgn fun x => { x with jobNo := k + 1 }).setReb k ⟨5, n, c, slot, [], 0, 0, 0, 0, false, false, true, none, []⟩) s

end Sys2Proof.Machine
end

