-- ==== Sys2Proof/Machine/Members.lean ====
section
/-! DEFINITION. Membership (chapter 08): epochs, the tree, HELLO, joining and leaving, the acting root, and the commands and
registers of the TGN pages. -/

namespace Sys2Proof.Machine

open Sys2Proof

/-- The last epoch applied, the cluster size, the acting root as this member sees it. -/
def State.epoch (s : State) : Nat := s.rd64 R.TGN_EPOCH_LO
def State.cluster (s : State) : Nat := s.get R.TGN_CLUSTER_SIZE
def State.rootId (s : State) : Nat := s.get R.TGN_ROOT_ID_ROOT
def State.isRoot (s : State) : Bool := s.flag R.TGN_STS_ROOT

/-- The tree of R265: a member's parent and children. -/
def treeParent (y : Nat) : Option Nat := if y = 0 then none else if y < 17 then some 0 else some ((y - 2) / 15)
def treeChildren (y : Nat) : List Nat :=
  if y = 0 then (List.range 16).map (· + 1) else (List.range 15).map (15 * y + 2 + ·)

/-- The existing children of a member; an acting root other than 0 serves the root's other children too (R268). -/
def State.children (s : State) (y : Nat) : List Nat :=
  let extra := if y = s.member ∧ s.isRoot ∧ y ≠ 0 then (treeChildren 0).filter fun c => decide (c ≠ y) else []
  (treeChildren y ++ extra).filter fun c => decide (c < s.cluster)

/-! ### Epoch messages (R266, R267) -/

def Change.bytes (c : Change) : Bytes :=
  leBytes 4 (c.member % 2 ^ 18 + c.kind % 16 * 2 ^ 18) ++ leBytes 4 c.uid ++ leBytes 1 (c.slot % 64) ++ leBytes 3 c.gen ++ leBytes 4 0

def Change.ofBytes (b : Bytes) : Change :=
  let w := hdrNum b 0 4
  ⟨w % 2 ^ 18, w / 2 ^ 18 % 16, hdrNum b 4 4, hdrNum b 8 1 % 64, hdrNum b 9 3⟩

/-- The payload of an epoch message, and the changes that one carries. -/
def State.epochBytes (s : State) (cs : List Change) : Bytes :=
  leBytes 4 s.cluster ++ leBytes 1 cs.length ++ leBytes 3 0 ++ cs.flatMap Change.bytes

def epochChanges (b : Bytes) : List Change :=
  (List.range (min 16 (hdrNum b 4 1 % 32))).map fun i => Change.ofBytes ((b.drop (8 + 16 * i)).take 16)

/-- An epoch sent to a member. -/
def State.epochSend (s : State) (m : Nat) (a : NetAddr) (num time : Nat) (cs : List Change) : State :=
  let b := s.epochBytes cs
  match s.askOpen m a 12 (num * 2 ^ 64) (.epochOut m) 0 (s.newSnd b 0 0 b.length 0 0 0) { Rcv.none_ with len := time } with
  | some (_, _, s) => s
  | none => s

/-- An epoch sent to each of the children that the peer table holds. -/
def State.epochForward (s : State) (ms : List Nat) (num time : Nat) (cs : List Change) : State :=
  ms.foldl (fun s m => match s.peerNet m with
    | some a => s.epochSend m a num time cs
    | none => s) s

/-- JOIN_STS.STATE. -/
def State.joinState (s : State) (v : Nat) : State := s.put R.TGN_JOIN_STS_STATE v

/-- JOINED (R273): this member is UP; every enabled set resyncs. -/
def State.joined (s : State) : State :=
  if s.tgn.own = 2 then s
  else
    let s := (s.onTgn fun x => { x with own := 2, heardParent := s.now, heardRoot := s.now }).joinState 4
    let s := (((s.put R.TGN_STS_JOINED 1).put R.TGN_JOIN_CTL_JOIN 0).pulse 472)
    (s.setsOn.foldl State.resyncStart s).resyncCheck

/-- This member is REMOVED (R271). -/
def State.removed (s : State) : State :=
  let s := (s.onTgn fun x => { x with own := 4 }).joinState 0
  ((s.put R.TGN_STS_JOINED 0).put R.TGN_JOIN_CTL_LEAVE 0).resyncCheck

/-- Shares on their way to a slot are ended and owed again (R277). -/
def State.slotJobs (s : State) (n slot : Nat) : State :=
  (s.tgn.jobs.filter fun j => decide (j.2.set = n) && decide (j.2.slot = slot)).foldl (fun s j => s.shareEnd j.1 0 0) s

/-- Reads of reconstructs from a member that is not UP any more count as missing. -/
def State.slotReads (s : State) (n slot : Nat) : State :=
  s.tgn.recons.foldl (fun s e =>
    if e.2.set = n ∧ e.2.reads.any fun x => decide (x.slot = slot) && decide (x.st = 0) then
      let s := e.2.reads.foldl (fun s x => match x.flow with
        | some i => if x.slot = slot ∧ x.st = 0 then s.closeFlow i else s
        | none => s) s
      (s.setRecon e.1 { e.2 with reads := e.2.reads.map fun x => if x.slot = slot ∧ x.st = 0 then { x with st := 2 } else x }).reconStep
        e.1 true
    else s) s

/-- INTENT records of a set that name holders which no longer hold are written anew (R277). -/
def State.intRenew (s : State) (n : Nat) : State :=
  let new := fun (z : OpenInt) (p : Nat) => (s.holder n (z.at_ % 4096) p).getD (s.posSlot n (z.at_ % 4096) p)
  let s := s.onTgn fun x => { x with ints := x.ints.map fun z =>
    if z.set = n ∧ !z.dirty ∧ (z.pslot ≠ new z (s.setK n) ∨ z.qslot ≠ new z (s.setK n + 1)) then
      { z with pslot := new z (s.setK n), qslot := new z (s.setK n + 1), no := 0 }
    else z }
  s.intRetry

/-- One change of an epoch applied. -/
def State.changeApply (s : State) (num : Nat) (c : Change) : State :=
  if c.kind = 4 then
    match s.setOfUid c.uid with
    | none => s
    | some n =>
      let s := (s.dramStore 4 (s.regionBase n + 0x20000 + 4 * c.slot) (leBytes 4 (c.member % 2 ^ 18 + 2 ^ 18)) false).2
      s.put (R.TGN_SET_GEN_GEN n) c.gen
  else if c.kind = 0 ∨ 4 < c.kind then s
  else
    let s := if c.kind = 2 then s.onTgn fun x => { x with down := x.down.put c.member s.now }
      else s.onTgn fun x => { x with down := x.down.del c.member }
    if c.member = s.member then (if c.kind = 1 then s.joined else if c.kind = 3 then s.removed else s)
    else
      let old := s.memberState c.member
      let s := s.setMember c.member c.kind num
      if c.kind = old ∨ c.kind = 1 then s
      else
        s.setsOn.foldl (fun s n =>
          ((List.range (s.setG n)).filter fun sl => decide (s.slotMember n sl = some c.member)).foldl (fun s sl =>
            let s := (s.slotJobs n sl).slotReads n sl
            if c.kind = 3 then (s.intRenew n).standInStart n sl else s) s) s

/-- An epoch applied (R267): its changes, the states of the sets, the record of the last 256 epochs. -/
def State.epochApply (s : State) (num : Nat) (cs : List Change) : State :=
  let s := s.wr64 R.TGN_EPOCH_LO num
  let s := cs.foldl (fun s c => s.changeApply num c) s
  let s := (List.range 16).foldl State.setRefresh s
  let s := s.onTgn fun x => { x with hist := ((num, cs) :: x.hist).take 256 }
  ((s.bump R.TGN_EPOCH_CNT_APPLIED 1).evtB tgnPage 0x17 1).rebFlags

/-! ### HELLO (R269 to R271) -/

/-- A message with its payload waits at its port. -/
def State.sendPeer (s : State) (a : NetAddr) (m : Msg) (payload : Bytes) : State :=
  match s.seal m true payload with
  | (none, s) => s
  | (some b, s) => s.onNet a.port fun x => { x with ctrl := x.ctrl ++ [⟨a, b⟩] }

/-- ARG of a HELLO request. -/
def HelloWhy.arg : HelloWhy → Nat
  | .join => 1
  | .query => 2
  | .suspect _ _ => 4
  | .leave => 8
  | _ => 0

/-- A HELLO sent to a member. -/
def State.hello (s : State) (why : HelloWhy) (member : Nat) (a : NetAddr) : State :=
  let (no, s) := s.takeReq
  let s := s.onTgn fun x => { x with hellos := x.hellos.put no ⟨why, member, a, s.now, none⟩ }
  match why with
  | .suspect m e => s.sendPeer a ⟨1, 11, 2, 0, member, no, 0, m, 0, 32, 4, 0⟩ (fit 32 (e.take 24))
  | _ => s.sendPeer a ⟨1, 11, 0, 0, member, no, 0, 0, 0, 0, why.arg, 0⟩ []

/-- A HELLO to a member of the peer table. -/
def State.helloTo (s : State) (why : HelloWhy) (member : Nat) : State :=
  match s.peerNet member with
  | some a => s.hello why member a
  | none => s

/-- A HELLO that is over. -/
def State.helloDrop (s : State) (no : Nat) : State := s.onTgn fun x => { x with hellos := x.hellos.del no }

/-- A change queued by the acting root. -/
def State.queueChange (s : State) (member kind : Nat) : State :=
  if s.tgn.queue.any fun c => decide (c.member = member) && decide (c.kind = kind) then s
  else s.onTgn fun x => { x with queue := x.queue ++ [⟨member, kind, 0, 0, 0⟩] }

/-- A suspect reported to the acting root; the root itself takes it into its list and probes it. -/
def State.suspectTake (s : State) (m : Nat) (e : Bytes) : State :=
  (s.onTgn fun x => { x with suspects := x.suspects.put m (e.take 24) }).hello .check m (peerAddrOf e)

def State.report (s : State) (m : Nat) : State :=
  let e := fit 24 (((s.peerEntry m).getD []).take 24)
  let w := leNat (e.take 4)
  let e := leBytes 4 (w % 2 ^ 22 + w / 2 ^ 24 * 2 ^ 24) ++ e.drop 4
  if s.isRoot then (if s.tgn.suspects.length < 256 ∨ (s.tgn.suspects.find m).isSome then s.suspectTake m e else s)
  else s.helloTo (.suspect m e) s.rootId

/-- The answer to a HELLO. -/
def State.helloReply (s : State) (a : NetAddr) (m : Msg) (status arg : Nat) : State :=
  let time := if s.timeUnknown then 0 else s.devTime
  s.sendPeer a { m with flags := 5, status := status, key := s.epoch * 2 ^ 64 + s.rootId, off := time,
                         len := s.cluster, arg := arg, seq := 0 } []

/-- Own state in a HELLO response. -/
def State.ownCode (s : State) : Nat :=
  if s.tgn.own = 2 then 1 else if s.tgn.own = 1 then 2 else if 3 ≤ s.tgn.own then 3 else 0

/-- A HELLO request (R269, R271, R273). -/
def State.helloAsk (s : State) (a : NetAddr) (m : Msg) (payload : Bytes) : State :=
  let join := m.arg.testBit 0
  let susp := m.arg.testBit 2
  let leave := m.arg.testBit 3
  let ok := s.helloReply a m 0 s.ownCode
  if 2 ≤ b2n join + b2n susp + b2n leave ∨ 16 ≤ m.arg ∨ (susp ∧ (!m.data ∨ m.len ≠ 32 ∨ payload.length < 32)) then
    s.helloReply a m 10 0
  else if (join ∨ susp ∨ leave) ∧ !s.isRoot then s.helloReply a m 10 0
  else if join then
    if s.tgn.joins.contains m.cid then ok
    else if 1024 ≤ s.tgn.joins.length then s.helloReply a m 3 (125 * s.tgn.joins.length)
    else ok.onTgn fun x => { x with joins := x.joins ++ [m.cid] }
  else if susp then
    let who := m.key % 2 ^ 18
    if 256 ≤ s.tgn.suspects.length ∧ (s.tgn.suspects.find who).isNone then s.helloReply a m 3 1000
    else ok.suspectTake who payload
  else if leave then ok.queueChange m.cid 3
  else ok

/-- Device time taken from the acting root (R270, R408). -/
def State.rootTime (s : State) (h : Hello) (m : Msg) : State :=
  if s.timeUnknown ∧ m.off ≠ 0 ∧ m.cid = m.key % 2 ^ 18 then
    let half := (s.now - h.sent) / 2
    ((s.timeLoad (m.off + half) 2).put R.AON_TIME_STS_UNKNOWN 0).put R.AON_TIME_UNC_US (1000 + cdiv half 1000)
  else s

/-- Members of this member's groups. -/
def State.groupPeers (s : State) : List Nat :=
  (s.setsOn.flatMap fun n => (List.range (s.setG n)).filterMap fun sl => s.slotMember n sl).foldl
    (fun l m => if m = s.member then l else insertNat m l) []

/-- QUERY HELLOs to every peer of the member's groups after a gap that nobody fills (R267). -/
def State.queryAll (s : State) : State := s.groupPeers.foldl (fun s m => s.helloTo .query m) s

/-- A seed has answered (R273 step 3): the join goes to the acting root; a member that is itself named acts as root. -/
def State.joinRoot (s : State) (root : Nat) : State :=
  let s := (s.put R.TGN_ROOT_ID_ROOT root).joinState 3
  if root = s.member then
    let s := if s.isRoot then s else (s.put R.TGN_STS_ROOT 1).pulse 474
    if s.tgn.joins.contains root then s else s.onTgn fun x => { x with joins := x.joins ++ [root] }
  else s.helloTo .join root

/-- A HELLO response (R267 to R273). -/
def State.helloAnswer (s : State) (no : Nat) (h : Hello) (m : Msg) : State :=
  let s := s.rootTime h m
  let root := m.key % 2 ^ 18
  let ep := m.key / 2 ^ 64
  let busy := s.onTgn fun x => { x with hellos := x.hellos.put no { h with retry := some (s.now + 1000 * m.arg) } }
  let again := ((s.helloDrop no).put R.TGN_ROOT_ID_ROOT root).helloTo h.why root
  match h.why with
  | .seed => ((s.helloDrop no).wr64 R.TGN_EPOCH_LO (max s.epoch ep)).joinRoot root
  | .join | .leave | .suspect _ _ =>
    if m.status = 3 then busy else if m.status = 10 ∧ root ≠ h.member then again else s.helloDrop no
  | .probe =>
    (s.helloDrop no).onTgn fun x => { x with heardRoot := s.now }
  | .query =>
    let st := if m.arg % 4 = 1 then 1 else if m.arg % 4 = 3 then 3 else 0
    let s := (s.helloDrop no).setMember h.member st (max s.epoch ep)
    (List.range 16).foldl State.setRefresh (s.wr64 R.TGN_EPOCH_LO (max s.epoch ep))
  | .check =>
    let s := (s.helloDrop no).onTgn fun x => { x with suspects := x.suspects.del h.member }
    if 2 ≤ s.memberState h.member ∨ (s.tgn.down.find h.member).isSome then s.queueChange h.member 1 else s

/-! ### Receiving epochs (R267) -/

/-- An EPOCH message from a member. -/
def State.epochTake (s : State) (a : NetAddr) (m : Msg) (payload : Bytes) : State :=
  let num := m.key / 2 ^ 64
  let heard := fun (s : State) => s.onTgn fun x => { x with
    heardParent := if treeParent s.member = some m.cid ∨ m.cid = s.rootId then s.now else x.heardParent, heardRoot := s.now }
  if m.data then
    let s := heard (s.sendPeer a ⟨1, 5, 0, 0, m.cid, m.reqId, m.flow, m.key, 0, 0, 0, m.seq % 2 ^ 32 + 1⟩ [])
    let cs := epochChanges payload
    if num = s.epoch + 1 ∧ !cs.isEmpty then
      (s.epochApply num cs).epochForward (s.children s.member) num m.off cs
    else if s.epoch < num then
      let s := (s.bump R.TGN_EPOCH_CNT_GAPS 1).pulse 475
      match (treeParent s.member).bind s.peerNet with
      | some p => s.sendPeer p ⟨1, 12, 0, 0, (treeParent s.member).getD 0, s.tgn.reqNo, 0, s.epoch * 2 ^ 64, 0, 0, 0, 0⟩ []
      | none => s
    else if num = s.epoch ∧ cs.isEmpty then s.epochForward (s.children s.member) num m.off []
    else s
  else if m.resp then (if m.status = 2 then s.queryAll else s)
  else
    let want := (List.range (s.epoch - num)).map fun i => num + 1 + i
    let have_ := want.map fun e => s.tgn.hist.find? fun h => decide (h.1 = e)
    if s.epoch - num ≤ 256 ∧ have_.all (·.isSome) then
      have_.foldl (fun s h => match h with
        | some h => s.epochSend m.cid a h.1 s.devTime h.2
        | none => s) s
    else s.sendPeer a { m with flags := 5, status := 2, off := 0, len := 0, arg := 0, seq := 0 } []

/-- A child has not acknowledged an epoch (R265): it is reported, and its own children get the epoch directly. -/
def State.epochLost (s : State) (i : Nat) (f : Flow) : State :=
  let s := s.closeFlow i
  let num := f.key / 2 ^ 64
  let cs := epochChanges f.snd.pre
  (s.report f.cid).epochForward ((treeChildren f.cid).filter fun c => decide (c < s.cluster)) num f.rcv.len cs

/-! ### The acting root (R268, R269) -/

/-- EPOCH_BEAT: the present epoch goes out as a beat. -/
def State.epochBeat (s : State) : State :=
  if s.tgnRuns ∧ s.isRoot then s.epochForward (s.children s.member) s.epoch s.devTime [] else s

/-- EPOCH_ISSUE: up to 16 queued changes, the queued joins as UP, make a new epoch, at most one in GAP. -/
def State.epochIssue (s : State) : State :=
  let q := s.tgn.queue ++ s.tgn.joins.map fun m => (⟨m, 1, 0, 0, 0⟩ : Change)
  if !s.tgnRuns ∨ !s.isRoot ∨ q.isEmpty ∨ s.now < s.tgn.lastIssue + 1000 * s.get R.TGN_EPOCH_CFG_GAP then s
  else
    let cs := q.take 16
    let s := s.onTgn fun x => { x with
      queue := x.queue.drop 16
      joins := x.joins.drop (16 - min 16 x.queue.length)
      lastIssue := s.now }
    let num := s.epoch + 1
    (s.epochApply num cs).epochForward (s.children s.member) num s.devTime cs

/-- The silence that makes a parent suspect, in ns. -/
def State.missTime (s : State) : Nat := s.get R.TGN_EPOCH_CFG_MISS * s.get R.TGN_EPOCH_CFG_BEAT * 10 ^ 6

def State.seedTmo (s : State) : Nat := s.get R.TGN_JOIN_CFG_SEED_TMO * 10 ^ 6

/-- PARENT_SILENT: the parent is reported, or the acting root is probed. -/
def State.parentSilent (s : State) (root : Bool) : State :=
  if !s.tgnRuns ∨ s.tgn.own ≠ 2 ∨ s.isRoot then s
  else if root then
    if s.now < s.tgn.heardRoot + s.missTime ∨ s.tgn.hellos.any (fun h => decide (h.2.why = .probe)) then s
    else s.helloTo .probe s.rootId
  else
    match treeParent s.member with
    | some p => if s.now < s.tgn.heardParent + s.missTime then s else s.report p
    | none => s

/-- ROOT_TAKEOVER: the root has not answered, and this member is the lowest live one of 0 to 16. -/
def State.rootTakeover (s : State) : State :=
  match s.tgn.hellos.find? fun h => decide (h.2.why = .probe) && decide (h.2.sent + s.seedTmo ≤ s.now) with
  | none => s
  | some h =>
    let lower := (List.range s.member).any fun m => decide (m ≠ s.rootId) && decide (s.memberState m = 1)
    let s := s.helloDrop h.1
    if s.member ≤ 16 ∧ !lower ∧ s.tgn.own = 2 ∧ s.tgnRuns then
      (((s.put R.TGN_STS_ROOT 1).put R.TGN_ROOT_ID_ROOT s.member).pulse 474)
    else s

/-- SUSPECT_PROBE_EXPIRE: a suspect that does not answer is made DOWN, and is asked again. -/
def State.suspectExpire (s : State) (m : Nat) : State :=
  match s.tgn.hellos.find? fun h => decide (h.2.why = .check) && decide (h.2.member = m) && decide (h.2.sent + s.seedTmo ≤ s.now) with
  | none => s
  | some h =>
    if !s.isRoot then s.helloDrop h.1
    else
      let s := s.helloDrop h.1
      let s := if 2 ≤ s.memberState m then s else s.queueChange m 2
      s.hello .check m h.2.addr

/-- MEMBER_REMOVE_DUE: a member DOWN for DELAY seconds is made REMOVED. -/
def State.removeDue (s : State) (m : Nat) : State :=
  match s.tgn.down.find m with
  | some t => if s.isRoot ∧ t + s.get R.TGN_REB_CFG_DELAY * 10 ^ 9 ≤ s.now then
      (s.onTgn fun x => { x with down := x.down.del m }).queueChange m 3
    else s
  | none => s

/-! ### Joining and leaving (R273) -/

/-- A back-off drawn uniformly from 0 to a window in ms. -/
def State.backOff (s : State) (window : Nat) : State :=
  let (d, s) := s.fresh (window + 1)
  (s.onTgn fun x => { x with window := window, backEnd := s.now + d * 10 ^ 6, seed := 0, own := 1 }).joinState 1

/-- JOIN starts. -/
def State.joinStart (s : State) : State := (s.put R.TGN_JOIN_CTL_JOIN 1).backOff (cdiv (60000 * s.cluster) 262144)

/-- The seeds of the peer table, in order. -/
def State.seeds (s : State) : List (Nat × NetAddr) :=
  (List.range 2048).filterMap fun i =>
    let b := getBytes s.mem.dram (s.peerBase + 64 * i) 24
    let w := leNat (b.take 4)
    if w.testBit 18 ∧ w.testBit 19 then some (w % 2 ^ 18, peerAddrOf b) else none

/-- The next seed is asked; after the last one the back-off window doubles, up to 60 s. -/
def State.seedNext (s : State) : State :=
  match s.seeds[s.tgn.seed]? with
  | some (m, a) => (((s.onTgn fun x => { x with seed := x.seed + 1 }).joinState 2).hello .seed m a)
  | none => (s.bump R.TGN_JOIN_STS_TRIES 1).backOff (min 60000 (2 * s.tgn.window))

/-- JOIN_BACKOFF_END. -/
def State.backOffEnd (s : State) : State :=
  if s.get R.TGN_JOIN_STS_STATE = 1 ∧ s.tgn.backEnd ≤ s.now then s.seedNext else s

/-- SEED_TMO_EXPIRE. -/
def State.seedExpire (s : State) : State :=
  match s.tgn.hellos.find? fun h => decide (h.2.why = .seed) && decide (h.2.sent + s.seedTmo ≤ s.now) with
  | some h => if s.get R.TGN_JOIN_STS_STATE = 2 then (s.helloDrop h.1).seedNext else s.helloDrop h.1
  | none => s

/-- LEAVE starts (R271). -/
def State.leaveStart (s : State) : State :=
  let s := ((s.put R.TGN_JOIN_CTL_LEAVE 1).onTgn fun x => { x with own := 3 }).joinState 5
  if s.isRoot then s.queueChange s.member 3 else s.helloTo .leave s.rootId

/-- RETRY_AFTER_EXPIRE: requests that a BUSY answer put off are repeated to the acting root. -/
def State.retryAfter (s : State) : State :=
  (s.tgn.hellos.filter fun h => match h.2.retry with
    | some t => decide (t ≤ s.now)
    | none => false).foldl (fun s h => (s.helloDrop h.1).helloTo h.2.why s.rootId) s

/-- QUERY_TMO_EXPIRE: a peer that does not answer a QUERY is recorded DOWN (R267). -/
def State.queryExpire (s : State) (m : Nat) : State :=
  match s.tgn.hellos.find? fun h => decide (h.2.why = .query) && decide (h.2.member = m) && decide (h.2.sent + s.seedTmo ≤ s.now) with
  | some h => (List.range 16).foldl State.setRefresh ((s.helloDrop h.1).setMember m 2 s.epoch)
  | none => s

/-! ### The intent journal's chunks (R259) -/

/-- Intent superblocks whose records are cleared and covered by a snapshot are freed. -/
def State.freeIntents (s : State) : State :=
  let low := (s.tgn.ints.filter fun x => decide (x.no ≠ 0)).foldl (fun a x => min a (x.no - 1)) s.tgn.snapNo
  ((s.ftl.sbs.filter fun e => decide (e.2.use = 4) && decide (e.2.cls = 66) && decide (2 ≤ e.2.state) && decide (e.2.state ≤ 4)
    && decide (e.2.lastSeq < low)).map (·.1)).foldl (fun s k => s.sbFree k) s

/-- The chunks of the intent journal whose results are known: durable ones leave, failed ones are written again. -/
def State.ichunkTake (s : State) : State :=
  let ends := s.plj.ichunks.filter fun c => c.result.isSome
  if ends.isEmpty then s
  else
    let snapWas := s.plj.ichunks.any fun c => c.snap.isSome
    let s := ends.foldl (fun s c =>
      let k := match c.pos with
        | some x => x.1
        | none => 0
      if c.result = some true then
        let s := s.setChunks true (s.plj.ichunks.filter fun x => x.no ≠ c.no)
        let s := s.sbHidden k fun r => { r with lastSeq := c.recs.foldl (fun a e => max a e.seq) r.lastSeq }
        (s.evtB tgnPage 0x16 c.recs.length).onPlj fun x => { x with sinceSnap := x.sinceSnap + c.recs.length }
      else
        let s := s.updChunk true c.no fun x => { x with pos := none, result := none }
        if (s.sb k).state = 1 then (s.sbClose k true).setLogPage true 0 else s) s
    let snapNow := s.plj.ichunks.any fun c => c.snap.isSome
    let s := if snapWas ∧ !snapNow then s.onTgn fun x => { x with snapNo := s.plj.recNo } else s
    let s := if 2 ^ 20 ≤ s.plj.sinceSnap ∧ !snapNow then s.snapStart else s
    (s.chunkRetry true).freeIntents

/-- INTENT_FLUSH (R259). -/
def State.intentFlush (s : State) : State :=
  if !s.plj.recs.isEmpty ∧ (s.plj.recSince + 1000 * s.get R.TGN_INT_CFG_FLUSH_US ≤ s.now ∨ 510 ≤ s.plj.recs.length) then
    (s.intentStart 0).chunkRetry true
  else s

/-! ### The commands (R260, R276, R278) -/

/-- LOAD: what the intent journal holds, as HW entries, open records and the next record number. -/
def State.tgnLoad (s : State) (hws : List (Nat × Nat)) (ints : List IntentRec) (recNo : Nat) : State :=
  if !s.flag R.IST_STS_READY then s.tgnEnd 2
  else
    let s := s.onTgn fun x => { x with
      hw := hws.foldl (fun m e => SMap.set (fun _ => 0) m e.1 e.2) []
      ints := (ints.filter fun r => decide (r.type = 1) || decide (r.type = 4)).map fun r =>
        ⟨r.set, r.cls, decide (r.type = 4), r.where_, r.pslot, r.qslot, r.seq + 1, s.now⟩ }
    let s := s.onPlj fun x => { x with recNo := max x.recNo recNo }
    let s := (List.range 16).foldl State.openCount s
    let s := s.put R.TGN_STS_LOADED 1
    let s := s.tgnEnd 0
    if s.flag R.TGN_JOIN_CFG_AUTO then s.joinStart else s

/-- REPAIR: every REMOTE IU of the set's classes is reconstructed. -/
def State.tgnRepair (s : State) (n : Nat) : State :=
  let ius := (s.mappedIus 0).filter fun iu => decide (entState (s.entryAt 0 iu) = 3) &&
    (match s.iuPlace iu with
     | some (m, _, _, _, _) => decide (m = n)
     | none => false)
  if ius.isEmpty then s.tgnEnd 0
  else
    let k := s.tgn.jobNo
    ((s.onTgn fun x => { x with jobNo := k + 1 }).setReb k ⟨2, n, 0, 0, ius.map fun i => (i, 0), 0, 0, 0, 0, false, false, false, none, []⟩)

/-- BACKFILL: a job for each peer-protected class of the own slot. -/
def State.tgnBackfill (s : State) (n : Nat) : State :=
  let cs := (List.range 64).filter fun c => s.flag (R.FTL_CLASS_CTL_PEER c)
  if cs.isEmpty then s.tgnEnd 0
  else
    (cs.foldl (fun s c =>
      let k := s.tgn.jobNo
      (s.onTgn fun x => { x with jobNo := k + 1 }).setReb k
        ⟨4, n, c, s.setSlot_ n, [], 0, 0, 0, 0, false, false, true, none, []⟩) s).rebFlags

/-- What a write of CMD.GO starts. -/
def State.tgnCmd (s : State) (hws : List (Nat × Nat)) (ints : List IntentRec) (recNo : Nat) : State :=
  let n := s.get R.TGN_CMD_SET
  let op := s.get R.TGN_CMD_OP
  if op = 1 then s.tgnLoad hws ints recNo
  else if !s.setOn n then s.tgnEnd 1
  else if !s.flag R.TGN_STS_LOADED then s.tgnEnd 2
  else if op = 2 then s.tgnRepair n
  else if op = 3 then (s.put R.TGN_CMD_STS_PROGRESS (s.idxNb / 2 ^ 16)).lossScan n |>.tgnEnd 0
  else if op = 4 then s.tgnBackfill n
  else s

/-- A brace ends the commands and the reconstructs (RESULT ABORTED). -/
def State.tgnBrace (s : State) : State :=
  if s.flag R.TGN_CMD_GO then
    ((s.onTgn fun x => { x with rebs := x.rebs.filter fun b => !(decide (b.2.kind = 2) || decide (b.2.kind = 4)) }).tgnEnd 3).rebFlags
  else s

/-! ### Registers of the TGN pages -/

/-- The rows of a set region obey R243. -/
def State.rowsOk (s : State) (n k g : Nat) : Bool :=
  (List.range 4096).all fun r =>
    let pos := (List.range (k + 2)).map fun i => s.rowByte n r i
    let sp := [s.rowByte n r 16, s.rowByte n r 17].filter fun x => decide (x ≠ 0xFF)
    let all := pos ++ sp
    all.all (fun x => decide (x < g)) && decide (all.eraseDups.length = all.length)
      && ((List.range (16 - (k + 2))).all fun i => decide (s.rowByte n r (k + 2 + i) = 0xFF))
      && (decide (g ≠ k + 2) || sp.isEmpty)

/-- TGN's own checks (R243, R257, R279 and the captions). -/
def tgnChecks : Checks := fun s _ p o v =>
  let en := s.enabled tgnPage
  if p.page = 0 then
    (if en ∧ (o < 0x88 ∨ (0x90 ≤ o ∧ o < 0xB4)) ∧ 0x80 ≤ o then [4] else [])
      ++ (if 0x90 ≤ o ∧ o < 0xB0 ∧ o % 8 = 0 then failIf (decide (v.fld 0 16 ≠ 0)) 5 else [])
      ++ (if o = 0x80 then failIf (decide (s.cluster ≤ v.fld 0 18)) 7 else [])
  else if p.page = 1 ∧ 0x80 ≤ o ∧ o < 0x280 then
    let n := (o - 0x80) / 0x20
    let r := (o - 0x80) % 0x20
    if r = 0 then failIf (s.setOn n) 4
    else if r = 4 then
      let k := v.fld 0 4 + 4
      let g := v.fld 4 6 + 1
      let others := ((List.range 16).filter fun m => decide (m ≠ n) && s.flag (R.TGN_SET_CFG_INGEST m)).length
      failIf (s.setOn n && decide (v.fld 0 17 ≠ (s.rd (R.TGN_SET_CFG n)).fld 0 17)) 4
        ++ failIf (v.bit 16 && decide (2 ≤ others)) 4
        ++ failIf (v.bit 17 && (decide (g < k + 2) || decide (v.fld 4 6 < v.fld 10 6))) 7
        ++ failIf (v.bit 17 && !s.setOn n && (decide (crc32c (getBytes s.mem.dram (s.regionBase n) 0x20100)
            ≠ (s.rd (R.TGN_SET_CRC n)).toNat) || !s.rowsOk n k g)) 4
    else []
  else if p.page = 3 then
    if o = 0x88 then failIf (v.bit 0 && !s.flag R.TGN_STS_LOADED) 4
    else if o = 0x90 then
      failIf (v.bit 4 && s.flag R.TGN_CMD_GO) 4 ++ failIf (decide (v.fld 0 4 = 0) || decide (4 < v.fld 0 4)) 1
    else []
  else []

/-- What a write to a TGN register does beyond its fields. -/
def tgnEffectWith (hws : List (Nat × Nat)) (ints : List IntentRec) (recNo : Nat) : Effect := fun s _ p o old v =>
  if p.page = 1 ∧ 0x80 ≤ o ∧ o < 0x280 ∧ (o - 0x80) % 0x20 = 4 then (s.setRefresh ((o - 0x80) / 0x20)).resyncCheck
  else if p.page = 3 ∧ o = 0x88 then
    let s := if v.bit 0 ∧ !old.bit 0 then s.joinStart else s
    if v.bit 1 ∧ !old.bit 1 then s.leaveStart else s
  else if p.page = 3 ∧ o = 0x90 ∧ v.bit 4 ∧ !old.bit 4 then s.tgnCmd hws ints recNo
  else s

def tgnEffect : Effect := tgnEffectWith [] [] 0

/-- The LOSS entry that a requester sees (R280). -/
def State.lossSeen (s : State) (r : Requester) : Nat × Nat :=
  match s.tgn.lossFrozen.find r.idx with
  | some e => e
  | none => s.tgn.loss.headD (0, 0)

/-- What TGN registers show: LOSS entries, their number, the back-off left. -/
def tgnView : View := fun s r p o =>
  if p.page = 2 ∧ o = 0xA0 then some (BitVec.ofNat 32 (s.lossSeen r).1)
  else if p.page = 2 ∧ o = 0xA4 then some (BitVec.ofNat 32 (s.lossSeen r).2)
  else if p.page = 2 ∧ o = 0xA8 then some ((s.rd R.TGN_LOSS_CNT).setFld 0 9 s.tgn.loss.length)
  else if p.page = 3 ∧ o = 0x8C then
    some ((s.rd R.TGN_JOIN_STS).setFld 16 16
      (if s.get R.TGN_JOIN_STS_STATE = 1 then min 65535 ((s.tgn.backEnd - s.now) / 10 ^ 6) else 0))
  else none

/-- A read of LOSS_LO freezes the oldest entry; that of LOSS_HI removes it (R280). -/
def tgnReadEffect : ReadEffect := fun s r p o =>
  if p.page = 2 ∧ o = 0xA0 then
    s.onTgn fun x => { x with lossFrozen := x.lossFrozen.put r.idx (s.lossSeen r) }
  else if p.page = 2 ∧ o = 0xA4 then
    let e := s.lossSeen r
    let s := s.onTgn fun x => { x with loss := x.loss.erase e, lossFrozen := x.lossFrozen.del r.idx }
    s.setLevel 476 (decide (s.tgn.loss ≠ []))
  else s

end Sys2Proof.Machine
end

