-- ==== Sys2Proof/Machine/Ist.lean ====
section
/-! DEFINITION. IST messages (chapter 07): how a received frame becomes a message, the order of R195, the requests of clients,
ingest by PUT, and the answers of peers. -/

namespace Sys2Proof.Machine

open Sys2Proof

/-- The page of a Chervil engine. -/
def chvPage (n : Nat) : Nat := 0x300000 + 0x1000 * n

/-- An engine takes messages (R201). -/
def State.chvTakes (s : State) (e : Nat) : Bool :=
  s.enabled 0x310000 && s.enabled (chvPage e) && s.flag (R.CHV_STS_RUNNING e) && decide (s.cur < 2)

/-- The source of a frame. -/
def Frame.from_ (f : Frame) : NetAddr :=
  ⟨f.port.val, f.v6, if f.v6 then f.srcIp.toNat else f.srcIp.toNat % 2 ^ 32, f.srcPort.toNat⟩

/-- A message that may start a flow: neither a response nor data, an ACK or a CREDIT (R201). -/
def Msg.isNew (m : Msg) : Bool := !m.resp && (!m.data || decide (11 ≤ m.op)) && decide (m.op ≠ 5) && decide (m.op ≠ 6)

/-- The row of the command table that a message belongs to, by OP and flags (R194): 0 for none. -/
def Msg.row (m : Msg) : Nat :=
  match m.op with
  | 1 => 1
  | 2 => 2
  | 3 => if m.data then 4 else 3
  | 4 => 5
  | 5 => 6
  | 6 => 7
  | 7 => if m.resp ∨ m.data then 9 else 8
  | 8 => if m.resp then 11 else 10
  | 11 => if m.resp then 13 else 12
  | 12 => 14
  | 14 => 15
  | _ => 0

/-- The row of a frame: that of its message. -/
def Frame.row (f : Frame) : Nat := if f.neigh then 0 else (Msg.ofBytes f.data).row

/-- The engine to which a message is steered (R201): a new one by the CRC-32C of source address, port and CID, an answer to
what the controller asked by its flow, every other one by its FLOW_ID. -/
def State.steerEng (s : State) (a : NetAddr) (m : Msg) : Nat :=
  if m.isNew then
    let v := crc32c (beBytes (if a.v6 then 16 else 4) a.ip ++ beBytes 2 a.udp ++ beBytes 4 m.cid) % 256
    (s.rd (R.IST_IND_EVEN 0 + 4 * (v / 8))).fld (4 * (v % 8)) 4
  else
    match s.flowOf m, s.flowAsked m with
    | none, some (_, f) => f.eng
    | _, _ => m.flow / 2 ^ 17 % 16

/-- A message dropped at one of the steps 3 to 5 of R195. -/
def State.authDrop (s : State) (port eng r : Nat) : State :=
  ((((s.netDrop port r).bump (R.CHV_AUTH_FAIL_CNT eng) 1).addCount R.IST_AUTH_FAIL_LO 1).evtB 0x310000 0x12 1)

/-- What the sender of a message may do: READ, WRITE, and its rate cap. -/
structure Rights where
  read : Bool
  write : Bool
  cap : Nat
  deriving DecidableEq, Repr

/-- Steps 3 to 5 of R195 with R249: the sender's rights, or none where the message was dropped. -/
def State.authenticate (s : State) (port eng : Nat) (m : Msg) (h : Bytes) : Option Rights × State :=
  let sum := wireNum h 56 8
  if m.peer then
    let known := decide (m.cid < 2 ^ 18) && decide (m.cid < s.cluster)
      && (!(decide (m.op = 7) || decide (m.op = 8)) || (s.peerEntry m.cid).isSome)
    if !known then (none, s.authDrop port eng 9)
    else
      match s.peerKey with
      | none => (none, s.authDrop port eng 11)
      | some k => if authOf k (h.take 56) = sum then (some ⟨true, true, 0⟩, s) else (none, s.authDrop port eng 10)
  else if s.get R.IST_CLT_MAX_MAX ≤ m.cid then (none, s.authDrop port eng 9)
  else
    match s.clientEntry m.cid with
    | (none, s) => (none, s.authDrop port eng 9)
    | (some e, s) =>
      let f := hdrNum e 40 1
      if !f.testBit 1 then (none, s.authDrop port eng 9)
      else
        match s.clientKey m.cid e with
        | (none, s) => (none, s.authDrop port eng 11)
        | (some k, s) =>
          if authOf k (h.take 56) = sum then (some ⟨f.testBit 2, f.testBit 3, hdrNum e 42 2⟩, s)
          else (none, s.authDrop port eng 10)

/-! ### Requests of clients (R202 to R204, R213, R216) -/

/-- A live flow of the same sender and request number (R202). -/
def State.dupFlow (s : State) (m : Msg) : Option (Nat × Flow) :=
  s.ist.flows.find? fun f => decide (f.2.cid = m.cid) && decide (f.2.reqId = m.reqId) && decide (f.2.peer = m.peer) &&
    (match f.2.kind with
     | .shardIn _ _ | .shareOut _ | .epochOut _ => false
     | _ => true)

/-- A duplicate request (R204): the first response packet again while nothing of the flow has been acknowledged. -/
def State.duplicate (s : State) (i : Nat) (f : Flow) : State :=
  let x := f.snd
  match f.kind with
  | .put | .shareIn =>
    if f.rcv.cum = 0 ∧ f.rcv.above.isEmpty then s.sendMsg f.addr (f.msg i f.op 9) f.peer else s
  | _ =>
    if 0 < x.psn ∧ x.cum = 0 ∧ !(x.pkts.any fun p => p.2.acked) ∧ !x.retx.contains 0 then
      s.setFlow i { f with snd := { x with retx := 0 :: x.retx } }
    else s

/-- A request answered BUSY although it was authenticated: the index is not loaded (R212), the entry to a sleep state has
begun (R397), or the controller has not joined its sets (R213). -/
def State.busyNow (s : State) (m : Msg) : Bool :=
  !s.flag R.IST_STS_READY || decide (s.pwr.step ≠ .awake)
    || (!m.peer && s.boot.content && s.enabled tgnPage && !s.flag R.TGN_STS_READY)

/-- A flow just opened for a request. -/
def newFlow (kind : FlowKind) (eng : Nat) (m : Msg) (a : NetAddr) : Flow :=
  ⟨kind, 0, eng, m.cid, m.reqId, m.peer, a, 0, m.key, m.op, true, 0, Snd.none_, Rcv.none_, none⟩

/-- A single response ends a request that had a flow (R216). -/
def State.single (s : State) (i : Nat) (a : NetAddr) (m : Msg) (status : Nat) : State := (s.closeFlow i).reply a m status 0

/-- GET and GET_RANGE (R216). -/
def State.serveGet (s : State) (a : NetAddr) (eng : Nat) (m : Msg) (cap : Nat) : State :=
  let off := if m.op = 1 then 0 else m.off
  let want := if m.op = 1 then 0 else m.len
  match s.admitFlow (newFlow .get eng m a) with
  | none => s.reply a m 3 s.busyHint
  | some (i, s) =>
    match s.idxLook m.key with
    | (.failed, s) => s.abortFlow i
    | (.miss, s) => s.single i a m 1
    | (.found _ e, s) =>
      if s.purged e.cls then s.single i a m 1
      else if e.state = 2 then s.single i a m 11
      else if e.len ≤ off ∨ (want ≠ 0 ∧ e.len < off + want) then s.single i a m 2
      else
        let n := if want = 0 then e.len - off else want
        match s.ist.flows.find i with
        | some f => s.setFlow i { f with cls := e.cls, snd := s.newSnd [] e.iu off n m.arg m.seq cap }
        | none => s

/-- STAT (R192, R278). -/
def State.serveStat (s : State) (a : NetAddr) (eng : Nat) (m : Msg) : State :=
  match s.admitFlow (newFlow .get eng m a) with
  | none => s.reply a m 3 s.busyHint
  | some (i, s) =>
    match s.idxLook m.key with
    | (.failed, s) => s.abortFlow i
    | (.miss, s) => s.single i a m 1
    | (.found _ e, s) =>
      if s.purged e.cls then s.single i a m 1
      else if e.state = 2 then s.single i a m 11
      else
        let valid := decide (e.rset < 16) && !s.objLost e.rset e
        (s.closeFlow i).sendMsg a { m with flags := 5, status := 0, key := e.key,
                                            off := e.cls + b2n valid * 2 ^ 7 + e.rset % 16 * 2 ^ 8,
                                            len := e.len, arg := e.wtime, seq := 0 } m.peer

/-! ### Ingest by PUT (R232 to R235) -/

/-- The window in bytes that the controller advertises for a PUT: 0 without a reserve, narrowed while staging is low. -/
def State.putWin (s : State) : Nat :=
  if s.plj.reserve.isNone then 0
  else if 16384 - s.stgUsed ≤ s.get R.IST_STAGE_CFG_LOW_WATER then 65536
  else s.get R.IST_FLOW_CFG_PUT_WIN * 65536

/-- IUs that a PUT writes. -/
def Flow.putIus (f : Flow) : Nat := cdiv f.rcv.len 65536

/-- A PUT request that passed the checks starts: its IUs, its entry, its flow and its window. -/
def State.putStart (s : State) (i : Nat) (a : NetAddr) (m : Msg) (cls : Nat) (set : Option Nat) (old : Option Nat)
    (new : Option Nat) (iu : Nat) : State :=
  match s.ist.flows.find i with
  | none => s
  | some f =>
    let ent := (old.orElse fun _ => new).getD 0
    let s := match old with
      | some _ => s
      | none => s.idxWrite ent ⟨m.key, iu, m.len, cls, 2, set.getD 0xFF, 0⟩
    let f := { f with
      cls := cls, rcv := { Rcv.none_ with len := m.len, last := s.now }
      put := some ⟨set, old.isSome, ent, iu, [], [], false, false, false, none⟩ }
    ((s.setFlow i f).sendMsg a (f.msg i 3 1) f.peer).sendCredit i f s.putRate s.putWin

/-- A PUT request (R232). -/
def State.servePut (s : State) (a : NetAddr) (eng : Nat) (m : Msg) : State :=
  let cls := m.arg % 128
  let set := if m.arg.testBit 7 then some (m.arg / 2 ^ 8 % 16) else none
  let setOk := match set with
    | some n => s.boot.content && s.setOn n
    | none => true
  if 63 < cls ∨ m.len = 0 ∨ !setOk then s.reply a m 10 0
  else if 268435456 < m.len then s.reply a m 7 0
  else
    match s.admitFlow (newFlow .put eng m a) with
    | none => s.reply a m 3 s.busyHint
    | some (i, s) =>
      if !s.flag (R.FTL_CLASS_CTL_WRITABLE cls) ∨ s.purged cls then s.single i a m 5
      else
        match s.idxLook m.key with
        | (.failed, s) => s.abortFlow i
        | (look, s) =>
          let slot := match look with
            | .found _ _ => (none, s)
            | _ => s.idxSlot m.key
          let s := slot.2
          let space := s.allocIus cls set (cdiv m.len 65536)
          let full := slot.1.isNone && (match look with
            | .found _ _ => false
            | _ => true)
          match space with
          | none => s.single i a m 8
          | some (iu, s') =>
            if s.flag R.FTL_LIFE_READ_ONLY ∨ full then s.single i a m 8
            else
              let go := fun (old : Option Nat) =>
                if s.plj.reserve.isNone then (s.closeFlow i).reply a m 3 s.busyHint
                else s'.putStart i a m cls set old slot.1 iu
              match look with
              | .found n e => if e.state = 2 then s.single i a m 11 else if !m.replace then s.single i a m 6 else go (some n)
              | _ => go none

/-- A PUT ends without success (R235): its entry becomes TOMB unless it replaces one, and its IUs are deallocated. -/
def State.putDrop (s : State) (i : Nat) (f : Flow) : State :=
  match f.put with
  | none => s
  | some p =>
    let s := if p.repl ∨ p.valid then s else s.idxWrite p.ent { s.idxAt p.ent with state := 3 }
    let mine := s.ftl.waiting.filter fun w => decide (w.who = .put i)
    let s := (mine.flatMap fun w => w.slots).foldl (fun s k => s.freeSlot k) s
    let s := s.onFtl fun x => { x with waiting := x.waiting.filter fun w => decide (w.who ≠ .put i) }
    let s := s.shareDrop p.iu f.putIus
    if p.valid then s else s.dealloc p.iu f.putIus

/-- A PUT aborted, or ended by the closing of its class. -/
def State.putAbort (s : State) (i : Nat) (f : Flow) : State := (s.putDrop i f).abortFlow i
def State.putClose (s : State) (i : Nat) (f : Flow) : State := (s.putDrop i f).endFlow i 5

/-- Any flow aborted, with what its kind undoes. -/
def State.abortAny (s : State) (i : Nat) : State :=
  match s.ist.flows.find i with
  | none => s
  | some f =>
    match f.kind with
    | .put => s.putAbort i f
    | .shareOut _ => s.shareEnd i 0 0
    | .epochOut _ => s.epochLost i f
    | .shardIn r pos => (s.closeFlow i).reconAnswer r pos 9 [] true
    | _ => s.abortFlow i

/-- Plaintext units of a PUT encrypted in their slots, which become the slots of a PU; none where a word cannot be read. -/
def State.putUnits (iu : Nat) : List (Nat × Nat) → Bytes → State → Option Bytes × State
  | [], acc, s => (some acc, s)
  | (u, k) :: us, acc, s =>
    match s.readSlot k with
    | (none, s) => (none, s)
    | (some d, s) =>
      match s.cipher (.atRest 0 false (iu * 16 + u)) d.1 with
      | (none, s) => (none, s)
      | (some c, s) => State.putUnits iu us (acc ++ d.1) (s.setWords k 0 c false)

/-- Units of zeros staged for the end of the last IU; none while no slot is free. -/
def State.putPad : Nat → List Nat → State → Option (List Nat) × State
  | _, [], s => (some [], s)
  | i, _ :: us, s =>
    match s.stage (.put i) [] with
    | none => (none, s)
    | some (k, s) =>
      match State.putPad i us s with
      | (some ks, s) => (some (k :: ks), s)
      | (none, s) => (none, s.freeSlot k)

/-- A complete IU of a PUT handed to placement (R218, R233, R251); one of a set extent waits while the contributor's part of the
share buffer is full (R254). -/
def State.putGiveIu (s : State) (i j : Nat) : State :=
  match s.ist.flows.find i with
  | none => s
  | some f =>
    match f.put with
    | none => s
    | some p =>
      let iu := p.iu + j
      let has := (List.range 16).filterMap fun u => (f.rcv.slots.find (16 * j + u)).map fun k => (u, k)
      let lack := (List.range 16).filter fun u => (f.rcv.slots.find (16 * j + u)).isNone
      if s.inSet iu ∧ s.contribFull then s
      else
        match State.putPad i lack s with
        | (none, s) => s
        | (some ks, s) =>
          let units := has ++ lack.zip ks
          match State.putUnits iu units [] s with
          | (none, s) =>
            (ks.foldl (fun s k => s.freeSlot k) s).setFlow i { f with put := some { p with unread := true } }
          | (some d, s) =>
            let slots := f.rcv.slots.filter fun e => decide (e.1 / 16 ≠ j)
            let s := s.setFlow i { f with rcv := { f.rcv with slots := slots }, put := some { p with given := p.given ++ [j] } }
            (s.shareTake iu d).place ⟨1, 0, f.cls, [some iu], false, [], none, true, units.map (·.2), [], [], .put i⟩

/-- Every complete IU that has not been handed on. -/
def State.putGive (s : State) (i : Nat) : State :=
  match s.ist.flows.find i with
  | none => s
  | some f =>
    match f.put with
    | none => s
    | some p =>
      let ready := (List.range f.putIus).filter fun j => !p.given.contains j
        && covers f.rcv.have_ (65536 * j) (min f.rcv.len (65536 * (j + 1)))
      ready.foldl (fun s j => s.putGiveIu i j) s

/-- A data packet of a PUT, or of a share. -/
def State.takeData (s : State) (i : Nat) (f : Flow) (m : Msg) (port : Nat) (d : Bytes) : State :=
  match s.recvData i f port m.off (m.seq % 2 ^ 32) d with
  | (false, s) => s
  | (true, s) =>
    match s.ist.flows.find i with
    | none => s
    | some g =>
      if f.kind = .put then s.putGive i
      else if f.kind = .shareIn ∧ covers g.rcv.have_ 0 g.rcv.len ∧ !covers f.rcv.have_ 0 f.rcv.len then s.shareApply i g
      else s

/-- Step 3 of R234: with every IU placed and its stripes protected, the entry is written as VALID; the IUs of the entry that it
replaces are deallocated. -/
def State.putValid (s : State) (i : Nat) : State :=
  match s.ist.flows.find i with
  | none => s
  | some f =>
    match f.put with
    | none => s
    | some p =>
      let n := f.putIus
      let safe := p.set.isNone || (List.range n).all fun j => s.protected_ (p.iu + j)
      let pending := s.ftl.stalled.any fun u => match u with
        | .map ns iu _ _ _ _ _ => decide (ns = 0) && decide (p.iu ≤ iu) && decide (iu < p.iu + n)
        | _ => false
      if p.valid ∨ p.placed.length < n ∨ !safe ∨ pending then s
      else
        let old := s.idxAt p.ent
        let s := s.idxWrite p.ent ⟨f.key, p.iu, f.rcv.len, f.cls, 1, p.set.getD 0xFF, s.secs⟩
        let s := s.setFlow i { f with put := some { p with valid := true } }
        if p.repl ∧ old.live then s.deallocLater old.iu old.ius else s

/-- PUT_FINAL_RESPONSE (R234): the copy of the entry's index segment is programmed. -/
def State.putFinal (s : State) (i : Nat) : State :=
  match s.ist.flows.find i with
  | none => s
  | some f =>
    match f.put with
    | none => s
    | some p => if p.valid ∧ s.segClean (p.ent / 2048) then s.endFlow i 0 else s

/-- What a PUT hears of an IU (R97, R234, R541). -/
def State.putNews (s : State) (i : Nat) (x : PuNews) : State :=
  match s.ist.flows.find i with
  | none => s
  | some f =>
    match f.put, x with
    | some p, .placed psa =>
      let j := match s.iuOf psa with
        | some (_, iu) => iu - p.iu
        | none => p.placed.length
      if p.placed.contains j then s
      else (s.setFlow i { f with put := some { p with placed := p.placed ++ [j] } }).shareMet (p.iu + j)
    | some p, .unread => s.setFlow i { f with put := some { p with unread := true } }
    | _, _ => s

/-- The PUTs brought up to date: ended where their class closed or their data is lost, further IUs handed on, entries written,
windows advertised where they changed. -/
def State.putSettle (s : State) : State :=
  (s.ist.flows.filter fun f => f.2.put.isSome).foldl (fun s e =>
    match s.ist.flows.find e.1 with
    | none => s
    | some f =>
      match f.put with
      | none => s
      | some p =>
        if p.unread then s.putAbort e.1 f
        else if p.placed.length < f.putIus ∧ !s.flag (R.FTL_CLASS_CTL_WRITABLE f.cls) then s.putClose e.1 f
        else
          let s := (s.putGive e.1).putValid e.1
          match s.ist.flows.find e.1 with
          | none => s
          | some f =>
            if covers f.rcv.have_ 0 f.rcv.len ∨ f.rcv.adv = s.putWin then s else s.sendCredit e.1 f s.putRate s.putWin) s

/-! ### Answers of members -/

/-- The data of a GET_SHARD that this member asked for (R250, R261, R275). -/
def State.shardData (s : State) (i : Nat) (f : Flow) (m : Msg) (port : Nat) (d : Bytes) (crcOk : Bool) : State :=
  match f.kind with
  | .shardIn id pos =>
    let first := decide (f.rcv.len = 0)
    let s := if first then
        (s.countLatency f.cid ((s.now - f.rcv.last) / 1000)).onTgn fun x => { x with recons := x.recons.map fun (e : Nat × Recon) =>
          if e.1 = id then (e.1, { e.2 with reads := e.2.reads.map fun r => if r.pos = pos then { r with seen := true } else r })
          else e }
      else s
    if id = 0 ∧ m.status = 3 then (s.closeFlow i).onTgn fun x => { x with asks := x.asks.map fun (e : Nat × HwAsk) =>
      if e.1 = pos then (e.1, { e.2 with sent := false }) else e }
    else if id = 0 then (s.closeFlow i).hwAnswer pos (if m.status = 0 then some m.off else none)
    else if !m.data ∨ m.status ≠ 0 then
      let s := if m.data then s else s.sendPeer f.addr ⟨1, 5, 0, 0, f.cid, f.reqId, m.flow, f.key, 0, 0, 0, m.seq % 2 ^ 32 + 1⟩ []
      (s.closeFlow i).reconAnswer id pos m.status [] true
    else
      let len := if m.resp then m.len else f.rcv.len
      let f := { f with remote := m.flow, rcv := { f.rcv with len := len, win := max f.rcv.win len } }
      let s := s.setFlow i f
      match s.recvData i f port m.off (m.seq % 2 ^ 32) d with
      | (false, s) => s
      | (true, s) =>
        match s.ist.flows.find i with
        | none => s
        | some f =>
          if covers f.rcv.have_ 0 f.rcv.len then
            match (s.sendAck i f).takeRcv i f 0 f.rcv.len with
            | (some b, s) => (s.closeFlow i).reconAnswer id pos 0 b crcOk
            | (none, s) => (s.closeFlow i).reconAnswer id pos 4 [] true
          else s
  | _ => s

/-- A holder's answer to a PUT_SHARD (R252 to R254, R277). -/
def State.shareAnswer (s : State) (i : Nat) (f : Flow) (m : Msg) : State :=
  match f.kind, s.tgn.jobs.find i with
  | .shareOut _, some j =>
    if m.status = 0 ∧ m.last then s.shareEnd i (j.first + j.n) 0
    else if m.status = 0 then s.setFlow i { f with remote := m.flow }
    else if m.status = 2 then s.shareEnd i m.off 0
    else if m.status = 3 then s.shareEnd i 0 m.arg
    else s.shareEnd i 0 s.busyHint
  | _, _ => s

/-- HELD notices taken by their requesters: a GET_SHARD is answered BUSY with the die's busy time (R250), and other reads of
peer-protected data are answered with a reconstruct (R70). -/
def State.heldTake (s : State) : State :=
  s.notices.foldl (fun s x =>
    match s.chanOp x.1 x.2.1 with
    | none => s
    | some o =>
      match o.req.use with
      | .read who none psa _ =>
        let f := match who with
          | .flow i => (s.ist.flows.find i).map fun f => (i, f)
          | _ => none
        match f with
        | some (i, f) =>
          if f.kind = .shardOut then
            ((((s.addCount R.IST_BUSY_LO 1).evtB 0x310000 0x11 1).sendMsg f.addr
              { f.msg i 7 5 with status := 3, arg := x.2.2 % 2 ^ 32 } true).closeFlow i)
          else if s.peerable who then s.heldRecon psa else s
        | none => if s.peerable who then s.heldRecon psa else s
      | _ => s) { s with notices := [] }

/-- ACK (R221): the flow that it names, as responder or as requester. -/
def State.flowNamed (s : State) (m : Msg) : Option (Nat × Flow) :=
  match (s.flowOf m).filter fun x => decide (x.2.reqId = m.reqId) with
  | some x => some x
  | none => s.flowAsked m

def State.takeAck (s : State) (i : Nat) (f : Flow) (m : Msg) : State :=
  if f.kind = .put ∧ m.fin then (s.putDrop i f).closeFlow i
  else
    match f.kind, m.fin with
    | .shareOut _, true => s.shareEnd i 0 0
    | _, _ =>
      let s := s.ackFlow i f m
      if (s.ist.flows.find i).isNone ∧ !m.fin then s.freeHeld i
      else s.onTgn fun x => { x with frees := if (s.ist.flows.find i).isNone then x.frees.del i else x.frees }

/-- CREDIT (R228). -/
def State.takeCredit (s : State) (i : Nat) (f : Flow) (m : Msg) : State :=
  let remote := match f.kind with
    | .shareOut _ => m.flow
    | _ => f.remote
  s.setFlow i (s.rewheel { f with remote := remote, snd := { f.snd with adv := m.arg, win := m.off } })

/-! ### The order of R195 -/

/-- An authenticated message of a client. -/
def State.clientMsg (s : State) (a : NetAddr) (eng : Nat) (m : Msg) (d : Bytes) (r : Rights) : State :=
  let stale := s.netDrop a.port 13
  if m.op = 5 ∨ m.op = 6 then
    match s.flowNamed m with
    | some (i, f) => if m.op = 5 then s.takeAck i f m else s.takeCredit i f m
    | none => stale
  else if m.op = 3 ∧ m.data then
    match s.flowOf m with
    | some (i, f) => if f.kind = .put then s.takeData i f m a.port d else stale
    | none => stale
  else if !s.flag R.IST_STS_READY then s.reply a m 3 s.busyHint
  else if 0 < m.op ∧ m.op ≤ 4 ∧ s.busyNow m then s.reply a m 3 s.busyHint
  else if (m.op = 3 ∧ !r.write) ∨ ((m.op = 1 ∨ m.op = 2 ∨ m.op = 4) ∧ !r.read) then s.reply a m 13 0
  else if m.resp ∨ m.data ∨ m.op = 0 ∨ 4 < m.op then s.reply a m 10 0
  else
    match s.dupFlow m with
    | some (i, f) => s.duplicate i f
    | none => if m.op = 3 then s.servePut a eng m else if m.op = 4 then s.serveStat a eng m else s.serveGet a eng m r.cap

/-- An authenticated message of a member (R236, R248 to R278); `crcOk` tells whether a rebuilt IU fits the CRC of what it
rebuilds. -/
def State.peerMsg (s : State) (a : NetAddr) (eng : Nat) (m : Msg) (d : Bytes) (crcOk : Bool) : State :=
  let stale := s.netDrop a.port 13
  let asleep := decide (s.pwr.step ≠ .awake)
  if m.op = 5 ∨ m.op = 6 then
    match s.flowNamed m with
    | some (i, f) => if m.op = 5 then s.takeAck i f m else s.takeCredit i f m
    | none => stale
  else if m.op = 11 ∨ m.op = 12 then
    if asleep ∨ !s.tgnRuns then s
    else if m.op = 12 then s.epochTake a m d
    else if m.resp then
      match s.tgn.hellos.find m.reqId with
      | some h => s.helloAnswer m.reqId h m
      | none => stale
    else s.helloAsk a m d
  else if m.op = 7 ∧ (m.resp ∨ m.data) then
    match s.flowAsked m with
    | some (i, f) => s.shardData i f m a.port d crcOk
    | none => stale
  else if m.op = 8 ∧ m.resp then
    match s.flowAsked m with
    | some (i, f) => s.shareAnswer i f m
    | none => stale
  else if (m.op = 3 ∨ m.op = 8) ∧ m.data then
    match s.flowOf m with
    | some (i, f) => if f.kind = .put ∨ f.kind = .shareIn then s.takeData i f m a.port d else stale
    | none => stale
  else if s.busyNow m then s.reply a m 3 s.busyHint
  else if m.op = 3 ∨ m.op = 7 ∨ m.op = 8 then
    if m.resp then s.reply a m 10 0
    else
      match s.dupFlow m with
      | some (i, f) => s.duplicate i f
      | none =>
        if m.op = 3 then s.servePut a eng m
        else if !s.tgnRuns then s.reply a m 12 0
        else if m.op = 7 then s.getShard a eng m
        else s.putShard a eng m
  else s.reply a m 10 0

/-- A message steered to its engine (R195, R201). -/
def State.steer (s : State) (f : Frame) (m : Msg) (crcOk : Bool) : State :=
  let n := f.port.val
  let a := f.from_
  let e := s.steerEng a m
  let d := (f.data.drop 64).take m.len
  if !s.chvTakes e then s.netDrop n 14
  else if m.isNew ∧ s.get R.PLJ_PF_STS_STATE ≠ 0 then s.netDrop n 15
  else if m.data ∧ d.length < m.len ∧ !(decide (m.op = 7) && m.resp) then s.netDrop n 8
  else
    match ((s.addCount (R.CHV_MSG_LO e) 1).evtB (chvPage e) 0x10 1).authenticate n e m f.data with
    | (none, s) => s
    | (some r, s) => if m.peer then s.peerMsg a e m d crcOk else s.clientMsg a e m d r

/-- A frame received by a port (R187 to R190, R195): the counters, the drops, and its message. -/
def State.receive (s : State) (f : Frame) (crcOk : Bool) : State :=
  let n := f.port.val
  if !s.netRx n then s
  else
    let s := s.frameCount f
    match s.frameReason f with
    | some r => s.netDrop n r
    | none =>
      let m := Msg.ofBytes f.data
      if f.neigh then s
      else if f.data.length < 64 ∨ m.ver ≠ 1 then s.netDrop n 8
      else if m.op = 14 then s.netDrop n 16
      else s.steer f m crcOk

/-- The frame of a row of the command table received. -/
def State.receiveRow (s : State) (row : Nat) (f : Frame) (crcOk : Bool) : State :=
  if f.row = row then s.receive f crcOk else s

end Sys2Proof.Machine
end

