-- ==== Sys2Proof/Machine/Nvm.lean ====
section
/-! DEFINITION. The NVMe command engine (chapter 09): queues and doorbells, fetching, range locks, host pages, I/O commands,
completions, and Asynchronous Event Requests. -/

namespace Sys2Proof.Machine

open Sys2Proof

/-- The page of the engine. -/
def nvmPage : Nat := 0x110000

/-! ### Submission entries -/

/-- Dword `w` of an entry. -/
def NvmCmd.dw (c : NvmCmd) (w : Nat) : Nat := hdrNum c.sqe (4 * w) 4
def NvmCmd.op (c : NvmCmd) : Nat := c.dw 0 % 256
def NvmCmd.cid (c : NvmCmd) : Nat := c.dw 0 / 2 ^ 16
def NvmCmd.nsid (c : NvmCmd) : Nat := c.dw 1
def NvmCmd.slba (c : NvmCmd) : Nat := c.dw 10 + c.dw 11 * 2 ^ 32
def NvmCmd.nlb (c : NvmCmd) : Nat := c.dw 12 % 2 ^ 16 + 1
def NvmCmd.prp1 (c : NvmCmd) : Nat := hdrNum c.sqe 24 8
def NvmCmd.prp2 (c : NvmCmd) : Nat := hdrNum c.sqe 32 8
/-- The FID of a Set or Get Features. -/
def NvmCmd.fid (c : NvmCmd) : Nat := c.dw 10 % 256
/-- NSID as an index: 0 for NSID 1. -/
def NvmCmd.ns (c : NvmCmd) : Nat := c.nsid - 1

/-- LBAs of a namespace (R298). -/
def State.nsze (s : State) (ns : Nat) : Nat := if ns = 0 then 16 * s.mapCap 0 else s.mapCap 1

/-- The ranges of a Dataset Management: first LBA and number. -/
def NvmCmd.ranges (c : NvmCmd) : List (Nat × Nat) :=
  (List.range (c.dw 10 % 256 + 1)).map fun i => (hdrNum c.data (16 * i + 8) 8, hdrNum c.data (16 * i + 4) 4)

def State.onCmd (s : State) (id : Nat) (f : NvmCmd → NvmCmd) : State :=
  s.onNvm fun x => { x with cmds := match x.cmds.find id with
    | some c => x.cmds.put id (f c)
    | none => x.cmds }

/-! ### Features (R307) -/

/-- The key of a feature by FID and selector, and its default. -/
def featKey (fid sel : Nat) : Nat := fid * 4096 + sel
def featReset (k : Nat) : Nat :=
  if k = featKey 1 0 then 3
  else if k / 4096 = 4 ∧ k % 2 = 0 then 358
  else if k = featKey 7 0 then 127 + 127 * 2 ^ 16
  else 0

def State.feat (s : State) (fid sel : Nat) : Nat := s.nvm.feats.get featReset (featKey fid sel)
def State.setFeat (s : State) (fid sel v : Nat) : State :=
  s.onNvm fun x => { x with feats := x.feats.set featReset (featKey fid sel) v }

/-! ### SMART counters and the error log (R303, R304) -/

def State.smart (s : State) (k : Nat) : Nat := s.nvm.smart.get (fun _ => 0) k
def State.addSmart (s : State) (k n : Nat) : State :=
  s.onNvm fun x => { x with smart := x.smart.set (fun _ => 0) k (x.smart.get (fun _ => 0) k + n) }

/-- A completion that the Error Information log records. -/
def State.logError (s : State) (c : NvmCmd) (lba : Nat) : State :=
  let n := s.nvm.errCount + 1
  s.onNvm fun x => { x with errCount := n, errs := (⟨n, c.sq, c.cid, c.status, lba, c.nsid⟩ :: x.errs).take 64 }

/-! ### Interrupts of completion queues (R46, R287, R353) -/

def State.setCq (s : State) (q : Nat) (x : Cq) : State := s.onNvm fun y => { y with cqs := y.cqs.put q x }
def State.setSq (s : State) (q : Nat) (x : Sq) : State := s.onNvm fun y => { y with sqs := y.sqs.put q x }

/-- The interrupt of a completion queue. -/
def State.cqInterrupt (s : State) (q : Nat) : State :=
  match s.nvm.cqs.find q with
  | none => s
  | some c =>
    let s := s.setCq q { c with waiting := 0 }
    if !c.ien then s else if s.msixEn then s.msix c.iv else s.intaRefresh

/-- A new entry of a completion queue: coalesced where the vector and the feature say so; the admin queue never is. -/
def State.cqPosted (s : State) (q : Nat) : State :=
  match s.nvm.cqs.find q with
  | none => s
  | some c =>
    let thr := s.feat 8 0 % 256
    let time := s.feat 8 0 / 256 % 256
    let s := s.setCq q { c with waiting := c.waiting + 1, first := if c.waiting = 0 then s.now else c.first }
    if q = 0 ∨ thr = 0 ∨ time = 0 ∨ s.feat 9 c.iv % 2 = 1 ∨ thr + 1 ≤ c.waiting + 1 then s.cqInterrupt q else s

/-- The aggregation time of a completion queue is over. -/
def State.coalesceEnd (s : State) (q : Nat) : State :=
  match s.nvm.cqs.find q with
  | some c => if c.waiting ≠ 0 ∧ c.first + 100000 * (s.feat 8 0 / 256 % 256) ≤ s.now then s.cqInterrupt q else s
  | none => s

/-! ### Completions (R19, R20, R291) -/

def Cq.full (c : Cq) : Bool := decide ((c.tail + 1) % max 1 c.size = c.head)

/-- LOCK_STS.USED, CTX and FETCH_STOP are shown by views; a command leaves with its locks, context and slots. -/
def State.cmdFree (s : State) (id : Nat) : State :=
  match s.nvm.cmds.find id with
  | none => s
  | some c =>
    let s := (c.slots.map (·.2)).foldl (fun s k => s.freeSlot k) s
    let s := if c.sq ≠ 0 then s.onIst fun x => { x with lastIst := false } else s
    s.onNvm fun x => { x with cmds := x.cmds.del id }

/-- The 16 bytes of a completion entry. -/
def cqeBytes (dw0 sqhd sqid cid : Nat) (phase : Bool) (status : Nat) : Bytes :=
  leBytes 4 dw0 ++ leBytes 4 0 ++ leBytes 2 sqhd ++ leBytes 2 sqid ++ leBytes 2 cid ++ leBytes 2 (b2n phase + status % 2 ^ 15 * 2)

/-- The completion of a finished command is posted, if its queue has room and the host lets the controller write. -/
def State.post (s : State) (id : Nat) : State :=
  match s.nvm.cmds.find id with
  | none => s
  | some c =>
    match s.nvm.sqs.find c.sq with
    | none => s
    | some q =>
      match s.nvm.cqs.find q.cqid with
      | none => s
      | some cq =>
        if c.stage ≠ 2 ∨ cq.full ∨ !s.busMaster then s
        else
          let s := s.hostWrite (cq.base + 16 * cq.tail) (cqeBytes c.dw0 q.head c.sq c.cid cq.phase c.status) false
          let tail := (cq.tail + 1) % max 1 cq.size
          let s := s.setCq q.cqid { cq with tail := tail, phase := if tail = 0 then !cq.phase else cq.phase }
          let sct := c.status / 2 ^ 8 % 8
          let s := if c.status % 2 ^ 11 ≠ 0 then s.bump R.NVM_ERR_CNT_CNT 1 else s
          let s := if sct ≠ 0 then s.logError c (c.bad.headD c.slba) else s
          let s := if c.status % 2 ^ 11 = 0x281 ∧ c.op = 2 then s.addSmart 160 1 else s
          let s := if c.sq ≠ 0 ∧ c.op = 2 then ((s.addCount R.NVM_RD_CMD_LO 1).evtB nvmPage 0x10 1).addSmart 64 1 else s
          let s := if c.sq ≠ 0 ∧ c.op = 1 then ((s.addCount R.NVM_WR_CMD_LO 1).evtB nvmPage 0x11 1).addSmart 80 1 else s
          ((s.cmdFree id).onNvm fun x => { x with idle := s.now }).cqPosted q.cqid

/-- A command ends with a status; that of an admin command is posted at once. -/
def State.finish (s : State) (id status dw0 : Nat) : State :=
  let s := s.onCmd id fun c => { c with stage := 2, status := status, dw0 := dw0 }
  match s.nvm.cmds.find id with
  | some c => if c.sq = 0 then s.post id else s
  | none => s

/-! ### Range locks (R290 to R293) -/

def Lock.meets (a b : Lock) : Bool :=
  decide (a.ns = b.ns) && decide (a.lo < b.hi) && decide (b.lo < a.hi) && (a.wr || b.wr)

/-- The entries of a command, widened to whole IUs on NSID 1. -/
def lockOf (ns lo n : Nat) (wr : Bool) : Lock :=
  if ns = 0 then ⟨0, lo / 16 * 16, cdiv (lo + n) 16 * 16, wr⟩ else ⟨1, lo, lo + n, wr⟩

def NvmCmd.wants (c : NvmCmd) : List Lock :=
  if c.nsid ≠ 1 ∧ c.nsid ≠ 2 then []
  else if c.op = 1 then [lockOf c.ns c.slba c.nlb true]
  else if c.op = 2 then [lockOf c.ns c.slba c.nlb false]
  else if c.op = 9 ∧ c.dw 11 / 4 % 2 = 1 then c.ranges.map fun r => lockOf c.ns r.1 r.2 true
  else []

def State.locksHeld (s : State) : Nat := (s.nvm.cmds.map fun c => c.2.locks.length).sum

/-- Every entry of a command is active: it overlaps no entry of an earlier command that is still held. -/
def State.lockActive (s : State) (id : Nat) (c : NvmCmd) : Bool :=
  c.locks.all fun l => !(s.nvm.cmds.any fun e => decide (e.1 < id) && e.2.locks.any l.meets)

/-! ### Fetching (R286, R292) -/

/-- CC.EN is 1 and CSTS.RDY is 1. -/
def State.nvmReady (s : State) : Bool := s.nvm.cc.bit 0 && s.flag R.NVM_STS_RDY

/-- Fetching from any queue is stopped. -/
def State.noFetch (s : State) : Bool :=
  !s.nvmReady || s.nvm.cfs || decide (s.nvm.shn ≠ 0) || decide (s.get R.PLJ_PF_STS_STATE ≠ 0) || decide (s.pwr.step ≠ .awake)
    || !s.busMaster

/-- Fetching from I/O queues is stopped for contexts; range locks are looked at with the entry. -/
def State.noFetchIo (s : State) : Bool :=
  s.noFetch || decide (s.get R.NVM_CFG_CTX_MAX ≤ s.nvmCtx) || decide (s.ctxFree = 0)

/-- Fetching from I/O queues is stopped, also by the range-lock table (R286). -/
def State.fetchStop (s : State) : Bool := s.noFetchIo || s.flag (levelRef 166)

def Sq.entries (q : Sq) : Nat := (q.tail + max 1 q.size - q.head) % max 1 q.size

/-- The I/O queue to be served: the one under way while its turn lasts, else the next one that holds an entry. -/
def State.pickSq (s : State) : Option Nat :=
  let has := (s.nvm.sqs.filter fun q => decide (q.1 ≠ 0) && decide (q.2.entries ≠ 0)).map (·.1)
  if s.nvm.turn ≠ 0 ∧ has.contains s.nvm.lastSq then some s.nvm.lastSq
  else match has.filter fun q => decide (s.nvm.lastSq < q) with
    | q :: _ => some q
    | [] => has.head?

/-- Entries that one pick takes (R286); 0b111 sets no limit. -/
def State.burst (s : State) : Nat := if s.feat 1 0 % 8 = 7 then 2 ^ 16 else 2 ^ (s.feat 1 0 % 8)

/-- Admin opcodes that the engine executes itself. -/
def NvmCmd.inHardware (c : NvmCmd) : Bool :=
  [0x00, 0x01, 0x04, 0x05, 0x08, 0x0C].contains c.op ||
    ([0x09, 0x0A].contains c.op && [0x01, 0x07, 0x08, 0x09, 0x0B].contains c.fid)

/-- Admin opcodes that firmware executes. -/
def NvmCmd.inFirmware (c : NvmCmd) (content : Bool) : Bool :=
  !c.inHardware && ([0x02, 0x06, 0x09, 0x0A, 0x10, 0x11, 0x80, 0xC4].contains c.op
    || (content && [0xC5, 0xC9].contains c.op))

/-- Admin commands that LIMP lets through (R322). -/
def NvmCmd.inLimp (c : NvmCmd) : Bool := [0x00, 0x01, 0x02, 0x04, 0x05, 0x06, 0x08, 0x0A, 0x0C, 0x10, 0x11].contains c.op

/-- The mailbox takes the next admin command for firmware (R325). -/
def State.mboxNext (s : State) : State :=
  if s.nvm.mbox.isSome then s
  else
    match s.nvm.cmds.find? fun c => decide (c.2.sq = 0) && decide (c.2.stage = 0) && c.2.inFirmware s.boot.content with
    | none => s
    | some (id, c) =>
      let s := (s.onCmd id fun c => { c with stage := 1 }).onNvm fun x => { x with mbox := some id }
      let s := (List.range 16).foldl (fun s w => s.wr (R.NVM_ADM_SQE w) (BitVec.ofNat 32 (c.dw w))) s
      (s.put R.NVM_ADM_STS_PENDING 1).setLevel 160 true

/-- A command taken from a queue. -/
def State.fetched (s : State) (q : Nat) (x : Sq) (c : NvmCmd) : State :=
  let id := s.nvm.next
  let s := s.setSq q { x with head := (x.head + 1) % max 1 x.size }
  let s := s.onNvm fun y => { y with next := id + 1, cmds := y.cmds.put id { c with locks := c.wants } }
  if q = 0 then
    if s.limp ∧ !c.inLimp then s.finish id 0x0C 0
    else if !c.inHardware ∧ !c.inFirmware s.boot.content then s.finish id 0x01 0
    else if c.dw 0 / 2 ^ 14 % 4 ≠ 0 then s.finish id 0x02 0
    else s.mboxNext
  else
    let s := s.onNvm fun y => { y with lastSq := q, turn := (if y.lastSq = q ∧ y.turn ≠ 0 then y.turn else s.burst) - 1 }
    if [0, 1, 2, 9].contains c.op then s else s.finish id 0x01 0

/-- SQ_FETCH: the next entry and, for a Dataset Management, its ranges, as host memory holds them; none where the read ends in a
bus error (R347). -/
def State.sqFetch (s : State) (sqe : Option Bytes) (ranges : Bytes) : State :=
  let new := fun (q : Nat) (b : Bytes) =>
    let w := (q - 1) / 4
    let cls := if q = 0 then 0 else (s.rd (R.FTL_QCLASS_CLASS0 w).off).fld (8 * ((q - 1) % 4)) 6
    (⟨q, fit 64 b, ranges, cls, [], 0, 0, 0, [], [], [], [], 0, none⟩ : NvmCmd)
  let bus := s.onNvm fun x => { x with cfs := true }
  let adm := (s.nvm.cmds.filter fun c => decide (c.2.sq = 0)).length
  match s.nvm.sqs.find 0 with
  | none => s
  | some a =>
    if s.noFetch then s
    else if a.entries ≠ 0 ∧ adm < 64 then
      match sqe with
      | none => bus
      | some b => s.fetched 0 a (new 0 b)
    else if s.noFetchIo then s
    else
      match s.pickSq with
      | none => s
      | some q =>
        match s.nvm.sqs.find q, sqe with
        | some x, some b =>
          let c := new q b
          if 4096 < s.locksHeld + c.wants.length then
            if s.flag (levelRef 166) then s else (s.bump R.NVM_LOCK_STS_WAITING 1).setLevel 166 true
          else (s.setLevel 166 false).fetched q x c
        | some _, none => bus
        | none, _ => s

/-! ### Host pages (R287) -/

/-- Bytes of a host page: CC.MPS. -/
def State.hostPage (s : State) : Nat := 4096 * 2 ^ s.nvm.cc.fld 7 4

/-- The pages that a transfer of a length uses: PRP1, then PRP2 or the entries of its list. -/
def State.prps (s : State) (c : NvmCmd) (len : Nat) (list : List Nat) : List Nat :=
  let ps := s.hostPage
  let more := cdiv (c.prp1 % ps + len) ps - 1
  c.prp1 :: (if more = 0 then [] else if more = 1 then [c.prp2] else list.take more)

/-- The offsets of R287: 64-byte aligned in every entry. -/
def prpsOk (l : List Nat) : Bool := l.all fun a => decide (a % 64 = 0)

/-- A stretch of a transfer as pieces of host memory: address, and offset and length in the stretch. -/
def hostPieces (ps : Nat) (prps : List Nat) : Nat → Nat → Nat → Nat → List (Nat × Nat × Nat)
  | 0, _, _, _ => []
  | fuel + 1, off, at_, n =>
    if n = 0 then []
    else
      let o := prps.headD 0 % ps + off
      let k := min n (ps - o % ps)
      let a := if o / ps = 0 then prps.headD 0 + off else prps.getD (o / ps) 0 + o % ps
      (a, at_, k) :: hostPieces ps prps fuel (off + k) (at_ + k) (n - k)

/-- Bytes of a transfer written to host memory at an offset of it. -/
def State.toHost (s : State) (prps : List Nat) (off : Nat) (b : Bytes) (ep : Bool) : State :=
  (hostPieces s.hostPage prps (b.length + 1) off 0 b.length).foldl
    (fun s p => s.hostWrite p.1 ((b.drop p.2.1).take p.2.2) ep) s

/-! ### Reads and writes (R288 to R297) -/

/-- The tweak of an LBA's unit (R218, R522). -/
def lbaTweak (ns lba : Nat) : Nat := if ns = 0 then lba else 2 ^ 127 + lba

/-- The first check of R287, R289, R311 and R322 that a Read or Write fails. -/
def State.rwCheck (s : State) (c : NvmCmd) (prps : List Nat) : Option Nat :=
  if s.limp ∧ c.op = 1 then some 0x20
  else if s.flag R.NVM_STS_FORMAT then some 0x84
  else if c.dw 0 / 2 ^ 14 % 4 ≠ 0 then some 0x02
  else if c.nsid ≠ 1 ∧ c.nsid ≠ 2 then some 0x0B
  else if c.dw 12 / 2 ^ 26 % 16 ≠ 0 ∨ c.dw 12 / 2 ^ 20 % 16 ≠ 0 ∨ c.dw 13 / 2 ^ 16 ≠ 0 ∨ 256 < c.nlb then some 0x02
  else if s.nsze c.ns < c.slba + c.nlb then some 0x80
  else if !prpsOk prps then some 0x13
  else if c.op = 1 ∧ (!s.flag (R.FTL_CLASS_CTL_WRITABLE c.cls) ∨ s.flag R.FTL_LIFE_READ_ONLY ∨ s.plj.reserve.isNone) then some 0x02
  else none

/-- The reads of an IU (or of one LBA of NSID 2) issued for a command: unmapped ones answer zeros. -/
def State.nvmReadIu (s : State) (id : Nat) (ns iu lr : Nat) : State × List Nat :=
  let n := iuUnits ns
  let lbas := (List.range n).map fun u => n * iu + u
  let fail := fun (s : State) => (s.onCmd id fun c => { c with bad := c.bad ++ lbas }, ([] : List Nat))
  match s.mapLookup ns iu with
  | (none, s) => fail s
  | (some e, s) =>
    let psa := entPsa e
    let waits := fun (s : State) => s.onCmd id fun c => { c with wait := c.wait ++ lbas.zipIdx.map fun l => (l.1, psa + l.2) }
    if entState e = 0 then (s, lbas)
    else if entState e = 1 then ((waits s).issueRead (.nvm (2 * id + lr)) none psa n 0 0, [])
    else if entState e = 3 then ((waits s).remoteRead (.nvm (2 * id + lr)) psa n, [])
    else fail s

/-- Data of one LBA of a Read sent to host memory. -/
def State.lbaToHost (s : State) (c : NvmCmd) (lba : Nat) (d : Bytes) : State :=
  if c.slba ≤ lba ∧ lba < c.slba + c.nlb then
    let s := s.toHost c.prps (4096 * (lba - c.slba)) (fit 4096 d) false
    ((s.addCount R.NVM_RD_UNITS_LO 1).evtB nvmPage 0x12 1).addSmart 32 4096
  else s

/-- A Read whose last byte has been sent, or has failed, is finished (R20, R144). -/
def State.readDone (s : State) (id : Nat) : State :=
  match s.nvm.cmds.find id with
  | some c =>
    if c.stage = 1 ∧ c.op = 2 ∧ c.wait.isEmpty then
      let bad := c.bad.filter fun l => decide (c.slba ≤ l) && decide (l < c.slba + c.nlb)
      (s.onCmd id fun c => { c with bad := bad }).finish id (if bad.isEmpty then 0 else 0x281) 0
    else s
  | none => s

/-- A Read starts (R289). -/
def State.nvmRead (s : State) (id : Nat) (c : NvmCmd) (list : List Nat) (err : Bool) : State :=
  let prps := s.prps c (4096 * c.nlb) list
  match s.rwCheck c prps with
  | some st => s.finish id st 0
  | none =>
    if err then s.finish id 0x04 0
    else
      let s := s.onCmd id fun c => { c with stage := 1, prps := prps }
      let c := { c with prps := prps }
      let n := iuUnits c.ns
      let lr := c.dw 12 / 2 ^ 31
      let ius := (List.range (cdiv (c.slba + c.nlb) n - c.slba / n)).map (c.slba / n + ·)
      let s := ius.foldl (fun s iu =>
        match s.nvmReadIu id c.ns iu lr with
        | (s, zeros) => zeros.foldl (fun s l => s.lbaToHost c l []) s) s
      s.readDone id

/-- LBAs of a write cut into PUs: one IU of NSID 1, up to 16 LBAs of NSID 2, within a 128 KiB group (R156). -/
def putPus (ns : Nat) : Nat → List Nat → List (List Nat)
  | 0, _ => []
  | _ + 1, [] => []
  | fuel + 1, l :: ls =>
    let same := (l :: ls).takeWhile fun x => if ns = 0 then decide (x / 16 = l / 16) else decide (x / 32 = l / 32)
    let t := same.take 16
    t :: putPus ns fuel ((l :: ls).drop t.length)

/-- Slots encrypted in place with the tweaks of their LBAs; false where one cannot be read. -/
def State.sealSlots (ns : Nat) : List (Nat × Nat) → State → Bool × State
  | [], s => (true, s)
  | (lba, k) :: es, s =>
    match s.readSlot k with
    | (none, s) => (false, s)
    | (some d, s) =>
      match s.cipher (.atRest ns false (lbaTweak ns lba)) d.1 with
      | (none, s) => (false, s)
      | (some b, s) => State.sealSlots ns es (s.setWords k 0 b false)

/-- Every unit of a Write is staged: its PUs are placed in their groups, up to the first poisoned one (R156, R348). -/
def State.writePlace (s : State) (id : Nat) (c : NvmCmd) : State :=
  match State.sealSlots c.ns c.slots s with
  | (false, s) => s.finish id 0x06 0
  | (true, s) =>
    let pus := putPus c.ns 512 (c.slots.map (·.1))
    let grpOf := fun (l : List Nat) => l.headD 0 / 32
    let live := match c.cut with
      | some g => pus.filter fun l => decide (grpOf l < g)
      | none => pus
    let dead := (pus.filter fun l => !live.contains l).flatten
    let s := dead.foldl (fun s l => s.freeSlot ((c.slots.find l).getD 0)) s
    let s := s.onCmd id fun c => { c with stage := 1, slots := [], left := live.length }
    let key := fun (l : List Nat) => id * 512 + (grpOf l - c.slba / 32)
    let s := live.foldl (fun s l =>
      let n := ((s.ftl.groups.find (key l)).map (·.left)).getD 0
      s.onFtl fun x => { x with groups := x.groups.put (key l) ⟨n + 1, []⟩ }) s
    live.foldl (fun s l =>
      let slots := l.map fun x => (c.slots.find x).getD 0
      let ius := if c.ns = 0 then [some (l.headD 0 / 16)]
        else l.map some ++ List.replicate (16 - l.length) none
      s.place ⟨c.ns + 1, c.ns, c.cls, ius, false, [], some (key l), true, slots, [], [], .nvm id⟩) s

/-- A Write goes on: with all its reads delivered it is placed, or ends where one failed (R294, R295). -/
def State.writeGo (s : State) (id : Nat) : State :=
  match s.nvm.cmds.find id with
  | some c =>
    if c.stage = 1 ∧ c.op = 1 ∧ c.wait.isEmpty ∧ c.left = 0 ∧ !c.slots.isEmpty then
      if c.bad.isEmpty then s.writePlace id c else s.finish id 0x281 0
    else s
  | none => s

/-- A Write whose PUs have all been issued and whose map updates are logged is finished (R19). -/
def State.writeDone (s : State) (id : Nat) : State :=
  match s.nvm.cmds.find id with
  | some c =>
    let pending := s.ftl.stalled.any fun u => match u with
      | .map ns iu _ _ _ _ _ => decide (ns = c.ns) && decide (c.slba / iuUnits ns ≤ iu)
          && decide (iu ≤ (c.slba + c.nlb - 1) / iuUnits ns)
      | _ => false
    if c.stage = 1 ∧ c.op = 1 ∧ c.wait.isEmpty ∧ c.slots.isEmpty ∧ c.left = 0 ∧ !pending then
      s.finish id (if c.status ≠ 0 then c.status else if c.cut.isSome then 0x04 else 0) 0
    else s
  | none => s

/-- Units put into staging for a command. -/
def State.stageUnits (id : Nat) : List (Nat × Bytes) → State → State
  | [], s => s
  | (lba, d) :: us, s =>
    match s.stage (.nvm id) d with
    | some (k, s) => State.stageUnits id us (s.onCmd id fun c => { c with slots := c.slots.put lba k })
    | none => s

/-- A Write starts (R289, R294): `data` is what the host memory gave, from byte `poison` on poisoned.  It waits while staging has
no room for it. -/
def State.nvmWrite (s : State) (id : Nat) (c : NvmCmd) (list : List Nat) (data : Bytes) (poison : Option Nat) (err : Bool) :
    State :=
  let prps := s.prps c (4096 * c.nlb) list
  match s.rwCheck c prps with
  | some st => s.finish id st 0
  | none =>
    if err then s.finish id 0x04 0
    else
      let n := iuUnits c.ns
      let lo := c.slba / n * n
      let hi := cdiv (c.slba + c.nlb) n * n
      if 16384 - s.stgUsed < hi - lo then s
      else
        let cut := poison.map fun b => (c.slba + b / 4096) / 32
        let s := s.onCmd id fun c => { c with stage := 1, prps := prps, cut := cut }
        let s := State.stageUnits id ((List.range c.nlb).map fun i => (c.slba + i, fit 4096 ((data.drop (4096 * i)).take 4096))) s
        let s := ((s.addCount R.NVM_WR_UNITS_LO c.nlb).evtB nvmPage 0x13 c.nlb).addSmart 48 (4096 * c.nlb)
        let part := if c.ns = 0 then
            (if c.slba % 16 ≠ 0 then [c.slba / 16] else []) ++
              (if (c.slba + c.nlb) % 16 ≠ 0 ∧ ((c.slba + c.nlb) / 16 ≠ c.slba / 16 ∨ c.slba % 16 = 0) then [(c.slba + c.nlb) / 16]
               else [])
          else []
        let s := part.foldl (fun s iu =>
          let s := ((s.addCount R.NVM_RMW_LO 1).evtB nvmPage 0x14 1)
          match s.nvmReadIu id 0 iu 0 with
          | (s, zeros) =>
            let lack := zeros.filter fun l => decide (l < c.slba) || decide (c.slba + c.nlb ≤ l)
            State.stageUnits id (lack.map fun l => (l, [])) s) s
        (s.writeGo id).writeDone id

/-- A unit that the read path delivers for a command. -/
def State.nvmUnit (s : State) (g : Got) (k : Nat) : Bool × State :=
  let id := k / 2
  match s.nvm.cmds.find id with
  | none => (true, s)
  | some c =>
    match c.wait.find? fun w => decide (w.2 = g.psa) with
    | none => (true, s)
    | some w =>
      let take := fun (s : State) => s.onCmd id fun c => { c with wait := c.wait.filter fun x => decide (x ≠ w) }
      let bad := fun (s : State) => (take s).onCmd id fun c => { c with bad := c.bad ++ [w.1] }
      let done := fun (s : State) => (true, ((s.readDone id).writeGo id).writeDone id)
      match g.data with
      | none => done (bad s)
      | some d =>
        match s.cipher (.atRest c.ns true (lbaTweak c.ns w.1)) d with
        | (none, s) => done (bad s)
        | (some p, s') =>
          if c.op = 2 then done ((take s').lbaToHost c w.1 p)
          else if (c.slots.find w.1).isSome then done (take s')
          else
            match s'.stage (.nvm id) p with
            | none => (false, s)
            | some (sl, s) => done ((take s).onCmd id fun c => { c with slots := c.slots.put w.1 sl })

/-- Units delivered for NVMe commands. -/
def State.nvmArrivals : List Got → State → State
  | [], s => s
  | g :: gs, s =>
    let keep := s.onRdp fun x => { x with got := x.got ++ [g] }
    match g.who with
    | .nvm k =>
      match s.nvmUnit g k with
      | (true, s) => State.nvmArrivals gs s
      | (false, _) => State.nvmArrivals gs keep
    | _ => State.nvmArrivals gs keep

def State.nvmTake (s : State) : State := State.nvmArrivals s.rdp.got (s.onRdp fun x => { x with got := [] })

/-- What a command hears of one of its PUs (R541). -/
def State.nvmNews (s : State) (id : Nat) (x : PuNews) : State :=
  match x with
  | .placed _ => (s.onCmd id fun c => { c with left := c.left - 1 }).writeDone id
  | .unread => (s.onCmd id fun c => { c with left := c.left - 1, status := 0x06 }).writeDone id
  | _ => s

/-- A Dataset Management starts (R296). -/
def State.nvmDsm (s : State) (id : Nat) (c : NvmCmd) (err : Bool) : State :=
  if s.limp then s.finish id 0x20 0
  else if s.flag R.NVM_STS_FORMAT then s.finish id 0x84 0
  else if c.dw 0 / 2 ^ 14 % 4 ≠ 0 then s.finish id 0x02 0
  else if c.nsid ≠ 1 ∧ c.nsid ≠ 2 then s.finish id 0x0B 0
  else if err then s.finish id 0x04 0
  else if c.dw 11 / 4 % 2 = 0 then s.finish id 0 0
  else if c.ranges.any fun r => decide (s.nsze c.ns < r.1 + r.2) then s.finish id 0x80 0
  else
    let s := s.evtB nvmPage 0x15 c.ranges.length
    let s := c.ranges.foldl (fun s r =>
      let a := if c.ns = 0 then cdiv r.1 16 else r.1
      let b := if c.ns = 0 then (r.1 + r.2) / 16 else r.1 + r.2
      if a < b then s.mapUpdate (.trim c.ns a (b - a)) else s) s
    s.onCmd id fun c => { c with stage := 1 }

/-- A deallocation whose map updates are logged is finished. -/
def State.dsmDone (s : State) (id : Nat) : State :=
  match s.nvm.cmds.find id with
  | some c => if c.stage = 1 ∧ c.op = 9 ∧ c.sq ≠ 0 ∧ !(s.ftl.stalled.any fun u => match u with
      | .trim _ _ _ => true
      | _ => false) then s.finish id 0 0 else s
  | none => s

/-- The command that a row of the table names, if it is fetched, of that opcode, and all its locks are active. -/
def State.runs (s : State) (id op : Nat) : Option NvmCmd :=
  (s.nvm.cmds.find id).bind fun c => if c.sq ≠ 0 ∧ c.stage = 0 ∧ c.op = op ∧ s.lockActive id c then some c else none

/-! ### Asynchronous events (R315) -/

/-- Events reported on the requests that are held. -/
def State.aerReport (s : State) : State :=
  match s.nvm.aers, s.nvm.aeq with
  | id :: ids, (t, i, p) :: es =>
    (s.onNvm fun x => { x with aers := ids, aeq := es }).finish id 0 (t + i * 2 ^ 8 + p * 2 ^ 16)
  | _, _ => s

/-- An event queued for the host, once of a kind. -/
def State.aerEvent (s : State) (t i p : Nat) : State :=
  if s.nvm.aeq.contains (t, i, p) then s else s.onNvm fun x => { x with aeq := x.aeq ++ [(t, i, p)] }

/-! ### Doorbells (R283, R315) -/

def State.badDoorbell (s : State) : State := (s.pulse 163).aerEvent 0 1 1

/-- A tail written to a submission queue's doorbell. -/
def State.sqDoorbell (s : State) (y v : Nat) : State :=
  match s.nvm.sqs.find y with
  | some q => if q.size ≤ v then s.badDoorbell else s.setSq y { q with tail := v }
  | none => s

/-- A head written to a completion queue's doorbell. -/
def State.cqDoorbell (s : State) (y v : Nat) : State :=
  match s.nvm.cqs.find y with
  | some q => if q.size ≤ v then s.badDoorbell else (s.setCq y { q with head := v }).intaRefresh
  | none => s

/-! ### The NVMe registers of BAR0 (R283) -/

/-- CAP: MQES, CQR, TO, CSS, MPSMAX. -/
def nvmCap : Nat := 0xFFFF + 2 ^ 16 + 30 * 2 ^ 24 + 2 ^ 37 + 4 * 2 ^ 52

/-- CSTS. -/
def State.csts (s : State) : Nat := s.get R.NVM_STS_RDY + b2n s.nvm.cfs * 2 + s.get R.NVM_STS_SHST * 4

/-- A dword of the BAR0 register set as the host reads it. -/
def State.bar0Read (s : State) (o : Nat) : Nat :=
  match o with
  | 0x00 => nvmCap % 2 ^ 32
  | 0x04 => nvmCap / 2 ^ 32
  | 0x08 => 0x20000
  | 0x0C | 0x10 => s.nvm.intms.toNat
  | 0x14 => s.nvm.cc.toNat
  | 0x1C => s.csts
  | 0x24 => s.nvm.aqa.toNat
  | 0x28 => s.nvm.asq % 2 ^ 32
  | 0x2C => s.nvm.asq / 2 ^ 32
  | 0x30 => s.nvm.acq % 2 ^ 32
  | 0x34 => s.nvm.acq / 2 ^ 32
  | _ => 0

/-- Half of a 64-bit register written; base addresses are 4 KiB-aligned. -/
def setHalf (old : Nat) (hi : Bool) (v : Nat) : Nat :=
  (if hi then old % 2 ^ 32 + v * 2 ^ 32 else old / 2 ^ 32 * 2 ^ 32 + v) / 4096 * 4096

/-- A dword written by the host to the BAR0 register set, CC and the doorbells apart, which have rows of their own. -/
def State.bar0Write (s : State) (o : Nat) (v : Word) : State :=
  match o with
  | 0x0C => (s.onNvm fun x => { x with intms := x.intms ||| v }).intaRefresh
  | 0x10 => (s.onNvm fun x => { x with intms := x.intms &&& ~~~v }).intaRefresh
  | 0x24 => s.onNvm fun x => { x with aqa := v &&& 0x0FFF0FFF }
  | 0x28 => s.onNvm fun x => { x with asq := setHalf x.asq false v.toNat }
  | 0x2C => s.onNvm fun x => { x with asq := setHalf x.asq true v.toNat }
  | 0x30 => s.onNvm fun x => { x with acq := setHalf x.acq false v.toNat }
  | 0x34 => s.onNvm fun x => { x with acq := setHalf x.acq true v.toNat }
  | _ => s

/-! ### Enabling, reset and shutdown (R284, R320, R321) -/

/-- CSTS.RDY sets once recovery, the index and firmware allow (R284), and the admin queues begin. -/
def State.readyCheck (s : State) : State :=
  let index := !s.boot.content || s.flag R.IST_STS_READY
  if s.nvm.cc.bit 0 ∧ !s.nvm.cfs ∧ !s.flag R.NVM_STS_RDY ∧ s.get R.PLJ_REC_STS_STEP = 7 ∧ index ∧ s.flag R.NVM_CTL_READY then
    let s := s.put R.NVM_STS_RDY 1
    (s.setSq 0 ⟨s.nvm.aqa.fld 0 12 + 1, s.nvm.asq, 0, 0, 0⟩).setCq 0 ⟨s.nvm.aqa.fld 16 12 + 1, s.nvm.acq, 0, true, 0, 0, true, 0, 0⟩
  else s

/-- CC.EN goes to 1: CC is checked. -/
def State.ccEnable (s : State) (cc : Word) : State :=
  let bad := decide (cc.fld 4 3 ≠ 0) || decide (cc.fld 11 3 ≠ 0) || decide (cc.fld 16 4 ≠ 6) || decide (cc.fld 20 4 ≠ 4)
    || decide (4 < cc.fld 7 4)
  ((s.onNvm fun x => { x with cc := cc, cfs := x.cfs || bad, shn := 0 }).pulse 161).readyCheck

/-- Every command ends without a completion, and the queues are deleted (R321). -/
def State.nvmStop (s : State) : State :=
  let s := (s.nvm.cmds.map (·.1)).foldl (fun s id => s.cmdFree id) s
  let s := s.onNvm fun x => { x with
    cfs := false, cqs := [], sqs := [], cmds := [], mbox := none, lastSq := 0, turn := 0, aers := [], aeq := [], shn := 0
    drop := none }
  let s := (s.put R.NVM_STS_RDY 0).put R.NVM_STS_SHST 0
  let s := ((s.put R.NVM_ADM_STS_PENDING 0).setLevel 160 false).setLevel 166 false
  s.intaRefresh

/-- Shutdown goes on (R320): a normal one braces once every fetched command has completed, and SHST follows the brace; that of
D3hot (3) only flushes the journal (R356). -/
def State.shutdownStep (s : State) : State :=
  let pf := s.get R.PLJ_PF_STS_STATE
  if s.nvm.shn = 0 ∨ 2 ≤ s.cur then s
  else if s.nvm.shn = 3 then
    if s.plj.ents.isEmpty then (if s.plj.chunks.isEmpty then s.put R.NVM_STS_SHST 2 else s)
    else (s.flushStart 0).chunkRetry false
  else if pf = 2 then s.put R.NVM_STS_SHST 2
  else if pf = 1 then s.put R.NVM_STS_SHST 1
  else if s.get R.NVM_STS_SHST = 0 ∧ (s.nvm.shn = 2 ∨ (s.nvm.cmds.filter fun c => !s.nvm.aers.contains c.1).isEmpty) then
    (s.put R.NVM_STS_SHST 1).braceStart false
  else s

/-! ### Registers of the NVM page (R325, R326) -/

/-- NVM's own checks. -/
def nvmChecks : Checks := fun s _ _ o v =>
  if o = 0x80 then failIf (s.enabled nvmPage) 4
  else if o = 0xE0 then failIf (decide (v.fld 0 6 ≠ 0)) 5
  else if o = 0xEC then
    failIf ((v.bit 12 || v.bit 13) && !s.flag R.NVM_ADM_STS_PENDING) 4
      ++ failIf (decide (4 ≤ v.fld 8 3) && decide (v.fld 8 3 ≤ 6)) 1
  else []

/-- What NVM registers show: contexts, locks, queues, LIMP, fetching stopped, APSTE, the power state. -/
def nvmView : View := fun s _ _ o =>
  if o = 0x88 then some (((((s.rd R.NVM_STS).setFld 3 1 (b2n s.limp)).setFld 9 1 (b2n s.fetchStop)).setFld 8 1 (s.feat 0x0C 0 % 2)).setFld 5 3 (s.feat 2 0))
  else if o = 0x8C then some (BitVec.ofNat 32 s.nvmCtx)
  else if o = 0x90 then some ((s.rd R.NVM_LOCK_STS).setFld 0 13 s.locksHeld)
  else if o = 0x94 then
    some (BitVec.ofNat 32 ((s.nvm.sqs.filter fun q => decide (q.1 ≠ 0)).length
      + (s.nvm.cqs.filter fun q => decide (q.1 ≠ 0)).length * 2 ^ 8))
  else none

end Sys2Proof.Machine
end

