-- ==== Sys2Proof/Machine/Fault.lean ====
section
/-! DEFINITION. Fault collection and escalation (chapter 19): records and the ring, acknowledgement, LIMP and HALT. -/

namespace Sys2Proof.Machine

open Sys2Proof

/-- Page 0 of FLT. -/
def fltPage : Nat := 0x60000

/-! ### Records (R548, R556) -/

/-- The 128 bits of a message. -/
def FaultMsg.num (m : FaultMsg) : Nat :=
  m.src % 2 ^ 12 + m.kind % 2 ^ 8 * 2 ^ 12 + m.cls.code * 2 ^ 20 + m.loc % 2 ^ 44 * 2 ^ 22 + m.time % 2 ^ 62 * 2 ^ 66

/-- The eight words of a record. -/
def FaultRec.words (x : FaultRec) : List Nat :=
  let n := x.msg.num
  (List.range 4).map (fun w => n / 2 ^ (32 * w) % 2 ^ 32)
    ++ [x.seq, b2n x.same + b2n (x.acked && decide (x.msg.cls = .u)) * 2 + b2n x.own * 4 + min 15 x.n * 2 ^ 8, 0, 2 ^ 31]

/-- A message of a block, raised now. -/
def State.faultMsg (s : State) (b : Block) (inst kind : Nat) (cls : FaultClass) (loc : Nat) : FaultMsg :=
  ⟨ledgerIndex b inst, kind, cls, loc, s.devTime % 2 ^ 62⟩

/-! ### The ring and the slots (R553, R555, R557) -/

/-- A record entered at the next ring position with the next sequence number. -/
def State.ringEnter (s : State) (x : FaultRec) : FaultRec × State :=
  let q := s.get R.FLT_SEQ_NEXT_SEQ
  let x := { x with seq := q }
  let s := s.put R.FLT_SEQ_NEXT_SEQ (if q = 2 ^ 32 - 1 then 1 else q + 1)
  let full := s.flag R.FLT_RING_STS_FULL
  let w := s.get R.FLT_RING_STS_WR
  let s := s.onFlt fun y => { y with ring := SMap.put y.ring w x }
  let s := s.put R.FLT_RING_STS_WR (w + 1)
  (x, if full then
      ((s.put R.FLT_RING_RD_POS (s.get R.FLT_RING_RD_POS + 1)).bump R.FLT_RING_STS_OVF 1).pulse 30
    else s.put R.FLT_RING_STS_FULL (b2n (decide (s.get R.FLT_RING_STS_WR = s.get R.FLT_RING_RD_POS))))

/-- A record into the first-fault slot of its class, if that is empty. -/
def State.firstFill (s : State) (x : FaultRec) : State :=
  s.onFlt fun y =>
    match x.msg.cls with
    | .f => { y with firstF := if y.firstF.isNone then some x else y.firstF }
    | .u => { y with firstU := if y.firstU.isNone then some x else y.firstU }
    | .c => { y with firstC := if y.firstC.isNone then some x else y.firstC }

/-- C records of the present second (R558). -/
def State.cHigh (s : State) : State :=
  s.setLevel 31 (decide (s.flt.cSec = s.devTime / 10 ^ 9) && decide (s.get R.FLT_CFG_C_THR < s.flt.cCnt))

/-! ### LIMP (R562, R563) -/

/-- The device enters LIMP with a cause; `seq` is the record whose timer expired. -/
def State.limpEnter (s : State) (cause seq : Nat) : State :=
  if s.limp then s
  else
    let s := (s.put R.FLT_STS_LIMP 1).put R.FLT_STS_LIMP_CAUSE cause
    let s := s.put R.FLT_CTL_LIMP 0
    let p := s.ringEnter ⟨s.faultMsg .flt 0 0x12 .u (cause + seq * 8), 0, false, true, false, 1⟩
    let s := ((p.2.firstFill p.1).addCount R.FLT_U_CNT_LO 1).evtB fltPage 0x11 1
    let s := (s.pulse 28).setLevel 29 true
    let s := (s.aerUnc 22 [0, 0, 0, 0]).aerEvent 0 3 1
    let s := (s.netDown 0 0).netDown 1 0
    let s := (s.ist.flows.map (·.1)).foldl (fun s i => s.closeFlow i) s
    s.put R.TGN_STS_READY 0

/-! ### U and C records (R554, R558, R559) -/

/-- The pending records as shown. -/
def State.uPending (s : State) : State := s.setLevel 24 (!s.flt.pend.isEmpty)

/-- A message leaves the input queue and is recorded. -/
def State.recordIn (s : State) (m : InMsg) : State :=
  let x : FaultRec := ⟨m.msg, 0, m.same, false, false, m.n⟩
  match m.msg.cls with
  | .c =>
    let s := (s.addCount R.FLT_C_CNT_LO 1).evtB fltPage 0x10 1
    let p := if s.flag R.FLT_CFG_C_LOG then s.ringEnter x else (x, s)
    let s := p.2.firstFill p.1
    let sec := s.devTime / 10 ^ 9
    let s := s.onFlt fun y => { y with cSec := sec, cCnt := if y.cSec = sec then y.cCnt + 1 else 1 }
    (s.pulse 26).cHigh
  | _ =>
    let s := (s.addCount R.FLT_U_CNT_LO 1).evtB fltPage 0x11 1
    let p := s.ringEnter x
    let s := p.2.firstFill p.1
    if 32 ≤ s.flt.pend.length then s.limpEnter 2 0
    else
      let r : PendRec := ⟨p.1.seq, 0, s.get R.FLT_CFG_ESC_T * 10 ^ 6, false⟩
      ((s.onFlt fun y => { y with pend := y.pend ++ [r] }).pulse 25).uPending

/-- Up to `n` messages leave the input queue (R552, R553). -/
def State.drainIn : Nat → State → State
  | 0, s => s
  | n + 1, s =>
    match s.flt.inq with
    | [] => s
    | m :: ms => State.drainIn n ((s.onFlt fun y => { y with inq := ms }).recordIn m)

/-- The order of messages of one cycle: class descending, then source ascending. -/
def msgBefore (a b : FaultMsg) : Bool :=
  decide (b.cls.code < a.cls.code) || (decide (a.cls.code = b.cls.code) && decide (a.src ≤ b.src))

def insertMsg (m : FaultMsg) : List FaultMsg → List FaultMsg
  | [] => [m]
  | x :: xs => if msgBefore m x then m :: x :: xs else x :: insertMsg m xs

def sortMsgs (ms : List FaultMsg) : List FaultMsg := ms.foldr insertMsg []

/-- Messages reach FLT in one cycle: C messages are discarded at 48 entries, U messages held at the source at 64 (R552). -/
def State.msgsArrive (s : State) (ms : List FaultMsg) : State :=
  let ms := sortMsgs ms
  let free := s.flt.inq.length
  let us := ms.filter fun m => decide (m.cls ≠ .c)
  let cs := ms.filter fun m => decide (m.cls = .c)
  let takeU := us.take (64 - free)
  let heldU := us.drop (64 - free)
  let takeC := cs.take (48 - (free + takeU.length))
  let lost := cs.length - takeC.length
  let got := takeU ++ takeC
  let same := decide (1 < got.length + lost)
  let s := s.onFlt fun y => { y with inq := y.inq ++ got.map (fun m => ⟨m, same, got.length⟩), links := heldU ++ y.links }
  (List.range lost).foldl (fun s _ => ((s.addCount R.FLT_DROP_CNT_LO 1).evtB fltPage 0x13 1).pulse 32) s

/-! ### HALT (R565) -/

/-- F messages of one cycle put the device into HALT: they are recorded, the one with the lowest source goes into the sticky
bank, transmitters fall idle and INTA is released; the rail groups follow by BRACE_RAIL_STEP. -/
def State.haltEnter (s : State) (ms : List FaultMsg) : State :=
  match sortMsgs ms with
  | [] => s
  | m :: rest =>
    let all := m :: rest
    let s := all.foldl (fun s x =>
      let p := s.ringEnter ⟨x, 0, decide (1 < all.length), false, false, all.length⟩
      p.2.firstFill p.1) s
    let s := (s.onFlt fun y => { y with halt := true, haltRec := some m }).put R.AON_STBY_REC_HALTED 1
    let s := s.onRail fun x => { x with lastDrop := 0, seq := [], slot := none, retry := none }
    let s := (s.put R.PCI_LINK_STS_UP 0).put R.PCI_LINK_STS_LTSSM 0
    let s := [0, 1].foldl (fun s n => (s.put (R.NET_LINK_STS_UP n) 0).put (R.NET_LINK_STS_FEC_LOCK n) 0) s
    if s.flag R.PCI_INT_STS_INTA then (s.put R.PCI_INT_STS_INTA 0).emit (.inta false) else s

/-- A block's fatal line rises. -/
def State.fatal (s : State) (b : Block) (inst kind loc : Nat) : State := s.haltEnter [s.faultMsg b inst kind .f loc]

/-! ### Acknowledgement (R560) -/

/-- Sequence number `a` is after `b`, as serial numbers over a window of 2^31. -/
def seqAfter (a b : Nat) : Bool := a ≠ b && decide ((a + 2 ^ 32 - b) % 2 ^ 32 < 2 ^ 31)

/-- The oldest pending record past half of its time reports it once (R560). -/
def State.halfReport (s : State) : State :=
  match s.flt.pend with
  | [] => s
  | r :: rs =>
    if r.limit ≤ 2 * r.used ∧ !r.halfDone then
      (s.onFlt fun y => { y with pend := { r with halfDone := true } :: rs }).pulse 27
    else s

/-- Records up to a sequence number leave the pending table. -/
def State.ackUpTo (s : State) (n : Nat) : State :=
  match s.flt.pend with
  | [] => s
  | r :: _ =>
    if seqAfter r.seq n then s
    else
      let gone := (s.flt.pend.filter fun x => !seqAfter x.seq n).map (·.seq)
      let mark (x : FaultRec) : FaultRec := if gone.contains x.seq ∧ x.msg.cls = .u then { x with acked := true } else x
      let s := s.onFlt fun y => { y with
        pend := y.pend.filter fun x => seqAfter x.seq n
        ring := y.ring.map fun e => (e.1, mark e.2)
        firstU := y.firstU.map mark }
      ((s.evtB fltPage 0x12 1).uPending).halfReport

/-! ### Registers -/

/-- FLT's own checks (R549, R560). -/
def fltChecks : Checks := fun s r p o v =>
  if p.page = 0 then
    failIf (decide (o = 0x8C) && seqAfter v.toNat
      (if s.get R.FLT_SEQ_NEXT_SEQ = 1 then 0 else s.get R.FLT_SEQ_NEXT_SEQ - 1)) 1
  else
    failIf (decide (o = 0x88) && v.bit 2 && decide (v.fld 0 2 = 0)) 1
      ++ failIf (decide (o = 0x88) && decide (r = .host)) 6

/-- What a write to an FLT register does beyond its fields. -/
def fltEffect : Effect := fun s r p o _ v =>
  if p.page = 0 then
    if o = 0x88 then (if v.bit 0 then s.limpEnter 3 0 else s)
    else if o = 0x8C then s.ackUpTo v.toNat
    else if o = 0xA0 then s.put R.FLT_RING_STS_FULL 0
    else if o = 0x11C then (if v.bit 31 then s.onFlt fun y => { y with firstF := none } else s)
    else if o = 0x13C then (if v.bit 31 then s.onFlt fun y => { y with firstU := none } else s)
    else if o = 0x15C then (if v.bit 31 then s.onFlt fun y => { y with firstC := none } else s)
    else s
  else if o = 0x88 ∧ v.bit 2 then
    let s := s.put R.FLT_FW_RAISE_GO 0
    let c := match r with | .core c => c.val | .host => 0
    let loc := s.get R.FLT_FW_LOC_LO_LOC + s.get R.FLT_FW_LOC_HI_LOC * 2 ^ 32
    let m (cls : FaultClass) : FaultMsg := ⟨0x800 + c, 0x11, cls, loc, s.devTime % 2 ^ 62⟩
    if v.fld 0 2 = 3 then s.haltEnter [m .f]
    else s.onFlt fun y => { y with links := y.links ++ [m (if v.fld 0 2 = 1 then .c else .u)] }
  else s

/-- The record of the window at an offset of page 0: REC_w at RD_IDX, or a first-fault slot. -/
def State.fltRec (s : State) (o : Nat) : Option FaultRec :=
  if o < 0x100 then s.flt.ring.find (s.get R.FLT_RD_IDX_POS)
  else if o < 0x120 then s.flt.firstF
  else if o < 0x140 then s.flt.firstU
  else s.flt.firstC

/-- What FLT registers show: counts, timers, records (R556, R567). -/
def fltView : View := fun s r p o =>
  if p.page = 0 then
    if o = 0x84 then some ((s.rd R.FLT_STS).setFld 4 6 s.flt.pend.length)
    else if o = 0x90 then some (BitVec.ofNat 32 ((s.flt.pend.map (·.seq)).headD 0))
    else if o = 0x94 then some (BitVec.ofNat 32 ((s.flt.pend.map fun x => (x.limit - x.used) / 1000).headD 0))
    else if (0xC0 ≤ o ∧ o < 0xE0) ∨ (0x100 ≤ o ∧ o < 0x160) then
      if o % 32 = 0 then some (BitVec.ofNat 32 ((((s.fltRec o).map FaultRec.words).getD []).headD 0))
      else some (s.copyGet (fltPage + o / 32 * 32) r (o % 32 / 4))
    else none
  else if 0x90 ≤ o ∧ o < 0xA0 then
    match s.flt.haltRec with
    | some m => some (if s.flag R.AON_STBY_REC_HALTED then BitVec.ofNat 32 (m.num / 2 ^ (32 * ((o - 0x90) / 4))) else 0)
    | none => some 0
  else none

/-- A read of word 0 of a record window copies its eight words for the requester (R556). -/
def fltReadEffect : ReadEffect := fun s r p o =>
  if p.page = 0 ∧ ((o = 0xC0) ∨ (o = 0x100) ∨ (o = 0x120) ∨ (o = 0x140)) then
    let w := ((s.fltRec o).map FaultRec.words).getD []
    s.onSys fun x => { x with copies := SMap.put x.copies (reqKey (fltPage + o) r) w }
  else s

/-! ### Commands -/

/-- FAULT_MESSAGE: the `n` oldest messages on the fault links reach FLT in one cycle, and up to four records are entered
(R552, R553). -/
def execFaultMessage (n : Nat) (s : State) : Host.Outcome State Fault Refusal :=
  act s fun s =>
    let ms := s.flt.links.take n
    State.drainIn 4 ((s.onFlt fun y => { y with links := y.links.drop n }).msgsArrive ms)

/-- Kinds that a block's fatal line carries (R550). -/
def fatalKinds : List Nat := [0x08, 0x0A, 0x0F, 0x10]

/-- FATAL_LINE: fatal lines rise in one cycle with their messages (R565). -/
def execFatalLine (msgs : List FaultMsg) (s : State) : Host.Outcome State Fault Refusal :=
  act s fun s => s.haltEnter (msgs.filter fun m => decide (m.cls = .f) && fatalKinds.contains m.kind)

/-- FW_RAISE: a core's write of FW_RAISE with GO (R549). -/
def execFwRaise (c : Fin 4) (cls : BitVec 2) (s : State) : Host.Outcome State Fault Refusal :=
  act s fun s => s.softWrite fltChecks fltEffect (.core c) R.FLT_FW_RAISE (BitVec.ofNat 32 (cls.toNat + 4))

/-- FAULT_ACK: a write of ACK (R560). -/
def execFaultAck (r : Requester) (seq : Word) (s : State) : Host.Outcome State Fault Refusal :=
  act s fun s => s.softWrite fltChecks fltEffect r R.FLT_ACK seq

/-- ESC_HALF: the oldest pending record has used half of its time (R560). -/
def execEscHalf (s : State) : Host.Outcome State Fault Refusal := act s State.halfReport

/-- ESCALATION_EXPIRE: a pending record's timer has reached its limit (R561). -/
def execEscalationExpire (s : State) : Host.Outcome State Fault Refusal :=
  act s fun s =>
    match s.flt.pend.find? fun r => decide (r.limit ≤ r.used) with
    | some r => s.limpEnter 1 r.seq
    | none => s

/-- LIMP_REQUEST: a core's write of CTL.LIMP (R562). -/
def execLimpRequest (c : Fin 4) (s : State) : Host.Outcome State Fault Refusal :=
  act s fun s => s.softWrite fltChecks fltEffect (.core c) R.FLT_CTL 1

/-- Offset of word 7 of a class's first-fault slot. -/
def firstOff : FaultClass → Nat
  | .f => R.FLT_FIRST_F_7
  | .u => R.FLT_FIRST_U_7
  | .c => R.FLT_FIRST_C_7

/-- FIRST_SLOT_CLEAR: a write of 1 to a slot's VALID (R557). -/
def execFirstSlotClear (r : Requester) (slot : FaultClass) (s : State) : Host.Outcome State Fault Refusal :=
  act s fun s => s.softWrite fltChecks fltEffect r (firstOff slot) (BitVec.ofNat 32 (2 ^ 31))

/-- RING_RD_WRITE: a write of RING_RD (R555). -/
def execRingRdWrite (r : Requester) (pos : Byte) (s : State) : Host.Outcome State Fault Refusal :=
  act s fun s => s.softWrite fltChecks fltEffect r R.FLT_RING_RD (BitVec.ofNat 32 pos.toNat)

/-- FAULT_RECORD_READ: a read of REC_0 or of a slot's word 0 (R556). -/
def execFaultRecordRead (r : Requester) (slot : Option FaultClass) (s : State) : Host.Outcome State Fault Refusal :=
  act s fun s => s.softRead fltView fltReadEffect r
    (match slot with
      | none => R.FLT_REC 0
      | some k => firstOff k - 0x1C)

/-- JUNCTION_TRIP: two consecutive readings of a junction sensor at 120 °C or more (R551). -/
def execJunctionTrip (temp : Nat) (s : State) : Host.Outcome State Fault Refusal :=
  act s fun s => if 120 ≤ temp then s.fatal .esc 0 0x0A (1 + temp % 256 * 256) else s

end Sys2Proof.Machine
end

