-- ==== Sys2Proof/Machine/Power.lean ====
section
/-! DEFINITION. Clocks, power states and time (chapter 12): sleep entry and exit, wake sources, power domains, PLLs, device
time and the Hairspring, GPIOs and the always-on regulator; and the board's SMBus transfers to ESC (R378). -/

namespace Sys2Proof.Machine

open Sys2Proof

def aonPage : Nat := 0x20000
def pwrPage : Nat := 0x30000
def clkPage : Nat := 0x40000

/-! ### Time (R407 to R410) -/

/-- The Hairspring count. -/
def State.hs (s : State) : Nat := s.count R.AON_HS_LO

/-- The pins that GPIO_CFG drives show their level; outputs float while the regulator is in low-power mode (GPIO_CFG). -/
def State.gpioDrive (s : State) : State :=
  if s.flag R.AON_REG_STS_LP then s
  else
    [0, 1].foldl (fun s k =>
      let m := (s.rd R.AON_GPIO_CFG).fld (8 * k) 2
      if m = 1 ∨ m = 2 then s.putBit R.AON_GPIO_STS_IN k (decide (m = 2)) else s) s

/-- The level sources of AON (R411), and RDP's TIME_WORST, whose AGE_STS.WORST follows TIME_UNKNOWN (R151, R408). -/
def State.aonLevels (s : State) : State :=
  (((s.setLevel 2 s.timeUnknown).setLevel 3 (decide (s.get R.AON_UNC_THR_US < s.get R.AON_TIME_UNC_US))).setLevel 12
    (decide (s.get R.AON_STBY_REC_CAUSE = 2))).setLevel 342 s.timeUnknown

/-- Device time starts again at the present Hairspring edge (R409). -/
def State.timeRestart (s : State) : State :=
  match s.pwr.stopped with
  | none => s
  | some p =>
    let d := (s.hs + 2 ^ 48 - p.2) % 2 ^ 48
    let s := s.wr64 R.AON_TIME_LO ((p.1 + d * 1953125 / 64) % 2 ^ 64)
    let unc := s.get R.AON_TIME_UNC_US + 61 + cdiv (d * 1953125) 1280000000
    let s := s.put R.AON_TIME_UNC_US (if s.timeUnknown then 2 ^ 32 - 1 else min (2 ^ 32 - 1) unc)
    let s := s.put R.PWR_SLEEP_TICKS_TICKS (min (2 ^ 32 - 1) d)
    (s.onPwr fun x => { x with stopped := none }).aonLevels

/-- Device time set by firmware (R407). -/
def State.timeSet (s : State) : State :=
  let s := (s.timeLoad (s.rd64 R.AON_TIME_SET_LO) 1).put R.AON_TIME_CTL_SET 0
  ((s.put R.AON_TIME_STS_UNKNOWN 0).put R.AON_TIME_UNC_US 1000).aonLevels

/-! ### Sleep requests (R395, R396) -/

/-- Why a sleep request cannot start: 3 LIMP, 1 another condition of R395. -/
def State.sleepBlocked (s : State) : Option Nat :=
  if s.limp then some 3
  else if s.get R.PLJ_PF_STS_STATE ≠ 0 ∨ s.recovering ∨ s.pwr.step ≠ .awake ∨ s.anyRail (fun x => decide (x = 6)) then some 1
  else none

/-- Why DEEP becomes NAP (R396): 1 the link, 2 a running ck_dbg. L1.2 is allowed by ASPM L1.2 Enable, and by PCI-PM L1.2
Enable in D3hot, of the L1 PM Substates capability. -/
def State.deepDenied (s : State) (tck : Bool) : Option Nat :=
  let ok := !s.flag R.PCI_LINK_STS_UP || decide (s.get R.PCI_LINK_STS_LTSSM = 8)
    || (s.cfgRd 0x248).bit 2 || (s.pci.d3 && (s.cfgRd 0x248).bit 0)
  if !ok then some 1 else if tck then some 2 else none

/-- Entry begins (R397 step 1). -/
def State.sleepGo (s : State) (target : Nat) (byNvm tck : Bool) : State :=
  let deny := if target = 2 then s.deepDenied tck else none
  let s := match deny with
    | some k => (s.put R.PWR_STATE_DENY k).pulse 11
    | none => s
  let s := ((s.put R.PWR_CMD_TARGET target).put R.PWR_CMD_GO 1).put R.PWR_CMD_BY_NVM (b2n byNvm)
  let s := ((s.put R.PWR_STATE_ENTERING 1).put R.PWR_STATE_PENDING 0).wr R.PWR_WAKE_ALL 0
  s.onPwr fun x => { x with
    step := .drain
    target := if deny.isSome then 1 else target
    drainAt := s.now + s.get R.PWR_ENTRY_CFG_DRAIN * 10 ^ 6
    wakeLatched := false }

/-- A request of the NVMe command engine: it starts, or waits with one pulse of source 10 (R395). -/
def State.sleepAsk (s : State) (target : Nat) (tck : Bool) : State :=
  match s.sleepBlocked with
  | none => s.sleepGo target true tck
  | some k =>
    let was := s.flag R.PWR_STATE_PENDING
    let s := ((s.put R.PWR_STATE_PENDING 1).put R.PWR_STATE_PEND_TGT target).put R.PWR_STATE_REFUSE k
    if was then s else s.pulse 10

/-! ### Entry (R397) -/

/-- Every fetched command has completed; Asynchronous Event Requests are held and do not count. -/
def State.nvmQuiet (s : State) : Bool := (s.nvm.cmds.filter fun c => !s.nvm.aers.contains c.1).isEmpty

/-- Step 3 is over: nothing unflushed, no flash operation in flight and no program or erase queued. -/
def State.flashQuiet (s : State) : Bool :=
  s.plj.ents.isEmpty && s.plj.chunks.isEmpty && s.plj.recs.isEmpty && s.plj.ichunks.isEmpty
    && (List.range 32).all fun n => (s.chanSt n).ops.all fun o => !o.inFlight && !o.req.isPe

/-- A core has parked, or its domain is off. -/
def State.parked (s : State) (c : Nat) : Bool := s.fbit R.PWR_PARK_CORE c || !s.domSts (2 + c)

/-- Core `c` has an asserted interrupt line (R28, R48). -/
def State.coreIrq (s : State) (c : Nat) : Bool := (List.range 16).any fun k => s.coreLine (16 * c + k)

/-- Parked cores with an interrupt leave their wait and clear their bits. -/
def State.coresLeave (s : State) : State :=
  [0, 1, 2, 3].foldl (fun s c =>
    if s.fbit R.PWR_PARK_CORE c ∧ s.coreIrq c then
      (s.putBit R.PWR_PARK_CORE c false).onPwr fun x =>
        { x with coreWait := if x.coreWait.testBit c then x.coreWait - 2 ^ c else x.coreWait }
    else s) s

/-- Entry goes on to its next step when the present one is over; DOZE ends with an interrupt (R394). -/
def State.sleepStep (s : State) : State :=
  match s.pwr.step with
  | .drain => if s.nvmQuiet ∧ s.ist.flows.isEmpty then s.onPwr fun x => { x with step := .flush } else s
  | .flush =>
    if s.get R.PLJ_PF_STS_STATE = 2 ∨ (s.get R.PLJ_PF_STS_STATE = 0 ∧ s.flashQuiet) then
      (s.onPwr fun x => { x with step := .park, parkAt := s.now + s.get R.PWR_ENTRY_CFG_PARK_US * 1000 }).pulse 9
    else if s.plj.recs.isEmpty then s else s.intentStart 0
  | .park =>
    let s := s.coresLeave
    if [0, 1, 2, 3].all s.parked then s.onPwr fun x => { x with step := .settle, lineHold := true } else s
  | _ =>
    if s.cur = 1 ∧ [0, 1, 2, 3].any s.coreIrq then
      (s.put R.PWR_STATE_CUR 0).onPwr fun x => { x with coreWait := 0 }
    else s

/-- An entry is given up (R397 step 4). -/
def State.sleepGiveUp (s : State) : State :=
  let tgt := s.get R.PWR_CMD_TARGET
  let nvm := s.flag R.PWR_CMD_BY_NVM
  let s := ((s.put R.PWR_STATE_ENTERING 0).put R.PWR_STATE_REFUSE 2).put R.PWR_CMD_GO 0
  let s := s.onPwr fun x => { x with step := .awake, wakeLatched := false }
  let s := if nvm then (s.put R.PWR_STATE_PENDING 1).put R.PWR_STATE_PEND_TGT tgt else s
  s.pulse 10

/-- A domain's DOM_STS bit. -/
def State.setDomSts (s : State) (d : Nat) (b : Bool) : State :=
  s.putBit ⟨R.PWR_DOM_STS_0 + 4 * (d / 32), 0, 32⟩ (d % 32) b

/-! ### Wake and exit (R398, R399, R405, R406) -/

/-- Exit begins. -/
def State.exitBegin (s : State) : State :=
  ((s.put R.PWR_STATE_EXITING 1).put R.AON_REG_STS_LP 0).gpioDrive.evtB pwrPage 0x10 1
    |>.onPwr fun x => { x with step := .exit, exitAt := s.now, wakeLatched := false }

/-- A source acts: enabled, and its column of R405 reads yes for the target state. -/
def State.wakeOk (s : State) (c : Nat) : Bool :=
  let deep := decide (s.pwr.target = 2)
  (decide (c = 0) || decide (c = 7) || s.fbit R.PWR_WAKE_EN_EN c)
    && (if c = 2 ∨ c = 3 then deep || !s.flag (R.NET_LINK_STS_UP (c - 2))
      else if c = 4 ∨ c = 5 then !deep && s.flag (R.NET_LINK_STS_UP (c - 4)) && s.flag (R.NET_WAKE_EN (c - 4))
      else if c = 11 then deep && s.flag R.AON_REG_STS_LP
      else decide (c ≤ 10))

/-- Sources recognised in one ck_aon cycle. -/
def State.wake (s : State) (srcs : Nat) : State :=
  let got := (List.range 12).filter fun c => srcs.testBit c && s.wakeOk c
  match got with
  | [] => s
  | c :: more =>
    if s.pwr.step = .awake then s
    else
      let first := decide (s.pwr.step ≠ .exit) && !s.pwr.wakeLatched
      let s := got.foldl (fun s k => s.putBit R.PWR_WAKE_ALL_SEEN k true) s
      let s :=
        if s.pci.d3 ∧ (s.cfgRd 0x44).bit 8 then
          let s := s.cfgWr 0x44 ((s.cfgRd 0x44).setBit 15)
          if s.get R.PCI_LINK_STS_LTSSM = 8 then s.onPci fun x => { x with wakeN := true } else s.emit .pme
        else s
      if first then
        let entry := decide (s.pwr.step ≠ .asleep)
        let s := (s.put R.PWR_WAKE_REC_SRC c).put R.PWR_WAKE_REC_ENTRY (b2n entry)
        let s := (s.put R.PWR_WAKE_REC_DEEP (b2n (decide (s.pwr.target = 2)))).put R.PWR_WAKE_REC_EXTRA more.length
        if entry then (s.onPwr fun x => { x with wakeLatched := true }).evtB pwrPage 0x11 1 else s.exitBegin
      else s.bump R.PWR_WAKE_REC_EXTRA got.length

/-- The branches of the pages that `f` picks close. -/
def State.clocksOff (s : State) (f : PageAt → Bool) : State :=
  (ledgerPages.filter fun q => decide (q.page = 0) && q.clock.isSome && f q).foldl (fun s q => s.put (hCLK_ON q.base0) 0) s

/-- The last steps of entry (R397 steps 5 to 8). -/
def State.sleepReached (s : State) : State :=
  let deep := decide (s.pwr.target = 2)
  let s := s.srEnter.clocksOff fun q => decide (q.row.block ≠ .net) || deep || !s.flag (R.NET_WAKE_EN q.inst)
  let s := s.onPwr fun x => { x with stopped := some (s.devTime, s.hs), step := .asleep, clkWait := [] }
  let s := (s.put R.PWR_STATE_ENTERING 0).put R.PWR_STATE_CUR (if deep then 3 else 2)
  let s :=
    if deep then
      let s := ([0, 1].foldl (fun s n => s.netDown n 0) s).onMem fun x => { x with stg := [] }
      let s := (((List.range 34).reverse).filter fun d => decide (2 ≤ d)).foldl (fun s d => s.setDomSts d false) s
      ((s.put R.AON_REG_STS_LP 1).put R.AON_REG_STS_PEAK 0).addCount R.PWR_DEEP_CNT_LO 1
    else
      let s := [0, 1].foldl (fun s n =>
        if s.flag (R.NET_WAKE_EN n) then s else (s.netDown n 0).setDomSts (28 + n) false) s
      s.addCount R.PWR_NAP_CNT_LO 1
  if s.pwr.wakeLatched then s.exitBegin else s

/-- The power state after a wake (R318): the last operational state, unless an admin command woke the part. -/
def State.nvmWoken (s : State) : State := if s.nvm.again then s else s.setFeat 2 0 s.nvm.lastOp

/-- The branches that are forced on open again. -/
def State.clocksForced (s : State) : State :=
  (ledgerPages.filter fun q => decide (q.page = 0) && q.clock.isSome && decide (s.get (hCKREQ q.base0) = 1)
    && s.domSts q.domain).foldl (fun s q => s.put (hCLK_ON q.base0) 1) s

/-- Exit reaches RUN (R398). -/
def State.exitDone (s : State) : State :=
  let s := s.timeRestart
  let s := (List.range 34).foldl (fun s d => s.setDomSts d (s.domOn d)) s
  let s := if s.get R.PLJ_PF_STS_STATE = 0 then s.srExit else s
  let s := (s.put R.PWR_STATE_CUR 0).put R.PWR_STATE_EXITING 0
  let s := ((s.put R.PWR_CMD_GO 0).put R.PWR_CMD_BY_NVM 0).put R.PWR_PARK_CORE 0
  let s := s.onPwr fun x => { x with step := .awake, lineHold := false, coreWait := 0 }
  (((s.clocksForced.escWake).railDeferred).nvmWoken).pulse 8

/-- An admin command that woke the part has been completed: the engine asks for its power state again (R318). -/
def State.nvmResleep (s : State) : State :=
  let ps := s.feat 2 0 % 32
  let idle : Bool := match s.nvm.sqs.find 0 with
    | some q => decide (q.head = q.tail)
    | none => true
  if s.nvm.again ∧ s.pwr.step = .awake ∧ s.nvmQuiet ∧ idle then
    let s := s.onNvm fun x => { x with again := false }
    if 3 ≤ ps then s.sleepAsk (ps - 2) false else s
  else s

/-! ### Power domains (R393) -/

/-- A word that a store of the Chervil quarter `q` holds: microstores of its engines and its copy of the nanostore. -/
def ofQuarter (q k : Nat) : Bool :=
  let e := k / 16384
  (List.range 4).any (fun i => decide (e = engKey 3 (4 * q + i))) || decide (e = engKey 4 q)

/-- A domain is switched off: it is isolated at once, and Chervil stores lose their content (R464). -/
def State.domDown (s : State) (d : Nat) : State :=
  let s := ((s.setDomSts d false).clocksOff fun q => decide (q.domain = d)).onPwr fun x => { x with rising := x.rising.del d }
  if 11 ≤ d ∧ d ≤ 14 then
    let s := s.onMcl fun x => { x with store := x.store.filter fun e => !ofQuarter (d - 11) e.1 }
    (List.range 4).foldl (fun s i => s.setLoaded 3 (4 * (d - 11) + i) false) s
  else s

/-- A domain is switched on and its repairs are applied, or it does not become stable (R393, R540). -/
def State.domUp (s : State) (d : Nat) (mapOk up : Bool) : State :=
  if up then
    let s := (s.repair d mapOk).setDomSts d true
    if 11 ≤ d ∧ d ≤ 14 then s.setLoaded 4 0 false else s
  else s.onPwr fun x => { x with rising := x.rising.put d s.now }

/-- The domains that a write of DOM_ON_w switches off. -/
def State.domsOff (s : State) (w : Nat) (v : Word) : List Nat :=
  ((List.range 34).filter fun d => decide (d / 32 = w) && !v.bit (d % 32) && s.domOn d && decide (d ≠ 0 ∧ d ≠ 1 ∧ d ≠ 6))

/-- A domain may not be switched off (R393). -/
def State.domHeld (s : State) (r : Requester) (d : Nat) : Bool :=
  (ledgerPages.any fun p => decide (p.domain = d) && s.enabled p.base0)
    || (match r with | .core c => decide (d = 2 + c.val) | .host => false)
    || (decide (7 ≤ d ∧ d ≤ 10) && s.mem.stg.any fun e => decide (e.2.owner ≠ .free))

/-! ### Registers -/

/-- AON's own checks (R410). -/
def aonChecks : Checks := fun s _ _ o v =>
  failIf ((decide (o = 0xA8) || decide (o = 0xAC)) && s.flag R.AON_HS_CTL_ARM) 4
    ++ failIf (decide (o = 0xB0) && v.bit 0 && decide (s.count R.AON_HS_CMP_LO ≤ s.hs)) 1

def aonEffect : Effect := fun s _ _ o _ v =>
  if o = 0x90 then (if v.bit 0 then s.timeSet else s)
  else if o = 0xC4 then
    (if v.bit 0 then ((s.put R.AON_STBY_REC_CAUSE 0).put R.AON_STBY_REC_HALTED 0).aonLevels else s)
  else if o = 0x9C then s.aonLevels
  else if o = 0xB4 then s.gpioDrive
  else s

/-- PWR's own checks (R393, R395). -/
def pwrChecks : Checks := fun s r _ o v =>
  if o = 0x80 then
    failIf (v.bit 2 && s.sleepBlocked.isSome) 4
      ++ failIf (v.bit 2 && (decide (v.fld 0 2 = 0) || decide (v.fld 0 2 = 3))) 1
  else if o = 0xB0 ∨ o = 0xB4 then failIf ((s.domsOff ((o - 0xB0) / 4) v).any fun d => s.domHeld r d) 4
  else []

/-- What a write to a PWR register does beyond its fields: `tck`, `mapOk` and `up` say what the board shows of ck_dbg, of a
domain's repair map, and of its supply. -/
def pwrEffectWith (tck mapOk up : Bool) : Effect := fun s _ _ o old v =>
  if o = 0x80 then (if v.bit 2 ∧ !old.bit 2 then s.sleepGo (v.fld 0 2) false tck else s)
  else if o = 0x8C then s.wr R.PWR_WAKE_EN ((v.setBit 0).setBit 7)
  else if o = 0xB0 ∨ o = 0xB4 then
    let w := (o - 0xB0) / 4
    let s := if w = 0 then s.wr R.PWR_DOM_ON_0 (((v.setBit 0).setBit 1).setBit 6) else s
    let mine := (List.range 34).filter fun d => decide (d / 32 = w)
    mine.foldl (fun s d =>
      if old.bit (d % 32) ∧ !s.domOn d then s.domDown d
      else if !old.bit (d % 32) ∧ s.domOn d then s.domUp d mapOk up
      else s) s
  else s

def pwrEffect : Effect := pwrEffectWith false true true

/-- A page of a clock domain has its clock running. -/
def State.branchOn (s : State) (d : Nat) : Bool :=
  ledgerPages.any fun p => decide (p.clock = some d) && s.flag (hCLK_ON p.base0)

/-- A PLL is powered (R390): in RUN and DOZE, PLL_C and every PLL with an enabled page that is not forced off, or with a
branch that a clock request opened. -/
def State.pllOn (s : State) (p : Nat) : Bool :=
  decide (s.cur < 2) && decide (0 < s.now)
    && (decide (p ≤ 1) || ledgerPages.any fun q =>
      decide (q.clock.bind clockPll = some p)
        && ((s.enabled q.base0 && decide (s.get (hCKREQ q.base0) ≠ 2) && s.domSts q.domain) || s.flag (hCLK_ON q.base0)))

/-- What CLK registers show (R389, R390). -/
def clkView : View := fun s _ _ o =>
  if o = 0x80 then
    some (BitVec.ofNat 32 ((List.range 8).foldl (fun a p =>
      a + b2n (s.pllOn p) * 4 ^ p + b2n (s.pllOn p && !s.pwr.unlocked.contains p) * 2 * 4 ^ p) 0))
  else if o = 0x84 then
    let run := decide (s.cur < 2) && decide (0 < s.now)
    let b (d : Nat) : Bool :=
      if d ≤ 1 then true
      else if d = 2 then run && decide (s.cur = 0)
      else if d = 3 then run && decide (s.cur = 0)
      else if d = 5 then run && !(s.rdp.cws.isEmpty && s.rdp.ladders.isEmpty)
      else if d = 8 then s.branchOn 7
      else if d = 10 then s.branchOn 9
      else if d = 16 then run
      else s.branchOn d
    some (BitVec.ofNat 32 ((List.range 17).foldl (fun a d => a + b2n (b d) * 2 ^ d) 0))
  else if o = 0x8C then
    some (BitVec.ofNat 32 (if s.now = 0 then 0
      else b2n (!s.pwr.refLost) + 2 + b2n (Config.peRefClk s.now) * 4))
  else none

/-! ### Commands: sleep -/

/-- SLEEP_REQUEST: a write of PWR.CMD with GO by a requester, or a request of the NVMe command engine for the power state that
its feature 0x02 holds (R395); `tck` says that ck_dbg carries a clock. -/
def execSleepRequest (who : Option Requester) (target : BitVec 2) (tck : Bool) (s : State) : Host.Outcome State Fault Refusal :=
  act s fun s =>
    match who with
    | some r => s.softWrite pwrChecks (pwrEffectWith tck true true) r R.PWR_CMD (BitVec.ofNat 32 (target.toNat + 4))
    | none =>
      let ps := s.feat 2 0 % 32
      if 3 ≤ ps ∧ ps - 2 = target.toNat ∧ s.cur < 2 ∧ !s.flag R.PWR_STATE_ENTERING then s.sleepAsk target.toNat tck else s

/-- SLEEP_RETRY: the pending request is tried again (R395). -/
def execSleepRetry (tck : Bool) (s : State) : Host.Outcome State Fault Refusal :=
  act s fun s =>
    if s.flag R.PWR_STATE_PENDING ∧ s.sleepBlocked = none then s.sleepGo (s.get R.PWR_STATE_PEND_TGT) true tck else s

/-- DRAIN_TIMEOUT: flows and PUTs still live in step 2 are aborted (R397). -/
def execDrainTimeout (s : State) : Host.Outcome State Fault Refusal :=
  act s fun s =>
    if s.pwr.step = .drain ∧ s.pwr.drainAt ≤ s.now then
      ((s.ist.flows.map (·.1)).foldl (fun s i => s.abortAny i) s).sleepStep
    else s

/-- CORE_PARK: a core writes its bit of PARK and waits for an interrupt (R397 step 4). -/
def execCorePark (c : Fin 4) (s : State) : Host.Outcome State Fault Refusal :=
  act s fun s =>
    let s := s.softWrite pwrChecks pwrEffect (.core c) R.PWR_PARK ((s.rd R.PWR_PARK).setBit c.val)
    (s.onPwr fun x => { x with coreWait := x.coreWait ||| 2 ^ c.val }).sleepStep

/-- PARK_TIMEOUT: the cores have not all parked in time (R397 step 4). -/
def execParkTimeout (s : State) : Host.Outcome State Fault Refusal :=
  act s fun s => if s.pwr.step = .park ∧ s.pwr.parkAt ≤ s.now then s.sleepGiveUp else s

/-- SLEEP_STATE_REACHED: all cores have parked, and NAP or DEEP is reached (R397 steps 5 to 8). -/
def execSleepStateReached (s : State) : Host.Outcome State Fault Refusal :=
  act s fun s => if s.pwr.step = .settle then s.sleepReached else s

/-- WAKE_RECOGNISED: wake sources seen in one ck_aon cycle (R399, R405). -/
def execWakeRecognised (srcs : BitVec 12) (s : State) : Host.Outcome State Fault Refusal :=
  act s fun s => s.wake srcs.toNat

/-- EXIT_COMPLETE: exit reaches RUN (R398). -/
def execExitComplete (s : State) : Host.Outcome State Fault Refusal :=
  act s fun s => if s.pwr.step = .exit then s.exitDone else s

/-- DOZE_ENTER: all cores wait, and every page under the on-demand policy has released its clock (R394). -/
def execDozeEnter (s : State) : Host.Outcome State Fault Refusal :=
  act s fun s =>
    if s.cur = 0 ∧ s.pwr.step = .awake
        ∧ !(ledgerPages.any fun p => s.flag (hCLK_ON p.base0) && decide (s.get (hCKREQ p.base0) = 0)) then
      (s.put R.PWR_STATE_CUR 1).onPwr fun x => { x with coreWait := 15 }
    else s

/-- DOZE_EXIT: a clock request or a core interrupt (R394). -/
def execDozeExit (s : State) : Host.Outcome State Fault Refusal :=
  act s fun s => if s.cur = 1 then (s.put R.PWR_STATE_CUR 0).onPwr fun x => { x with coreWait := 0 } else s

/-! ### Commands: domains and clocks -/

/-- The word of DOM_ON_w with one bit changed. -/
def State.domWord (s : State) (d : Nat) (b : Bool) : Word := (s.rd (R.PWR_DOM_ON_0 + 4 * (d / 32))).setFld (d % 32) 1 (b2n b)

/-- DOMAIN_SWITCH_ON: a write of DOM_ON with a domain's bit at 1 (R393, R540). -/
def execDomainSwitchOn (r : Requester) (d : Fin 34) (mapOk up : Bool) (s : State) : Host.Outcome State Fault Refusal :=
  act s fun s =>
    s.softWrite pwrChecks (pwrEffectWith false mapOk up) r (R.PWR_DOM_ON_0 + 4 * (d.val / 32)) (s.domWord d.val true)

/-- DOMAIN_SWITCH_OFF: a write of DOM_ON with a domain's bit at 0 (R393). -/
def execDomainSwitchOff (r : Requester) (d : Fin 34) (s : State) : Host.Outcome State Fault Refusal :=
  act s fun s => s.softWrite pwrChecks pwrEffect r (R.PWR_DOM_ON_0 + 4 * (d.val / 32)) (s.domWord d.val false)

/-- DOMAIN_ON_TIMEOUT: a domain is not stable 200 µs after its switch-on (R393). -/
def execDomainOnTimeout (d : Fin 34) (s : State) : Host.Outcome State Fault Refusal :=
  act s fun s =>
    match s.pwr.rising.find d.val with
    | some t =>
      if t + 200000 ≤ s.now then
        ((s.onPwr fun x => { x with rising := x.rising.del d.val }).pulse 14).raise .pwr 0 0x09 .u d.val
      else s
    | none => s

/-- The instances whose clock comes from a PLL and runs. -/
def State.clocked (s : State) (p : Nat) : List Nat :=
  ((ledgerPages.filter fun q => decide (q.page = 0) && decide (q.clock.bind clockPll = some p)).map (·.base0)).filter
    fun b => s.flag (hCLK_ON b)

/-- PLL_UNLOCK: a PLL loses lock (R391). -/
def execPllUnlock (p : Fin 8) (s : State) : Host.Outcome State Fault Refusal :=
  act s fun s =>
    if s.pllOn p.val ∧ !s.pwr.unlocked.contains p.val then
      let bs := s.clocked p.val
      let s := bs.foldl (fun s b => s.put (hCLK_ON b) 0) s
      let s := s.onPwr fun x => { x with unlocked := insertNat p.val x.unlocked, clkWait := x.clkWait ++ bs }
      ((((s.putBit R.CLK_UNLOCK_SEEN p.val true).bump R.CLK_UNLOCK_CNT 1).pulse 13).raise .clk 0 0x08 .u p.val)
    else s

/-- PLL_RELOCK: the PLL locks again, and its branches run again (R391). -/
def execPllRelock (p : Fin 8) (s : State) : Host.Outcome State Fault Refusal :=
  act s fun s =>
    if s.pwr.unlocked.contains p.val then
      let bs := s.pwr.clkWait.filter fun b => (findPage b).any fun q => decide (q.clock.bind clockPll = some p.val)
      let s := bs.foldl (fun s b => s.put (hCLK_ON b) 1) s
      s.onPwr fun x => { x with unlocked := x.unlocked.filter (· ≠ p.val), clkWait := x.clkWait.filter fun b => !bs.contains b }
    else s

/-- REF_CLOCK_LOSS: REF25_IN has carried no edge for 10 µs (R391); in DEEP its input is switched off. -/
def execRefClockLoss (s : State) : Host.Outcome State Fault Refusal :=
  act s fun s =>
    if s.cur = 3 then s else (s.onPwr fun x => { x with refLost := true }).fatal .clk 0 0x08 0xF

/-! ### Commands: AON -/

/-- TIME_SET: a write of TIME_CTL.SET (R407). -/
def execTimeSet (r : Requester) (s : State) : Host.Outcome State Fault Refusal :=
  act s fun s => s.softWrite aonChecks aonEffect r R.AON_TIME_CTL 1

/-- HS_ARM: a write of HS_CTL.ARM (R410). -/
def execHsArm (r : Requester) (s : State) : Host.Outcome State Fault Refusal :=
  act s fun s => s.softWrite aonChecks aonEffect r R.AON_HS_CTL 1

/-- HS_MATCH: the Hairspring count has become equal to HS_CMP (R410). -/
def execHsMatch (s : State) : Host.Outcome State Fault Refusal :=
  act s fun s =>
    if s.flag R.AON_HS_CTL_ARM ∧ s.count R.AON_HS_CMP_LO ≤ s.hs then
      (((s.put R.AON_HS_CTL_ARM 0).put R.AON_HS_CTL_MATCH 1).pulse 0).wake (2 ^ 8)
    else s

/-- GPIO_EDGE: the level on a GPIO pin changes; the selected edge on an input is an event and may wake (R405). -/
def execGpioEdge (k : Fin 2) (level : Bool) (s : State) : Host.Outcome State Fault Refusal :=
  act s fun s =>
    let was := s.fbit R.AON_GPIO_STS_IN k.val
    let cfg := (s.rd R.AON_GPIO_CFG).fld (8 * k.val) 4
    let s := (s.putBit R.AON_GPIO_STS_IN k.val level).gpioDrive
    if cfg % 4 = 0 ∧ was ≠ level ∧ (cfg / 4).testBit (if level then 0 else 1) then
      ((s.putBit R.AON_GPIO_STS_EDGE k.val true).pulse (4 + k.val)).wake (2 ^ (9 + k.val))
    else s

/-- REGULATOR_GUARD: four consecutive samples of the regulator's load, the lowest of them `load` in µA (R403). -/
def execRegulatorGuard (load : Nat) (s : State) : Host.Outcome State Fault Refusal :=
  act s fun s =>
    if s.flag R.AON_REG_STS_LP then
      let s := s.put R.AON_REG_STS_PEAK (max (s.get R.AON_REG_STS_PEAK) (min 255 (load / 100)))
      if s.flag R.PWR_DEEP_CFG_GUARD_EN ∧ s.get R.PWR_DEEP_CFG_GUARD_MA * 100 < load then s.wake (2 ^ 11) else s
    else s

/-- STBY_CLR: a write of STBY_CLR (R404). -/
def execStbyClr (r : Requester) (s : State) : Host.Outcome State Fault Refusal :=
  act s fun s => s.softWrite aonChecks aonEffect r R.AON_STBY_CLR 1

/-! ### Commands: SMBus (R324, R378, R405) -/

/-- One byte of the SMBus packet error code: CRC-8 with x^8 + x^2 + x + 1. -/
def pecByte (c : Nat) (b : Byte) : Nat :=
  (List.range 8).foldl (fun c _ => if 128 ≤ c then Nat.xor (2 * c % 256) 7 else 2 * c) (Nat.xor c b.toNat)

def pec (bs : Bytes) : Byte := BitVec.ofNat 8 (bs.foldl pecByte 0)

/-- A transfer while the device enters, is in or leaves a sleep state is not acknowledged and wakes it (R405); otherwise `f`. -/
def State.smbus (s : State) (f : State → State) : State :=
  if s.pwr.step = .awake then f s else (s.wake (2 ^ 6)).emit (.smbus false [])

/-- A word written to ESC's target at 0x6B: code, word and PEC (R378). -/
def State.bmcWrite (s : State) (code : Nat) (w : BitVec 16) (p : Byte) : State :=
  s.smbus fun s =>
    let bs : Bytes := [0xD6, BitVec.ofNat 8 code] ++ leBytes 2 w.toNat
    if s.flag R.ESC_CTL_BMC_EN ∧ p = pec bs then
      let s := if code = 0x40 then (s.put R.ESC_BMC_CAP_CAP w.toNat).pulse 47 else s.wrQ R.ESC_T_AMB (w.toInt * 256)
      s.emit (.smbus true [])
    else s.emit (.smbus false [])

/-- A power in units of 100 mW, rounded down. -/
def tenths (v : Int) : Nat := min 65535 (v * 10 / 65536).toNat

/-- A word read from ESC's target at 0x6B (R378). -/
def State.bmcRead (s : State) (code v : Nat) : State :=
  s.smbus fun s =>
    if s.flag R.ESC_CTL_BMC_EN then
      let d := leBytes 2 v
      s.emit (.smbus true (d ++ [pec ([0xD6, BitVec.ofNat 8 code, 0xD7] ++ d)]))
    else s.emit (.smbus false [])

/-- BMC_SET_CAP: code 0x40 written. -/
def execBmcSetCap (w : BitVec 16) (p : Byte) (s : State) : Host.Outcome State Fault Refusal :=
  act s fun s => s.bmcWrite 0x40 w p

/-- BMC_SET_INLET: code 0x41 written. -/
def execBmcSetInlet (w : BitVec 16) (p : Byte) (s : State) : Host.Outcome State Fault Refusal :=
  act s fun s => s.bmcWrite 0x41 w p

/-- BMC_READ_BOARD_POWER: code 0x42 read. -/
def execBmcReadBoardPower (s : State) : Host.Outcome State Fault Refusal :=
  act s fun s => s.bmcRead 0x42 (tenths (s.rdQ R.ESC_P_BOARD))

/-- BMC_READ_PKG_POWER: code 0x43 read. -/
def execBmcReadPkgPower (s : State) : Host.Outcome State Fault Refusal :=
  act s fun s => s.bmcRead 0x43 (tenths (s.rdQ R.ESC_P_PKG))

end Sys2Proof.Machine
end

