-- ==== Sys2Proof/Machine/Pcie.lean ====
section
/-! DEFINITION. The PCI Express endpoint (chapter 10): link, configuration space, MSI-X table, host reads and their ends,
errors, power management of the function, and its resets. -/

namespace Sys2Proof.Machine

open Sys2Proof

def pciPage : Nat := 0x100000

/-! ### The link (R330 to R333, R355) -/

/-- The link comes into L0 with what both partners support (R330 to R332): speed code, width code, FLIT offered. -/
def State.linkTrained (s : State) (speed width : Nat) (flit : Bool) : State :=
  let ms := s.get R.PCI_LINK_CFG_MAX_SPEED
  let mw := s.get R.PCI_LINK_CFG_MAX_WIDTH
  let v := min speed ms
  let w := min width mw
  let f := decide (v = 6) || (decide (3 ≤ v) && flit && s.flag R.PCI_LINK_CFG_FLIT_EN)
  let bad := decide (v < ms) || decide (w < mw) || decide (v < 3)
  let s := ((s.put R.PCI_LINK_STS_SPEED v).put R.PCI_LINK_STS_WIDTH w).put R.PCI_LINK_STS_L0P_WIDTH w
  let s := ((s.put R.PCI_LINK_STS_FLIT (b2n f)).put R.PCI_LINK_STS_LTSSM 3).put R.PCI_LINK_STS_DEGRADED (b2n bad)
  let s := (s.put R.PCI_CTL_RETRAIN 0).onPci fun x => { x with
    partner := some (speed, width), firstL0 := some (x.firstL0.getD s.now), wakeN := false }
  if bad then s.pulse 146 else s

/-- The link may train: PERST_N is released, the page is enabled and in its clock, and the device is not in HALT. -/
def State.linkMayTrain (s : State) : Bool := !s.pci.perst && s.enabled pciPage

/-- The link leaves L1 for a TLP. -/
def State.linkActive (s : State) : State :=
  let l := s.get R.PCI_LINK_STS_LTSSM
  if 5 ≤ l ∧ l ≤ 7 then s.put R.PCI_LINK_STS_LTSSM 3 else s

/-- LTR messages follow the need (R355). -/
def State.ltrRefresh (s : State) : State :=
  if s.flag R.PCI_LINK_STS_UP ∧ (s.cfgRd 0x88).bit 10 then
    let busy := !s.nvmQuiet || (List.range 32).any fun n => !(s.dmaSt n).active.isEmpty
    let need := if 3 ≤ s.feat 2 0 % 32 then none
      else some (if busy then s.get R.PCI_LTR_CFG_ACTIVE_US else s.get R.PCI_LTR_CFG_IDLE_US)
    if s.pci.ltr = need then s else (s.onPci fun x => { x with ltr := need }).emit (.ltr need)
  else s

/-! ### Host reads that end (R346, R347) -/

/-- The completion timeout in ns (R345). -/
def State.cplTimeout (s : State) : Nat :=
  match (s.cfgRd 0x88).fld 0 4 with
  | 1 => 90000
  | 2 => 9 * 10 ^ 6
  | 5 => 50 * 10 ^ 6
  | 6 => 200 * 10 ^ 6
  | 9 => 800 * 10 ^ 6
  | 10 => 3 * 10 ^ 9
  | 13 => 12 * 10 ^ 9
  | 14 => 60 * 10 ^ 9
  | _ => 40 * 10 ^ 6

/-- A read leaves the pool; with `hold` its tag stays out for twice the timeout. -/
def State.readGone (s : State) (tag : Nat) (hold : Bool) : State :=
  let s := s.onPci fun x => { x with
    reads := x.reads.del tag
    tagHold := if hold then x.tagHold.put tag (s.now + 2 * s.cplTimeout) else x.tagHold }
  s.put R.PCI_TAG_STS_OUTST s.pci.reads.length

/-- A bus error handed to the owner of a read: kind as in ERR_0. -/
def State.readFail (s : State) (kind : Nat) (r : HostRead) : State :=
  match r.owner with
  | .dma n idx =>
    match (s.dmaSt n).active.find? fun j => decide (j.idx = idx) && j.code.isNone with
    | some j => s.descBad n idx (if j.d.srcT = 1 then 4 else 5) kind (s.doneBytes n j)
    | none => s
  | _ => s

/-- A read ends in a bus error (R347). -/
def State.readBusError (s : State) (kind tag : Nat) (r : HostRead) (hold : Bool) : State :=
  (((s.readFail kind r).readGone tag hold).readError kind tag r)

/-- Every outstanding read ends; only a link that went down records them. -/
def State.readsEnd (s : State) (record : Bool) : State :=
  s.pci.reads.foldl (fun s e =>
    if record then s.readBusError 4 e.1 e.2 true else (s.readFail 4 e.2).readGone e.1 true) s

/-- Channels that waited for a tag or for Bus Master Enable go on. -/
def State.dmaGoOn (s : State) : State := (List.range 32).foldl (fun s n => s.dmaIssue n) s

/-- With no read outstanding a change of tag mode takes effect (R344). -/
def State.tagRefresh (s : State) : State :=
  if s.pci.reads.isEmpty then (s.onPci fun x => { x with oldPool := none }).put R.PCI_TAG_STS_MODE s.tagMode else s

/-! ### Interrupt modes (R49, R351, R352) -/

/-- Vectors of the PBA that may be sent are sent once, and their bits clear. -/
def State.pbaRelease (s : State) : State :=
  if s.msixEn ∧ !s.fnMask ∧ s.busMaster then
    s.pci.pba.foldl (fun s v =>
      if s.vecMask v then s else (s.onPci fun x => { x with pba := x.pba.filter (· ≠ v) }).sendMsix v) s
  else s

/-- EVC sources routed to a vector whose pending bit is set. -/
def State.evcPendSrcs (s : State) : List Nat :=
  (s.regs.filterMap fun e =>
    if R.EVC_ROUTE 0 ≤ e.1 ∧ e.1 ≤ R.EVC_ROUTE 639 ∧ e.2.bit 8 ∧ s.flag (pendRef ((e.1 - R.EVC_ROUTE 0) / 4)) then
      some ((e.1 - R.EVC_ROUTE 0) / 4)
    else none)

/-- MSI-X Enable goes to 1: one message for each vector with an interrupt pending. -/
def State.msixStart (s : State) : State :=
  let srcs := (s.evcPendSrcs ++ s.evc.heldMsi).eraseReps
  let vecs := (srcs.map fun k => s.get (R.EVC_ROUTE_VEC k))
    ++ s.nvm.cqs.filterMap fun e => if e.2.ien ∧ e.2.head ≠ e.2.tail then some e.2.iv else none
  let s := (vecs ++ s.pci.pba).foldl (fun (s : State) v => s.onPci fun x => { x with pba := insertNat v x.pba }) s
  let s := srcs.foldl (fun (s : State) k => if s.flag (R.EVC_ROUTE_ACLR k) then s.put (pendRef k) 0 else s) s
  (s.onEvc fun x => { x with heldMsi := [] }).pbaRelease

/-- What follows when the interrupt mode may have changed; `was` is MSI-X Enable before. -/
def State.intMode (s : State) (was : Bool) : State :=
  let s := s.intaRefresh
  if s.msixEn then (if was then s.pbaRelease else s.msixStart)
  else if s.intxMode then (s.onEvc fun x => { x with heldMsi := [] }).intaRefresh
  else s

/-- A dword of BAR4 written: the MSI-X table; the PBA is read-only (R338, R339). -/
def State.bar4Write (s : State) (o : Nat) (v : Word) : State :=
  if o < 0x1000 then
    let w := if o % 16 = 12 then v &&& 1 else if o % 16 = 0 then v &&& 0xFFFFFFFC else v
    (s.onPci fun x => { x with msix := x.msix.set msixReset (o / 4) w }).pbaRelease
  else s

/-- A dword of BAR4 as it reads. -/
def State.bar4Read (s : State) (o : Nat) : Nat :=
  if o < 0x1000 then (s.pci.msix.get msixReset (o / 4)).toNat
  else if 0x2000 ≤ o ∧ o < 0x2020 then
    (List.range 32).foldl (fun a b => a + b2n (s.pci.pba.contains ((o - 0x2000) * 8 + b)) * 2 ^ b) 0
  else 0

/-! ### Resets of the function (R357, R358) -/

/-- The registers of a range of offsets return to their reset values. -/
def State.resetRange (s : State) (lo hi : Nat) : State :=
  { s with regs := s.regs.filter fun e => decide (e.1 < lo) || decide (hi ≤ e.1) }

/-- NVM page and NVMe state after a reset of the function; counters that firmware keeps on flash stay (R304, R357). -/
def State.nvmReset (s : State) : State :=
  let s := s.nvmStop.resetRange nvmPage (nvmPage + 0x1000)
  let s := s.onNvm fun x => { NvmSt.reset with
    next := x.next, tsHost := x.tsHost, errCount := x.errCount, smart := x.smart, late := x.late, idle := s.now }
  ((s.put R.ESC_PS_CAP_CAP 5200).put R.PWR_STATE_PENDING 0).intaRefresh

/-- The configuration dwords that a reset other than a cold one keeps: AER status and logs, and the link's own control. -/
def cfgKept : List Nat := [0x70, 0x104, 0x110, 0x118, 0x11C, 0x120, 0x124, 0x128]

/-- Configuration space, MSI-X table and power state of the function reset; PME_En and PME_Status are sticky. -/
def State.cfgReset (s : State) (link : Bool) : State :=
  let pm := (s.cfgRd 0x44) &&& 0x8100
  let s := s.onPci fun x => { x with
    cfg := x.cfg.filter fun e => cfgKept.contains e.1 && (link || decide (e.1 ≠ 0x70)), msix := [], pba := [], d3 := false }
  (s.cfgWr 0x44 (Machine.cfgReset 0x44 ||| pm)).intaRefresh

/-- The reset by hot reset, link down or FLR. -/
def State.fnReset (s : State) : State :=
  let s := (s.cfgReset true).nvmReset
  (s.resetRange (pciPage + 0x20) (pciPage + 0x40)).resetRange (pciPage + 0x100) (pciPage + 0x120)

/-- A reset of the function that a brace holds back (R358): 1 hot reset, 2 FLR, 3 link down. -/
def State.fnResetAsk (s : State) (k : Nat) : State :=
  if s.get R.PLJ_PF_STS_STATE = 1 then s.onPci fun x => { x with resetWait := insertNat k x.resetWait } else s.fnReset

/-- A held reset takes effect when the brace is over. -/
def State.fnResetWaiting (s : State) : State :=
  if s.get R.PLJ_PF_STS_STATE ≠ 1 ∧ (s.pci.resetWait.any fun k => decide (k ≤ 3)) then
    (s.onPci fun x => { x with resetWait := x.resetWait.filter fun k => decide (3 < k) }).fnReset
  else s

/-- The data link layer goes down. -/
def State.linkDrop (s : State) : State :=
  (((s.put R.PCI_LINK_STS_UP 0).put R.PCI_LINK_STS_LTSSM 0).put R.PCI_CTL_RETRAIN 0).pulse 145

/-- A Function Level Reset. -/
def State.flr (s : State) : State := ((s.readsEnd false).pulse 165).fnResetAsk 2

/-! ### D3hot (R356) -/

/-- The function enters D3hot: an NVMe-only shutdown unless the engine is shut down already. -/
def State.d3Enter (s : State) : State :=
  let s := s.onPci fun x => { x with d3 := true }
  let s :=
    if s.get R.NVM_STS_SHST = 2 then s
    else
      let ids := s.nvm.cmds.map (·.1)
      let s := ids.foldl (fun s id => s.cmdFree id) s
      let s := s.onNvm fun x => { x with cmds := [], mbox := none, aers := [], drop := none, shn := 3 }
      let s := ((s.put R.NVM_ADM_STS_PENDING 0).setLevel 160 false).setLevel 166 false
      (s.put R.NVM_STS_SHST 1).shutdownStep
  s.pulse 154

/-- The function returns to D0. -/
def State.d0Return (s : State) : State := (s.onPci fun x => { x with d3 := false }).pulse 155

/-! ### Configuration space (R334 to R337, R354) -/

/-- Bits of a configuration dword that software writes, and bits that clear by writing 1. -/
def cfgRw (o : Nat) : Word :=
  match o with
  | 0x04 => 0x546
  | 0x0C => 0xFF
  | 0x10 => 0xFFFF0000
  | 0x18 => 0xFC000000
  | 0x20 => 0xFFFFC000
  | 0x14 | 0x1C | 0x24 => 0xFFFFFFFF
  | 0x3C => 0xFF
  | 0x44 => 0x103
  | 0x50 => 0xC0000000
  | 0x68 => 0x79FF
  | 0x70 => 0x1CB
  | 0x88 => 0x141F
  | 0x108 | 0x10C => 0x57F010
  | 0x114 => 0xB1C1
  | 0x248 => 0xE3FFFF0F
  | 0x24C => 0xFB
  | 0x254 => 0x1FFF1FFF
  | 0x268 => 0xC
  | _ => 0

def cfgW1c (o : Nat) : Word :=
  match o with
  | 0x04 => 0xF9000000
  | 0x44 => 0x8000
  | 0x68 => 0xF0000
  | 0x104 => 0x57F010
  | 0x110 => 0xB1C1
  | _ => 0

/-- The bits of the enabled bytes. -/
def beMask (be : BitVec 4) : Word :=
  (List.range 4).foldl (fun (m : Word) i => if be.getLsbD i then m.setFld (8 * i) 8 255 else m) 0

/-- A configuration dword as it reads. -/
def State.cfgShow (s : State) (o : Nat) : Word :=
  let w := s.cfgRd o
  if o = 0x04 then w.setFld 19 1 (s.get R.PCI_INT_STS_INTA)
  else if o = 0x2C then BitVec.ofNat 32 (0x1FE4 + s.get R.PCI_ID_CFG_SUBSYS_ID * 2 ^ 16)
  else if o = 0x70 then (w.setFld 16 4 (s.get R.PCI_LINK_STS_SPEED)).setFld 20 6 (2 ^ s.get R.PCI_LINK_STS_WIDTH)
  else if o = 0x234 then s.rd R.PCI_DSN_LO
  else if o = 0x238 then s.rd R.PCI_DSN_HI
  else w

/-- A configuration dword written, with what follows from it. -/
def State.cfgWrite (s : State) (o : Nat) (v : Word) (be : BitVec 4) : State :=
  let en := beMask be
  let old := s.cfgRd o
  let m := cfgRw o &&& en
  let new := ((old &&& ~~~m) ||| (v &&& m)) &&& ~~~(cfgW1c o &&& en &&& v)
  let new := if o = 0x44 ∧ (new.fld 0 2 = 1 ∨ new.fld 0 2 = 2) then new.setFld 0 2 (old.fld 0 2) else new
  let msix := s.msixEn
  let mode := s.tagMode
  let pool := s.modePool
  let s := s.cfgWr o new
  if o = 0x04 then
    let s := if old.bit 2 ∧ !new.bit 2 then s.pulse 153 else s
    let s := s.intMode msix
    if new.bit 2 then s.dmaGoOn else s
  else if o = 0x50 then s.intMode msix
  else if o = 0x44 then
    if old.fld 0 2 = 0 ∧ new.fld 0 2 = 3 then s.d3Enter
    else if old.fld 0 2 = 3 ∧ new.fld 0 2 = 0 then s.d0Return
    else s
  else if o = 0x68 then (if (v &&& en).bit 15 then s.flr else s)
  else if o = 0x88 ∨ o = 0x268 then
    let s := if s.tagMode ≠ mode ∧ !s.pci.reads.isEmpty ∧ s.pci.oldPool = none then
      s.onPci fun x => { x with oldPool := some pool } else s
    s.tagRefresh
  else s

/-- A configuration write that the endpoint takes (R337). -/
def State.cfgHost (s : State) (o : Nat) (v : Word) (be : BitVec 4) : State :=
  let s := s.linkActive
  if !s.flag R.PCI_LINK_STS_UP then s
  else if !s.flag R.PCI_LINK_STS_CFG_OPEN then s.emit (.config true 0)
  else (s.cfgWrite o v be).emit (.config false 0)

/-! ### The PCI page (R360, R361) -/

def pciChecks : Checks := fun s _ _ o v =>
  let open_ := s.flag R.PCI_CTL_CFG_READY
  if o = 0x80 ∨ o = 0x84 ∨ o = 0x88 then failIf open_ 4
  else if o = 0x90 then
    failIf (open_ && !v.bit 0) 4 ++ failIf (v.bit 1 && !s.flag R.PCI_LINK_STS_UP) 4
  else if o = 0xA0 then failIf (decide (v.fld 16 16 < v.fld 0 16)) 7
  else []

/-- What a write to a PCI register does beyond its fields; a retrain finds the partner with the given offer (R332). -/
def pciEffectWith (offer : Nat × Nat × Bool) : Effect := fun s _ _ o old v =>
  if o = 0x90 then
    let s := if v.bit 0 ∧ !old.bit 0 then s.put R.PCI_LINK_STS_CFG_OPEN 1 else s
    if v.bit 1 then s.linkTrained offer.1 offer.2.1 offer.2.2 else s
  else if o = 0x98 then s.dmaGoOn
  else s

def pciEffect : Effect := fun s r p o old v =>
  pciEffectWith ((s.pci.partner.getD (6, 3)).1, (s.pci.partner.getD (6, 3)).2, s.flag R.PCI_LINK_STS_FLIT) s r p o old v

/-- Registers that freeze with a read of ERR_1 until ERR_0 is read (R361). -/
def pciReadEffect : ReadEffect := fun s r _ o =>
  if o = 0xAC then s.onPci fun x => { x with errFrozen := insertNat r.idx x.errFrozen }
  else if o = 0xA8 then
    let s := (s.wr R.PCI_ERR_1 0).wr R.PCI_ERR_2 0
    s.onPci fun x => { x with errFrozen := x.errFrozen.filter (· ≠ r.idx) }
  else s

/-! ### Commands: link -/

/-- LINK_UP: the data link layer comes up after training with what the partner offers (R330, R332). -/
def execLinkUp (speed : BitVec 3) (width : BitVec 2) (flit : Bool) (s : State) : Host.Outcome State Fault Refusal :=
  act s fun s =>
    if s.linkMayTrain ∧ !s.flag R.PCI_LINK_STS_UP ∧ s.get R.PCI_LINK_STS_LTSSM ≠ 8 ∧ 1 ≤ speed.toNat ∧ speed.toNat ≤ 6 then
      ((s.put R.PCI_LINK_STS_UP 1).pulse 144).linkTrained speed.toNat width.toNat flit
    else s

/-- LINK_DOWN: the data link layer leaves DL_Active other than into L2 (R346, R357). -/
def execLinkDown (s : State) : Host.Outcome State Fault Refusal :=
  act s fun s => if s.flag R.PCI_LINK_STS_UP then ((s.linkDrop).readsEnd true).fnResetAsk 3 else s

/-- HOT_RESET: a hot reset is received (R357, R358). -/
def execHotReset (s : State) : Host.Outcome State Fault Refusal :=
  act s fun s => if s.flag R.PCI_LINK_STS_UP then ((s.pulse 147).linkDrop.readsEnd true).fnResetAsk 1 else s

/-- FUNCTION_LEVEL_RESET: a write of Initiate Function Level Reset in Device Control (R357). -/
def execFunctionLevelReset (s : State) : Host.Outcome State Fault Refusal :=
  act s fun s => s.cfgHost 0x68 ((s.cfgRd 0x68).setBit 15) 0b0011

/-- PERST_N_RELEASE: the link begins to train at 2.5 GT/s (R330). -/
def execPerstNRelease (s : State) : Host.Outcome State Fault Refusal :=
  act s fun s =>
    let s := s.onPci fun x => { x with perst := false }
    if s.linkMayTrain ∧ s.get R.PCI_LINK_STS_LTSSM = 0 then (s.put R.PCI_LINK_STS_SPEED 1).put R.PCI_LINK_STS_LTSSM 1 else s

/-- RETRAIN: a write of CTL.RETRAIN, and what the partner offers (R332). -/
def execRetrain (r : Requester) (speed : BitVec 3) (width : BitVec 2) (flit : Bool) (s : State) :
    Host.Outcome State Fault Refusal :=
  act s fun s => s.softWrite pciChecks (pciEffectWith (max 1 (min 6 speed.toNat), width.toNat, flit)) r R.PCI_CTL
    (((s.rd R.PCI_CTL).setFld 1 1 1))

/-- L0P_WIDTH_CHANGE: a change of the active width under L0p, asked by the host, or by the controller with L0P_EN (R333);
"enabled by the host" is L0p Enable of Device Control 3. -/
def execL0pWidthChange (byHost : Bool) (width : BitVec 2) (s : State) : Host.Outcome State Fault Refusal :=
  act s fun s =>
    let w := s.get R.PCI_LINK_STS_WIDTH
    let cur := s.get R.PCI_LINK_STS_L0P_WIDTH
    let mine := s.flag R.PCI_LINK_CFG_L0P_EN && (decide (width.toNat + 1 = cur) || decide (width.toNat = w))
    if s.flag R.PCI_LINK_STS_UP ∧ s.flag R.PCI_LINK_STS_FLIT ∧ (s.cfgRd 0x268).bit 3 ∧ width.toNat ≤ w ∧ (byHost ∨ mine) then
      s.put R.PCI_LINK_STS_L0P_WIDTH width.toNat
    else s

/-- ASPM_L1_ENTRY: after 32 µs with nothing pending the link goes to L1.0 (0), L1.1 (1) or L1.2 (2), as the host enables
them (R355). -/
def execAspmL1Entry (sub : Fin 3) (s : State) : Host.Outcome State Fault Refusal :=
  act s fun s =>
    let c := s.cfgRd 0x248
    let ok := decide (sub.val = 0) || (decide (sub.val = 1) && c.bit 3) || (decide (sub.val = 2) && c.bit 2)
    if s.flag R.PCI_LINK_STS_UP ∧ s.get R.PCI_LINK_STS_LTSSM = 3 ∧ (s.cfgRd 0x70).bit 1 ∧ s.pci.reads.isEmpty ∧ ok then
      s.put R.PCI_LINK_STS_LTSSM (5 + sub.val)
    else s

/-- L2_ENTRY: after PME_Turn_Off and PME_TO_Ack, with no non-posted request outstanding, the link enters L2 (R357). -/
def execL2Entry (s : State) : Host.Outcome State Fault Refusal :=
  act s fun s =>
    if s.flag R.PCI_LINK_STS_UP ∧ s.pci.reads.isEmpty then
      ((s.put R.PCI_LINK_STS_UP 0).put R.PCI_LINK_STS_LTSSM 8).pulse 145
    else s

/-! ### Commands: configuration -/

/-- CONFIG_REQUEST: a configuration read or write of dword `o` (R334 to R337). -/
def execConfigRequest (write : Bool) (o : BitVec 10) (be : BitVec 4) (v : Word) (s : State) : Host.Outcome State Fault Refusal :=
  act s fun s =>
    if write then s.cfgHost (4 * o.toNat) v be
    else
      let s := s.linkActive
      if !s.flag R.PCI_LINK_STS_UP then s
      else if !s.flag R.PCI_LINK_STS_CFG_OPEN then s.emit (.config true 0)
      else s.emit (.config false (s.cfgShow (4 * o.toNat)).toNat)

/-- CFG_READY: a write of CTL.CFG_READY = 1 (R337). -/
def execCfgReady (r : Requester) (s : State) : Host.Outcome State Fault Refusal :=
  act s fun s => s.softWrite pciChecks pciEffect r R.PCI_CTL 1

/-- CFG_OPEN_TIMEOUT: 1.0 s after the link first reached L0 (R337). -/
def execCfgOpenTimeout (s : State) : Host.Outcome State Fault Refusal :=
  act s fun s =>
    match s.pci.firstL0 with
    | some t => if t + 10 ^ 9 ≤ s.now then s.put R.PCI_LINK_STS_CFG_OPEN 1 else s
    | none => s

/-- BUS_MASTER_CLEAR: Bus Master Enable is cleared (R340). -/
def execBusMasterClear (s : State) : Host.Outcome State Fault Refusal :=
  act s fun s => s.cfgHost 0x04 ((s.cfgRd 0x04).setFld 2 1 0 &&& 0xFFFF) 0b0011

/-- MSIX_ENABLE: MSI-X Enable goes to 1 (R351). -/
def execMsixEnable (s : State) : Host.Outcome State Fault Refusal :=
  act s fun s => s.cfgHost 0x50 ((s.cfgRd 0x50).setBit 31) 0b1100

/-- MSIX_VECTOR_UNMASK: a vector's Mask bit is cleared in the table, or Function Mask in configuration space (R352). -/
def execMsixVectorUnmask (vec : Option (BitVec 8)) (s : State) : Host.Outcome State Fault Refusal :=
  act s fun s =>
    match vec with
    | some v => if s.memEn ∧ !s.pci.d3 then s.bar4Write (16 * v.toNat + 12) 0 else s.unsupported
    | none => s.cfgHost 0x50 ((s.cfgRd 0x50).setFld 30 1 0) 0b1100

/-- INTERRUPT_DISABLE: Interrupt Disable is set (R353). -/
def execInterruptDisable (s : State) : Host.Outcome State Fault Refusal :=
  act s fun s => s.cfgHost 0x04 ((s.cfgRd 0x04).setBit 10 &&& 0xFFFF) 0b0011

/-- D3HOT_ENTRY: PowerState is written D3hot (R356). -/
def execD3hotEntry (s : State) : Host.Outcome State Fault Refusal :=
  act s fun s => s.cfgHost 0x44 (((s.cfgRd 0x44).setFld 0 2 3).setFld 15 1 0) 0b0011

/-- D0_RETURN: PowerState is written D0 (R356). -/
def execD0Return (s : State) : Host.Outcome State Fault Refusal :=
  act s fun s => s.cfgHost 0x44 (((s.cfgRd 0x44).setFld 0 2 0).setFld 15 1 0) 0b0011

/-! ### Commands: transactions -/

/-- Data for a host read arrive: part of it or all of it, by tag. -/
def State.readData (s : State) (tag : Nat) (data : Bytes) (poison : Bool) : State :=
  match s.pci.reads.find tag with
  | none => s
  | some r =>
    let bs := data.take r.len
    let bs := if bs.length < r.len then bs.take (bs.length / 64 * 64) else bs
    let s := if bs.length < r.len then
        let r' : HostRead := { r with addr := r.addr + bs.length, len := r.len - bs.length, off := r.off + bs.length }
        s.onPci fun x => { x with reads := x.reads.put tag r' }
      else s.readGone tag false
    let s := s.addCount R.PCI_RX_UNITS_LO (cdiv bs.length 64)
    let s := match r.owner with
      | .dma n idx => s.dmaRecv n idx r.off bs poison
      | _ => s
    s.dmaGoOn.tagRefresh

/-- READ_COMPLETION: a completion arrives for a tag, with data or with a status that is not Successful Completion; one for a
tag that is held or unknown is discarded as unexpected (R342, R346, R347). -/
def execReadCompletion (tag : BitVec 14) (status : BitVec 3) (data : Bytes) (s : State) : Host.Outcome State Fault Refusal :=
  act s fun s =>
    if !s.flag R.PCI_LINK_STS_UP then s
    else
      let s := ((s.linkActive).evtB pciPage 0x10 1).evtB pciPage 0x13 1
      match s.pci.reads.find tag.toNat with
      | none =>
        let p := s.freeHeader
        p.2.aerUnc 16 p.1
      | some r =>
        if status.toNat = 0 then s.readData tag.toNat data false
        else (s.readBusError 2 tag.toNat r false).dmaGoOn.tagRefresh

/-- COMPLETION_TIMEOUT: a host read has waited for the completion timeout (R345, R346). -/
def execCompletionTimeout (tag : BitVec 14) (s : State) : Host.Outcome State Fault Refusal :=
  act s fun s =>
    match s.pci.reads.find tag.toNat with
    | none => s
    | some r =>
      if !(s.cfgRd 0x88).bit 4 ∧ r.at_ + s.cplTimeout ≤ s.now then
        let p := ((s.readBusError 1 tag.toNat r true).pulse 152).freeHeader
        (p.2.aerUnc 14 p.1).dmaGoOn.tagRefresh
      else s

/-- TAG_HOLD_END: a held tag returns to the pool (R346). -/
def execTagHoldEnd (tag : BitVec 14) (s : State) : Host.Outcome State Fault Refusal :=
  act s fun s =>
    match s.pci.tagHold.find tag.toNat with
    | some t => if t ≤ s.now then (s.onPci fun x => { x with tagHold := x.tagHold.del tag.toNat }).dmaGoOn else s
    | none => s

/-- UNSUPPORTED_REQUEST: a request that hits nothing, with its header (R339). -/
def execUnsupportedRequest (h0 h1 h2 h3 : Word) (s : State) : Host.Outcome State Fault Refusal :=
  act s fun s => if s.flag R.PCI_LINK_STS_UP then (s.linkActive).aerUnc 20 [h0, h1, h2, h3] else s

/-- POISONED_TLP: a poisoned posted write, which is discarded, or a poisoned completion, whose data carry the poison mark
(R348). -/
def execPoisonedTlp (tag : Option (BitVec 14)) (data : Bytes) (s : State) : Host.Outcome State Fault Refusal :=
  act s fun s =>
    if !s.flag R.PCI_LINK_STS_UP then s
    else
      let p := (((s.linkActive).bump R.PCI_POISON_CNT_IN 1).pulse 150).freeHeader
      let s := p.2.aerUnc 12 p.1
      match tag with
      | some t => s.readData t.toNat data true
      | none => s

/-- LINK_LAYER_ERROR: an error that the link or transaction layer detects, by its AER bit: Receiver Error 0, Bad TLP 6, Bad
DLLP 7, Replay Number Rollover 8, Replay Timer Timeout 12 (correctable); Data Link Protocol 4, Flow Control Protocol 13,
Receiver Overflow 17, Malformed TLP 18 (R354). -/
def execLinkLayerError (corr : Bool) (bit : Fin 32) (h0 h1 h2 h3 : Word) (s : State) : Host.Outcome State Fault Refusal :=
  act s fun s =>
    if corr then
      if [0, 6, 7, 8, 12].contains bit.val then
        let s := if bit.val = 12 then (s.addCount R.PCI_REPLAY_LO 1).evtB pciPage 0x14 1 else s
        s.aerCorr bit.val
      else s
    else if [4, 13, 17, 18].contains bit.val then s.aerUnc bit.val [h0, h1, h2, h3]
    else s

end Sys2Proof.Machine
end

