-- ==== Sys2Proof/Machine/NvmAdm.lean ====
section
/-! DEFINITION. Admin commands of the NVMe command engine (chapter 09): Identify data and log pages, features, queue creation and
deletion, firmware update, Format NVM, and the vendor commands; the power states and the NVMe-MI transfer. -/

namespace Sys2Proof.Machine

open Sys2Proof

/-! ### Identify and log pages (R298 to R306) -/

/-- What a register shows to a core. -/
def State.shown (s : State) (v : View) (off : Nat) : Nat :=
  match findPage off with
  | some p => (s.show v (.core 0) p (off % 0x1000)).toNat
  | none => 0

/-- `n` bytes of zeros with fields at their offsets. -/
def dataOf (n : Nat) (fs : List (Nat × Bytes)) : Bytes :=
  fs.foldl (fun b f => b.take f.1 ++ f.2 ++ b.drop (f.1 + f.2.length)) (List.replicate n 0)

/-- Characters padded with spaces. -/
def ascii (n : Nat) (cs : List Nat) : Bytes := fitWith 0x20 n (cs.map fun c => BitVec.ofNat 8 c)
where
  /-- A string of bytes cut or padded to a length. -/
  fitWith (p : Byte) (n : Nat) (b : Bytes) : Bytes := b.take n ++ List.replicate (n - b.length) p

/-- The hexadecimal digits of a number, highest first. -/
def hexDigits (n v : Nat) : List Nat :=
  (List.range n).map fun i =>
    let d := v / 16 ^ (n - 1 - i) % 16
    if d < 10 then 48 + d else 55 + d

/-- SN and the OUI. -/
def State.serial (s : State) : Bytes := match s.boardCfg with
  | some b => (b.drop 16).take 20
  | none => ascii 20 (hexDigits 16 Config.uid.toNat)

def State.oui (s : State) : Bytes := match s.boardCfg with
  | some b => (b.drop 36).take 3
  | none => fit 3 Config.ieee

/-- A power state descriptor (R317): MP, NOPS, ENLAT, EXLAT, and the relative figures, which are one number. -/
def psd (mp nops enlat exlat rel : Nat) : Bytes :=
  leBytes 2 mp ++ leBytes 2 (nops * 2 ^ 9) ++ leBytes 4 enlat ++ leBytes 4 exlat ++ leBytes 4 (rel * 0x01010101) ++ List.replicate 16 0

/-- "ZEARACEN ITR-9640". -/
def modelName : List Nat := [0x5A, 0x45, 0x41, 0x52, 0x41, 0x43, 0x45, 0x4E, 0x20, 0x49, 0x54, 0x52, 0x2D, 0x39, 0x36, 0x34, 0x30]

/-- Identify Controller (R300). -/
def State.identCtrl (s : State) : Bytes :=
  dataOf 4096 [(0, leBytes 2 0x1FE4), (2, leBytes 2 0x1FE4), (4, s.serial), (24, ascii 40 modelName),
    (64, s.slotRev s.bootRec.1), (72, leBytes 1 6), (73, s.oui), (77, leBytes 1 8), (80, leBytes 4 0x20000),
    (84, leBytes 4 15000000), (88, leBytes 4 20000), (111, leBytes 1 1), (256, leBytes 2 6), (258, leBytes 1 3),
    (259, leBytes 1 3), (260, leBytes 1 4), (261, leBytes 1 4), (262, leBytes 1 63), (263, leBytes 1 4), (264, leBytes 1 1),
    (265, leBytes 1 1), (266, leBytes 2 358), (268, leBytes 2 368), (319, leBytes 1 0x10), (512, leBytes 1 0x66),
    (513, leBytes 1 0x44), (516, leBytes 4 2), (520, leBytes 2 0x54), (524, leBytes 1 3), (526, leBytes 2 31),
    (528, leBytes 2 31), (530, leBytes 1 1),
    (2048, psd 5200 0 0 0 0 ++ psd 3600 0 100 100 1 ++ psd 2400 0 100 100 2 ++ psd 600 1 1000 2000 3 ++ psd 35 1 10000 40000 4)]

/-- LBAs whose map entry is not UNMAPPED (R298). -/
def State.nuse (s : State) (ns : Nat) : Nat :=
  iuUnits ns * ((s.mappedIus ns).filter fun iu => decide (entState (s.entryAt ns iu) ≠ 0)).length

/-- Identify Namespace (R299, R301) for NSID 1 (`ns` 0), NSID 2 (1), or what they have in common (2). -/
def State.identNs (s : State) (ns : Nat) : Bytes :=
  let size := if ns = 2 then 0 else s.nsze ns
  let sizes := leBytes 8 size ++ leBytes 8 size ++ leBytes 8 (if ns = 2 then 0 else s.nuse ns)
  let mine : List (Nat × Bytes) :=
    if ns = 0 then [(46, leBytes 2 16), (64, leBytes 8 (15 * 0x0001000100010001))]
    else if ns = 1 then [(64, leBytes 8 (15 * 0x00010001))]
    else [(64, leBytes 8 (15 * 0x00010001))]
  let ids : List (Nat × Bytes) :=
    if ns = 2 then [] else [(48, leBytes 16 (4096 * size)), (104, fit 15 Config.nguid ++ leBytes 1 (ns + 1))]
  dataOf 4096 ([(0, sizes), (24, leBytes 1 0x12), (33, leBytes 1 1), (34, leBytes 2 31), (36, leBytes 2 31)] ++ mine
    ++ [(72, leBytes 2 15)] ++ ids ++ [(130, leBytes 1 12)])

/-- The data of an Identify, by CNS and NSID (R299). -/
def State.identify (s : State) (cns nsid : Nat) : Option Bytes :=
  if cns = 0 then
    if nsid = 1 ∨ nsid = 2 then some (s.identNs (nsid - 1)) else if nsid = 0xFFFFFFFF then some (s.identNs 2) else none
  else if cns = 1 then some s.identCtrl
  else if cns = 2 then
    some (dataOf 4096 [(0, ([1, 2].filter fun i => decide (nsid < i)).flatMap fun i => leBytes 4 i)])
  else if cns = 3 then
    if nsid = 1 ∨ nsid = 2 then some (dataOf 4096 [(0, [2, 16, 0, 0]), (4, fit 15 Config.nguid ++ leBytes 1 nsid)]) else none
  else none

/-- Composite temperature in kelvin, and that of a sensor: the highest of rail group `g`, 0 where no die of it reports. -/
def State.compTemp (s : State) : Nat := (s.rdQ R.ESC_TJ / 65536 + 273).toNat

def State.sensorTemp (s : State) (g : Nat) : Nat :=
  ((List.range 4).filterMap fun i => (s.tempMax (4 * g + i)).map fun m => tempKey m.1).foldl (fun a t => max a (t + 145)) 0

/-- A temperature threshold is crossed (R304, R307): selector 0 the composite temperature, 1 to 8 a sensor. -/
def State.tempCrossed (s : State) (k : Nat) : Bool :=
  let t := if k = 0 then s.compTemp else s.sensorTemp (k - 1)
  (decide (k = 0) || decide (t ≠ 0)) && (decide (s.feat 4 (2 * k) ≤ t) || decide (t ≤ s.feat 4 (2 * k + 1)))

/-- Critical Warning (R304 byte 0). -/
def State.critWarn (s : State) : Nat :=
  let loss := (List.range 16).any fun n => decide (s.get (R.TGN_SET_STS_STATE n) = 3)
  b2n (decide (s.get R.FTL_LIFE_AVAIL_SPARE < s.get R.FTL_SPARE_THR_THRESH))
    + b2n ((List.range 9).any s.tempCrossed) * 2
    + b2n (s.limp || loss || decide (s.get R.PLJ_REC_CNT_LOST ≠ 0)) * 4
    + b2n (s.flag R.FTL_LIFE_READ_ONLY || s.limp) * 8
    + b2n s.nvm.late * 16

/-- The SMART / health log (R304). -/
def State.smartLog (s : State) : Bytes :=
  let c := fun (k : Nat) => (k, leBytes 16 (s.smart k))
  dataOf 512 ([(0, leBytes 1 s.critWarn), (1, leBytes 2 s.compTemp), (3, leBytes 1 (s.get R.FTL_LIFE_AVAIL_SPARE)),
    (4, leBytes 1 (s.get R.FTL_SPARE_THR_THRESH)), (5, leBytes 1 (s.get R.FTL_LIFE_PCT_USED)),
    (32, leBytes 16 (cdiv (s.smart 32) 512000)), (48, leBytes 16 (cdiv (s.smart 48) 512000)), c 64, c 80,
    (96, leBytes 16 (s.smart 96 / (60 * 10 ^ 9))), c 112, (128, leBytes 16 (s.smart 128 / (3600 * 10 ^ 9))), c 144, c 160,
    (176, leBytes 16 s.nvm.errCount), (192, leBytes 4 (s.smart 192 / (60 * 10 ^ 9))),
    (196, leBytes 4 (s.smart 196 / (60 * 10 ^ 9)))]
    ++ (List.range 8).map fun g => (200 + 2 * g, leBytes 2 (s.sensorTemp g)))

/-- An entry of the Error Information log (R303). -/
def ErrEntry.bytes (e : ErrEntry) : Bytes :=
  dataOf 64 [(0, leBytes 8 e.count), (8, leBytes 2 e.sq), (10, leBytes 2 e.cid), (12, leBytes 2 (e.status % 2 ^ 15 * 2)),
    (16, leBytes 8 e.lba), (24, leBytes 4 e.nsid)]

/-- A log page by LID (R302). -/
def State.logPage_ (s : State) (lid : Nat) : Option Bytes :=
  let n48 := fun (off : Nat) => leBytes 8 (s.count off)
  if lid = 1 then some (fit 4096 (s.nvm.errs.flatMap ErrEntry.bytes))
  else if lid = 2 then some s.smartLog
  else if lid = 3 then
    some (dataOf 512 [(0, leBytes 1 (s.bootRec.1 + s.bootRec.2.1 * 16)), (8, s.slotRev 1), (16, s.slotRev 2)])
  else if lid = 0xC0 then
    some ((List.range 68).flatMap fun c =>
      let sts := s.shown ftlView (R.FTL_CLASS_STS_DROPPING c).off
      let flags := (s.rd (R.FTL_CLASS_CTL_WRITABLE c).off).fld 0 3 + sts / 2 ^ 25 % 2 * 8 + b2n (decide (c < 64) && s.purged c) * 16
      leBytes 4 (sts % 2 ^ 20) ++ leBytes 1 (sts / 2 ^ 20 % 32) ++ leBytes 1 flags ++ leBytes 2 0
        ++ leBytes 4 (s.shown ftlView (R.FTL_CLASS_VAL_MIB c).off) ++ leBytes 4 (s.get (R.FTL_CLASS_EXP_EXPIRE c)))
  else if lid = 0xC1 then
    some (fit 512 ((List.range 6).flatMap (fun i => n48 (R.RDP_STEP_CNT_LO i))
      ++ n48 R.FTL_HOST_WR_LO ++ n48 R.FTL_MEDIA_WR_LO ++ n48 R.FTL_GC_WR_LO ++ n48 R.FTL_PAD_WR_LO ++ n48 R.FTL_PLOG_WR_LO
      ++ leBytes 4 (s.shown ftlView R.FTL_PE_STS) ++ leBytes 4 (s.shown ftlView R.FTL_PE_MEAN % 2 ^ 16)
      ++ leBytes 4 s.freeCount ++ leBytes 2 (s.shown rdpView R.RDP_WEAK_CNT % 128) ++ leBytes 2 (s.get R.RDP_WEAK_CNT_OVF)))
  else none

/-! ### Admin commands in general (R325) -/

/-- The oldest admin command that waits for the engine's own execution. -/
def State.admOwn (s : State) (p : NvmCmd → Bool) : Option (Nat × NvmCmd) :=
  s.nvm.cmds.find? fun c => decide (c.2.sq = 0) && decide (c.2.stage = 0) && c.2.inHardware && p c.2

/-- The command in the mailbox. -/
def State.admBox (s : State) (p : NvmCmd → Bool) : Option (Nat × NvmCmd) :=
  s.nvm.mbox.bind fun id => (s.nvm.cmds.find id).bind fun c => if p c then some (id, c) else none

/-- ADMIN_DONE's effect: the completion is posted and the mailbox takes the next command. -/
def State.adminDone (s : State) (status dw0 : Nat) : State :=
  match s.nvm.mbox with
  | none => s
  | some id =>
    let s := s.put R.NVM_STS_FORMAT 0
    let s := (s.onNvm fun x => { x with mbox := none, drop := none }).finish id status dw0
    ((s.put R.NVM_ADM_STS_PENDING 0).setLevel 160 false).mboxNext

/-- An admin command completes: one of firmware through the mailbox, one of the engine at once. -/
def State.admEnd (s : State) (id status dw0 : Nat) : State :=
  if s.nvm.mbox = some id then s.adminDone status dw0 else s.finish id status dw0

/-- Data moved to the host buffer of an admin command, which then completes with success. -/
def State.admData (s : State) (id : Nat) (c : NvmCmd) (list : List Nat) (b : Bytes) (dw0 : Nat) : State :=
  (s.toHost (s.prps c b.length list) 0 b false).admEnd id 0 dw0

/-- An admin command's row: the command it applies to, in the mailbox or at the engine. -/
def State.admRun (s : State) (box : Bool) (p : NvmCmd → Bool) (f : State → Nat → NvmCmd → State) : State :=
  match if box then s.admBox p else s.admOwn p with
  | some (id, c) => f s id c
  | none => s

def execIdentify (list : List Nat) (s : State) : Host.Outcome State Fault Refusal :=
  act s fun s => s.admRun true (fun c => decide (c.op = 0x06)) fun s id c =>
    match s.identify (c.dw 10 % 256) c.nsid with
    | some b => s.admData id c list b 0
    | none => s.admEnd id (if c.dw 10 % 256 = 0 ∨ c.dw 10 % 256 = 3 then 0x0B else 0x02) 0

/-- GET_LOG_PAGE: offset and length within the page are free; bytes beyond it are zeros (R302); a read of LID 0x02 with RAE = 0
re-arms SMART events (R315). -/
def execGetLogPage (list : List Nat) (s : State) : Host.Outcome State Fault Refusal :=
  act s fun s => s.admRun true (fun c => decide (c.op = 0x02)) fun s id c =>
    let lid := c.dw 10 % 256
    let n := 4 * (c.dw 10 / 2 ^ 16 + c.dw 11 % 2 ^ 16 * 2 ^ 16 + 1)
    let off := c.dw 12 + c.dw 13 * 2 ^ 32
    if c.nsid ≠ 0 ∧ c.nsid ≠ 1 ∧ c.nsid ≠ 2 ∧ c.nsid ≠ 0xFFFFFFFF then s.admEnd id 0x02 0
    else
      match s.logPage_ lid with
      | none => s.admEnd id 0x02 0
      | some b =>
        let s := if lid = 2 ∧ !(c.dw 10).testBit 15 then s.onNvm fun x => { x with told := 0 } else s
        s.admData id c list (fit n (b.drop off)) 0

/-- ADMIN_XFER and ADMIN_DONE: a write of ADM_CTL; the host's bytes for a transfer to ADM_BUF, none where a PCIe error met it. -/
def nvmEffectWith (list : List Nat) (data : Option Bytes) : Effect := fun s _ _ o _ v =>
  if o = 0x84 then s.readyCheck
  else if o = 0xEC then
    let s := ((s.put R.NVM_ADM_CTL_XFER 0).put R.NVM_ADM_CTL_DONE 0)
    let s := match s.nvm.mbox.bind s.nvm.cmds.find with
      | some c =>
        if v.bit 12 then
          let n := 4 * v.fld 16 16
          let a := s.rd64 R.NVM_ADM_BUF_LO % 2 ^ 37
          match data with
          | none => s.put R.NVM_ADM_STS_XFER_ERR 1
          | some d =>
            if c.op % 4 = 1 then (if s.dramOpen then (s.dramStore 6 a (fit n d) false).2 else s)
            else if c.op % 4 = 2 then
              match if s.dramOpen then s.dramLoad 6 a n else (none, s) with
              | (some b, s) => s.toHost (s.prps c n list) 0 b.1 b.2
              | (none, s) => s
            else s
        else s
      | none => s
    if v.bit 13 then s.adminDone (v.fld 0 11 + v.fld 11 1 * 2 ^ 14) (s.rd R.NVM_ADM_CPL).toNat else s
  else s

def nvmEffect : Effect := nvmEffectWith [] (some [])

/-- ADMIN_XFER: ADM_CTL with XFER, and with DONE where `fin` says so. -/
def execAdminXfer (r : Requester) (words : BitVec 16) (list : List Nat) (data : Option Bytes) (s : State) :
    Host.Outcome State Fault Refusal :=
  act s fun s => s.softWrite nvmChecks (nvmEffectWith list data) r R.NVM_ADM_CTL (BitVec.ofNat 32 (2 ^ 12 + words.toNat * 2 ^ 16))

/-- ADMIN_DONE: ADM_CTL with DONE and the status. -/
def execAdminDone (r : Requester) (status : BitVec 11) (dnr : Bool) (s : State) : Host.Outcome State Fault Refusal :=
  act s fun s => s.softWrite nvmChecks nvmEffect r R.NVM_ADM_CTL (BitVec.ofNat 32 (2 ^ 13 + status.toNat + b2n dnr * 2 ^ 11))

/-! ### Queues (R285) -/

/-- I/O queues allocated: submission and completion. -/
def State.sqAlloc (s : State) : Nat := s.feat 7 0 % 2 ^ 16 + 1
def State.cqAlloc (s : State) : Nat := s.feat 7 0 / 2 ^ 16 + 1

/-- CREATE_IO_CQ (R285). -/
def execCreateIoCq (s : State) : Host.Outcome State Fault Refusal :=
  act s fun s => s.admRun false (fun c => decide (c.op = 0x05)) fun s id c =>
    let q := c.dw 10 % 2 ^ 16
    let size := c.dw 10 / 2 ^ 16 + 1
    let iv := c.dw 11 / 2 ^ 16
    if c.dw 11 % 2 = 0 then s.finish id 0x02 0
    else if q = 0 ∨ s.cqAlloc < q ∨ (s.nvm.cqs.find q).isSome then s.finish id 0x101 0
    else if 255 < iv then s.finish id 0x108 0
    else (s.setCq q ⟨size, c.prp1, iv, decide (c.dw 11 / 2 % 2 = 1), 0, 0, true, 0, 0⟩).finish id 0 0

/-- CREATE_IO_SQ (R285). -/
def execCreateIoSq (s : State) : Host.Outcome State Fault Refusal :=
  act s fun s => s.admRun false (fun c => decide (c.op = 0x01)) fun s id c =>
    let q := c.dw 10 % 2 ^ 16
    let size := c.dw 10 / 2 ^ 16 + 1
    let cq := c.dw 11 / 2 ^ 16
    if c.dw 11 % 2 = 0 then s.finish id 0x02 0
    else if q = 0 ∨ s.sqAlloc < q ∨ (s.nvm.sqs.find q).isSome then s.finish id 0x101 0
    else if cq = 0 ∨ (s.nvm.cqs.find cq).isNone then s.finish id 0x100 0
    else (s.setSq q ⟨size, c.prp1, cq, 0, 0⟩).finish id 0 0

/-- DELETE_IO_CQ (R285). -/
def execDeleteIoCq (s : State) : Host.Outcome State Fault Refusal :=
  act s fun s => s.admRun false (fun c => decide (c.op = 0x04)) fun s id c =>
    let q := c.dw 10 % 2 ^ 16
    if q = 0 ∨ (s.nvm.cqs.find q).isNone then s.finish id 0x101 0
    else if s.nvm.sqs.any fun x => decide (x.2.cqid = q) && decide (x.1 ≠ 0) then s.finish id 0x10C 0
    else ((s.onNvm fun x => { x with cqs := x.cqs.del q }).intaRefresh).finish id 0 0

/-- A submission queue is deleted once the completions of its commands have been posted (R285). -/
def State.sqDelete (s : State) (id q : Nat) : State :=
  let s := ((s.nvm.cmds.filter fun c => decide (c.2.sq = q)).map (·.1)).foldl (fun s k => s.post k) s
  if s.nvm.cmds.any fun c => decide (c.2.sq = q) then s
  else (s.onNvm fun x => { x with sqs := x.sqs.del q }).finish id 0 0

/-- Deletions that wait for room in a completion queue. -/
def State.sqDeletes (s : State) : State :=
  (s.nvm.cmds.filter fun c => decide (c.2.sq = 0) && decide (c.2.op = 0) && decide (c.2.stage = 1)).foldl
    (fun s c => s.sqDelete c.1 (c.2.dw 10 % 2 ^ 16)) s

/-- DELETE_IO_SQ (R285): the queue's commands end with Command Aborted due to SQ Deletion. -/
def execDeleteIoSq (s : State) : Host.Outcome State Fault Refusal :=
  act s fun s => s.admRun false (fun c => decide (c.op = 0x00)) fun s id c =>
    let q := c.dw 10 % 2 ^ 16
    match s.nvm.sqs.find q with
    | some x =>
      if q = 0 then s.finish id 0x101 0
      else
        let s := (s.setSq q { x with tail := x.head }).onCmd id fun c => { c with stage := 1 }
        let s := ((s.nvm.cmds.filter fun c => decide (c.2.sq = q)).map (·.1)).foldl (fun s k => s.finish k 0x08 0) s
        s.sqDelete id q
    | none => s.finish id 0x101 0

/-- ABORT: the named command is not aborted (R314). -/
def execAbort (s : State) : Host.Outcome State Fault Refusal :=
  act s fun s => s.admRun false (fun c => decide (c.op = 0x08)) fun s id _ => s.finish id 0 1

/-! ### Asynchronous events (R315) -/

/-- Events reported as long as requests are held. -/
def State.aerAll (s : State) : State := (List.range s.nvm.aers.length).foldl (fun s _ => s.aerReport) s

/-- ASYNC_EVENT_REQUEST: held, up to 4 (R315). -/
def execAsyncEventRequest (s : State) : Host.Outcome State Fault Refusal :=
  act s fun s => s.admRun false (fun c => decide (c.op = 0x0C)) fun s id _ =>
    if 4 ≤ s.nvm.aers.length then s.finish id 0x105 0
    else ((s.onCmd id fun c => { c with stage := 1 }).onNvm fun x => { x with aers := x.aers ++ [id] }).aerAll

/-- The information code of a critical warning bit. -/
def warnInfo (b : Nat) : Nat := if b = 0 then 2 else if b = 1 then 1 else 0

/-- SMART events of the warnings that stand, are enabled in feature 0x0B and have not been reported (R315). -/
def State.smartEvents (s : State) : State :=
  let w := s.critWarn &&& s.feat 0x0B 0
  (List.range 8).foldl (fun s b =>
    if w.testBit b ∧ !s.nvm.told.testBit b then
      (s.onNvm fun x => { x with told := x.told + 2 ^ b }).aerEvent 1 (warnInfo b) 2
    else s) s

/-- ASYNC_EVENT_REPORT: a SMART warning or an error event completes a request (R315). -/
def execAsyncEventReport (s : State) : Host.Outcome State Fault Refusal := act s fun s => s.smartEvents.aerAll

/-! ### Features (R307 to R310) -/

/-- The value that Get Features returns in Dword 0, and its data; none for a value out of range. -/
def State.featGet (s : State) (c : NvmCmd) (dflt : Bool) : Option (Nat × Bytes) :=
  let cur := fun (fid sel : Nat) => if dflt then featReset (featKey fid sel) else s.feat fid sel
  let d := c.dw 11
  match c.fid with
  | 0x01 | 0x02 | 0x07 | 0x08 | 0x0A | 0x0B => some (cur c.fid 0, [])
  | 0x04 =>
    if 8 < d / 2 ^ 16 % 16 ∨ 1 < d / 2 ^ 20 % 4 then none else some (cur 4 (2 * (d / 2 ^ 16 % 16) + d / 2 ^ 20 % 4), [])
  | 0x09 => if 255 < d % 2 ^ 16 then none else some (d % 2 ^ 16 + cur 9 (d % 2 ^ 16) * 2 ^ 16, [])
  | 0x0C =>
    let t := if dflt then List.replicate 32 (0, 0) else s.nvm.apst
    some (cur 0x0C 0, t.flatMap fun e => leBytes 8 (e.2 * 8 + e.1 * 2 ^ 8))
  | 0x0E => some (0, if dflt then leBytes 8 0 else leBytes 6 (s.devTime / 10 ^ 6) ++ leBytes 2 (b2n s.nvm.tsHost * 2))
  | 0xC0 =>
    if d % 256 = 0 ∨ 128 < d % 256 then none
    else
      let k := d % 256 - 1
      some (if dflt then 0 else (s.rd (R.FTL_QCLASS_CLASS0 (k / 4)).off).fld (8 * (k % 4)) 6, [])
  | 0xC1 =>
    if 63 < d % 128 then none
    else some (d % 128 + (if dflt then 1 else (s.rd (R.FTL_CLASS_CTL_WRITABLE (d % 128)).off).fld 0 3) * 2 ^ 8, [])
  | 0xC2 => some (if dflt then 0 else cur 0xC2 0, [])
  | 0xC3 => some (if dflt then 0 else s.get R.ESC_HOST_CAP_CAP, [])
  | _ => none

/-- GET_FEATURES (R307, R308): current (SEL 0), default (1, 2) or capabilities (3). -/
def execGetFeatures (list : List Nat) (s : State) : Host.Outcome State Fault Refusal :=
  act s fun s =>
    let p := fun (c : NvmCmd) => decide (c.op = 0x0A)
    s.admRun (s.admOwn p).isNone p fun s id c =>
      let sel := c.dw 10 / 2 ^ 8 % 8
      match s.featGet c (decide (sel ≠ 0)) with
      | none => s.admEnd id 0x02 0
      | some (v, b) =>
        if 3 < sel then s.admEnd id 0x02 0
        else if sel = 3 then s.admEnd id 0 4
        else if b.isEmpty then s.admEnd id 0 v
        else s.admData id c list b v

/-- A Set Features row: none is saveable (R308); `f` gives the status. -/
def State.setFeature (s : State) (box : Bool) (fid : Nat) (f : State → NvmCmd → Nat × Nat × State) : State :=
  s.admRun box (fun c => decide (c.op = 0x09) && decide (c.fid = fid)) fun s id c =>
    if (c.dw 10).testBit 31 then s.admEnd id 0x10D 0
    else
      match f s c with
      | (st, dw0, s) => s.admEnd id st dw0

/-- A feature that is kept as it is given, where the value is legal. -/
def State.keepFeature (s : State) (fid sel v : Nat) (ok : Bool) : Nat × Nat × State :=
  if ok then (0, 0, s.setFeat fid sel v) else (0x02, 0, s)

/-- SET_ARBITRATION. -/
def execSetArbitration (s : State) : Host.Outcome State Fault Refusal :=
  act s fun s => s.setFeature false 0x01 fun s c => s.keepFeature 1 0 (c.dw 11 % 8) true

/-- SET_NUMBER_OF_QUEUES: min(request, 127) each, before any I/O queue exists (R307). -/
def execSetNumberOfQueues (s : State) : Host.Outcome State Fault Refusal :=
  act s fun s => s.setFeature false 0x07 fun s c =>
    let v := min 127 (c.dw 11 % 2 ^ 16) + min 127 (c.dw 11 / 2 ^ 16) * 2 ^ 16
    if (s.nvm.sqs.any fun q => decide (q.1 ≠ 0)) ∨ (s.nvm.cqs.any fun q => decide (q.1 ≠ 0)) then (0x0C, 0, s)
    else (0, v, s.setFeat 7 0 v)

/-- SET_INTERRUPT_COALESCING. -/
def execSetInterruptCoalescing (s : State) : Host.Outcome State Fault Refusal :=
  act s fun s => s.setFeature false 0x08 fun s c => s.keepFeature 8 0 (c.dw 11 % 2 ^ 16) true

/-- SET_INT_VECTOR_CONFIG. -/
def execSetIntVectorConfig (s : State) : Host.Outcome State Fault Refusal :=
  act s fun s => s.setFeature false 0x09 fun s c =>
    s.keepFeature 9 (c.dw 11 % 2 ^ 16) (c.dw 11 / 2 ^ 16 % 2) (decide (c.dw 11 % 2 ^ 16 ≤ 255))

/-- SET_ASYNC_EVENT_CONFIG: bits above [7:0] must be 0. -/
def execSetAsyncEventConfig (s : State) : Host.Outcome State Fault Refusal :=
  act s fun s => s.setFeature false 0x0B fun s c => s.keepFeature 0x0B 0 (c.dw 11) (decide (c.dw 11 < 256))

/-- SET_TEMPERATURE_THRESHOLD. -/
def execSetTemperatureThreshold (s : State) : Host.Outcome State Fault Refusal :=
  act s fun s => s.setFeature true 0x04 fun s c =>
    let k := c.dw 11 / 2 ^ 16 % 16
    let u := c.dw 11 / 2 ^ 20 % 4
    s.keepFeature 4 (2 * k + u) (c.dw 11 % 2 ^ 16) (decide (k ≤ 8) && decide (u ≤ 1))

/-- SET_WRITE_ATOMICITY. -/
def execSetWriteAtomicity (s : State) : Host.Outcome State Fault Refusal :=
  act s fun s => s.setFeature true 0x0A fun s c => s.keepFeature 0x0A 0 (c.dw 11 % 2) true

/-- The APST table of 32 entries: ITPT and ITPS of each. -/
def apstOf (b : Bytes) : List (Nat × Nat) :=
  (List.range 32).map fun i => (hdrNum b (8 * i) 4 / 2 ^ 8, hdrNum b (8 * i) 1 / 8)

/-- An entry that R319 takes for state `k`; one of zeros is an unused entry. -/
def apstOk (b : Bytes) (k : Nat) : Bool :=
  let e := (apstOf b).getD k (0, 0)
  if 5 ≤ k ∨ hdrNum b (8 * k) 8 = 0 then decide (hdrNum b (8 * k) 8 = 0)
  else decide (k < e.2) && (decide (e.1 = 0) || decide (e.2 ≤ 4))

/-- SET_APST: `data` is the table that the host buffer holds, none where a PCIe error met it (R319). -/
def execSetApst (data : Option Bytes) (s : State) : Host.Outcome State Fault Refusal :=
  act s fun s => s.setFeature true 0x0C fun s c =>
    match data with
    | none => (0x04, 0, s)
    | some b =>
      if (List.range 32).all fun k => apstOk b k then
        (0, 0, (s.onNvm fun x => { x with apst := apstOf b, idle := s.now }).setFeat 0x0C 0 (c.dw 11 % 2))
      else (0x02, 0, s)

/-- SET_TIMESTAMP: device time, TIME_UNKNOWN and the uncertainty (R309, R407). -/
def execSetTimestamp (data : Option Bytes) (s : State) : Host.Outcome State Fault Refusal :=
  act s fun s => s.setFeature true 0x0E fun s _ =>
    match data with
    | none => (0x04, 0, s)
    | some b =>
      let s := s.timeLoad (hdrNum b 0 6 * 10 ^ 6) 1
      let s := ((s.put R.AON_TIME_STS_UNKNOWN 0).put R.AON_TIME_UNC_US 1000).aonLevels
      (0, 0, (s.onNvm fun x => { x with tsHost := true }).pulse 164)

/-- SET_QUEUE_CLASS (R310). -/
def execSetQueueClass (s : State) : Host.Outcome State Fault Refusal :=
  act s fun s => s.setFeature true 0xC0 fun s c =>
    let q := c.dw 11 % 256
    let cls := c.dw 11 / 2 ^ 8 % 128
    if q = 0 ∨ 128 < q ∨ 63 < cls then (0x02, 0, s)
    else
      let off := (R.FTL_QCLASS_CLASS0 ((q - 1) / 4)).off
      (0, 0, s.softWrite ftlChecks ftlEffect (.core 0) off ((s.rd off).setFld (8 * ((q - 1) % 4)) 6 cls))

/-- SET_CLASS_CONTROL (R310). -/
def execSetClassControl (s : State) : Host.Outcome State Fault Refusal :=
  act s fun s => s.setFeature true 0xC1 fun s c =>
    let cls := c.dw 11 % 128
    let ctl := c.dw 11 / 2 ^ 8 % 8
    if 63 < cls ∨ (!s.boot.content ∧ 4 ≤ ctl) then (0x02, 0, s)
    else
      let s := s.softWrite ftlChecks ftlEffect (.core 0) (R.FTL_CLASS_EXP_EXPIRE cls).off (BitVec.ofNat 32 (c.dw 12))
      (0, 0, s.softWrite ftlChecks ftlEffect (.core 0) (R.FTL_CLASS_CTL_WRITABLE cls).off (BitVec.ofNat 32 ctl))

/-- The largest NSID 2 in GiB at a tier (R25, R310). -/
def State.blockMax (s : State) : Nat := ([1024, 1024, 3072, 8192].getD (s.get R.FTL_CFG_TIER) 1024)

/-- SET_BLOCK_NAMESPACE_SIZE: for the next Format NVM (R310). -/
def execSetBlockNamespaceSize (s : State) : Host.Outcome State Fault Refusal :=
  act s fun s => s.setFeature true 0xC2 fun s c =>
    let g := c.dw 11 % 2 ^ 14
    s.keepFeature 0xC2 0 g (decide (1 ≤ g) && decide (g ≤ s.blockMax))

/-- SET_BOARD_POWER_CAP: to ESC (R310). -/
def execSetBoardPowerCap (s : State) : Host.Outcome State Fault Refusal :=
  act s fun s => s.setFeature true 0xC3 fun s c =>
    (0, 0, s.softWrite escChecks escEffect (.core 0) R.ESC_HOST_CAP (BitVec.ofNat 32 (c.dw 11 % 2 ^ 16)))

/-! ### Power states (R317 to R319) -/

/-- The controller moves to a power state: PS0 to PS2 set ESC's cap, PS3 and PS4 ask for NAP and DEEP. -/
def State.psEnter (s : State) (ps : Nat) (tck : Bool) : State :=
  let s := ((s.setFeat 2 0 ps).onNvm fun x => { x with again := false, idle := s.now }).pulse 162
  if ps ≤ 2 then
    ((s.onNvm fun x => { x with lastOp := ps }).put R.ESC_PS_CAP_CAP ([5200, 3600, 2400].getD ps 5200)).put R.PWR_STATE_PENDING 0
  else s.sleepAsk (ps - 2) tck

/-- SET_POWER_MANAGEMENT: the completion is posted, then the state entered (R318); `tck` says that ck_dbg carries a clock. -/
def execSetPowerManagement (tck : Bool) (s : State) : Host.Outcome State Fault Refusal :=
  act s fun s => s.admRun true (fun c => decide (c.op = 0x09) && decide (c.fid = 2)) fun s id c =>
    let ps := c.dw 11 % 32
    if (c.dw 10).testBit 31 then s.admEnd id 0x10D 0
    else if 4 < ps then s.admEnd id 0x02 0
    else (s.admEnd id 0 0).psEnter ps tck

/-- APST_TRANSITION: after ITPT of idleness, to the ITPS of the present state (R319). -/
def execApstTransition (tck : Bool) (s : State) : Host.Outcome State Fault Refusal :=
  act s fun s =>
    let e := s.nvm.apst.getD (s.feat 2 0) (0, 0)
    if s.feat 0x0C 0 = 1 ∧ e.1 ≠ 0 ∧ s.nvmQuiet ∧ s.nvm.idle + e.1 * 10 ^ 6 ≤ s.now
        ∧ (!s.boot.content ∨ s.ist.flows.isEmpty) then s.psEnter e.2 tck
    else s

/-! ### Firmware update (R312, R313, R459) -/

/-- FIRMWARE_IMAGE_DOWNLOAD: one piece stored; `data` is what the host buffer holds, none where a PCIe error met it (R312). -/
def execFirmwareImageDownload (data : Option Bytes) (s : State) : Host.Outcome State Fault Refusal :=
  act s fun s => s.admRun true (fun c => decide (c.op = 0x11)) fun s id c =>
    let n := 4 * (c.dw 10 + 1)
    let off := 4 * c.dw 11
    let last := (s.nvm.fw.map fun p => p.1 + p.2.length).foldl max 0
    if off % 65536 ≠ 0 ∨ 2 ^ 25 < off + n ∨ (n % 65536 ≠ 0 ∧ off < last) then s.admEnd id 0x02 0
    else if s.nvm.fw.any fun p => decide (off < p.1 + p.2.length) && decide (p.1 < off + n) then s.admEnd id 0x114 0
    else
      match data with
      | none => s.admEnd id 0x04 0
      | some b => (s.onNvm fun x => { x with fw := x.fw ++ [(off, fit n b)] }).admEnd id 0 0

/-- The package that the pieces make; a byte that none of them covers is 0. -/
def pieces (fw : List (Nat × Bytes)) : Bytes :=
  dataOf ((fw.map fun p => p.1 + p.2.length).foldl max 0) fw

/-- Step 5 of R459 for CA 0b001 and 0b010: the record names the slot. -/
def State.commitRec (s : State) (ca slot : Nat) : State :=
  if ca = 0 then s else s.putRec s.bootRec.1 (if slot = s.bootRec.1 then 0 else slot)

/-- Steps 4 and 5 of R459: the slot is verified and named. -/
def State.commitSlot (s : State) (id ca slot : Nat) (f : NorFact) : State :=
  match s.pkgRun (s.slotAt slot) f with
  | (c, _, s) => if c ≠ 0 then s.admEnd id 0x107 0 else (s.commitRec ca slot).admEnd id 0 0

/-- FIRMWARE_COMMIT (R313, R459): `other` tells how the NOR behaves while the other slot is verified (step 2), `own` while the
slot itself is (step 4). -/
def execFirmwareCommit (other own : NorFact) (s : State) : Host.Outcome State Fault Refusal :=
  act s fun s => s.admRun true (fun c => decide (c.op = 0x10)) fun s id c =>
    let ca := c.dw 10 / 8 % 8
    let fs := c.dw 10 % 8
    let act := s.bootRec.1
    let slot := if fs = 0 then 3 - act else fs
    if 3 ≤ ca then s.admEnd id 0x02 0
    else if 2 < fs then s.admEnd id 0x106 0
    else if ca = 2 then s.commitSlot id ca slot own
    else
      let b := pieces s.nvm.fw
      let s := s.onNvm fun x => { x with fw := [] }
      match s.pkgRun (fun o => .held (b.drop o)) .ok with
      | (code, agree, s) =>
        if code = 8 then s.admEnd id 0x113 0
        else if code ≠ 0 ∨ !agree then s.admEnd id 0x107 0
        else
          match if slot = act then s.pkgRun (s.slotAt (3 - slot)) other else (0, true, s) with
          | (code, _, s) =>
            if code ≠ 0 then s.admEnd id 0x106 0
            else
              let a := slotBase slot
              let s := s.onBoot fun x => { x with nor := norPut a (b.take 0x1F00000) (norPut a (List.replicate 0x1F00000 0xFF) x.nor) }
              s.commitSlot id ca slot own

/-! ### Format NVM (R120, R154, R311) -/

/-- DRAM without the bytes of a range. -/
def State.clearDram (s : State) (a n : Nat) : State :=
  s.onMem fun x => { x with dram := x.dram.filter fun c => decide (c.1 < a) || decide (a + n ≤ c.1) }

/-- The superblocks that exist. -/
def State.allSbs (s : State) : List Nat := (List.range (32 * s.gBpp)).filter s.sbExists

/-- The FTL and the journal start afresh: every superblock that is not RETIRED is FREE and to be erased, and the SPARE_SB
highest are spares, whose blocks are donors. -/
def State.formatSbs (s : State) : State :=
  let all := s.allSbs
  let spares := all.drop (all.length - s.get R.FTL_POOL_SPARE_SB)
  let s := s.onFtl fun x => { x with
    pus := [], par := [], rot := [], waiting := [], stalled := [], groups := [], victim := none, wl := none, repairs := []
    drop := none }
  let s := all.foldl (fun s k =>
    let r := s.sb k
    let fresh := { SbRec.fresh r.missing with pe := r.pe, substs := r.substs, reads := r.reads, erasing := r.erasing }
    if spares.contains k then
      let s := s.setSb k { fresh with state := 5, spare := true }
      (s.members k).foldl (fun s m =>
        if s.owner (32 * m.1 + m.2.1) m.2.2 / 2 ^ 20 % 4 = 3 then s else s.setOwner (32 * m.1 + m.2.1) m.2.2 k 2) s
    else if r.state = 5 ∧ !r.spare then s
    else s.setSb k fresh) s
  let live := all.filter fun k => !spares.contains k
  s.onFtl fun x => { x with b0 := (live.map fun k => (s.sb k).width).sum, d0 := 32 * s.get R.FTL_POOL_SPARE_SB }

/-- The capacities of R120, NSID 2 in GiB. -/
def State.formatCaps (s : State) (g : Nat) : State :=
  let sbs := s.get R.FTL_SB_CNT_TOTAL - s.get R.FTL_POOL_SPARE_SB - s.get R.FTL_POOL_INT_SB
  let s2 := cdiv (g * 9) 64
  (s.wr64 R.FTL_NS_CAP_1_LO ((sbs - s2) * 31 / 32 * 131072)).put R.FTL_NS_CAP_2_IU (g * 2 ^ 18)

/-- The effect of Format NVM. -/
def State.format (s : State) : State :=
  let s := s.put R.NVM_STS_FORMAT 1
  let s := ((s.nvm.cmds.filter fun c => decide (c.2.sq ≠ 0)).map (·.1)).foldl (fun s k => s.finish k 0x84 0) s
  let s := (s.ist.flows.map (·.1)).foldl (fun s i => s.abortAny i) s
  let s := (s.clearDram (s.mapBase 0) (5 * s.mapCap 0)).clearDram (s.mapBase 1) (5 * s.mapCap 1)
  let s := s.formatSbs
  let s := s.onPlj fun x => { PljSt.reset with brace := x.brace, deadEnd := x.deadEnd, chunkNo := x.chunkNo, ichunkNo := x.ichunkNo }
  let s := (s.wr64 R.PLJ_SEQ_LO 1).wr64 R.PLJ_FLUSHED_LO 0
  let s :=
    if s.boot.content then
      let s := s.clearDram s.idxBase (65536 * s.idxSegs + 8 * (s.idxSegs + s.xsetSegs))
      let s := (s.clearDram s.xsetBase (4 * s.extents)).onIst fun x => { x with cur := [], dirty := [], copies := [], free := [] }
      ((List.range s.extents).foldl (fun s e => s.setExt e 0x7F) s).put R.IST_IDX_STS_ENTRIES 0
    else s
  let g := s.feat 0xC2 0
  let s := s.formatCaps (if g = 0 then s.mapCap 1 / 2 ^ 18 else g)
  let s := ((s.put R.FTL_LIFE_READ_ONLY 0).put R.PLJ_REC_CNT_LOST 0).onNvm fun x => { x with late := false }
  s.lifeUpdate

/-- FORMAT_NVM: checked, and carried out; firmware completes it with ADMIN_DONE once the superblocks are erased (R311). -/
def execFormatNvm (s : State) : Host.Outcome State Fault Refusal :=
  act s fun s => s.admRun true (fun c => decide (c.op = 0x80)) fun s id c =>
    let d := c.dw 10
    if d % 16 ≠ 0 ∨ d / 16 % 2 ≠ 0 ∨ d / 32 % 8 ≠ 0 ∨ 1 < d / 2 ^ 9 % 8 then s.admEnd id 0x02 0
    else if s.boot.content ∧ s.flag R.TGN_STS_JOINED then s.admEnd id 0x0C 0
    else if s.flag R.NVM_STS_FORMAT then s
    else s.format

/-! ### Vendor commands (R316) -/

/-- A Class Drop goes on (R214, R316): PURGE in content mode (step 0), CLASS_DROP (1, 2), REOPEN (3), and its completion. -/
def State.dropAdmin (s : State) : State :=
  match s.nvm.drop, s.nvm.mbox with
  | some (c, step), some id =>
    let ist := fun (op : Nat) (s : State) =>
      s.softWrite istChecks istEffect (.core 0) R.IST_CMD (BitVec.ofNat 32 (op + 16 + c * 2 ^ 8))
    let go := fun (k : Nat) (s : State) => s.onNvm fun x => { x with drop := some (c, k) }
    if s.flag R.IST_CMD_GO ∨ s.flag R.FTL_CMD_GO ∨ s.get R.PLJ_PF_STS_STATE ≠ 0 then s
    else if step = 0 then go 1 (if s.boot.content then ist 1 s else s)
    else if step = 1 then
      go 2 (s.softWrite ftlChecks ftlEffect (.core 0) R.FTL_CMD (BitVec.ofNat 32 (1 + 16 + c * 2 ^ 8)))
    else if step = 2 then
      if s.get R.FTL_CMD_STS_RESULT = 0 then go 3 (if s.boot.content then ist 2 s else s) else go 1 s
    else s.admEnd id 0 0
  | _, _ => s

/-- CLASS_DROP_ADMIN (R316). -/
def execClassDropAdmin (s : State) : Host.Outcome State Fault Refusal :=
  act s fun s => s.admRun true (fun c => decide (c.op = 0xC4)) fun s id c =>
    if s.nvm.drop.isSome then s
    else if 63 < c.dw 10 then s.admEnd id 0x02 0
    else if s.flag (R.FTL_CLASS_CTL_WRITABLE (c.dw 10)) then s.admEnd id 0x0C 0
    else (s.onNvm fun x => { x with drop := some (c.dw 10, 0) }).dropAdmin

/-- An IST command of the vendor commands with an image in ENT; the result. -/
def State.istAdmin (s : State) (op : Nat) (b : Bytes) : Nat × State :=
  let s := (List.range 8).foldl (fun s w =>
    s.softWrite istChecks istEffect (.core 0) (R.IST_ENT w) (BitVec.ofNat 32 (hdrNum b (4 * w) 4))) s
  let s := s.softWrite istChecks istEffect (.core 0) R.IST_CMD (BitVec.ofNat 32 (op + 16))
  (s.get R.IST_CMD_STS_RESULT, s)

/-- INDEX_INSERT (R316): `data` is the entry image in the host buffer, none where a PCIe error met it. -/
def execIndexInsert (data : Option Bytes) (s : State) : Host.Outcome State Fault Refusal :=
  act s fun s => s.admRun true (fun c => decide (c.op = 0xC5)) fun s id _ =>
    if s.flag R.IST_CMD_GO then s
    else
      match data with
      | none => s.admEnd id 0x04 0
      | some b =>
        let e := IdxEnt.ofBytes (fit 32 b)
        if (s.extOf e.iu).isSome ∨ (s.extOf (e.iu + e.ius - 1)).isSome then s.admEnd id 0x02 0
        else if !s.flag R.IST_STS_READY then s.admEnd id 0x0C 0
        else
          match s.istAdmin 3 (fit 32 b) with
          | (r, s) => s.admEnd id (if r = 0 then 0 else if r = 3 then 0x1C0 else if r = 4 then 0x1C1 else 0x0C) 0

/-- INDEX_REMOVE (R316): `data` is the key in the host buffer. -/
def execIndexRemove (data : Option Bytes) (s : State) : Host.Outcome State Fault Refusal :=
  act s fun s => s.admRun true (fun c => decide (c.op = 0xC9)) fun s id _ =>
    if s.flag R.IST_CMD_GO then s
    else
      match data with
      | none => s.admEnd id 0x04 0
      | some b =>
        if !s.flag R.IST_STS_READY then s.admEnd id 0x0C 0
        else
          match s.istAdmin 4 (fit 32 (fit 16 b)) with
          | (r, s) => s.admEnd id (if r = 0 then 0 else 0x1C2) 0

/-! ### Controller registers, doorbells and I/O rows -/

/-- A host access to the controller's registers: Unsupported Request where R340 says so; it wakes a sleeping part (R318). -/
def State.hostBar0 (s : State) (f : State → State) : State :=
  if !s.memEn ∨ s.pci.d3 then s.unsupported else (f s).wake 1

/-- CC written by the host. -/
def State.ccWrite (s : State) (cc : Word) : State :=
  let old := s.nvm.cc
  let s :=
    if !old.bit 0 ∧ cc.bit 0 then s.ccEnable cc
    else if old.bit 0 ∧ !cc.bit 0 then ((s.onNvm fun x => { x with cc := cc }).nvmStop).pulse 161
    else s.onNvm fun x => { x with cc := cc }
  let shn := cc.fld 14 2
  if shn ≠ old.fld 14 2 ∧ (shn = 1 ∨ shn = 2) ∧ cc.bit 0 then ((s.onNvm fun x => { x with shn := shn }).pulse 161).shutdownStep else s

/-- The device wakes at an I/O doorbell to its last operational state, and at an admin doorbell to serve the command (R318). -/
def State.doorbellWake (s : State) (y : Nat) : State :=
  if s.pwr.step = .awake then s else s.onNvm fun x => { x with again := decide (y = 0) }

/-- SQ_DOORBELL (R283, R286). -/
def execSqDoorbell (y : Fin 129) (v : BitVec 16) (s : State) : Host.Outcome State Fault Refusal :=
  act s fun s => s.hostBar0 fun s => ((s.doorbellWake y.val).sqDoorbell y.val v.toNat).aerAll

/-- CQ_DOORBELL (R283). -/
def execCqDoorbell (y : Fin 129) (v : BitVec 16) (s : State) : Host.Outcome State Fault Refusal :=
  act s fun s => s.hostBar0 fun s => (s.cqDoorbell y.val v.toNat).aerAll

/-- CC_ENABLE: CC written with EN = 1 while it is 0 (R284). -/
def execCcEnable (cc : Word) (s : State) : Host.Outcome State Fault Refusal :=
  act s fun s => s.hostBar0 fun s => s.ccWrite (cc.setBit 0)

/-- CONTROLLER_RESET: CC written with EN = 0 (R321). -/
def execControllerReset (cc : Word) (s : State) : Host.Outcome State Fault Refusal :=
  act s fun s => s.hostBar0 fun s => s.ccWrite (cc.setFld 0 1 0)

/-- SHUTDOWN_NORMAL: CC.SHN = 0b01 (R320). -/
def execShutdownNormal (s : State) : Host.Outcome State Fault Refusal :=
  act s fun s => s.hostBar0 fun s => s.ccWrite (s.nvm.cc.setFld 14 2 1)

/-- SHUTDOWN_ABRUPT: CC.SHN = 0b10 (R320). -/
def execShutdownAbrupt (s : State) : Host.Outcome State Fault Refusal :=
  act s fun s => s.hostBar0 fun s => s.ccWrite (s.nvm.cc.setFld 14 2 2)

/-- COALESCING_TIME_EXPIRE (R287). -/
def execCoalescingTimeExpire (cq : Fin 129) (s : State) : Host.Outcome State Fault Refusal :=
  act s fun s => s.coalesceEnd cq.val

/-- MI_BASIC_READ (R324): the NVMe-MI basic management command of the BMC. -/
def execMiBasicRead (code : Byte) (s : State) : Host.Outcome State Fault Refusal :=
  act s fun s => s.smbus fun s =>
    if !s.flag R.NVM_CFG_MI_EN then s.emit (.smbus false [])
    else
      let rdy := s.flag R.NVM_STS_RDY
      let flags := b2n rdy * 32 + b2n (s.flag R.PCI_LINK_STS_UP) * 8 + b2n (!rdy) * 64
      let d : Bytes :=
        if code = 0 then
          [BitVec.ofNat 8 flags, BitVec.ofNat 8 (255 - s.critWarn), BitVec.ofNat 8 (tjByte (s.rdQ R.ESC_TJ)),
            BitVec.ofNat 8 (s.get R.FTL_LIFE_PCT_USED)]
        else if code = 8 then leBytes 2 0x1FE4 ++ s.serial
        else [0xFF]
      (s.pulse 167).emit (.smbus true (if code = 0 ∨ code = 8 then d ++ [pec ([0xD4, code, 0xD5] ++ d)] else d))

end Sys2Proof.Machine
end

