-- ==== Sys2Proof/Machine/Settle.lean ====
section
/-! DEFINITION. What follows from a command beyond its own block: writers hear of their pages, reads reach whoever asked for
them, and whatever waited goes on. -/

namespace Sys2Proof.Machine

open Sys2Proof

/-- A writer hears of its PU. -/
def State.takeNews (s : State) (w : WriteFor) (x : PuNews) : State :=
  match w, x with
  | .nobody, _ => s
  | .nvm id, x => s.nvmNews id x
  | .put i, x => s.putNews i x
  | .index seg, .durable psa => s.segDone seg psa
  | .index seg, .failed => s.segFailed seg
  | .index _, _ => s
  | .share iu, .failed =>
    match s.tgn.par.find iu with
    | some p =>
      let p := { p with shares := p.going.getD [] ++ p.shares, going := none }
      (s.setPar iu p).parWrite iu p
    | none => s
  | .share _, _ => s

/-- The news that a parity IU of Tarragon has been programmed, which waits for PARITY_IU_WRITTEN. -/
def parityNews (e : WriteFor × PuNews) : Bool := match e with
  | (.share _, .durable _) => true
  | _ => false

/-- The other news of PUs are taken, in order. -/
def State.newsTake (s : State) : State :=
  let n := s.ftl.news
  (n.filter fun e => !parityNews e).foldl (fun s e => s.takeNews e.1 e.2) (s.onFtl fun x => { x with news := n.filter parityNews })

/-- The segment service goes on (chapter 07). -/
def State.istSettle (s : State) : State := s.freeWaiting.purgeCheck.stageRefresh.putSettle

/-- Tarragon goes on (chapter 08). -/
def State.tgnSettle (s : State) : State :=
  let s := s.ichunkTake.holdCheck.parReady.copiesClean
  let s := s.intRetry.intsClear.reconTake
  let s := (s.tgn.recons.map (·.1)).foldl (fun s id => s.reconPump id) s
  s.rebPump.askPump.resyncCheck

/-- The command engine goes on (chapter 09). -/
def State.nvmSettle (s : State) : State :=
  let s := (s.nvm.cmds.map (·.1)).foldl (fun s id => ((s.dsmDone id).writeDone id).readDone id) s
  let s := ((s.nvm.cmds.filter fun c => decide (c.2.sq = 0) && decide (c.2.stage = 2)).map (·.1)).foldl (fun s id => s.post id) s
  s.sqDeletes.mboxNext.aerAll.readyCheck.shutdownStep.dropAdmin

/-- Sleep, pending resets, tags and latency tolerance go on (chapters 10 and 12). -/
def State.powerSettle (s : State) : State := s.sleepStep.nvmResleep.fnResetWaiting.tagRefresh.ltrRefresh

/-- A brace ends the commands of IST and TGN (R167). -/
def State.braceSettle (s : State) : State :=
  if s.get R.PLJ_PF_STS_STATE = 0 then s
  else
    let s := s.tgnBrace
    if s.ist.purge.isSome then (s.onIst fun x => { x with purge := none }).istEnd 5 else s

/-- One round of what follows from a change. -/
def State.settleOnce (s : State) : State :=
  let s := s.settle.heldTake
  let s := ((s.flowTake false).tgnTake).nvmTake
  s.newsTake.tgnSettle.istSettle.nvmSettle.powerSettle.braceSettle

/-- What follows from a change, and from what that brings about in turn. -/
def State.settleAll (s : State) : State := s.settleOnce.settleOnce

/-- A command's effect with what follows from it. -/
def actAll (s : State) (f : State → State) : Host.Outcome State Fault Refusal := act s fun s => (f s).settleAll

end Sys2Proof.Machine
end

