-- ==== Sys2Proof/Machine/IstCmd.lean ====
section
/-! DEFINITION. The rows of the segment service (chapter 07): messages, the pacer, flow timers, PUTs and the commands of the IST
page. -/

namespace Sys2Proof.Machine

open Sys2Proof

/-! ### Messages -/

/-- A WAKE frame that wakes the part (R237). -/
def State.wakeMatches (s : State) (f : Frame) : Bool :=
  let n := f.port.val
  let m := Msg.ofBytes f.data
  decide (s.pwr.step ≠ .awake) && decide (s.pwr.target = 1) && s.flag (R.NET_WAKE_EN n) && s.flag (R.NET_LINK_STS_UP n)
    && decide (f.dst.toNat = s.netMac n) && s.netIpOn n f.v6
    && decide ((if f.v6 then f.dstIp.toNat else f.dstIp.toNat % 2 ^ 32) = s.netIp n f.v6)
    && decide (f.dstPort.toNat = s.get R.IST_CFG_PORT) && decide (64 ≤ f.data.length) && decide (m.ver = 1) && decide (m.op = 14)
    && decide (wireNum f.data 56 8 = (s.netSt n).tok)

/-- A WAKE frame: it wakes the part, or is received like any other frame. -/
def State.wakeFrame (s : State) (f : Frame) : State :=
  if s.wakeMatches f then (s.pulse (netSrc f.port.val + 4)).wake (2 ^ (4 + f.port.val)) else s.receive f true

/-- FRAME_RECEIVE: any frame at a port (R187 to R190, R195). -/
def execFrameReceive (f : Frame) (s : State) : Host.Outcome State Fault Refusal := actAll s fun s => s.wakeFrame f

/-- GET (R216). -/
def execGet (f : Frame) (s : State) : Host.Outcome State Fault Refusal := actAll s fun s => s.receiveRow 1 f true

/-- GET_RANGE (R216). -/
def execGetRange (f : Frame) (s : State) : Host.Outcome State Fault Refusal := actAll s fun s => s.receiveRow 2 f true

/-- PUT (R232). -/
def execPut (f : Frame) (s : State) : Host.Outcome State Fault Refusal := actAll s fun s => s.receiveRow 3 f true

/-- PUT_DATA (R233). -/
def execPutData (f : Frame) (s : State) : Host.Outcome State Fault Refusal := actAll s fun s => s.receiveRow 4 f true

/-- STAT (R194). -/
def execStat (f : Frame) (s : State) : Host.Outcome State Fault Refusal := actAll s fun s => s.receiveRow 5 f true

/-- ACK (R221). -/
def execAck (f : Frame) (s : State) : Host.Outcome State Fault Refusal := actAll s fun s => s.receiveRow 6 f true

/-- CREDIT (R228). -/
def execCredit (f : Frame) (s : State) : Host.Outcome State Fault Refusal := actAll s fun s => s.receiveRow 7 f true

/-- WAKE (R237). -/
def execWake (f : Frame) (s : State) : Host.Outcome State Fault Refusal :=
  actAll s fun s => if f.row = 15 then s.wakeFrame f else s

/-! ### Flows -/

/-- A row of the table carried out for a flow. -/
def State.onFlow (s : State) (i : Nat) (f : Flow → State) : State := match s.ist.flows.find i with
  | some x => f x
  | none => s

/-- The flow serves data. -/
def Flow.serves (f : Flow) : Bool := decide (f.kind = .get) || decide (f.kind = .shardOut)

/-- FLOW_READ_ISSUE: a flow issues the read of its next IU, or of one that a retransmission needs again, for which it takes a
context (R217, R223). -/
def execFlowReadIssue (i : Nat) (s : State) : Host.Outcome State Fault Refusal :=
  actAll s fun s => s.onFlow i fun f =>
    let us := f.snd.nextUnits
    if us.isEmpty ∨ !f.serves ∨ !s.paced ∨ !s.mayRead f.snd us ∨ (!f.ctx ∧ s.ctxFree ≤ s.get R.IST_CTX_CFG_CTX_RSV) then s
    else
      let x := { f.snd with next := max f.snd.next (us.foldl max 0 + 1) }
      s.readIu i { f with ctx := true, snd := x } us

/-- FLOW_DATA_STAGED: a flow that left the wheel for its data takes it and returns (R217). -/
def execFlowDataStaged (i : Nat) (s : State) : Host.Outcome State Fault Refusal :=
  actAll s fun s => s.onFlow i fun f =>
    let gs := s.rdp.got
    let mine := fun (g : Flow) => decide (g.snd.why ≠ 1)
      || (decide (g.cid = f.cid) && decide (g.reqId = f.reqId) && decide (g.peer = f.peer))
    let s := (State.flowArrivals mine gs (s.onRdp fun x => { x with got := [] })).zeroUnits
    s.onFlow i fun f =>
      let x := f.snd
      if x.why = 1 ∧ x.staged x.off (s.nextLen f) then s.setFlow i { f with snd := { x with why := 0, due := s.now256 } } else s

/-- PACER_SLOT (R226, R230, R231). -/
def execPacerSlot (p : Fin 2) (s : State) : Host.Outcome State Fault Refusal := actAll s fun s => s.pacerSlot p.val

/-- UNREADABLE_END: every byte before the failed unit is sent; the flow's last packet reports it (R220). -/
def execUnreadableEnd (i : Nat) (s : State) : Host.Outcome State Fault Refusal :=
  actAll s fun s => s.onFlow i fun f =>
    let x := f.snd
    if x.bad.isNone ∨ x.ended ∨ x.off ≠ x.end_ ∨ !f.serves ∨ !s.paced then s
    else
      let m := { f.msg i f.op 5 with status := 4, off := x.start + x.off, seq := x.psn }
      let y := { x with ended := true, psn := x.psn + 1, pkts := x.pkts.put x.psn ⟨x.off, 0, s.now, 1, false, false⟩ }
      (s.setFlow i { f with ctx := false, snd := y }).sendMsg f.addr m f.peer

/-- STAGING_EVICT (R17, R224). -/
def execStagingEvict (s : State) : Host.Outcome State Fault Refusal := actAll s fun s => State.evict 16384 s

/-- RTO_EXPIRE: the retransmission timer of a flow runs out (R222, R225). -/
def execRtoExpire (i : Nat) (s : State) : Host.Outcome State Fault Refusal :=
  actAll s fun s => s.onFlow i fun f =>
    if !s.paced ∨ f.snd.pkts.all fun p => p.2.acked then s
    else if s.get R.IST_RTO_CFG_RETX_MAX ≤ f.snd.expiries + 1 then s.abortAny i
    else s.rtoFlow i f

/-- FLOW_IDLE_EXPIRE: the client of a flow has held its rate or window at 0 for FLOW_IDLE (R225). -/
def execFlowIdleExpire (i : Nat) (s : State) : Host.Outcome State Fault Refusal :=
  actAll s fun s => s.onFlow i fun f =>
    let sends : Bool := f.serves || (match f.kind with
      | .shareOut _ => true
      | _ => false)
    if sends ∧ s.paced ∧ (f.snd.adv = 0 ∨ f.snd.win = 0) then s.abortAny i else s

/-! ### PUTs and the index -/

/-- PUT_TMO_EXPIRE: a PUT that has received no data for PUT_TMO ends with ABORTED (R235). -/
def execPutTmoExpire (i : Nat) (s : State) : Host.Outcome State Fault Refusal :=
  actAll s fun s => s.onFlow i fun f =>
    match f.put with
    | some p =>
      if !p.valid ∧ s.paced ∧ f.rcv.last + 10 ^ 6 * s.get R.IST_PUT_CFG_PUT_TMO ≤ s.now then s.putAbort i f else s
    | none => s

/-- PUT_FINAL_RESPONSE (R234). -/
def execPutFinalResponse (i : Nat) (s : State) : Host.Outcome State Fault Refusal := actAll s fun s => s.putFinal i

/-- INDEX_SEG_WRITEBACK: the segments that are due are copied (R211). -/
def execIndexSegWriteback (s : State) : Host.Outcome State Fault Refusal :=
  actAll s fun s =>
    if s.enabled 0x310000 ∧ s.get R.PLJ_PF_STS_STATE = 0 ∧ !s.limp then
      s.segsDue.foldl (fun s d => s.segCopy d.1 d.2.2) s
    else s

/-- A write of IST.CMD that starts a command. -/
def State.istRow (s : State) (r : Requester) (op cls : Nat) (segs : List (Nat × Nat × Bytes)) (lost : List Nat) : State :=
  s.softWrite istChecks (istEffectWith segs lost) r R.IST_CMD (BitVec.ofNat 32 (op + 16 + cls * 2 ^ 8))

/-- PURGE (R214). -/
def execPurge (r : Requester) (cls : BitVec 6) (s : State) : Host.Outcome State Fault Refusal :=
  actAll s fun s => s.istRow r 1 cls.toNat [] []

/-- REOPEN (R214). -/
def execReopen (r : Requester) (cls : BitVec 6) (s : State) : Host.Outcome State Fault Refusal :=
  actAll s fun s => s.istRow r 2 cls.toNat [] []

/-- INSERT (R215). -/
def execInsert (r : Requester) (s : State) : Host.Outcome State Fault Refusal := actAll s fun s => s.istRow r 3 0 [] []

/-- REMOVE (R215). -/
def execRemove (r : Requester) (s : State) : Host.Outcome State Fault Refusal := actAll s fun s => s.istRow r 4 0 [] []

/-- IDX_LOAD (R212); `segs` are the segments' newest good copies as the flash holds them (segment, PSA, bytes), `lost` the
segments of which a newest copy failed. -/
def execIdxLoad (r : Requester) (segs : List (Nat × Nat × Bytes)) (lost : List Nat) (s : State) :
    Host.Outcome State Fault Refusal :=
  actAll s fun s => s.istRow r 5 0 segs lost

end Sys2Proof.Machine
end

