-- ==== Sys2Proof/Machine/MediaCmd.lean ====
section
/-! DEFINITION. The commands of the flash channels, of placement, of the read path and of the journal and brace
(chapters 03 to 06). -/

namespace Sys2Proof.Machine

open Sys2Proof

/-! ### Flash channels (chapter 03) -/

/-- DISC_START: a write of DISC_CTL.START (R55, R58). -/
def execDiscStart (r : Requester) (n : Fin 32) (s : State) : Host.Outcome State Fault Refusal :=
  actAll s fun s => s.softWrite chanChecks chanEffect r (R.CHAN_DISC_CTL n.val) 1

/-- DIE_PROBE_DONE: the discovery of the present die ends with what it found (R55, R56). -/
def execDieProbeDone (n : Fin 32) (f : DieFacts) (s : State) : Host.Outcome State Fault Refusal :=
  actAll s fun s => s.probeDone n.val f

/-- TMO_DISC: the present die overruns its discovery (R57). -/
def execTmoDisc (n : Fin 32) (s : State) : Host.Outcome State Fault Refusal :=
  actAll s fun s =>
    match (s.chanSt n.val).probe with
    | none => s
    | some l => ((s.setDie n.val l 2).onDie n.val l fun d => { d with reason := 9 }).probeNext n.val (l + 1)

/-- OP_ENQUEUE: a requester places an operation (R59, R60, R62). -/
def execOpEnqueue (n : Fin 32) (o : OpReq) (s : State) : Host.Outcome State Fault Refusal :=
  actAll s fun s => if o.die < 32 ∧ o.fwOpc.isNone then s.opEnqueue n.val o else s

/-- OP_CANCEL: an unissued operation completes CANCELLED (R70); one that has been issued goes on. -/
def execOpCancel (n : Fin 32) (id : Nat) (s : State) : Host.Outcome State Fault Refusal :=
  actAll s fun s =>
    match s.chanOp n.val id with
    | some o => if o.inFlight then s else (s.opDone n.val o 4).refill n.val
    | none => s

/-- DIE_PICK: the bus falls free; `sensed` names the dies whose oldest read has its data sensed (R63). -/
def execDiePick (n : Fin 32) (sensed : BitVec 32) (s : State) : Host.Outcome State Fault Refusal :=
  actAll s fun s =>
    if s.enabled (chanPage n.val) ∧ s.cur < 2 then (s.diePick State.progTag n.val sensed.toNat).2 else s

/-- MIN_RUN_REACHED: a waiting read suspends its die's operation, or is held (R68, R70). -/
def execMinRunReached (n : Fin 32) (die : Fin 32) (s : State) : Host.Outcome State Fault Refusal :=
  actAll s fun s =>
    match s.maySuspend n.val die.val with
    | some p => s.suspend n.val p
    | none =>
      ((s.chanSt n.val).ops.filter fun o => decide (o.req.die = die.val)).foldl (fun s o => s.heldNotice n.val o.id) s

/-- DIE_SUSPENDED: the die reports its operation suspended (R68, R69). -/
def execDieSuspended (n : Fin 32) (die : Fin 32) (s : State) : Host.Outcome State Fault Refusal :=
  actAll s fun s =>
    match (s.chanSt n.val).ops.find? fun o => decide (o.req.die = die.val) && decide (o.stage = .suspending) with
    | none => s
    | some p =>
      let s := s.setStage n.val p.id fun x => { x with stage := .suspended, susp := x.susp + 1 }
      let s := s.onDie n.val die.val fun d => { d with suspReads := 0 }
      (s.evtB (chanPage n.val) 0x13 1).resume n.val die.val

/-- READ_COMPLETE: a read's data has left its die for the decoder, or for the staging slot of a raw read (R61, R128). -/
def execReadComplete (n : Fin 32) (id : Nat) (data : Bytes) (s : State) : Host.Outcome State Fault Refusal :=
  actAll s fun s =>
    match s.chanOp n.val id with
    | none => s
    | some o =>
      if o.stage = .transfer then
        let s := s.evtB (chanPage n.val) 0x10 (popcount 4 o.req.planes)
        let s := if o.req.fwOpc = some 5 then
            (s.setWords (o.req.slots.headD 0) 0 (data.take 4096) false).wr (R.CHAN_FW_DATA n.val) 0 else s
        let s := if o.joined then s.onDie n.val o.req.die fun d => { d with suspReads := d.suspReads + 1 } else s
        ((s.opDone n.val o 0).resume n.val o.req.die).refill n.val
      else s

/-- A program or erase in the die has ended. -/
def State.peEnd (s : State) (n id : Nat) (prog : Bool) (fail : Option Nat) : State :=
  match s.chanOp n id with
  | none => s
  | some o =>
    if (o.stage = .running ∨ o.stage = .suspending) ∧ o.req.isProg = prog ∧ o.req.isErase = !prog then
      s.peDone n o fail
    else s

/-- PROGRAM_COMPLETE: a program ends OK, or FAIL on the planes that the die names (R65, R103). -/
def execProgramComplete (n : Fin 32) (id : Nat) (fail : Option (BitVec 4)) (s : State) :
    Host.Outcome State Fault Refusal :=
  actAll s fun s => s.peEnd n.val id true (fail.map (·.toNat))

/-- ERASE_COMPLETE: an erase ends OK or FAIL (R65, R115). -/
def execEraseComplete (n : Fin 32) (id : Nat) (fail : Option (BitVec 4)) (s : State) :
    Host.Outcome State Fault Refusal :=
  actAll s fun s => s.peEnd n.val id false (fail.map (·.toNat))

/-- An operation has run longer than its TMO (R66): a second timeout of the die within 1 s takes it OFFLINE. -/
def State.opTimeout (s : State) (n id : Nat) : State :=
  match s.chanOp n id with
  | none => s
  | some o =>
    if o.stage = .running ∨ o.stage = .suspending then
      let l := o.req.die
      let s := (s.failRecord n o.req 2 o.req.planes).evtB (chanPage n) 0x18 1
      let again : Bool := match (s.dieSt n l).lastTmo with | some t => decide (s.now ≤ t + 10 ^ 9) | none => false
      let s := s.onDie n l fun d => { d with lastTmo := some s.now }
      let s := s.opDone n o 2
      if again then (s.resetLun n l .timeout).dieTimedOut n l else (s.resetLun n l .timeout).refill n
    else s

/-- OP_TIMEOUT: an operation runs longer than its TMO (R66). -/
def execOpTimeout (n : Fin 32) (id : Nat) (s : State) : Host.Outcome State Fault Refusal :=
  actAll s fun s => s.opTimeout n.val id

/-- The FW operation in flight on a die with an operation code. -/
def State.fwOp (s : State) (n l k : Nat) : Option ChanOp :=
  (s.chanSt n).ops.find? fun o => decide (o.req.die = l) && o.inFlight && decide (o.req.fwOpc = some k)

/-- RESET_LUN_DONE: a die is ready within 1 ms of Reset LUN; its loop limits are set again (R64, R66). -/
def execResetLunDone (n : Fin 32) (die : Fin 32) (loopOk : Bool) (s : State) : Host.Outcome State Fault Refusal :=
  actAll s fun s =>
    if (s.dieSt n.val die.val).reset.isSome then
      let on := s.flag (R.CHAN_LOOP_CFG_EN n.val)
      let s := s.onDie n.val die.val fun d => { d with reset := none, loopSet := on && loopOk }
      let s := match s.fwOp n.val die.val 0 with
        | some o => (s.wr (R.CHAN_FW_DATA n.val) 0).opDone n.val o 0
        | none => s
      s.refill n.val
    else s

/-- RESET_LUN_FAIL: a die is not ready within 1 ms of Reset LUN (R66). -/
def execResetLunFail (n : Fin 32) (die : Fin 32) (s : State) : Host.Outcome State Fault Refusal :=
  actAll s fun s =>
    if (s.dieSt n.val die.val).reset.isSome then
      let s := match s.fwOp n.val die.val 0 with
        | some o => (s.wr (R.CHAN_FW_DATA n.val) 0).opDone n.val o 2
        | none => s
      s.dieTimedOut n.val die.val
    else s

/-- TEMP_DUE: a die's temperature sample falls due, and a TEMP operation is queued (R75). -/
def execTempDue (n : Fin 32) (die : Fin 32) (s : State) : Host.Outcome State Fault Refusal :=
  actAll s fun s =>
    let d := s.dieSt n.val die.val
    let due : Bool := match d.tempDue with | some t => decide (t ≤ s.now) | none => false
    let has := (s.chanSt n.val).ops.any fun o => decide (o.req.die = die.val) && decide (o.req.code = 6)
    if s.flag (R.CHAN_TEMP_CFG_EN n.val) ∧ d.tempOk ∧ due ∧ s.dieState n.val die.val = 1 ∧ !has then
      s.opEnqueue n.val ⟨6, false, die.val, 0, 0, 0, 0, 0, false, [], .temp, []⟩
    else s

/-- FEATURE_OP_COMPLETE: a TEMP, FEATURE or FW operation ends on the die with the word it returns (R75, FW registers). -/
def execFeatureOpComplete (n : Fin 32) (id : Nat) (p : Word) (ok : Bool) (s : State) :
    Host.Outcome State Fault Refusal :=
  actAll s fun s =>
    match s.chanOp n.val id with
    | none => s
    | some o =>
      if o.stage = .running ∧ 6 ≤ o.req.code ∧ o.req.fwOpc ≠ some 0 then
        let s :=
          match o.req.fwOpc with
          | some 4 => s.wr (R.CHAN_FW_DATA n.val) (BitVec.ofNat 32 (p.fld 0 8))
          | some 3 => s
          | some _ => s.wr (R.CHAN_FW_DATA n.val) p
          | none =>
            if o.req.code = 6 ∧ ok then
              s.tempSample n.val o.req.die (tempByte (p.fld 0 8) (s.get (R.CHAN_TEMP_CFG_BIAS n.val)))
            else s
        (s.opDone n.val o 0).refill n.val
      else s

/-- QUIESCE_WRITE: a write of QUIESCE.MODE (R77). -/
def execQuiesceWrite (r : Requester) (n : Fin 32) (mode : BitVec 2) (s : State) : Host.Outcome State Fault Refusal :=
  actAll s fun s => s.softWrite chanChecks chanEffect r (R.CHAN_QUIESCE n.val) (BitVec.ofNat 32 mode.toNat)

/-- A write of FW_CTL that sets GO while FW_OP holds the operation code of the step. -/
def State.fwWrite (s : State) (r : Requester) (n opc slot : Nat) : State :=
  if s.get (R.CHAN_FW_OP_OPC n) = opc then
    s.softWrite chanChecks chanEffect r (R.CHAN_FW_CTL n) (BitVec.ofNat 32 (1 + slot * 16))
  else s

/-- FW_RESET_LUN: FW_CTL.GO with OPC 0x0 (R66). -/
def execFwResetLun (r : Requester) (n : Fin 32) (slot : BitVec 14) (s : State) : Host.Outcome State Fault Refusal :=
  actAll s fun s => s.fwWrite r n.val 0 slot.toNat

/-- FW_READ_ID: FW_CTL.GO with OPC 0x1. -/
def execFwReadId (r : Requester) (n : Fin 32) (slot : BitVec 14) (s : State) : Host.Outcome State Fault Refusal :=
  actAll s fun s => s.fwWrite r n.val 1 slot.toNat

/-- FW_GET_FEATURES: FW_CTL.GO with OPC 0x2. -/
def execFwGetFeatures (r : Requester) (n : Fin 32) (slot : BitVec 14) (s : State) : Host.Outcome State Fault Refusal :=
  actAll s fun s => s.fwWrite r n.val 2 slot.toNat

/-- FW_SET_FEATURES: FW_CTL.GO with OPC 0x3. -/
def execFwSetFeatures (r : Requester) (n : Fin 32) (slot : BitVec 14) (s : State) : Host.Outcome State Fault Refusal :=
  actAll s fun s => s.fwWrite r n.val 3 slot.toNat

/-- FW_READ_STATUS: FW_CTL.GO with OPC 0x4. -/
def execFwReadStatus (r : Requester) (n : Fin 32) (slot : BitVec 14) (s : State) : Host.Outcome State Fault Refusal :=
  actAll s fun s => s.fwWrite r n.val 4 slot.toNat

/-- FW_RAW_READ: FW_CTL.GO with OPC 0x5 (R62). -/
def execFwRawRead (r : Requester) (n : Fin 32) (slot : BitVec 14) (s : State) : Host.Outcome State Fault Refusal :=
  actAll s fun s => s.fwWrite r n.val 5 slot.toNat

/-! ### Placement and translation (chapter 04) -/

/-- MAP_LOOKUP: the entry as it stands when the lookup reads it (R87). -/
def execMapLookup (ns : Fin 2) (iu : Nat) (s : State) : Host.Outcome State Fault Refusal :=
  act s fun s => let x := s.mapLookup ns.val iu; x.2.emit (.mapEntry ns.val iu x.1)

/-- MAP_UPDATE: a map entry changes (R85, R86, R153). -/
def execMapUpdate (u : MapUpd) (s : State) : Host.Outcome State Fault Refusal := actAll s fun s => s.mapUpdate u

/-- A write may be placed in its class (R96, R97): content classes that are writable, for hosts and IST. -/
def State.classOpen (s : State) (r : PuReq) : Bool :=
  !r.host || (decide (r.cls < 64) && s.flag (R.FTL_CLASS_CTL_WRITABLE r.cls))

/-- PU_PLACE: placement assigns a PU to an open superblock of its class (R97 to R102). -/
def execPuPlace (u : PuReq) (s : State) : Host.Outcome State Fault Refusal :=
  actAll s fun s => if s.classOpen u then s.place u else s

/-- IDLE_PAD: an OPEN superblock idle for IDLE_PAD minutes is padded (R100); the reserve is not in use and stays. -/
def execIdlePad (k : Nat) (s : State) : Host.Outcome State Fault Refusal :=
  actAll s fun s =>
    let r := s.sb k
    if r.state = 1 ∧ r.use ≠ 3 ∧ s.calm ∧ r.lastWrite + 60 * 10 ^ 9 * s.get R.FTL_OPEN_CFG_IDLE_PAD ≤ s.now then s.sbPad k
    else s

/-- VERIFY_PASS_DONE: the verify pass of a CLOSING superblock ends (R104, R147). -/
def execVerifyPassDone (k : Nat) (ok : Bool) (s : State) : Host.Outcome State Fault Refusal :=
  actAll s fun s =>
    let r := s.sb k
    if r.state = 2 ∧ s.calm then
      if ok ∧ !r.vfyBad then
        let s := (s.sbMove k { r with state := 3, vfyFail := false }).evtB 0x240000 0x15 1
        let s := s.setHour k 0
        let s := s.lateRelease
        let held := s.rdp.heldRd.contains k
        let s := s.onRdp fun x => { x with heldRd := x.heldRd.filter (· ≠ k) }
        if held then s.rdTrigger k 0 else s.sbCheck k
      else ((s.sbMove k { r with state := 4, vfyFail := true }).pulse 322).sbCheck k
    else s

/-- SB_ERASE_START: the erase of a FREE superblock starts (R113, R116, R156, R160). -/
def execSbEraseStart (k : Nat) (s : State) : Host.Outcome State Fault Refusal :=
  actAll s fun s => if s.calm then s.sbErase k else s

/-- GC_VICTIM_SELECT: garbage collection takes its next victim (R104, R110, R111). -/
def execGcVictimSelect (s : State) : Host.Outcome State Fault Refusal :=
  actAll s fun s =>
    let s := s.gcRefresh
    if s.calm ∧ s.flag R.FTL_GC_STS_ACTIVE ∧ s.ftl.victim.isNone then
      match ((s.sbsIn 4).filter fun e => e.2.vfyFail && decide (e.2.cls ≠ 66)).head? with
      | some e => s.onFtl fun x => { x with victim := some e.1 }
      | none =>
        match s.gcVictim with
        | some k => (s.sbRelocate k).onFtl fun x => { x with victim := some k }
        | none => s
    else s

/-- GC_SCORE_UPDATE: the scores are recomputed once a minute (R111). -/
def execGcScoreUpdate (s : State) : Host.Outcome State Fault Refusal :=
  act s fun s => s.onFtl fun x => { x with scoreMin := s.secs / 60 }

/-- RELOCATE_IU: the relocation read of a position gives the IUs of its tag and their data (R112). -/
def execRelocateIu (k p : Nat) (ns : Fin 2) (ius : List (Option Nat)) (data : Bytes) (s : State) :
    Host.Outcome State Fault Refusal :=
  actAll s fun s =>
    if (s.sb k).state = 4 ∧ p < (s.sb k).wptr ∧ (s.sb k).cls ≠ 66 ∧ s.calm then s.moveIus k p ns.val ius data else s

/-- WEAR_LEVEL_RELOCATE: static wear levelling takes the VERIFIED superblock of lowest PE (R114). -/
def execWearLevelRelocate (s : State) : Host.Outcome State Fault Refusal :=
  actAll s fun s =>
    let st := s.peStats
    let ks := ((s.sbsIn 3).filter fun e => decide (e.2.cls ≠ 66)).map (·.1)
    if s.calm ∧ s.flag R.FTL_WL_CFG_EN ∧ s.get R.FTL_GC_CFG2_FREE_CRIT ≤ s.freeCount
        ∧ s.get R.FTL_WL_CFG_SPREAD < st.2.2.2 - st.2.2.1 ∧ s.ftl.wl.isNone then
      match s.lowestPe ks with
      | some k => (s.sbRelocate k).onFtl fun x => { x with wl := some k }
      | none => s
    else s

/-- A write of CMD that starts an FTL command on what CMD_ARG holds. -/
def State.ftlCmdWrite (s : State) (r : Requester) (op cls : Nat) : State :=
  s.softWrite ftlChecks ftlEffect r R.FTL_CMD (BitVec.ofNat 32 (op + 16 + cls * 256))

/-- CLASS_DROP: the command for a content class (R108, R109). -/
def execClassDrop (r : Requester) (cls : BitVec 7) (s : State) : Host.Outcome State Fault Refusal :=
  actAll s fun s => s.ftlCmdWrite r 1 cls.toNat

/-- SB_CLOSE: the command for the superblock in CMD_ARG (R100). -/
def execSbClose (r : Requester) (s : State) : Host.Outcome State Fault Refusal := actAll s fun s => s.ftlCmdWrite r 2 0

/-- SB_RELOCATE: the command for the superblock in CMD_ARG (R93). -/
def execSbRelocate (r : Requester) (s : State) : Host.Outcome State Fault Refusal :=
  actAll s fun s => s.ftlCmdWrite r 3 0

/-- SB_RETIRE: the command for the superblock in CMD_ARG (R93). -/
def execSbRetire (r : Requester) (s : State) : Host.Outcome State Fault Refusal := actAll s fun s => s.ftlCmdWrite r 4 0

/-- DIE_LOST: the command for the die in CMD_ARG, or the scan that follows a die's going OFFLINE (R117). -/
def execDieLost (r : Option Requester) (d : Fin 1024) (s : State) : Host.Outcome State Fault Refusal :=
  actAll s fun s =>
    match r with
    | some r => s.ftlCmdWrite r 5 0
    | none => if s.dieState (d.val / 32) (d.val % 32) = 3 then s.dieLost d.val else s

/-- SB_REC_SNAPSHOT: a read of SB_REC_0 (R92). -/
def execSbRecSnapshot (r : Requester) (s : State) : Host.Outcome State Fault Refusal :=
  act s fun s => s.softRead ftlView ftlReadEffect r (R.FTL_SB_REC 0)

/-! ### The read path (chapter 05) -/

/-- CODEWORD_DECODE: a decoder finishes a codeword (R126, R135, R137). -/
def execCodewordDecode (psa : BitVec 37) (soft syn : Bool) (data : Bytes) (crc : Word) (bits unsat : Nat) (s : State) :
    Host.Outcome State Fault Refusal :=
  actAll s fun s => s.codeword psa.toNat soft syn data crc.toNat bits unsat

/-- LADDER_STEP: the ladder of a codeword enters its next step (R136). -/
def execLadderStep (psa : BitVec 37) (s : State) : Host.Outcome State Fault Refusal :=
  actAll s fun s =>
    match s.ladderAt psa.toNat with
    | some l => s.ladderStep l
    | none => s

/-- PARITY_REBUILD_DONE: a rebuild from open-block parity ends: that of a ladder at step 4 (R139, R141), or one owed to a
PU whose program failed (R103), whose entries a failure leaves LOST or REMOTE (R142, R143). -/
def execParityRebuildDone (psa : BitVec 37) (ok : Bool) (data : Bytes) (s : State) : Host.Outcome State Fault Refusal :=
  actAll s fun s =>
    let a := psa.toNat
    let k := s.sbOf a
    let p := s.posOf a
    match s.rdp.ladders.find? fun l => decide (l.psa = a) && decide (l.step = 4) && l.busy with
    | some l =>
      if ok then
        (s.ladderOk l 4 0 ((data.drop (4096 * (a % 16))).take 4096)).rebuiltWrite k p data
      else s.setLadder { l with busy := false }
    | none =>
      if s.ftl.repairs.contains (k, p) then
        let s := s.onFtl fun x => { x with repairs := x.repairs.filter (· ≠ (k, p)) }
        if ok then s.rebuiltWrite k p data else s.loseP k p
      else s

/-- READ_DISTURB_CHECK: the oldest check owed runs (R146). -/
def execReadDisturbCheck (s : State) : Host.Outcome State Fault Refusal :=
  actAll s fun s => if s.calm then s.rdCheck else s

/-- PATROL_READ: patrol takes its next step (R147, R148). -/
def execPatrolRead (s : State) : Host.Outcome State Fault Refusal := actAll s fun s => s.patrol

/-- WEAK_POP: a read of WEAK (R148). -/
def execWeakPop (r : Requester) (s : State) : Host.Outcome State Fault Refusal :=
  act s fun s => s.softRead rdpView rdpReadEffect r R.RDP_WEAK

/-- UNC_RECORD_READ: a read of the UNC record: UNC_PSA low (0) or high (1), or UNC_INFO (2) (R150). -/
def execUncRecordRead (r : Requester) (w : Fin 3) (s : State) : Host.Outcome State Fault Refusal :=
  act s fun s => s.softRead rdpView rdpReadEffect r (R.RDP_UNC_PSA_LO + 4 * w.val)

/-! ### The journal and the brace (chapter 06) -/

/-- JOURNAL_FLUSH: a due flush starts (R158). -/
def execJournalFlush (s : State) : Host.Outcome State Fault Refusal := actAll s State.flush

/-- JOURNAL_CHUNK_DONE: the result of a chunk's program is taken (R158). -/
def execJournalChunkDone (s : State) : Host.Outcome State Fault Refusal := actAll s State.chunkDone

/-- SEGMENT_WRITEBACK: due segments are copied to a MAP PU (R160 to R162). -/
def execSegmentWriteback (s : State) : Host.Outcome State Fault Refusal :=
  actAll s fun s => if s.calm && s.enabled pljPage then s.writeBack3 else s

/-- PF_ASSERT: PFAIL_N is recognised as asserted (R166, R167, R172, R173). -/
def execPfAssert (s : State) : Host.Outcome State Fault Refusal :=
  actAll s fun s => if s.flag R.PLJ_PF_STS_PFAIL then s else s.pfAssert

/-- PF_DEASSERT: PFAIL_N is recognised as deasserted (R166, R172, R176). -/
def execPfDeassert (s : State) : Host.Outcome State Fault Refusal := actAll s State.pfDeassert

/-- BRACE_TAILS_WRITTEN: all tail writes have completed (R167 steps 5 to 7). -/
def execBraceTailsWritten (s : State) : Host.Outcome State Fault Refusal := actAll s State.tailsWritten

/-- BRACE_RAIL_STEP: the brace, or HALT, switches the next driven rail group off (R420, R565). -/
def execBraceRailStep (s : State) : Host.Outcome State Fault Refusal := .next s.railStep

/-- DEAD_TIME_END: DEAD_T has run out (R172). -/
def execDeadTimeEnd (s : State) : Host.Outcome State Fault Refusal :=
  act s fun s =>
    match s.plj.deadEnd with
    | some t =>
      if t ≤ s.now then (s.put R.PLJ_PF_STS_DEAD 0).onPlj fun x => { x with deadEnd := none } else s
    | none => s

/-- SEEN_CLEAR: a write of 1 to PF_STS.SEEN (R174). -/
def execSeenClear (r : Requester) (s : State) : Host.Outcome State Fault Refusal :=
  act s fun s => s.softWrite pljChecks pljEffect r R.PLJ_PF_STS 2

/-- READMIT: a write of PF_CTL.READMIT (R176). -/
def execReadmit (r : Requester) (s : State) : Host.Outcome State Fault Refusal :=
  actAll s fun s => s.softWrite pljChecks pljEffect r R.PLJ_PF_CTL 1

/-- REC_START: a write of REC_CTL.START (R177). -/
def execRecStart (r : Requester) (s : State) : Host.Outcome State Fault Refusal :=
  actAll s fun s => s.softWrite pljChecks pljEffect r R.PLJ_REC_CTL 1

/-- RECOVERY_DONE: recovery ends with what it found on flash (R177 to R180). -/
def execRecoveryDone (f : RecFacts) (s : State) : Host.Outcome State Fault Refusal :=
  actAll s fun s =>
    let ran := s.recovering
    let s := s.recDone f
    if ran ∧ s.flag R.PLJ_REC_STS_UNCLEAN then s.addSmart 144 1 else s

/-- RESERVE_DESIGNATE: PLJ designates a new reserve superblock (R168). -/
def execReserveDesignate (s : State) : Host.Outcome State Fault Refusal :=
  actAll s fun s => if s.reserveDue then s.designate else s

end Sys2Proof.Machine
end

