-- ==== Sys2Proof/Machine/NvmCmd.lean ====
section
/-! DEFINITION. The rows of the I/O commands (chapter 09): fetching, Flush, Read, Write, Dataset Management, and completions. -/

namespace Sys2Proof.Machine

open Sys2Proof

/-- SQ_FETCH: an entry is fetched from the admin queue, or from the I/O queue that arbitration picks (R286, R292, R347). -/
def execSqFetch (sqe : Option Bytes) (ranges : Bytes) (s : State) : Host.Outcome State Fault Refusal :=
  actAll s fun s => s.sqFetch sqe ranges

/-- A row of the table carried out for a command of its opcode that is fetched and whose locks are active. -/
def State.ioRun (s : State) (id op : Nat) (f : State → NvmCmd → State) : State :=
  match s.runs id op with
  | some c => f s c
  | none => s

/-- NVM_FLUSH: Flush completes at once (R288). -/
def execNvmFlush (id : Nat) (s : State) : Host.Outcome State Fault Refusal :=
  actAll s fun s => s.ioRun id 0 fun s c =>
    s.finish id (if s.flag R.NVM_STS_FORMAT then 0x84 else if c.dw 0 / 2 ^ 14 % 4 ≠ 0 then 0x02 else 0) 0

/-- NVM_WRITE: a Write starts (R289, R294 to R296, R348); `list` is its PRP list, `data` what the host memory gave. -/
def execNvmWrite (id : Nat) (list : List Nat) (data : Bytes) (poison : Option Nat) (err : Bool) (s : State) :
    Host.Outcome State Fault Refusal :=
  actAll s fun s => s.ioRun id 1 fun s c => s.nvmWrite id c list data poison err

/-- NVM_READ: a Read starts (R289). -/
def execNvmRead (id : Nat) (list : List Nat) (err : Bool) (s : State) : Host.Outcome State Fault Refusal :=
  actAll s fun s => s.ioRun id 2 fun s c => s.nvmRead id c list err

/-- DATASET_MANAGEMENT: a Dataset Management starts (R296). -/
def execDatasetManagement (id : Nat) (err : Bool) (s : State) : Host.Outcome State Fault Refusal :=
  actAll s fun s => s.ioRun id 9 fun s c => s.nvmDsm id c err

/-- COMPLETION_POST: the completion entry of a finished command is posted and its locks are released (R19, R20, R291). -/
def execCompletionPost (id : Nat) (s : State) : Host.Outcome State Fault Refusal := actAll s fun s => s.post id

end Sys2Proof.Machine
end

