-- ==== Sys2Proof/Machine/System.lean ====
section
/-! DEFINITION. Resets and reboots (R45, R404, R441, R455 to R457, R566, R567), the end of a brace, and the stops of microcode
engines (R470 to R472). -/

namespace Sys2Proof.Machine

open Sys2Proof

/-! ### Resets -/

/-- Registers that a reset other than a cold one keeps: the AON page, and the fields that their chapters name as sticky; RAIL.STS
and MEAS show the groups as they stand (R45, R172, R357, R417, R421, R455). -/
def keptReg (o : Nat) : Bool :=
  (decide (aonPage ≤ o) && decide (o < aonPage + 0x1000))
    || [R.BOOT_TRY, R.PLJ_PF_CFG, R.PLJ_PF_STS, R.PLJ_BRACE_REC, R.RAIL_FLT, R.RAIL_CAUSE, R.RAIL_STS,
        R.PCI_ERR_0, R.PCI_ERR_1, R.PCI_ERR_2, R.PCI_POISON_CNT].contains o
    || ((List.range 8).map R.RAIL_MEAS).contains o

/-- Every page reset, and with it what the pages do not show; the fuses, the serial NOR, the cipher slots' generations, what the
firmware keeps on flash, device time and the sticky fields stay (R45, R441, R528). -/
def State.pagesReset (s : State) : State :=
  let s := ((s.cfgReset false).nvmReset).clearSlots
  let pf := (s.rd R.PLJ_PF_STS) &&& 0x5
  let s := { s with regs := s.regs.filter fun e => keptReg e.1 }
  let s := (s.wr R.PLJ_PF_STS pf).put R.RAIL_STS_SEQ_BUSY 0
  let p := s.pci
  let dead := s.plj.deadEnd
  let slots := s.ciph.slots
  { s with
    sys := ⟨[], [], [], []⟩
    evc := ⟨[], [], []⟩
    pwr := { PwrSt.reset with hsAcc := s.pwr.hsAcc, unlocked := s.pwr.unlocked, refLost := s.pwr.refLost }
    flt := ⟨[], [], [], [], none, none, none, 0, 0, false, s.flt.haltRec⟩
    pci := ⟨p.cfg, [], [], [], [], none, p.perst, false, none, [], [], none, none, false⟩
    dma := []
    ciph := ⟨slots, [], [], [], 4, []⟩
    mem := { MemSt.reset with sram := s.mem.sram }
    dmc := []
    nvm := { s.nvm with tsHost := false }
    chan := []
    done := []
    notices := []
    ftl := FtlSt.reset
    plj := { PljSt.reset with deadEnd := dead }
    rdp := RdpSt.reset
    rail := { s.rail with seq := [], slot := none, retry := none }
    mcl := ⟨s.mcl.store, []⟩
    boot := { s.boot with due := true, wdtHalf := false, tapShift := false }
    ist := IstSt.reset
    net := []
    tgn := TgnSt.reset
    esc := EscSt.reset }

/-- The reset that has waited for BRACED takes effect: DRAM leaves self-refresh, every page is reset, and the device reboots
(R441, R501). -/
def State.rebootNow (s : State) : State :=
  let s := s.srExit.pagesReset
  s.aonLevels

/-- A reset by PERST_N (4), the watchdog (5) or FAIL_SLOT (6) is asked for: NVMe commands end as R321 gives and PLJ braces; during
sleep it waits for RUN (R175, R405, R441). -/
def State.rebootAsk (s : State) (k : Nat) : State :=
  let s := s.onPci fun x => { x with resetWait := insertNat k x.resetWait }
  let s := s.nvmStop
  if s.pwr.step ≠ .awake then s
  else if s.get R.PLJ_PF_STS_STATE = 2 then s.rebootNow
  else if s.get R.PLJ_PF_STS_STATE = 0 then s.braceStart false
  else s

/-- A reset that waited for RUN goes on. -/
def State.rebootWaiting (s : State) : State :=
  if s.pwr.step = .awake ∧ s.pci.resetWait.any (fun k => decide (4 ≤ k)) then
    if s.get R.PLJ_PF_STS_STATE = 0 then s.braceStart false
    else if s.get R.PLJ_PF_STS_STATE = 2 then s.rebootNow else s
  else s

/-- PERST_N_ASSERT (R45, R175, R321, R405, R421, R441). -/
def execPerstNAssert (s : State) : Host.Outcome State Fault Refusal :=
  act s fun s =>
    if s.pci.perst then s
    else
      let s := s.onPci fun x => { x with perst := true }
      let s := (if s.flag R.PCI_LINK_STS_UP then s.linkDrop else s).readsEnd false
      let s := s.onRail fun x => { x with seq := [] }
      (s.rebootAsk 4).wake 1

/-- A cold reset (R45, R567): what the flash, the NOR and the fuses hold stays, and the sticky bank's word and message are
given. -/
def State.cold (s : State) (stby : Word) (msg : Option FaultMsg) : State :=
  let r := State.reset
  let r := { r with
    free := s.free, out := s.out, pending := s.pending
    flt := { r.flt with haltRec := msg }
    boot := { r.boot with fuses := s.boot.fuses, nor := s.boot.nor }
    nvm := { r.nvm with errCount := s.nvm.errCount, smart := s.nvm.smart, late := s.nvm.late } }
  (r.wr R.AON_STBY_REC stby).addSmart 112 1

/-- COLD_RESET: a power cycle, of all supplies or with VDD_STBY kept (R45, R404, R566, R567). -/
def execColdReset (stby : Bool) (s : State) : Host.Outcome State Fault Refusal :=
  .next (if stby then s.cold ((s.rd R.AON_STBY_REC).setFld 0 4 3) s.flt.haltRec else s.cold 1 none)

/-- BROWNOUT: the always-on regulator's output falls below 0.68 V for 5 µs (R404). -/
def execBrownout (s : State) : Host.Outcome State Fault Refusal :=
  let w := ((s.rd R.AON_STBY_REC).setFld 0 4 2).setFld 4 3 s.cur
  .next ((s.cold (w.setFld 8 8 (satAdd 255 (w.fld 8 8) 1)) s.flt.haltRec).aonLevels)

/-! ### Boot (R441, R442, R448, R455 to R457) -/

/-- The fuses sensed, and the state that they give (R448, R450). -/
def State.senseFuses (s : State) : State :=
  let f := s.boot.fuses
  let s := s.onBoot fun x => { x with sensed := f, noRoot := false, debugEnd := none }
  let o0 := b2n (hashSet f.owner0)
  let o1 := b2n (hashSet f.owner1)
  let s := (s.put R.BOOT_FUSE_STS_KEY_REVOKE f.keyRevoke).put R.BOOT_FUSE_STS_PATCH_REVOKE f.patchRevoke
  let s := (s.put R.BOOT_FUSE_STS_OWNER_SET (o0 + 2 * o1)).put R.BOOT_FUSE_STS_DBG_DISABLE (b2n f.dbgDisable)
  (s.put R.BOOT_SVN_FUSED f.svnNum).put R.BOOT_STS_SEC_STATE (if o0 + o1 = 0 then 0 else 1)

/-- Up to two attempts to load STAGE1 of a slot; the code of the last, and the state. -/
def State.tryStage1 (slot : Nat) : Nat → List NorFact → State → Nat × State
  | 0, _, s => (0x0D, s)
  | n + 1, fs, s =>
    let dst := s.coreRegion 0 (2 ^ 24)
    match s.imgRun (s.slotAt slot 0) 1 (fs.headD .ok) dst with
    | (x, s) =>
      let s := s.imgCount x.1 1 slot x.2.1
      if n ≠ 0 ∧ (x.1 = 0x0A ∨ x.1 = 0x0D) then State.tryStage1 slot n fs.tail s else (x.1, s)

/-- The slots in order until STAGE1 of one loads; the slot started (0 for none), the last code and the last slot tried. -/
def State.trySlots : List Nat → List NorFact → Nat × Nat → State → Nat × Nat × Nat × State
  | [], _, last, s => (0, last.1, last.2, s)
  | k :: ks, fs, last, s =>
    if s.fbit R.BOOT_TRY_SKIP (k - 1) then State.trySlots ks (fs.drop 2) last s
    else
      match State.tryStage1 k 2 (fs.take 2) s with
      | (0, s) => (k, 0, k, s)
      | (c, s) => State.trySlots ks (fs.drop 2) (c, k) s

/-- The boot ROM's run (R455, R456): `facts` tells how the NOR behaves in each attempt, two for each slot in the order tried.  Where every
slot is skipped, the LOC of the fault is a free value (log entry 24). -/
def State.bootRom (s : State) (norMode : Nat) (facts : List NorFact) : State :=
  let s := s.onBoot fun x => { x with due := false, norMode := norMode }
  let s := s.senseFuses.newChallenge
  let (active, pending, _, _) := s.bootRec
  let other := fun (k : Nat) => 3 - k
  let try_ := pending ≠ 0 ∧ pending ≤ 2 ∧ s.get R.BOOT_TRY_CNT < 2 ∧ !s.fbit R.BOOT_TRY_SKIP (pending - 1)
  let order := if try_ then [pending, active] else [active, other active]
  let s := if try_ then s.put R.BOOT_TRY_CNT (s.get R.BOOT_TRY_CNT + 1) else s
  match State.trySlots order facts (256, 0) s with
  | (0, code, slot, s) =>
    let x := if code = 256 then s.fresh (2 ^ 10) else (code % 256 + slot * 256, s)
    (x.2.put R.BOOT_TRY_SKIP 0).fatal .boot 0 0x0F x.1
  | (k, _, _, s) =>
    let named := if pending ≠ 0 then pending else active
    let s := ((s.put R.BOOT_STS_SLOT k).put R.BOOT_STS_FELL_BACK (b2n (decide (k ≠ named)))).put R.BOOT_TRY_SKIP 0
    (s.put R.BOOT_WDT_RUNNING 1).onBoot fun x => { x with wdtAt := s.now, wdtHalf := false, content := s.boardContent }

/-- REBOOT: after a cold reset or a reset of the pages, BOOT senses fuses and repair maps (`maps` has a bit for each domain whose
map fails its CRC), and core 0 runs the boot ROM (R441, R448, R455, R540). -/
def execReboot (norMode : Fin 3) (maps : BitVec 34) (facts : List NorFact) (s : State) : Host.Outcome State Fault Refusal :=
  act s fun s =>
    if !s.boot.due then s
    else
      let s := ((List.range 34).filter fun d => s.domSts d).foldl (fun s d => s.repair d (!maps.toNat.testBit d)) s
      s.bootRom norMode.val facts

/-- What a write to BOOT does beyond its fields: FAIL_SLOT skips the running slot and reboots (R457). -/
def bootEffect : Effect := fun s r p o old v =>
  let s := bootBase s r p o old v
  if o = 0x84 ∧ v.bit 2 then
    let slot := s.get R.BOOT_STS_SLOT
    let s := s.put R.BOOT_TRY_LAST 2
    (if slot = 0 then s else s.putBit R.BOOT_TRY_SKIP (slot - 1) true).rebootAsk 6
  else s

/-- FAIL_SLOT: a write of CTL.FAIL_SLOT (R457). -/
def execFailSlot (r : Requester) (s : State) : Host.Outcome State Fault Refusal :=
  act s fun s => s.softWrite bootChecks bootEffect r R.BOOT_CTL 4

/-- WDT_EXPIRE: the boot watchdog expires (R456). -/
def execWdtExpire (s : State) : Host.Outcome State Fault Refusal :=
  act s fun s =>
    if s.wdtPast 1 then ((s.put R.BOOT_WDT_RUNNING 0).put R.BOOT_TRY_LAST 1).rebootAsk 5 else s

/-! ### The end of a brace -/

/-- BRACED: the last group is off, and PF_STS.STATE becomes BRACED; resets that waited take effect (R167, R175, R400, R441). -/
def execBraced (s : State) : Host.Outcome State Fault Refusal :=
  act s fun s =>
    if !s.bracedNow then s
    else
      let s := s.braced
      let s := if s.flag R.PLJ_BRACE_REC_LATE then s.onNvm fun x => { x with late := true } else s
      let s := if 2 ≤ s.cur then s.wake (2 ^ 7) else s
      let s := s.shutdownStep.fnResetWaiting
      s.rebootWaiting

/-! ### Stops of engines (R205, R470 to R472) -/

/-- The flows of a Chervil engine that stopped on a fault end with ABORTED (R205). -/
def State.chvEnd (s : State) (n : Nat) : State :=
  ((s.ist.flows.filter fun f => decide (f.2.eng = n)).map (·.1)).foldl (fun s i => s.abortAny i) s

/-- An engine stops on a cause of R470. -/
def State.engineFault (s : State) (c i cause addr : Nat) (more : Bool) : State :=
  let s := s.engStop c i cause addr more
  if c = 3 then s.chvEnd i else s

/-- ENGINE_STOP: an engine stops at once (R470, R471). -/
def execEngineStop (c : Fin 4) (i : Fin 32) (cause : Fin 5) (addr : BitVec 14) (more : Bool) (s : State) :
    Host.Outcome State Fault Refusal :=
  actAll s fun s =>
    if engExists c.val i.val ∧ s.engRuns c.val i.val ∧ 1 ≤ cause.val ∧ (cause.val ≠ 4 ∨ c.val = 3) then
      s.engineFault c.val i.val cause.val addr.toNat more
    else s

/-- ENGINE_STOP_REQUEST: a running engine whose page has EN = 0 reaches a safe point and stops (R472). -/
def execEngineStopRequest (c : Fin 4) (i : Fin 32) (s : State) : Host.Outcome State Fault Refusal :=
  actAll s fun s =>
    if engExists c.val i.val ∧ s.engRuns c.val i.val ∧ !s.enabled (engPage c.val i.val) then
      s.engHalt c.val i.val
    else s

/-- ENGINE_INTERRUPT: inputs of an engine rise (bit 4 a fault notice, bits 0 to 3 interrupts), and it executes words up to
the safe point at which it takes one (R465 to R469). -/
def execEngineInterrupt (c : Fin 4) (i : Fin 32) (inputs : BitVec 5) (facts : List WordFact) (s : State) :
    Host.Outcome State Fault Refusal :=
  actAll s fun s =>
    if engExists c.val i.val ∧ s.engRuns c.val i.val then
      let e := s.engSt c.val i.val
      let s := State.runWords c.val i.val facts (s.setEng c.val i.val { e with pend := e.pend ||| inputs.toNat })
      if c.val = 3 ∧ !s.engRuns 3 i.val then s.chvEnd i.val else s
    else s

end Sys2Proof.Machine
end

