-- ==== Sys2Proof/Machine/RegAccess.lean ====
section
/-! DEFINITION. The register space as every requester sees it: which block's checks and effects stand behind a page, accesses
of every size (R34, R39, R582), PAGE_CTL and the start and stop of blocks (R43, R472, R584), the clocks of blocks (R390), and
the host's BAR0 and BAR4 (R338, R339). -/

namespace Sys2Proof.Machine

open Sys2Proof

/-! ### Blocks' clocks (R37, R390) -/

/-- A block's request for its fast clock: the branch opens unless its PLL has lost its lock, and then it opens at the relock. -/
def State.clockGrant (s : State) (p : PageAt) : State :=
  match p.clock with
  | none => s
  | some d =>
    if 2 ≤ s.cur ∨ !s.domSts p.domain ∨ s.get (hCKREQ p.base0) = 2 then s
    else if s.flag (hCLK_ON p.base0) then s.touch p 0x80
    else if (clockPll d).any fun k => s.pwr.unlocked.contains k then
      s.onPwr fun x => { x with clkWait := insertNat p.base0 x.clkWait }
    else ((s.put (hCLK_ON p.base0) 1).touch p 0x80).evtB clkPage 0x10 1

/-- A block has work of its own. -/
def State.blockBusy (s : State) (p : PageAt) : Bool :=
  match p.row.block with
  | .esc => s.flag R.ESC_CTL_RUN
  | .boot => s.flag R.BOOT_CMD_GO || s.flag R.BOOT_SPI_CMD_GO
  | .ciph => !s.ciph.queue.isEmpty || !s.ciph.pipes.isEmpty || s.flag R.CIPH_KCMD_GO || s.flag R.CIPH_VCMD_GO
  | .dmc => decide (s.dmcState p.inst = 1) || decide (3 ≤ s.dmcState p.inst) || s.flag (R.DMC_STS_OP_BUSY p.inst)
  | .pci => s.flag R.PCI_LINK_STS_UP
  | .nvm => !s.nvm.cmds.isEmpty
  | .chan => !(s.chanSt p.inst).ops.isEmpty || !(s.chanSt p.inst).backlog.isEmpty || s.flag (R.CHAN_DISC_STS_BUSY p.inst)
  | .chv => s.ist.flows.any fun f => decide (f.2.eng = p.inst)
  | .net => s.flag (R.NET_LINK_STS_UP p.inst)
  | _ => false

/-! ### PAGE_CTL (R43, R472, R477, R584) -/

/-- The class and the instances of the microcode engines that a page enables. -/
def PageAt.engines (p : PageAt) : List (Nat × Nat) :=
  match p.row.block with
  | .chan => [(1, p.inst)]
  | .tgn => [(2, 0), (2, 1)]
  | .chv => [(3, p.inst)]
  | _ => []

/-- Every store that the page's engines need is LOADED (R477). -/
def State.storesLoaded (s : State) (p : PageAt) : Bool :=
  p.engines.all fun e => s.loaded e.1 e.2 && (decide (e.1 ≠ 3) || s.loaded 4 0)

/-- The checks of a PAGE_CTL write that follow from the page's engines. -/
def pageChecks : Checks := fun s _ p o v => failIf (decide (o = 4) && decide (p.page = 0) && v.bit 0 && !s.storesLoaded p) 4

/-- EN goes from 0 to 1: the start-up state begins, with the clock asked for and the engines at word 0 (R467, R584). -/
def State.pageStart (s : State) (p : PageAt) : State :=
  p.engines.foldl (fun s e => s.engStart e.1 e.2) ((s.put (hRUNNING p.base0) 0).clockGrant p)

/-- EN goes from 1 to 0: a stopped engine leaves its STOPPED state, a running one is asked to stop, a DMA channel with
descriptors in progress ends them first, and every other block stops at once (R472, R517, R584). -/
def State.pageStop (s : State) (p : PageAt) : State :=
  let s := p.engines.foldl (fun s e => if s.engRuns e.1 e.2 then s else s.setStopped e.1 e.2 false) s
  let s := if p.row.block = .net then s.netDown p.inst (s.get (R.NET_LINK_STS_SIG p.inst)) else s
  if p.engines.any (fun e => s.engRuns e.1 e.2) ∨ (p.row.block = .dma ∧ !(s.dmaSt p.inst).active.isEmpty) then s
  else s.put (hRUNNING p.base0) 0

/-- What an accepted write of PAGE_CTL does beyond its fields and beyond its block's own part. -/
def State.pageCtl (s : State) (p : PageAt) (old v : Word) : State :=
  if p.page ≠ 0 then s
  else
    let s := if v.fld 1 2 = 2 then (if p.clock.isSome then s.put (hCLK_ON p.base0) 0 else s)
      else if v.fld 1 2 = 1 then s.clockGrant p else s
    if p.row.always then s
    else if v.bit 0 ∧ !old.bit 0 then s.pageStart p
    else if !v.bit 0 ∧ old.bit 0 then s.pageStop p
    else s

/-! ### What stands behind a page -/

/-- A block's own checks of writes. -/
def blockChecks : Block → Checks
  | .evc => evcChecks
  | .aon => aonChecks
  | .pwr => pwrChecks
  | .rail => railChecks
  | .flt => fltChecks
  | .esc => escChecks
  | .boot => bootChecks
  | .mcl => mclChecks
  | .dma => dmaChecks
  | .ciph => ciphChecks
  | .mem => memChecks
  | .dmc => dmcChecks
  | .pci => pciChecks
  | .nvm => nvmChecks
  | .chan => chanChecks
  | .ftl => ftlChecks
  | .rdp => rdpChecks
  | .plj => pljChecks
  | .ist => istChecks
  | .net => netChecks
  | .tgn => tgnChecks
  | .ledger | .sys | .clk | .chv => noChecks

/-- A block's own effects of accepted writes. -/
def blockEffect : Block → Effect
  | .evc => evcEffect
  | .aon => aonEffect
  | .pwr => pwrEffect
  | .rail => railEffect
  | .flt => fltEffect
  | .esc => escEffect
  | .boot => bootEffect
  | .mcl => mclEffect
  | .dma => dmaEffect
  | .ciph => ciphEffect
  | .dmc => dmcEffect
  | .pci => pciEffect
  | .nvm => nvmEffect
  | .chan => chanEffect
  | .ftl => ftlEffect
  | .plj => pljEffect
  | .ist => istEffect
  | .net => netEffect
  | .tgn => tgnEffect
  | .ledger | .sys | .clk | .mem | .rdp | .chv => noEffect

/-- What a block shows where that is not the word a register holds. -/
def blockView : Block → View
  | .clk => clkView
  | .flt => fltView
  | .esc => escView
  | .boot => bootView
  | .dma => dmaView
  | .ciph => ciphView
  | .dmc => dmcView
  | .nvm => nvmView
  | .chan => chanView
  | .ftl => ftlView
  | .rdp => rdpView
  | .plj => pljView
  | .ist => istView
  | .net => netView
  | .tgn => tgnView
  | .ledger | .sys | .aon | .pwr | .rail | .mcl | .mem | .pci | .chv | .evc => fun _ _ _ _ => none

/-- What a read of a block's registers does beyond clearing RC fields. -/
def blockReadEffect : Block → ReadEffect
  | .flt => fltReadEffect
  | .mem => memReadEffect
  | .pci => pciReadEffect
  | .ftl => ftlReadEffect
  | .rdp => rdpReadEffect
  | .tgn => tgnReadEffect
  | .ledger | .sys | .aon | .pwr | .clk | .rail | .esc | .boot | .mcl | .dma | .ciph | .dmc | .nvm | .chan | .plj | .chv
  | .ist | .net | .evc => fun s _ _ _ => s

/-- The checks of a write to any page. -/
def regChecks : Checks := fun s r p o v => blockChecks p.row.block s r p o v ++ pageChecks s r p o v

/-- The effect of an accepted write to any page. -/
def regEffect : Effect := fun s r p o old v =>
  let s := if o = 4 then s.pageCtl p old v else s
  blockEffect p.row.block s r p o old v

/-- What any page shows. -/
def regView : View := fun s r p o => blockView p.row.block s r p o

/-- What a read of any page does. -/
def regReadEffect : ReadEffect := fun s r p o => blockReadEffect p.row.block s r p o

/-! ### Accesses of every size (R34, R39, R582) -/

/-- The value of 1, 2 or 4 bytes at an offset of a page, with no effect (R582). -/
def State.peek (s : State) (r : Requester) (p : PageAt) (off size : Nat) : Nat :=
  (s.show regView r p (off % 0x1000 / 4 * 4)).toNat / 2 ^ (8 * (off % 4)) % 2 ^ (8 * size)

/-- A read of 1 or 2 bytes at natural alignment. -/
def State.smallRead (s : State) (r : Requester) (off size : Nat) : State :=
  if r = .host ∧ (!s.memEn ∨ s.pci.d3) then s.unsupported
  else
    let s := s.leaveDoze
    match findPage off with
    | none => (s.deadAccess r off false 1).emit (.readData r off 0)
    | some p =>
      if p.row.block = .ledger then
        s.emit (.readData r off (ledgerRead (off % 0x1000 / 4 * 4) / 2 ^ (8 * (off % 4)) % 2 ^ (8 * size)))
      else
        match s.gate p (off % 0x1000) with
        | .dead => (s.deadAccess r off false 0).emit (.readData r off 0)
        | .held => s.onSys fun x => { x with held := x.held ++ [⟨r, off, size, false, 0⟩] }
        | .served =>
          let s := (s.countAccess r p).touch p (off % 0x1000)
          s.emit (.readData r off (s.peek r p off size))

/-- A read that is not naturally aligned: it returns 0 and is recorded, as an access to an unmapped offset or a powered-off
page where it is one (R34, R36). -/
def State.badRead (s : State) (r : Requester) (off : Nat) : State :=
  if r = .host ∧ (!s.memEn ∨ s.pci.d3) then s.unsupported
  else
    let s := s.leaveDoze
    let kind := match findPage off with
      | none => 1
      | some p => if p.row.block ≠ .ledger ∧ s.gate p (off % 0x1000) = .dead then 0 else 3
    (s.deadAccess r off false kind).emit (.readData r off 0)

/-- Successive 4-byte reads. -/
def State.readWords (r : Requester) : Nat → Nat → State → State
  | 0, _, s => s
  | n + 1, off, s => State.readWords r n (off + 4) (s.softRead regView regReadEffect r off)

/-- A read of `size` bytes (R34). -/
def State.bar2Read (s : State) (r : Requester) (off size : Nat) : State :=
  if size = 1 ∨ size = 2 then (if off % size = 0 then s.smallRead r off size else s.badRead r off)
  else if size % 4 = 0 ∧ size ≠ 0 ∧ off % (if size = 8 then 8 else 4) = 0 then State.readWords r (size / 4) off s
  else s.badRead r off

/-- An 8-byte write that covers a 48-bit pair presets it at once, or is rejected at the half that fails (R34, R39). -/
def State.pairWrite (s : State) (r : Requester) (p : PageAt) (o : Nat) (lo hi : Word) : State :=
  let s := (s.countAccess r p).touch p o
  let codes (k : Nat) (v : Word) : Option Nat :=
    firstCode (s.accessChecks r p k (p.reg k) ++ tableChecks p k (p.reg k) v ++ (if 0x80 ≤ k then regChecks s r p k v else []))
  match codes o lo, codes (o + 4) hi with
  | some c, _ => s.rejectWrite p o c
  | none, some c => s.rejectWrite p (o + 4) c
  | none, none => (s.wr (p.base + o) lo).wr (p.base + o + 4) (BitVec.ofNat 32 (hi.fld 0 16))

/-- Successive 4-byte writes. -/
def State.writeEach (r : Requester) : List Word → Nat → State → State
  | [], _, s => s
  | w :: ws, off, s => State.writeEach r ws (off + 4) (s.softWrite regChecks regEffect r off w)

/-- An 8-byte write at natural alignment. -/
def State.write8 (s : State) (r : Requester) (off : Nat) (lo hi : Word) : State :=
  let each := State.writeEach r [lo, hi] off s
  if r = .host ∧ (!s.memEn ∨ s.pci.d3) then each
  else
    match findPage off with
    | none => each
    | some p =>
      if p.row.block ≠ .ledger ∧ p.pair (off % 0x1000) = some (off % 0x1000, true) ∧ s.gate p (off % 0x1000) = .served then
        s.leaveDoze.pairWrite r p (off % 0x1000) lo hi
      else each

/-- Bytes as words, the first byte in the low bits of the first word. -/
def wordsOf : Nat → Bytes → List Word
  | 0, _ => []
  | n + 1, bs => BitVec.ofNat 32 (leNat (bs.take 4)) :: wordsOf n (bs.drop 4)

/-- A write of the bytes given (R34). -/
def State.bar2Write (s : State) (r : Requester) (off : Nat) (data : Bytes) : State :=
  match wordsOf (data.length / 4) data with
  | [] => if data = [] then s else s.badWrite r off
  | [w] => if data.length = 4 ∧ off % 4 = 0 then s.softWrite regChecks regEffect r off w else s.badWrite r off
  | [lo, hi] => if data.length = 8 ∧ off % 8 = 0 then s.write8 r off lo hi else s.badWrite r off
  | ws => if data.length % 4 = 0 ∧ off % 4 = 0 then State.writeEach r ws off s else s.badWrite r off

/-! ### BAR0 and BAR4 (R283, R338, R339) -/

/-- A dword written to BAR0: CC, a doorbell, or another register. -/
def State.bar0Dword (s : State) (o : Nat) (v : Word) : State :=
  if o = 0x14 then s.ccWrite v
  else if 0x1000 ≤ o ∧ o < 0x1000 + 8 * 129 then
    let y := (o - 0x1000) / 8
    if o % 8 = 0 then ((s.doorbellWake y).sqDoorbell y (v.fld 0 16)).aerAll else (s.cqDoorbell y (v.fld 0 16)).aerAll
  else s.bar0Write o v

/-- A host write to BAR0 (`four` false) or BAR4: 4 or 8 bytes at natural alignment, others are discarded (R339, R340). -/
def State.barWrite (s : State) (four : Bool) (off : Nat) (data : Bytes) : State :=
  if !s.memEn ∨ s.pci.d3 then s.unsupported
  else
    let s :=
      if (data.length = 4 ∨ data.length = 8) ∧ off % data.length = 0 then
        ((wordsOf (data.length / 4) data).foldl (fun (a : Nat × State) w =>
          (a.1 + 4, if four then a.2.bar4Write a.1 w else a.2.bar0Dword a.1 w)) (off, s)).2
      else s
    s.wake 1

/-- A host read of BAR0 or BAR4: the data of 4 or 8 bytes at natural alignment, 0 otherwise (R339, R340). -/
def State.barRead (s : State) (four : Bool) (off size : Nat) : State :=
  if !s.memEn ∨ s.pci.d3 then s.unsupported
  else
    let at_ (o : Nat) : Nat := if four then s.bar4Read o else s.bar0Read o
    let v :=
      if (size = 4 ∨ size = 8) ∧ off % size = 0 then at_ off + (if size = 8 then at_ (off + 4) * 2 ^ 32 else 0)
      else 0
    (s.emit (.barData four off v)).wake 1

/-- A write by a requester to BAR0 (0), the register pages (1) or BAR4 (2); the cores see the register pages alone, and a
host's access wakes the part (R318, R398). -/
def State.regWrite (s : State) (r : Requester) (bar : Fin 3) (off : Nat) (data : Bytes) : State :=
  match bar.val, r with
  | 1, .host => (s.bar2Write .host off data).wake 1
  | 1, r => s.bar2Write r off data
  | b, .host => s.barWrite (decide (b = 2)) off data
  | _, .core _ => s

/-- A read likewise. -/
def State.regRead (s : State) (r : Requester) (bar : Fin 3) (off size : Nat) : State :=
  match bar.val, r with
  | 1, .host => (s.bar2Read .host off size).wake 1
  | 1, r => s.bar2Read r off size
  | b, .host => s.barRead (decide (b = 2)) off size
  | _, .core _ => s

/-! ### Commands: accesses -/

/-- REGISTER_WRITE: a write of the bytes given at natural alignment or not (R7, R9, R34, R339, R341). -/
def execRegisterWrite (r : Requester) (bar : Fin 3) (off : Nat) (data : Bytes) (s : State) :
    Host.Outcome State Fault Refusal :=
  act s fun s => s.regWrite r bar off data

/-- RC_FIELD_READ: a read; one of 4 or 8 bytes that covers an RC field clears it, one of 1 or 2 bytes has no effect (R6,
R582). -/
def execRcFieldRead (r : Requester) (bar : Fin 3) (off size : Nat) (s : State) : Host.Outcome State Fault Refusal :=
  act s fun s => s.regRead r bar off size

/-- COUNTER_PAIR_READ: a read of the low or the high word of a pair, or of both (R39). -/
def execCounterPairRead (r : Requester) (off size : Nat) (s : State) : Host.Outcome State Fault Refusal :=
  act s fun s => s.regRead r 1 off size

/-- COUNTER_PAIR_WRITE: a write of the low or the high word of a pair, or of both (R39). -/
def execCounterPairWrite (r : Requester) (off : Nat) (data : Bytes) (s : State) : Host.Outcome State Fault Refusal :=
  act s fun s => s.regWrite r 1 off data

/-- An access of `size` bytes is one that R36 discards. -/
def State.isDead (s : State) (off size : Nat) (write : Bool) : Bool :=
  match findPage off with
  | none => true
  | some p =>
    (decide (p.row.block = .ledger) && write) || (decide (p.row.block ≠ .ledger) && decide (s.gate p (off % 0x1000) = .dead))
      || (!write && decide (size ≠ 0) && decide (off % min size 8 ≠ 0))

/-- DEAD_ACCESS: an access that completes with no effect and is recorded (R36); where R36 does not discard it, nothing. -/
def execDeadAccess (r : Requester) (off size : Nat) (write : Bool) (s : State) : Host.Outcome State Fault Refusal :=
  act s fun s =>
    if s.isDead off size write then
      (if write then s.regWrite r 1 off (List.replicate (min size 8) 0) else s.regRead r 1 off (min size 8))
    else s

/-- A held access can be served: the device is awake, the page's domain is on or off for good, and its PLL is locked. -/
def State.heldReady (s : State) (a : Access) : Bool :=
  match findPage a.off with
  | none => true
  | some p =>
    decide (s.cur < 2) && (s.domSts p.domain || !s.domOn p.domain)
      && !((p.clock.bind clockPll).any fun k => s.pwr.unlocked.contains k)

/-- A held access served: the block's clock runs first, and a page that has lost its power meanwhile discards the access. -/
def State.serveHeld (s : State) (a : Access) : State :=
  match findPage a.off with
  | none => s
  | some p =>
    let o := a.off % 0x1000
    if !s.domSts p.domain then
      let s := s.deadAccess a.req a.off a.write 0
      if a.write then s else s.emit (.readData a.req a.off 0)
    else
      let s := if 0x80 ≤ o then s.clockGrant p else s
      if a.write then s.serveWrite regChecks regEffect a.req p o a.val
      else if a.size < 4 then
        let s := (s.countAccess a.req p).touch p o
        s.emit (.readData a.req a.off (s.peek a.req p a.off a.size))
      else
        let x := s.serveRead regView regReadEffect a.req p o
        x.2.emit (.readData a.req a.off x.1.toNat)

/-- HELD_ACCESS_SERVED: the oldest held access whose wait is over is served (R36, R37). -/
def execHeldAccessServed (s : State) : Host.Outcome State Fault Refusal :=
  act s fun s =>
    match s.sys.held.find? s.heldReady with
    | some a => (s.leaveDoze.onSys fun x => { x with held := x.held.erase a }).serveHeld a
    | none => s

/-! ### Commands: pages and clocks -/

/-- The page whose BAR2 offset is `k` × 4 KiB. -/
def pageNo (k : Fin 16384) : Option PageAt := findPage (0x1000 * k.val)

/-- PAGE_ENABLE: a write of PAGE_CTL with EN = 1 beside the other bits of `v` (R584). -/
def execPageEnable (r : Requester) (page : Fin 16384) (v : Word) (s : State) : Host.Outcome State Fault Refusal :=
  act s fun s => s.softWrite regChecks regEffect r (0x1000 * page.val + 4) (v.setFld 0 1 1)

/-- PAGE_DISABLE: a write of PAGE_CTL with EN = 0 beside the other bits of `v` (R472, R584). -/
def execPageDisable (r : Requester) (page : Fin 16384) (v : Word) (s : State) : Host.Outcome State Fault Refusal :=
  act s fun s => s.softWrite regChecks regEffect r (0x1000 * page.val + 4) (v.setFld 0 1 0)

/-- PAGE_LOCK: a write of PAGE_CTL with LOCK = 1 beside the other bits of `v` (R43). -/
def execPageLock (r : Requester) (page : Fin 16384) (v : Word) (s : State) : Host.Outcome State Fault Refusal :=
  act s fun s => s.softWrite regChecks regEffect r (0x1000 * page.val + 4) (v.setFld 8 1 1)

/-- The dies of a channel that the start routine resets. -/
def State.lunResets (s : State) (n : Nat) : State :=
  (List.range 32).foldl (fun s l => if s.dieState n l = 1 then s.emit (.nandReset n l) else s) s

/-- A page's block has done what ends its start-up state (R584). -/
def State.startupOver (s : State) (p : PageAt) : Bool :=
  match p.row.block with
  | .chan | .tgn | .chv => p.engines.all fun e => s.engRuns e.1 e.2
  | .dmc => decide (2 ≤ s.dmcState p.inst)
  | _ => p.clock.isNone || s.flag (hCLK_ON p.base0)

/-- BLOCK_STARTUP_END: the block leaves its start-up state; an engine is at word 1, and a sequencer has reset its ACTIVE dies
(R471, R584). -/
def execBlockStartupEnd (page : Fin 16384) (s : State) : Host.Outcome State Fault Refusal :=
  act s fun s =>
    match pageNo page with
    | none => s
    | some p =>
      if p.row.always ∨ !s.enabled p.base0 ∨ s.flag (hRUNNING p.base0) ∨ !s.domSts p.domain ∨ 2 ≤ s.cur ∨ !s.startupOver p then s
      else
        let s := p.engines.foldl (fun s e => s.setEng e.1 e.2 { s.engSt e.1 e.2 with pc := 1, stack := [], vec := none, clocks := 0 }) s
        let s := if p.row.block = .chan then s.lunResets p.inst else s
        s.put (hRUNNING p.base0) 1

/-- CLOCK_REQUEST: a block asks for its fast clock (R390, R394). -/
def execClockRequest (page : Fin 16384) (s : State) : Host.Outcome State Fault Refusal :=
  act s fun s =>
    match pageNo page with
    | none => s
    | some p => s.leaveDoze.clockGrant p

/-- IDLE_CLOCK_RELEASE: a block without work for 2^IDLE_HOLD µs releases its clock (R390). -/
def execIdleClockRelease (page : Fin 16384) (s : State) : Host.Outcome State Fault Refusal :=
  act s fun s =>
    match pageNo page with
    | none => s
    | some p =>
      if p.clock.isSome ∧ s.flag (hCLK_ON p.base0) ∧ s.get (hCKREQ p.base0) = 0 ∧ !s.blockBusy p
          ∧ (s.pwr.lastWork.find p.base0).getD 0 + 1000 * 2 ^ s.get (hIDLE_HOLD p.base0) ≤ s.now then
        s.put (hCLK_ON p.base0) 0
      else s

end Sys2Proof.Machine
end

