-- ==== Sys2Proof/Machine/TgnCmd.lean ====
section
/-! DEFINITION. The rows of Tarragon (chapter 08): shares, parity, intents, reconstructs, epochs, membership and the commands of the
TGN pages. -/

namespace Sys2Proof.Machine

open Sys2Proof

/-! ### Shares and parity -/

/-- SHARE_SEND (R251). -/
def execShareSend (set : Fin 16) (cls slot : Fin 64) (q : Bool) (s : State) : Host.Outcome State Fault Refusal :=
  actAll s fun s => s.shareSend set.val cls.val slot.val q

/-- PUT_SHARD (R249, R252 to R254). -/
def execPutShard (f : Frame) (s : State) : Host.Outcome State Fault Refusal := actAll s fun s => s.receiveRow 10 f true

/-- PUT_SHARD_RESPONSE: a holder's answer (R252 to R254, R277). -/
def execPutShardResponse (f : Frame) (s : State) : Host.Outcome State Fault Refusal :=
  actAll s fun s => s.receiveRow 11 f true

/-- SHARE_HOLD_EXPIRE: a parity IU whose oldest share has waited HOLD ms is written (R253). -/
def execShareHoldExpire (iu : Nat) (s : State) : Host.Outcome State Fault Refusal :=
  actAll s fun s =>
    match s.tgn.par.find iu with
    | some p => if p.first + 10 ^ 6 * s.get R.TGN_SHARE_CFG_HOLD ≤ s.now then s.parWrite iu p else s
    | none => s

/-- PARITY_IU_WRITTEN: the programs of a parity IU have completed; its HOLD records are appended (R253, R259). -/
def execParityIuWritten (iu : Nat) (s : State) : Host.Outcome State Fault Refusal :=
  actAll s fun s =>
    match s.tgn.par.find iu, s.ftl.news.find? fun e => decide (e.1 = .share iu) with
    | some p, some e =>
      if s.recsFull then s
      else (s.onFtl fun x => { x with news := x.news.erase e }).parWritten iu p (p.going.getD [])
    | _, _ => s

/-- SHARE_RESEND: a share without a final response for RESEND ms is sent again (R253). -/
def execShareResend (id : Nat) (s : State) : Host.Outcome State Fault Refusal :=
  actAll s fun s =>
    match s.tgn.jobs.find id with
    | some j =>
      if j.at_ + 10 ^ 6 * s.get R.TGN_SHARE_CFG_RESEND ≤ s.now then (s.shareEnd id 0 0).shareSend j.set j.cls j.slot j.q else s
    | none => s

/-- INTENT_FLUSH (R259). -/
def execIntentFlush (s : State) : Host.Outcome State Fault Refusal := actAll s State.intentFlush

/-- REGION_CLEAN: a dirty region idle for REGION_IDLE × 10 ms (R257). -/
def execRegionClean (set : Fin 16) (cls : Fin 64) (region : Nat) (s : State) : Host.Outcome State Fault Refusal :=
  actAll s fun s =>
    match s.tgn.ints.find? fun z => z.dirty && decide (z.set = set.val) && decide (z.cls = cls.val) && decide (z.at_ = region) with
    | some z =>
      if z.no ≠ 0 ∧ !s.intBusy z ∧ !s.tgn.resync.contains z.set
          ∧ z.busy + 10 ^ 7 * s.get R.TGN_INT_CFG_REGION_IDLE ≤ s.now then s.intClose z else s
    | none => s

/-! ### Reads of members and reconstructs -/

/-- GET_SHARD (R249, R250). -/
def execGetShard (f : Frame) (s : State) : Host.Outcome State Fault Refusal := actAll s fun s => s.receiveRow 8 f true

/-- SHARD_RESPONSE (R261, R262); `crcOk` tells whether the IU that it completes fits the CRC of the one it rebuilds. -/
def execShardResponse (f : Frame) (crcOk : Bool) (s : State) : Host.Outcome State Fault Refusal :=
  actAll s fun s => s.receiveRow 9 f crcOk

/-- HEDGE_EXPIRE (R261, R264). -/
def execHedgeExpire (id pos : Nat) (s : State) : Host.Outcome State Fault Refusal := actAll s fun s => s.hedgeExpire id pos

/-- RECON_TMO_EXPIRE: a reconstruct that has not solved within TMO ms fails (R263). -/
def execReconTmoExpire (id : Nat) (s : State) : Host.Outcome State Fault Refusal :=
  actAll s fun s =>
    match s.tgn.recons.find id with
    | some r => if r.start + 10 ^ 6 * s.get R.TGN_RECON_CFG_TMO ≤ s.now then s.reconFail id r else s
    | none => s

/-! ### Epochs and members -/

/-- EPOCH (R266, R267). -/
def execEpoch (f : Frame) (s : State) : Host.Outcome State Fault Refusal := actAll s fun s => s.receiveRow 14 f true

/-- EPOCH_BEAT (R268). -/
def execEpochBeat (s : State) : Host.Outcome State Fault Refusal := actAll s State.epochBeat

/-- EPOCH_ISSUE (R268). -/
def execEpochIssue (s : State) : Host.Outcome State Fault Refusal := actAll s State.epochIssue

/-- PARENT_SILENT: the parent, or the acting root, has not been heard for MISS × BEAT ms (R268). -/
def execParentSilent (root : Bool) (s : State) : Host.Outcome State Fault Refusal := actAll s fun s => s.parentSilent root

/-- ROOT_TAKEOVER (R268). -/
def execRootTakeover (s : State) : Host.Outcome State Fault Refusal := actAll s State.rootTakeover

/-- HELLO (R269, R271, R273). -/
def execHello (f : Frame) (s : State) : Host.Outcome State Fault Refusal := actAll s fun s => s.receiveRow 12 f true

/-- HELLO_RESPONSE (R267 to R273). -/
def execHelloResponse (f : Frame) (s : State) : Host.Outcome State Fault Refusal := actAll s fun s => s.receiveRow 13 f true

/-- SUSPECT_PROBE_EXPIRE (R269). -/
def execSuspectProbeExpire (m : Nat) (s : State) : Host.Outcome State Fault Refusal := actAll s fun s => s.suspectExpire m

/-- MEMBER_REMOVE_DUE (R269). -/
def execMemberRemoveDue (m : Nat) (s : State) : Host.Outcome State Fault Refusal := actAll s fun s => s.removeDue m

/-- JOIN: a write that sets JOIN_CTL.JOIN (R273). -/
def execJoin (r : Requester) (s : State) : Host.Outcome State Fault Refusal :=
  actAll s fun s => s.softWrite tgnChecks tgnEffect r R.TGN_JOIN_CTL 1

/-- JOIN_BACKOFF_END (R273). -/
def execJoinBackoffEnd (s : State) : Host.Outcome State Fault Refusal := actAll s State.backOffEnd

/-- SEED_TMO_EXPIRE (R273). -/
def execSeedTmoExpire (s : State) : Host.Outcome State Fault Refusal := actAll s State.seedExpire

/-- LEAVE: a write that sets JOIN_CTL.LEAVE (R271). -/
def execLeave (r : Requester) (s : State) : Host.Outcome State Fault Refusal :=
  actAll s fun s => s.softWrite tgnChecks tgnEffect r R.TGN_JOIN_CTL 2

/-- RETRY_AFTER_EXPIRE: a request that BUSY put off is sent again (R269, R271, R273). -/
def execRetryAfterExpire (s : State) : Host.Outcome State Fault Refusal := actAll s State.retryAfter

/-- QUERY_TMO_EXPIRE (R267). -/
def execQueryTmoExpire (m : Nat) (s : State) : Host.Outcome State Fault Refusal := actAll s fun s => s.queryExpire m

/-! ### Register commands -/

/-- SET_ENABLE: a write of SET_n.CFG with EN = 1 (R243, R246, R279). -/
def execSetEnable (r : Requester) (n : Fin 16) (v : Word) (s : State) : Host.Outcome State Fault Refusal :=
  actAll s fun s => s.softWrite tgnChecks tgnEffect r (R.TGN_SET_CFG n.val) (v.setBit 17)

/-- A write of TGN.CMD that starts a command. -/
def State.tgnRow (s : State) (r : Requester) (op set : Nat) (hws : List (Nat × Nat)) (ints : List IntentRec) (recNo : Nat) : State :=
  s.softWrite tgnChecks (tgnEffectWith hws ints recNo) r R.TGN_CMD (BitVec.ofNat 32 (op + 16 + set * 2 ^ 8))

/-- LOAD (R260); `hws`, `ints` and `recNo` are what the intent journal holds: high-waters, records without their CLEAR or CLEAN,
and the next record number. -/
def execLoad (r : Requester) (hws : List (Nat × Nat)) (ints : List IntentRec) (recNo : Nat) (s : State) :
    Host.Outcome State Fault Refusal :=
  actAll s fun s => s.tgnRow r 1 0 hws ints recNo

/-- REPAIR (R140). -/
def execRepair (r : Requester) (set : Fin 16) (s : State) : Host.Outcome State Fault Refusal :=
  actAll s fun s => s.tgnRow r 2 set.val [] [] 0

/-- LOSS_SCAN (R278). -/
def execLossScan (r : Requester) (set : Fin 16) (s : State) : Host.Outcome State Fault Refusal :=
  actAll s fun s => s.tgnRow r 3 set.val [] [] 0

/-- BACKFILL (R276). -/
def execBackfill (r : Requester) (set : Fin 16) (s : State) : Host.Outcome State Fault Refusal :=
  actAll s fun s => s.tgnRow r 4 set.val [] [] 0

/-- LOSS_ENTRY_READ: a read of LOSS_LO, or of LOSS_HI (R280). -/
def execLossEntryRead (r : Requester) (hi : Bool) (s : State) : Host.Outcome State Fault Refusal :=
  actAll s fun s => s.softRead tgnView tgnReadEffect r (if hi then R.TGN_LOSS_HI else R.TGN_LOSS_LO)

end Sys2Proof.Machine
end

