-- ==== Sys2Proof/Machine/Dispatch.lean ====
section
/-! DEFINITION. One arm per command: the command's effect on everything but the queue. -/

namespace Sys2Proof.Machine

open Sys2Proof

def exec (i : Instr) (s : State) : Host.Outcome State Fault Refusal :=
  match i with
  | .registerWrite r bar off data => Sys2Proof.Machine.execRegisterWrite r bar off data s
  | .rcFieldRead r bar off size => Sys2Proof.Machine.execRcFieldRead r bar off size s
  | .counterPairRead r off size => Sys2Proof.Machine.execCounterPairRead r off size s
  | .counterPairWrite r off data => Sys2Proof.Machine.execCounterPairWrite r off data s
  | .deadAccess r off size write => Sys2Proof.Machine.execDeadAccess r off size write s
  | .heldAccessServed => Sys2Proof.Machine.execHeldAccessServed s
  | .pageEnable r page v => Sys2Proof.Machine.execPageEnable r page v s
  | .pageDisable r page v => Sys2Proof.Machine.execPageDisable r page v s
  | .blockStartupEnd page => Sys2Proof.Machine.execBlockStartupEnd page s
  | .pageLock r page v => Sys2Proof.Machine.execPageLock r page v s
  | .clockRequest page => Sys2Proof.Machine.execClockRequest page s
  | .idleClockRelease page => Sys2Proof.Machine.execIdleClockRelease page s
  | .eventRaise src on => Sys2Proof.Machine.execEventRaise src on s
  | .pendClear r w v => Sys2Proof.Machine.execPendClear r w v s
  | .snap r => Sys2Proof.Machine.execSnap r s
  | .swRaise r idx => Sys2Proof.Machine.execSwRaise r idx s
  | .discStart r n => Sys2Proof.Machine.execDiscStart r n s
  | .dieProbeDone n f => Sys2Proof.Machine.execDieProbeDone n f s
  | .tmoDisc n => Sys2Proof.Machine.execTmoDisc n s
  | .opEnqueue n o => Sys2Proof.Machine.execOpEnqueue n o s
  | .opCancel n id => Sys2Proof.Machine.execOpCancel n id s
  | .diePick n sensed => Sys2Proof.Machine.execDiePick n sensed s
  | .minRunReached n die => Sys2Proof.Machine.execMinRunReached n die s
  | .dieSuspended n die => Sys2Proof.Machine.execDieSuspended n die s
  | .readComplete n id data => Sys2Proof.Machine.execReadComplete n id data s
  | .programComplete n id fail => Sys2Proof.Machine.execProgramComplete n id fail s
  | .eraseComplete n id fail => Sys2Proof.Machine.execEraseComplete n id fail s
  | .opTimeout n id => Sys2Proof.Machine.execOpTimeout n id s
  | .resetLunDone n die loopOk => Sys2Proof.Machine.execResetLunDone n die loopOk s
  | .resetLunFail n die => Sys2Proof.Machine.execResetLunFail n die s
  | .tempDue n die => Sys2Proof.Machine.execTempDue n die s
  | .windowBoundary y0 age pkg iflash => Sys2Proof.Machine.execWindowBoundary y0 age pkg iflash s
  | .quiesceWrite r n mode => Sys2Proof.Machine.execQuiesceWrite r n mode s
  | .fwResetLun r n slot => Sys2Proof.Machine.execFwResetLun r n slot s
  | .fwReadId r n slot => Sys2Proof.Machine.execFwReadId r n slot s
  | .fwGetFeatures r n slot => Sys2Proof.Machine.execFwGetFeatures r n slot s
  | .fwSetFeatures r n slot => Sys2Proof.Machine.execFwSetFeatures r n slot s
  | .fwReadStatus r n slot => Sys2Proof.Machine.execFwReadStatus r n slot s
  | .fwRawRead r n slot => Sys2Proof.Machine.execFwRawRead r n slot s
  | .mapLookup ns iu => Sys2Proof.Machine.execMapLookup ns iu s
  | .mapUpdate u => Sys2Proof.Machine.execMapUpdate u s
  | .puPlace u => Sys2Proof.Machine.execPuPlace u s
  | .idlePad k => Sys2Proof.Machine.execIdlePad k s
  | .verifyPassDone k ok => Sys2Proof.Machine.execVerifyPassDone k ok s
  | .sbEraseStart k => Sys2Proof.Machine.execSbEraseStart k s
  | .gcVictimSelect => Sys2Proof.Machine.execGcVictimSelect s
  | .gcScoreUpdate => Sys2Proof.Machine.execGcScoreUpdate s
  | .relocateIu k p ns ius data => Sys2Proof.Machine.execRelocateIu k p ns ius data s
  | .wearLevelRelocate => Sys2Proof.Machine.execWearLevelRelocate s
  | .classDrop r cls => Sys2Proof.Machine.execClassDrop r cls s
  | .sbClose r => Sys2Proof.Machine.execSbClose r s
  | .sbRelocate r => Sys2Proof.Machine.execSbRelocate r s
  | .sbRetire r => Sys2Proof.Machine.execSbRetire r s
  | .dieLost r d => Sys2Proof.Machine.execDieLost r d s
  | .sbRecSnapshot r => Sys2Proof.Machine.execSbRecSnapshot r s
  | .codewordDecode psa soft syn data crc bits unsat => Sys2Proof.Machine.execCodewordDecode psa soft syn data crc bits unsat s
  | .ladderStep psa => Sys2Proof.Machine.execLadderStep psa s
  | .parityRebuildDone psa ok data => Sys2Proof.Machine.execParityRebuildDone psa ok data s
  | .readDisturbCheck => Sys2Proof.Machine.execReadDisturbCheck s
  | .patrolRead => Sys2Proof.Machine.execPatrolRead s
  | .weakPop r => Sys2Proof.Machine.execWeakPop r s
  | .uncRecordRead r w => Sys2Proof.Machine.execUncRecordRead r w s
  | .journalFlush => Sys2Proof.Machine.execJournalFlush s
  | .journalChunkDone => Sys2Proof.Machine.execJournalChunkDone s
  | .segmentWriteback => Sys2Proof.Machine.execSegmentWriteback s
  | .pfAssert => Sys2Proof.Machine.execPfAssert s
  | .pfDeassert => Sys2Proof.Machine.execPfDeassert s
  | .braceTailsWritten => Sys2Proof.Machine.execBraceTailsWritten s
  | .braceRailStep => Sys2Proof.Machine.execBraceRailStep s
  | .braced => Sys2Proof.Machine.execBraced s
  | .deadTimeEnd => Sys2Proof.Machine.execDeadTimeEnd s
  | .seenClear r => Sys2Proof.Machine.execSeenClear r s
  | .readmit r => Sys2Proof.Machine.execReadmit r s
  | .recStart r => Sys2Proof.Machine.execRecStart r s
  | .recoveryDone f => Sys2Proof.Machine.execRecoveryDone f s
  | .reserveDesignate => Sys2Proof.Machine.execReserveDesignate s
  | .frameReceive f => Sys2Proof.Machine.execFrameReceive f s
  | .arpRequest n v6 target mac ip => Sys2Proof.Machine.execArpRequest n v6 target mac ip s
  | .gatewayReply n v6 ip mac => Sys2Proof.Machine.execGatewayReply n v6 ip mac s
  | .neighRefresh n => Sys2Proof.Machine.execNeighRefresh n s
  | .netLinkUp n sig => Sys2Proof.Machine.execNetLinkUp n sig s
  | .netLinkDown n sig => Sys2Proof.Machine.execNetLinkDown n sig s
  | .get f => Sys2Proof.Machine.execGet f s
  | .getRange f => Sys2Proof.Machine.execGetRange f s
  | .put f => Sys2Proof.Machine.execPut f s
  | .putData f => Sys2Proof.Machine.execPutData f s
  | .stat f => Sys2Proof.Machine.execStat f s
  | .ack f => Sys2Proof.Machine.execAck f s
  | .credit f => Sys2Proof.Machine.execCredit f s
  | .wake f => Sys2Proof.Machine.execWake f s
  | .flowReadIssue idx => Sys2Proof.Machine.execFlowReadIssue idx s
  | .flowDataStaged idx => Sys2Proof.Machine.execFlowDataStaged idx s
  | .pacerSlot p => Sys2Proof.Machine.execPacerSlot p s
  | .unreadableEnd idx => Sys2Proof.Machine.execUnreadableEnd idx s
  | .stagingEvict => Sys2Proof.Machine.execStagingEvict s
  | .rtoExpire idx => Sys2Proof.Machine.execRtoExpire idx s
  | .flowIdleExpire idx => Sys2Proof.Machine.execFlowIdleExpire idx s
  | .putTmoExpire idx => Sys2Proof.Machine.execPutTmoExpire idx s
  | .putFinalResponse idx => Sys2Proof.Machine.execPutFinalResponse idx s
  | .indexSegWriteback => Sys2Proof.Machine.execIndexSegWriteback s
  | .purge r cls => Sys2Proof.Machine.execPurge r cls s
  | .reopen r cls => Sys2Proof.Machine.execReopen r cls s
  | .insert r => Sys2Proof.Machine.execInsert r s
  | .remove r => Sys2Proof.Machine.execRemove r s
  | .idxLoad r segs lost => Sys2Proof.Machine.execIdxLoad r segs lost s
  | .shareSend set cls slot q => Sys2Proof.Machine.execShareSend set cls slot q s
  | .putShard f => Sys2Proof.Machine.execPutShard f s
  | .shareHoldExpire iu => Sys2Proof.Machine.execShareHoldExpire iu s
  | .parityIuWritten iu => Sys2Proof.Machine.execParityIuWritten iu s
  | .shareResend id => Sys2Proof.Machine.execShareResend id s
  | .intentFlush => Sys2Proof.Machine.execIntentFlush s
  | .regionClean set cls region => Sys2Proof.Machine.execRegionClean set cls region s
  | .getShard f => Sys2Proof.Machine.execGetShard f s
  | .shardResponse f crcOk => Sys2Proof.Machine.execShardResponse f crcOk s
  | .hedgeExpire id pos => Sys2Proof.Machine.execHedgeExpire id pos s
  | .reconTmoExpire id => Sys2Proof.Machine.execReconTmoExpire id s
  | .epoch f => Sys2Proof.Machine.execEpoch f s
  | .epochBeat => Sys2Proof.Machine.execEpochBeat s
  | .epochIssue => Sys2Proof.Machine.execEpochIssue s
  | .parentSilent root => Sys2Proof.Machine.execParentSilent root s
  | .rootTakeover => Sys2Proof.Machine.execRootTakeover s
  | .hello f => Sys2Proof.Machine.execHello f s
  | .helloResponse f => Sys2Proof.Machine.execHelloResponse f s
  | .suspectProbeExpire m => Sys2Proof.Machine.execSuspectProbeExpire m s
  | .memberRemoveDue m => Sys2Proof.Machine.execMemberRemoveDue m s
  | .join r => Sys2Proof.Machine.execJoin r s
  | .joinBackoffEnd => Sys2Proof.Machine.execJoinBackoffEnd s
  | .seedTmoExpire => Sys2Proof.Machine.execSeedTmoExpire s
  | .leave r => Sys2Proof.Machine.execLeave r s
  | .setEnable r n v => Sys2Proof.Machine.execSetEnable r n v s
  | .load r hws ints recNo => Sys2Proof.Machine.execLoad r hws ints recNo s
  | .repair r set => Sys2Proof.Machine.execRepair r set s
  | .lossScan r set => Sys2Proof.Machine.execLossScan r set s
  | .backfill r set => Sys2Proof.Machine.execBackfill r set s
  | .lossEntryRead r hi => Sys2Proof.Machine.execLossEntryRead r hi s
  | .sqDoorbell y v => Sys2Proof.Machine.execSqDoorbell y v s
  | .cqDoorbell y v => Sys2Proof.Machine.execCqDoorbell y v s
  | .sqFetch sqe ranges => Sys2Proof.Machine.execSqFetch sqe ranges s
  | .ccEnable cc => Sys2Proof.Machine.execCcEnable cc s
  | .controllerReset cc => Sys2Proof.Machine.execControllerReset cc s
  | .shutdownNormal => Sys2Proof.Machine.execShutdownNormal s
  | .shutdownAbrupt => Sys2Proof.Machine.execShutdownAbrupt s
  | .nvmFlush id => Sys2Proof.Machine.execNvmFlush id s
  | .nvmWrite id list data poison err => Sys2Proof.Machine.execNvmWrite id list data poison err s
  | .nvmRead id list err => Sys2Proof.Machine.execNvmRead id list err s
  | .datasetManagement id err => Sys2Proof.Machine.execDatasetManagement id err s
  | .completionPost id => Sys2Proof.Machine.execCompletionPost id s
  | .createIoSq => Sys2Proof.Machine.execCreateIoSq s
  | .createIoCq => Sys2Proof.Machine.execCreateIoCq s
  | .deleteIoSq => Sys2Proof.Machine.execDeleteIoSq s
  | .deleteIoCq => Sys2Proof.Machine.execDeleteIoCq s
  | .getLogPage list => Sys2Proof.Machine.execGetLogPage list s
  | .identify list => Sys2Proof.Machine.execIdentify list s
  | .abort => Sys2Proof.Machine.execAbort s
  | .asyncEventRequest => Sys2Proof.Machine.execAsyncEventRequest s
  | .asyncEventReport => Sys2Proof.Machine.execAsyncEventReport s
  | .getFeatures list => Sys2Proof.Machine.execGetFeatures list s
  | .setArbitration => Sys2Proof.Machine.execSetArbitration s
  | .setPowerManagement tck => Sys2Proof.Machine.execSetPowerManagement tck s
  | .setTemperatureThreshold => Sys2Proof.Machine.execSetTemperatureThreshold s
  | .setNumberOfQueues => Sys2Proof.Machine.execSetNumberOfQueues s
  | .setInterruptCoalescing => Sys2Proof.Machine.execSetInterruptCoalescing s
  | .setIntVectorConfig => Sys2Proof.Machine.execSetIntVectorConfig s
  | .setWriteAtomicity => Sys2Proof.Machine.execSetWriteAtomicity s
  | .setAsyncEventConfig => Sys2Proof.Machine.execSetAsyncEventConfig s
  | .setApst data => Sys2Proof.Machine.execSetApst data s
  | .setTimestamp data => Sys2Proof.Machine.execSetTimestamp data s
  | .setQueueClass => Sys2Proof.Machine.execSetQueueClass s
  | .setClassControl => Sys2Proof.Machine.execSetClassControl s
  | .setBlockNamespaceSize => Sys2Proof.Machine.execSetBlockNamespaceSize s
  | .setBoardPowerCap => Sys2Proof.Machine.execSetBoardPowerCap s
  | .firmwareImageDownload data => Sys2Proof.Machine.execFirmwareImageDownload data s
  | .firmwareCommit other own => Sys2Proof.Machine.execFirmwareCommit other own s
  | .formatNvm => Sys2Proof.Machine.execFormatNvm s
  | .classDropAdmin => Sys2Proof.Machine.execClassDropAdmin s
  | .indexInsert data => Sys2Proof.Machine.execIndexInsert data s
  | .indexRemove data => Sys2Proof.Machine.execIndexRemove data s
  | .adminXfer r words list data => Sys2Proof.Machine.execAdminXfer r words list data s
  | .adminDone r status dnr => Sys2Proof.Machine.execAdminDone r status dnr s
  | .apstTransition tck => Sys2Proof.Machine.execApstTransition tck s
  | .miBasicRead code => Sys2Proof.Machine.execMiBasicRead code s
  | .linkUp speed width flit => Sys2Proof.Machine.execLinkUp speed width flit s
  | .linkDown => Sys2Proof.Machine.execLinkDown s
  | .hotReset => Sys2Proof.Machine.execHotReset s
  | .functionLevelReset => Sys2Proof.Machine.execFunctionLevelReset s
  | .perstNAssert => Sys2Proof.Machine.execPerstNAssert s
  | .retrain r speed width flit => Sys2Proof.Machine.execRetrain r speed width flit s
  | .l0pWidthChange byHost width => Sys2Proof.Machine.execL0pWidthChange byHost width s
  | .aspmL1Entry sub => Sys2Proof.Machine.execAspmL1Entry sub s
  | .configRequest write o be v => Sys2Proof.Machine.execConfigRequest write o be v s
  | .cfgReady r => Sys2Proof.Machine.execCfgReady r s
  | .cfgOpenTimeout => Sys2Proof.Machine.execCfgOpenTimeout s
  | .unsupportedRequest h0 h1 h2 h3 => Sys2Proof.Machine.execUnsupportedRequest h0 h1 h2 h3 s
  | .readCompletion tag status data => Sys2Proof.Machine.execReadCompletion tag status data s
  | .completionTimeout tag => Sys2Proof.Machine.execCompletionTimeout tag s
  | .tagHoldEnd tag => Sys2Proof.Machine.execTagHoldEnd tag s
  | .poisonedTlp tag data => Sys2Proof.Machine.execPoisonedTlp tag data s
  | .busMasterClear => Sys2Proof.Machine.execBusMasterClear s
  | .msixEnable => Sys2Proof.Machine.execMsixEnable s
  | .msixVectorUnmask vec => Sys2Proof.Machine.execMsixVectorUnmask vec s
  | .interruptDisable => Sys2Proof.Machine.execInterruptDisable s
  | .d3hotEntry => Sys2Proof.Machine.execD3hotEntry s
  | .d0Return => Sys2Proof.Machine.execD0Return s
  | .l2Entry => Sys2Proof.Machine.execL2Entry s
  | .governorRun r run => Sys2Proof.Machine.execGovernorRun r run s
  | .governorMode r mode => Sys2Proof.Machine.execGovernorMode r mode s
  | .bmcSetCap w p => Sys2Proof.Machine.execBmcSetCap w p s
  | .bmcSetInlet w p => Sys2Proof.Machine.execBmcSetInlet w p s
  | .bmcReadBoardPower => Sys2Proof.Machine.execBmcReadBoardPower s
  | .bmcReadPkgPower => Sys2Proof.Machine.execBmcReadPkgPower s
  | .traceArm r v => Sys2Proof.Machine.execTraceArm r v s
  | .traceTrigger r => Sys2Proof.Machine.execTraceTrigger r s
  | .sleepRequest who target tck => Sys2Proof.Machine.execSleepRequest who target tck s
  | .sleepRetry tck => Sys2Proof.Machine.execSleepRetry tck s
  | .drainTimeout => Sys2Proof.Machine.execDrainTimeout s
  | .corePark c => Sys2Proof.Machine.execCorePark c s
  | .parkTimeout => Sys2Proof.Machine.execParkTimeout s
  | .sleepStateReached => Sys2Proof.Machine.execSleepStateReached s
  | .wakeRecognised srcs => Sys2Proof.Machine.execWakeRecognised srcs s
  | .exitComplete => Sys2Proof.Machine.execExitComplete s
  | .dozeEnter => Sys2Proof.Machine.execDozeEnter s
  | .dozeExit => Sys2Proof.Machine.execDozeExit s
  | .domainSwitchOn r d mapOk up => Sys2Proof.Machine.execDomainSwitchOn r d mapOk up s
  | .domainSwitchOff r d => Sys2Proof.Machine.execDomainSwitchOff r d s
  | .domainOnTimeout d => Sys2Proof.Machine.execDomainOnTimeout d s
  | .pllUnlock p => Sys2Proof.Machine.execPllUnlock p s
  | .refClockLoss => Sys2Proof.Machine.execRefClockLoss s
  | .timeSet r => Sys2Proof.Machine.execTimeSet r s
  | .hsArm r => Sys2Proof.Machine.execHsArm r s
  | .hsMatch => Sys2Proof.Machine.execHsMatch s
  | .gpioEdge k level => Sys2Proof.Machine.execGpioEdge k level s
  | .regulatorGuard load => Sys2Proof.Machine.execRegulatorGuard load s
  | .brownout => Sys2Proof.Machine.execBrownout s
  | .stbyClr r => Sys2Proof.Machine.execStbyClr r s
  | .coldReset stby => Sys2Proof.Machine.execColdReset stby s
  | .railSequence r => Sys2Proof.Machine.execRailSequence r s
  | .railSlotEnd g settled peak => Sys2Proof.Machine.execRailSlotEnd g settled peak s
  | .railShort g sat peak => Sys2Proof.Machine.execRailShort g sat peak s
  | .railOvercurrent g peak => Sys2Proof.Machine.execRailOvercurrent g peak s
  | .railUndervoltage g peak => Sys2Proof.Machine.execRailUndervoltage g peak s
  | .railSleepUv g peak => Sys2Proof.Machine.execRailSleepUv g peak s
  | .railRetry g => Sys2Proof.Machine.execRailRetry g s
  | .railOff r mask => Sys2Proof.Machine.execRailOff r mask s
  | .railOffDone g => Sys2Proof.Machine.execRailOffDone g s
  | .railStuck g peak => Sys2Proof.Machine.execRailStuck g peak s
  | .reboot norMode maps facts => Sys2Proof.Machine.execReboot norMode maps facts s
  | .loadImage r kind f => Sys2Proof.Machine.execLoadImage r kind f s
  | .check r kind => Sys2Proof.Machine.execCheck r kind s
  | .verify r kind f => Sys2Proof.Machine.execVerify r kind f s
  | .token r => Sys2Proof.Machine.execToken r s
  | .provision r sel => Sys2Proof.Machine.execProvision r sel s
  | .advanceSvn r => Sys2Proof.Machine.execAdvanceSvn r s
  | .spiErase r err => Sys2Proof.Machine.execSpiErase r err s
  | .spiProgram r err => Sys2Proof.Machine.execSpiProgram r err s
  | .spiRead r err => Sys2Proof.Machine.execSpiRead r err s
  | .bootOk r => Sys2Proof.Machine.execBootOk r s
  | .ctlSeal r => Sys2Proof.Machine.execCtlSeal r s
  | .failSlot r => Sys2Proof.Machine.execFailSlot r s
  | .coreRelease r cores => Sys2Proof.Machine.execCoreRelease r cores s
  | .wdtHalf => Sys2Proof.Machine.execWdtHalf s
  | .wdtExpire => Sys2Proof.Machine.execWdtExpire s
  | .debugOpenExpire => Sys2Proof.Machine.execDebugOpenExpire s
  | .tapExtest nor => Sys2Proof.Machine.execTapExtest nor s
  | .tapSamplePreload => Sys2Proof.Machine.execTapSamplePreload s
  | .tapIdcode => Sys2Proof.Machine.execTapIdcode s
  | .tapChallenge => Sys2Proof.Machine.execTapChallenge s
  | .tapUnlock tok => Sys2Proof.Machine.execTapUnlock tok s
  | .tapDebug => Sys2Proof.Machine.execTapDebug s
  | .tapBypass => Sys2Proof.Machine.execTapBypass s
  | .mclLoad r c => Sys2Proof.Machine.execMclLoad r c s
  | .mclVerify r c => Sys2Proof.Machine.execMclVerify r c s
  | .mclPatch r => Sys2Proof.Machine.execMclPatch r s
  | .engineInterrupt c idx inputs facts => Sys2Proof.Machine.execEngineInterrupt c idx inputs facts s
  | .engineStop c idx cause addr more => Sys2Proof.Machine.execEngineStop c idx cause addr more s
  | .engineStopRequest c idx => Sys2Proof.Machine.execEngineStopRequest c idx s
  | .dmcInitDone n => Sys2Proof.Machine.execDmcInitDone n s
  | .dmcLive r n => Sys2Proof.Machine.execDmcLive r n s
  | .mrRead r n mr rank sub devs => Sys2Proof.Machine.execMrRead r n mr rank sub devs s
  | .mrWrite r n mr rank sub => Sys2Proof.Machine.execMrWrite r n mr rank sub s
  | .csTrain r n rank sub rep pass errs => Sys2Proof.Machine.execCsTrain r n rank sub rep pass errs s
  | .caTrain r n rank sub rep pass errs => Sys2Proof.Machine.execCaTrain r n rank sub rep pass errs s
  | .wlev r n rank sub rep pass errs => Sys2Proof.Machine.execWlev r n rank sub rep pass errs s
  | .rdGate r n rank sub rep pass errs => Sys2Proof.Machine.execRdGate r n rank sub rep pass errs s
  | .rdDq r n rank sub rep pass errs => Sys2Proof.Machine.execRdDq r n rank sub rep pass errs s
  | .wrDq r n rank sub rep pass errs => Sys2Proof.Machine.execWrDq r n rank sub rep pass errs s
  | .zq r n rank sub rep => Sys2Proof.Machine.execZq r n rank sub rep s
  | .dramFill r => Sys2Proof.Machine.execDramFill r s
  | .dramFillDone => Sys2Proof.Machine.execDramFillDone s
  | .dramAccess port addr len data poison => Sys2Proof.Machine.execDramAccess port addr len data poison s
  | .bucketRefill => Sys2Proof.Machine.execBucketRefill s
  | .dramRefresh n rank sub => Sys2Proof.Machine.execDramRefresh n rank sub s
  | .mr4Poll n hot => Sys2Proof.Machine.execMr4Poll n hot s
  | .writeTracking n lane rank sub v => Sys2Proof.Machine.execWriteTracking n lane rank sub v s
  | .alertNAssert n => Sys2Proof.Machine.execAlertNAssert n s
  | .selfRefreshEntry => Sys2Proof.Machine.execSelfRefreshEntry s
  | .selfRefreshExit => Sys2Proof.Machine.execSelfRefreshExit s
  | .dmaTailWrite r n idx => Sys2Proof.Machine.execDmaTailWrite r n idx s
  | .dmaStart r n => Sys2Proof.Machine.execDmaStart r n s
  | .dmaTrigger n => Sys2Proof.Machine.execDmaTrigger n s
  | .dmaAbort r n => Sys2Proof.Machine.execDmaAbort r n s
  | .descriptorStart n => Sys2Proof.Machine.execDescriptorStart n s
  | .descriptorComplete n => Sys2Proof.Machine.execDescriptorComplete n s
  | .dmaBusError n k write detail units => Sys2Proof.Machine.execDmaBusError n k write detail units s
  | .cipherDispatch units => Sys2Proof.Machine.execCipherDispatch units s
  | .unwrap r long dom slot => Sys2Proof.Machine.execUnwrap r long dom slot s
  | .generate r long use slot key healthy => Sys2Proof.Machine.execGenerate r long use slot key healthy s
  | .clear r slot => Sys2Proof.Machine.execClear r slot s
  | .vectorEncrypt r handle => Sys2Proof.Machine.execVectorEncrypt r handle s
  | .vectorDecrypt r handle => Sys2Proof.Machine.execVectorDecrypt r handle s
  | .uncorrectableRead cls inst req kind addr => Sys2Proof.Machine.execUncorrectableRead cls inst req kind addr s
  | .correctedError cls inst req sym addr => Sys2Proof.Machine.execCorrectedError cls inst req sym addr s
  | .memRecordRead r ue w => Sys2Proof.Machine.execMemRecordRead r ue w s
  | .injectArm r kind staging => Sys2Proof.Machine.execInjectArm r kind staging s
  | .injected port data => Sys2Proof.Machine.execInjected port data s
  | .faultMessage n => Sys2Proof.Machine.execFaultMessage n s
  | .fatalLine msgs => Sys2Proof.Machine.execFatalLine msgs s
  | .fwRaise c cls => Sys2Proof.Machine.execFwRaise c cls s
  | .faultAck r seq => Sys2Proof.Machine.execFaultAck r seq s
  | .escHalf => Sys2Proof.Machine.execEscHalf s
  | .escalationExpire => Sys2Proof.Machine.execEscalationExpire s
  | .limpRequest c => Sys2Proof.Machine.execLimpRequest c s
  | .firstSlotClear r slot => Sys2Proof.Machine.execFirstSlotClear r slot s
  | .ringRdWrite r pos => Sys2Proof.Machine.execRingRdWrite r pos s
  | .faultRecordRead r slot => Sys2Proof.Machine.execFaultRecordRead r slot s
  | .putShardResponse f => Sys2Proof.Machine.execPutShardResponse f s
  | .retryAfterExpire => Sys2Proof.Machine.execRetryAfterExpire s
  | .queryTmoExpire m => Sys2Proof.Machine.execQueryTmoExpire m s
  | .perstNRelease => Sys2Proof.Machine.execPerstNRelease s
  | .junctionTrip temp => Sys2Proof.Machine.execJunctionTrip temp s
  | .alertNDeassert n => Sys2Proof.Machine.execAlertNDeassert n s
  | .pllRelock p => Sys2Proof.Machine.execPllRelock p s
  | .railRampDone g => Sys2Proof.Machine.execRailRampDone g s
  | .railLimiterChange g on => Sys2Proof.Machine.execRailLimiterChange g on s
  | .featureOpComplete n id p ok => Sys2Proof.Machine.execFeatureOpComplete n id p ok s
  | .coalescingTimeExpire cq => Sys2Proof.Machine.execCoalescingTimeExpire cq s
  | .linkLayerError corr bit h0 h1 h2 h3 => Sys2Proof.Machine.execLinkLayerError corr bit h0 h1 h2 h3 s
  | .fecUncorrectableCodeword n => Sys2Proof.Machine.execFecUncorrectableCodeword n s
  | .tapReset => Sys2Proof.Machine.execTapReset s

end Sys2Proof.Machine
end

