-- ==== Sys2Proof/Machine/Flags.lean ====
section
/-! DEFINITION. The level values that the pages' event counters count (R585): which block values are levels, and when each is
active (R80, R125, R152, R184, R240, R282, R327, R363, R387, R412, R440, R463, R485, R506, R533, R570). -/

namespace Sys2Proof.Machine

open Sys2Proof

/-- A block value that its chapter lists with "level:". -/
def levelValue (b : Block) (v : Nat) : Bool :=
  match b with
  | .chan => decide (v = 0x15) || decide (v = 0x16)
  | .ftl | .rdp => decide (v = 0x19)
  | .plj | .net | .dma | .ciph => decide (v = 0x14) || decide (v = 0x15)
  | .ist => decide (v = 0x16)
  | .chv | .clk => decide (v = 0x11)
  | .tgn => decide (v = 0x18)
  | .nvm => decide (v = 0x16) || decide (v = 0x17)
  | .pci | .dmc => decide (0x15 ≤ v) && decide (v ≤ 0x17)
  | .esc => decide (0x13 ≤ v) && decide (v ≤ 0x18)
  | .pwr | .rail => decide (v = 0x12) || decide (v = 0x13)
  | .boot | .mcl => decide (v = 0x13)
  | .flt => decide (v = 0x14)
  | .ledger | .sys | .aon | .mem | .evc => false

/-- The level behind a block value is active now. -/
def State.levelNow (s : State) (b : Block) (n v : Nat) : Bool :=
  match b with
  | .chan =>
    if v = 0x15 then (s.chanSt n).ops.any (·.waited)
    else (s.chanSt n).ops.any fun o => decide (o.stage = .transfer) || decide (o.stage = .suspending)
  | .ftl => s.flag R.FTL_GC_STS_ACTIVE
  | .rdp => decide (256 ≤ (s.rdp.ladders.filter fun l => decide (3 ≤ l.step)).length)
  | .plj => if v = 0x14 then !s.plj.chunks.isEmpty else s.flag R.PLJ_JNL_STS_STALL
  | .ist => s.flag R.IST_STS_STAGE_LOW
  | .net => if v = 0x14 then s.flag (R.NET_LINK_STS_UP n) else (s.netSt n).hit
  | .chv => s.ist.flows.any fun f => decide (f.2.eng = n)
  | .tgn => s.contribFull || s.holdFull
  | .nvm => if v = 0x16 then s.fetchStop else s.nvm.cmds.any fun c => !s.lockActive c.1 c.2
  | .pci =>
    if v = 0x15 then
      !s.tagFree true && (List.range 32).any fun k => (s.dmaSt k).active.any fun j => j.code.isNone && j.d.hostRead.isSome && decide (j.asked < j.d.len)
    else if v = 0x16 then decide (5 ≤ s.get R.PCI_LINK_STS_LTSSM) && decide (s.get R.PCI_LINK_STS_LTSSM ≤ 7)
    else decide (s.get R.PCI_LINK_STS_L0P_WIDTH < s.get R.PCI_LINK_STS_WIDTH)
  | .esc =>
    if v = 0x13 then decide (s.rdQ R.ESC_U_OUT < 65536)
    else if v = 0x18 then s.flag R.ESC_STS_PINNED
    else decide (s.get R.ESC_STS_WINNER = v - 0x13)
  | .pwr => if v = 0x12 then decide (s.cur = 1) else s.flag R.PWR_STATE_ENTERING || s.flag R.PWR_STATE_EXITING
  | .clk => decide (s.cur = 0) || ledgerPages.any fun p => s.flag (hCLK_ON p.base0)
  | .rail => if v = 0x12 then s.flag R.RAIL_STS_LIMIT else s.anyRail fun x => decide (x = 1)
  | .boot => s.flag R.BOOT_SPI_CMD_GO || s.flag R.BOOT_CMD_GO
  | .mcl => s.flag R.MCL_CMD_GO
  | .dmc =>
    if v = 0x15 then false
    else if v = 0x16 then decide (s.dmcState n = 4)
    else s.flag R.DMC_FILL_CTL_GO && !s.mem.wait.isEmpty
  | .dma =>
    if v = 0x14 then !(s.dmaSt n).active.isEmpty
    else !s.tagFree true && (s.dmaSt n).active.any fun j => j.code.isNone && j.d.hostRead.isSome && decide (j.asked < j.d.len)
  | .ciph => if v = 0x14 then (List.range 8).all s.pipeBusy else !s.ciph.queue.isEmpty
  | .flt => !s.flt.pend.isEmpty
  | .ledger | .sys | .aon | .mem | .evc => false

/-- One selected counter of a page in one ck_ref cycle: `off` is the offset of its EVT_SEL and `w` the word there (R585). -/
def State.countCycle (s : State) (off : Nat) (w : Word) : State :=
  match findPage off with
  | none => s
  | some p =>
    let cnt := p.base + 0x20 + 2 * (off % 0x1000 - 0x10)
    let v := w.fld 0 8
    if !s.domSts p.domain then s
    else if v = 1 then s.addCount cnt 1
    else if levelValue p.row.block v then
      let on := s.levelNow p.row.block p.inst v
      let was := (s.evc.levels.find off).getD false
      let s := s.onEvc fun x => { x with levels := if on then x.levels.put off true else x.levels.del off }
      if on ∧ (w.bit 8 ∨ !was) then s.addCount cnt 1 else s
    else s

/-- The offset is one of an EVT_SEL register. -/
def isEvtSel (off : Nat) : Bool :=
  decide (0x10000 ≤ off) && decide (0x10 ≤ off % 0x1000) && decide (off % 0x1000 < 0x20)

/-- Every page counter in one ck_ref cycle. -/
def State.pageCycle (s : State) : State :=
  (s.regs.filter fun e => isEvtSel e.1).foldl (fun s (e : Nat × Word) => s.countCycle e.1 e.2) s

/-- The global counters that count the cycles of a level (R51, R585). -/
def State.globalCycle (s : State) : State :=
  (List.range 8).foldl (fun s k =>
    let src := s.get (R.EVC_GCNT_SEL_SRC k)
    if s.flag (R.EVC_GCNT_SEL_EN k) ∧ s.flag (R.EVC_GCNT_SEL_MODE k) ∧ isLevel src ∧ s.flag (levelRef src) then
      s.globalCount (fun i s => s.pulse i) src k
    else s) s

end Sys2Proof.Machine
end

