-- ==== Sys2Proof/Machine/Tick.lean ====
section
/-! DEFINITION. One cycle of ck_ref (40 ns), which passes while no command waits: time (R407 to R409), the counters that count
cycles (R585), the escalation timers (R561), the times of the SMART log (R304), and whatever else was due. -/

namespace Sys2Proof.Machine

open Sys2Proof

/-- An edge of ck_aon: the Hairspring counts, and device time that stood still starts again at the first edge after the wake
from NAP, and after REF25_IN is stable from DEEP (R398, R409). -/
def State.hsEdge (s : State) : State :=
  let s := (s.wr64 R.AON_HS_LO ((s.hs + 1) % 2 ^ 48)).evtB aonPage 0x10 1
  if s.pwr.step = .exit ∧ (s.pwr.target = 1 ∨ s.pwr.exitAt + 600000 ≤ s.now) then s.timeRestart else s

/-- The Hairspring's share of 40 ns: a tick is 1,953,125/64 ns. -/
def State.hsCycle (s : State) : State :=
  if 1953125 ≤ s.pwr.hsAcc + 2560 then (s.onPwr fun x => { x with hsAcc := x.hsAcc + 2560 - 1953125 }).hsEdge
  else s.onPwr fun x => { x with hsAcc := x.hsAcc + 2560 }

/-- Device time advances by 40 ns unless it stands still (R407). -/
def State.timeCycle (s : State) : State :=
  if s.pwr.stopped.isSome then s else s.wr64 R.AON_TIME_LO ((s.devTime + 40) % 2 ^ 64)

/-- The escalation timers (R561). -/
def State.escCycle (s : State) : State :=
  if s.cur < 2 ∧ !s.flag R.PWR_STATE_ENTERING ∧ !s.flag R.PWR_STATE_EXITING ∧ s.get R.PLJ_PF_STS_STATE = 0 then
    s.onFlt fun y => { y with pend := y.pend.map fun r => { r with used := r.used + 40 } }
  else s

/-- Messages on the fault links reach FLT, each in a ck_fab cycle of its own (R552). -/
def State.linksCycle : Nat → State → State
  | 0, s => s
  | n + 1, s =>
    match s.flt.links with
    | [] => s
    | m :: ms => State.linksCycle n (State.drainIn 4 ((s.onFlt fun y => { y with links := ms }).msgsArrive [m]))

/-- The times of the SMART log, in nanoseconds (R304). -/
def State.smartCycle (s : State) : State :=
  let s := if s.nvm.cmds.any (fun c => decide (c.2.sq ≠ 0)) then s.addSmart 96 40 else s
  let s := if s.cur = 3 then s else s.addSmart 128 40
  let s := if 358 ≤ s.compTemp then s.addSmart 192 40 else s
  if 368 ≤ s.compTemp then s.addSmart 196 40 else s

/-- The idle time of APST starts anew while a flow is live in content mode (R319). -/
def State.apstCycle (s : State) : State :=
  if s.boot.content ∧ !s.ist.flows.isEmpty then s.onNvm fun x => { x with idle := s.now } else s

/-- Level sources that are active with their pending bit clear, as auto-clear leaves it, set it again in the next cycle (R47,
R49). -/
def State.relevel (s : State) : State :=
  (levelSources ++ (List.range 32).map fun n => 195 + 4 * n).foldl (fun s k =>
    if s.flag (levelRef k) then s.pendSet k else s) s

/-- One cycle of ck_ref; in HALT time alone goes on (R565). -/
def State.tick (s : State) : State :=
  let s := { s with now := s.now + 40 }
  let s := s.hsCycle.timeCycle
  if s.flt.halt then s
  else
    let s := if s.cur < 2 then s.pageCycle.globalCycle else s
    let s := State.linksCycle 64 s.escCycle
    let s := (((s.smartCycle.apstCycle.aonLevels).cHigh).ceHigh).relevel.intaRefresh
    (s.ciphSettle.admitAll.settleAll).rebootWaiting

end Sys2Proof.Machine
end

