-- ==== Sys2Proof/Machine/Step.lean ====
section
/-! DEFINITION. One step of the block: the command at the front of the queue, or the block's own clock. -/

namespace Sys2Proof.Machine

open Sys2Proof

/-- The state without the command at the front of its queue. -/
def State.withRest (s : State) (rest : List Instr) : State := { s with pending := rest }

/-- One step: the front command is carried out on the state with the queue's rest; on an empty queue a cycle of the
block's own clock passes. -/
def step (s : State) : Host.Outcome State Fault Refusal :=
  match s.pending with
  | [] => .next s.tick
  | c :: rest => exec c (s.withRest rest)

/-- The state with the command that a word spells at the front of its queue; no row of the table gives bits, so no word
spells a command. -/
def State.withFetchWord (s : State) (nbits w : Nat) : State :=
  match decodeTableWord nbits w with
  | some c => { s with pending := c :: s.pending }
  | none => s

end Sys2Proof.Machine
end

