-- ==== Sys2Proof/Safety.lean ====
section
/-! DEFINITION. What the statements speak of: a running device, a write that its page accepts, the state that such a
write leaves before its block acts on it, and the frames of the operations that many commands share. -/

namespace Sys2Proof.Machine

open Sys2Proof

/-- The device is not in HALT, in which commands have no effect (R565, R566). -/
def State.running (s : State) : Bool := !s.flt.halt

/-- The commands that act in HALT: the supplies, the next step of the rail switch-off, and the TAP (R404, R420, R453, R565,
R566). -/
def actsInHalt : Instr → Bool
  | .coldReset _ | .brownout | .braceRailStep | .tapExtest _ | .tapSamplePreload | .tapIdcode | .tapChallenge
  | .tapUnlock _ | .tapDebug | .tapBypass | .tapReset => true
  | _ => false

/-- The commands that leave HALT (R566). -/
def leavesHalt : Instr → Bool
  | .coldReset _ | .brownout => true
  | _ => false

/-- The device is in HALT, and no command that leaves HALT waits. -/
def State.halted (s : State) : Bool := s.flt.halt && s.pending.all fun c => !leavesHalt c

/-- The state in which page `p` looks at an access: DOZE has ended, and the access is counted (R39, R390, R394). -/
def State.facing (s : State) (r : Requester) (p : PageAt) (o : Nat) : State := (s.leaveDoze.countAccess r p).touch p o

/-- The codes that a write of `v` to offset `o` of page `p` fails with (R6 to R9, R43, R44), the block's own among them. -/
def State.writeCodes (s : State) (chk : Checks) (r : Requester) (p : PageAt) (o : Nat) (v : Word) : List Nat :=
  let t := s.facing r p o
  t.accessChecks r p o (p.reg o) ++ t.headerChecks p o v ++ tableChecks p o (p.reg o) v
    ++ (if 0x80 ≤ o ∨ o = 4 then chk t r p o v else [])

/-- A word access to offset `o` of page `p` reaches the page and is served at once (R30, R36, R37, R340). -/
def State.serves (s : State) (r : Requester) (p : PageAt) (o : Nat) : Bool :=
  !(decide (r = .host) && (!s.memEn || s.pci.d3)) && decide (p.row.block ≠ .ledger)
    && decide (s.leaveDoze.gate p o = .served)

/-- A word write at a BAR2 offset is served by its page and passes every check, and the register is no held pair. -/
def State.accepts (s : State) (chk : Checks) (r : Requester) (off : Nat) (v : Word) : Bool :=
  match findPage off with
  | none => false
  | some p =>
    let o := off % 0x1000
    s.serves r p o && (firstCode (s.writeCodes chk r p o v)).isNone && (p.reg o).isSome
      && (match p.pair o with
          | some (_, true) => false
          | _ => true)

/-- The state once an accepted write has set the register's fields (R6), before its block acts on it. -/
def State.written (s : State) (r : Requester) (off : Nat) (v : Word) : State :=
  match findPage off with
  | none => s
  | some p =>
    let t := s.facing r p (off % 0x1000)
    match p.reg (off % 0x1000) with
    | none => t
    | some d =>
      let d := if off % 0x1000 = 4 ∧ p.row.always then { d with fields := d.fields.filter (fun f => f.lo ≠ 0) } else d
      t.wr off (d.apply (t.rd off) v)

/-- The word that a register holds when a write reaches it. -/
def State.wordBefore (s : State) (r : Requester) (off : Nat) : Word :=
  match findPage off with
  | none => s.rd off
  | some p => (s.facing r p (off % 0x1000)).rd off

/-- The page that holds a BAR2 offset, for the statements that name it. -/
def pageOf (off : Nat) : PageAt := (findPage off).getD ⟨⟨.ledger, 0, 0, 0, 0, 0, false, false, false⟩, 0, 0⟩

/-- A read at a BAR2 offset reaches its page, which serves it at once. -/
def State.readable (s : State) (r : Requester) (off : Nat) : Bool :=
  match findPage off with
  | none => false
  | some p => s.serves r p (off % 0x1000)

/-- The state after a served word read with its effects, the word sent out (R6, R39, R582). -/
def State.wordRead (s : State) (view : View) (reff : ReadEffect) (r : Requester) (off : Nat) : State :=
  let x := s.leaveDoze.serveRead view reff r (pageOf off) (off % 0x1000)
  x.2.emit (.readData r off x.1.toNat)

/-- A REGISTER_WRITE of the bytes to BAR2 answers a state; a host's access is also a wake event (R318, R340). -/
def State.answersWrite (s : State) (r : Requester) (off : Nat) (data : Bytes) (t : State) : Prop :=
  exec (.registerWrite r 1 off data) s = .next (if r = .host then t.wake 1 else t)

/-- REJECT of a page in `t` records a write at a page offset with a code, as R7 says, against the state in which the page met
the write; the register written holds what it held, unless it is PAGE_STS, REJECT or a counter of the page, which hardware
moves. -/
def State.recorded (u : State) (p : PageAt) (o c : Nat) (t : State) : Prop :=
  t.get (hREJ_OFFSET p.base) = o ∧ t.get (hREJ_CODE p.base) = c
    ∧ t.get (hREJ_COUNT p.base) = min 255 (u.get (hREJ_COUNT p.base) + 1)
    ∧ (o ≠ 8 → o ≠ 0xC → o < 0x20 ∨ 0x40 ≤ o → t.rd (p.base + o) = u.rd (p.base + o))

/-! ### Messages of the segment service -/

/-- The engine to which the message of a frame is steered (R201). -/
def State.heardBy (s : State) (f : Frame) : Nat := (s.frameCount f).steerEng f.from_ (Msg.ofBytes f.data)

/-- The payload of a message. -/
def Frame.payload (f : Frame) : Bytes := (f.data.drop 64).take (Msg.ofBytes f.data).len

/-- A frame whose message passes the steps of R195 up to its authentication: the sender's rights, and the state then. -/
def State.hears (s : State) (f : Frame) (r : Rights) (t : State) : Prop :=
  let m := Msg.ofBytes f.data
  let u := s.frameCount f
  let e := s.heardBy f
  s.netRx f.port.val = true ∧ u.frameReason f = none ∧ f.neigh = false ∧ 64 ≤ f.data.length ∧ m.ver = 1 ∧ m.op ≠ 14
    ∧ u.chvTakes e = true ∧ (m.isNew = true → u.get R.PLJ_PF_STS_STATE = 0) ∧ (m.data = true → m.len + 64 ≤ f.data.length)
    ∧ ((u.addCount (R.CHV_MSG_LO e) 1).evtB (chvPage e) 0x10 1).authenticate f.port.val e m f.data = (some r, t)

/-! ### Frames -/

/-- Two states with the same memories: DRAM, staging, SRAM, and what belongs to them. -/
def State.sameMem (s t : State) : Prop := t.mem = s.mem

/-- Every register outside the pages of `[lo, hi)` reads the same in both states. -/
def State.sameRegsOutside (s t : State) (lo hi : Nat) : Prop := ∀ off, off < lo ∨ hi ≤ off → t.rd off = s.rd off

/-- The hidden state of the flash side and of the journal is the same in both states. -/
def State.sameFlash (s t : State) : Prop :=
  t.chan = s.chan ∧ t.ftl = s.ftl ∧ t.plj = s.plj ∧ t.rdp = s.rdp ∧ t.done = s.done

/-- The hidden state of the host side is the same in both states. -/
def State.sameHost (s t : State) : Prop := t.nvm = s.nvm ∧ t.ist = s.ist ∧ t.tgn = s.tgn ∧ t.net = s.net

end Sys2Proof.Machine
end

