-- ==== Sys2Proof/WellFormed.lean ====
section
/-! DEFINITION. Which commands are well formed: the sizes that a bus, a link or a table of the spec gives their operands (R16,
R34, R84, R188, R286, R338). -/

namespace Sys2Proof

open Machine

/-- The size of BAR0 (0), BAR2 (1) and BAR4 (2) in bytes (R338). -/
def barSize (bar : Nat) : Nat := if bar = 0 then 2 ^ 16 else if bar = 1 then 2 ^ 26 else 2 ^ 14

/-- An access of at least one byte within a BAR. -/
def accessOk (bar off size : Nat) : Bool := decide (0 < size) && decide (off + size ≤ bar)

/-- An IU number of a namespace of the largest part: 512 TiB in units of 4 KiB (R84). -/
def iuOk (iu : Nat) : Bool := decide (iu < 2 ^ 37)

/-- Bytes that arrived have the length that was asked for. -/
def optLen (n : Nat) : Option Bytes → Bool
  | none => true
  | some b => decide (b.length = n)

/-- A frame's UDP payload fits its IP packet, and the packet fits the frame (R188, R191). -/
def Machine.Frame.wellFormed (f : Frame) : Bool :=
  decide (f.data.length + 28 ≤ f.ipLen) && decide (f.ipLen + 14 + 4 * f.tags.length ≤ f.size) && decide (f.size ≤ 65536)

/-- The command's operands have the sizes that the spec gives them. -/
def Instr.wellFormed : Instr → Bool
  | .registerWrite _ bar off data => accessOk (barSize bar.val) off data.length
  | .rcFieldRead _ bar off size => accessOk (barSize bar.val) off size
  | .counterPairRead _ off size => accessOk (barSize 1) off size && decide (size ≤ 8)
  | .counterPairWrite _ off data => accessOk (barSize 1) off data.length && decide (data.length ≤ 8)
  | .deadAccess _ off size _ => accessOk (barSize 1) off size && decide (size ≤ 8)
  | .readComplete _ _ data => decide (data.length ≤ 16 * 16384)
  | .mapLookup _ iu => iuOk iu
  | .relocateIu _ _ _ ius data => decide (data.length = 4096 * ius.length)
  | .codewordDecode _ _ _ data _ bits unsat => decide (data.length ≤ 4096) && decide (bits ≤ 36864) && decide (unsat ≤ 36864)
  | .parityRebuildDone _ _ data => decide (data.length ≤ 4096)
  | .frameReceive f => f.wellFormed
  | .get f => f.wellFormed
  | .getRange f => f.wellFormed
  | .put f => f.wellFormed
  | .putData f => f.wellFormed
  | .stat f => f.wellFormed
  | .ack f => f.wellFormed
  | .credit f => f.wellFormed
  | .wake f => f.wellFormed
  | .idxLoad _ segs _ => segs.all fun x => decide (x.2.2.length ≤ 4096)
  | .putShard f => f.wellFormed
  | .getShard f => f.wellFormed
  | .shardResponse f _ => f.wellFormed
  | .epoch f => f.wellFormed
  | .hello f => f.wellFormed
  | .helloResponse f => f.wellFormed
  | .sqFetch sqe ranges => optLen 64 sqe && decide (ranges.length ≤ 4096)
  | .nvmWrite _ _ data _ _ => decide (data.length % 4096 = 0)
  | .setApst data => optLen 256 data
  | .setTimestamp data => optLen 8 data
  | .readCompletion _ _ data => decide (data.length ≤ 4096)
  | .poisonedTlp _ data => decide (data.length ≤ 4096)
  | .tapExtest nor => match nor with
    | none => true
    | some x => decide (x.1.toNat + x.2.length ≤ 2 ^ 26)
  | .dramAccess _ addr len data _ => decide (addr.toNat + len ≤ 2 ^ 37) && optLen len data
  | .generate _ long _ _ key _ => decide (key.length = if long then 64 else 32)
  | .injected _ data => decide (data.length ≤ 64)
  | .fatalLine msgs => msgs.all fun m => decide (m.cls = .f)
  | .putShardResponse f => f.wellFormed
  | .junctionTrip temp => decide (temp < 128)
  | .heldAccessServed | .pageEnable .. | .pageDisable .. | .blockStartupEnd .. | .pageLock .. | .clockRequest ..
  | .idleClockRelease .. | .eventRaise .. | .pendClear .. | .snap .. | .swRaise .. | .discStart ..
  | .dieProbeDone .. | .tmoDisc .. | .opEnqueue .. | .opCancel .. | .diePick .. | .minRunReached ..
  | .dieSuspended .. | .programComplete .. | .eraseComplete .. | .opTimeout .. | .resetLunDone ..
  | .resetLunFail .. | .tempDue .. | .windowBoundary .. | .quiesceWrite .. | .fwResetLun .. | .fwReadId ..
  | .fwGetFeatures .. | .fwSetFeatures .. | .fwReadStatus .. | .fwRawRead .. | .mapUpdate .. | .puPlace ..
  | .idlePad .. | .verifyPassDone .. | .sbEraseStart .. | .gcVictimSelect | .gcScoreUpdate | .wearLevelRelocate
  | .classDrop .. | .sbClose .. | .sbRelocate .. | .sbRetire .. | .dieLost .. | .sbRecSnapshot ..
  | .ladderStep .. | .readDisturbCheck | .patrolRead | .weakPop .. | .uncRecordRead .. | .journalFlush
  | .journalChunkDone | .segmentWriteback | .pfAssert | .pfDeassert | .braceTailsWritten | .braceRailStep
  | .braced | .deadTimeEnd | .seenClear .. | .readmit .. | .recStart .. | .recoveryDone .. | .reserveDesignate
  | .arpRequest .. | .gatewayReply .. | .neighRefresh .. | .netLinkUp .. | .netLinkDown .. | .flowReadIssue ..
  | .flowDataStaged .. | .pacerSlot .. | .unreadableEnd .. | .stagingEvict | .rtoExpire .. | .flowIdleExpire ..
  | .putTmoExpire .. | .putFinalResponse .. | .indexSegWriteback | .purge .. | .reopen .. | .insert ..
  | .remove .. | .shareSend .. | .shareHoldExpire .. | .parityIuWritten .. | .shareResend .. | .intentFlush
  | .regionClean .. | .hedgeExpire .. | .reconTmoExpire .. | .epochBeat | .epochIssue | .parentSilent ..
  | .rootTakeover | .suspectProbeExpire .. | .memberRemoveDue .. | .join .. | .joinBackoffEnd | .seedTmoExpire
  | .leave .. | .setEnable .. | .load .. | .repair .. | .lossScan .. | .backfill .. | .lossEntryRead ..
  | .sqDoorbell .. | .cqDoorbell .. | .ccEnable .. | .controllerReset .. | .shutdownNormal | .shutdownAbrupt
  | .nvmFlush .. | .nvmRead .. | .datasetManagement .. | .completionPost .. | .createIoSq | .createIoCq
  | .deleteIoSq | .deleteIoCq | .getLogPage .. | .identify .. | .abort | .asyncEventRequest | .asyncEventReport
  | .getFeatures .. | .setArbitration | .setPowerManagement .. | .setTemperatureThreshold | .setNumberOfQueues
  | .setInterruptCoalescing | .setIntVectorConfig | .setWriteAtomicity | .setAsyncEventConfig | .setQueueClass
  | .setClassControl | .setBlockNamespaceSize | .setBoardPowerCap | .firmwareImageDownload ..
  | .firmwareCommit .. | .formatNvm | .classDropAdmin | .indexInsert .. | .indexRemove .. | .adminXfer ..
  | .adminDone .. | .apstTransition .. | .miBasicRead .. | .linkUp .. | .linkDown | .hotReset
  | .functionLevelReset | .perstNAssert | .retrain .. | .l0pWidthChange .. | .aspmL1Entry .. | .configRequest ..
  | .cfgReady .. | .cfgOpenTimeout | .unsupportedRequest .. | .completionTimeout .. | .tagHoldEnd ..
  | .busMasterClear | .msixEnable | .msixVectorUnmask .. | .interruptDisable | .d3hotEntry | .d0Return
  | .l2Entry | .governorRun .. | .governorMode .. | .bmcSetCap .. | .bmcSetInlet .. | .bmcReadBoardPower
  | .bmcReadPkgPower | .traceArm .. | .traceTrigger .. | .sleepRequest .. | .sleepRetry .. | .drainTimeout
  | .corePark .. | .parkTimeout | .sleepStateReached | .wakeRecognised .. | .exitComplete | .dozeEnter
  | .dozeExit | .domainSwitchOn .. | .domainSwitchOff .. | .domainOnTimeout .. | .pllUnlock .. | .refClockLoss
  | .timeSet .. | .hsArm .. | .hsMatch | .gpioEdge .. | .regulatorGuard .. | .brownout | .stbyClr ..
  | .coldReset .. | .railSequence .. | .railSlotEnd .. | .railShort .. | .railOvercurrent ..
  | .railUndervoltage .. | .railSleepUv .. | .railRetry .. | .railOff .. | .railOffDone .. | .railStuck ..
  | .reboot .. | .loadImage .. | .check .. | .verify .. | .token .. | .provision .. | .advanceSvn ..
  | .spiErase .. | .spiProgram .. | .spiRead .. | .bootOk .. | .ctlSeal .. | .failSlot .. | .coreRelease ..
  | .wdtHalf | .wdtExpire | .debugOpenExpire | .tapSamplePreload | .tapIdcode | .tapChallenge | .tapUnlock ..
  | .tapDebug | .tapBypass | .mclLoad .. | .mclVerify .. | .mclPatch .. | .engineInterrupt .. | .engineStop ..
  | .engineStopRequest .. | .dmcInitDone .. | .dmcLive .. | .mrRead .. | .mrWrite .. | .csTrain .. | .caTrain ..
  | .wlev .. | .rdGate .. | .rdDq .. | .wrDq .. | .zq .. | .dramFill .. | .dramFillDone | .bucketRefill
  | .dramRefresh .. | .mr4Poll .. | .writeTracking .. | .alertNAssert .. | .selfRefreshEntry | .selfRefreshExit
  | .dmaTailWrite .. | .dmaStart .. | .dmaTrigger .. | .dmaAbort .. | .descriptorStart ..
  | .descriptorComplete .. | .dmaBusError .. | .cipherDispatch .. | .unwrap .. | .clear .. | .vectorEncrypt ..
  | .vectorDecrypt .. | .uncorrectableRead .. | .correctedError .. | .memRecordRead .. | .injectArm ..
  | .faultMessage .. | .fwRaise .. | .faultAck .. | .escHalf | .escalationExpire | .limpRequest ..
  | .firstSlotClear .. | .ringRdWrite .. | .faultRecordRead .. | .retryAfterExpire | .queryTmoExpire ..
  | .perstNRelease | .alertNDeassert .. | .pllRelock .. | .railRampDone .. | .railLimiterChange ..
  | .featureOpComplete .. | .coalescingTimeExpire .. | .linkLayerError .. | .fecUncorrectableCodeword ..
  | .tapReset => true

end Sys2Proof
end

