-- ==== Sys2Proof/Certificates/Slice0/Obligations.lean ====
section
/-!
DEFINITION. The obligations: what the provers are asked to prove of this model.  Each is a
closed proposition about `exec`, `step` or `State.reset`; its docstring says what it states.
Every command of the table has its completion in one of them, and each family of
commands says what its next state holds.
-/

section Statements

set_option maxRecDepth 8000

open Sys2Proof Sys2Proof.Machine

/-- O1. For every command c and state s with c at the front of its queue, step of s is exec of c on s
with the queue's rest.  Cites: 00_scope.md, 95_what_each_step_holds.md. -/
def Obligations.StepRunsFrontCommand : Prop :=
  ∀ (s : State) (c : Instr) (rest : List Instr), s.pending = c :: rest → step s = exec c (s.withRest rest)

/-- O2. For every state with an empty queue, step answers the state after one ck_ref cycle. That an idle
step is a ck_ref cycle of 40 ns is the model's choice (log entry 4).  Cites:
12_clocks_power_time.md, R407, 95_what_each_step_holds.md. -/
def Obligations.EmptyQueueIsOneCycle : Prop :=
  ∀ s : State, s.pending = [] → step s = .next s.tick

/-- O3. At reset the queue of commands is empty, the device is not in HALT, the register table and the
memories are canonical and list nothing, SYS.DEV_ID reads 0x5A499640 and SYS.DEV_REV 2 in its
low byte, PWR.STATE is RUN, PLJ is IDLE without PFAIL, there is no LIMP, SYS records no reject,
every credit pool holds its start-up budget of 64 (R74), and the channels' operations, the NVMe
commands, the flows, the journal's entries, the fault links and the output are empty.  Cites:
02_register_pages.md, R45, 03_flash_channels.md, R74, 02_register_pages.md, SYS.DEV_ID and
SYS.DEV_REV. -/
def Obligations.ResetState : Prop :=
  State.reset.pending = [] ∧ State.reset.running = true
    ∧ SMap.wf resetWord State.reset.regs = true ∧ State.reset.regs = [] ∧ State.reset.mem.dram = [] ∧ State.reset.mem.sram = []
    ∧ Memory.wf State.reset.mem.dram = true ∧ Memory.wf State.reset.mem.sram = true
    ∧ State.reset.rd R.SYS_DEV_ID = 0x5A499640 ∧ (State.reset.rd R.SYS_DEV_REV).fld 0 8 = 0x02
    ∧ State.reset.get R.PWR_STATE_CUR = 0 ∧ State.reset.get R.PLJ_PF_STS_STATE = 0
    ∧ State.reset.flag R.PLJ_PF_STS_PFAIL = false ∧ State.reset.flag R.FLT_STS_LIMP = false
    ∧ State.reset.rd 0x1000C = 0
    ∧ (∀ g : Fin 8, State.reset.pool g.val = 64)
    ∧ (∀ n : Fin 32, (State.reset.chanSt n.val).ops = []) ∧ State.reset.nvm.cmds = [] ∧ State.reset.ist.flows = []
    ∧ State.reset.plj.ents = [] ∧ State.reset.flt.links = [] ∧ State.reset.out = []

/-- O4. In HALT every command other than a cold reset, a brown-out, a TAP instruction and the next step
of the rail switch-off is carried out without any effect.  Cites: 19_fault_handling.md, R565,
19_fault_handling.md, R566. -/
def Obligations.HaltStopsCommands : Prop :=
  ∀ (s : State) (c : Instr), s.running = false → actsInHalt c = false → exec c s = .next s

/-- O5. HALT with no cold reset and no brown-out waiting in the queue is kept by every step: the next
state is in HALT, its queue holds none either, and the fault side, the memories, the flash side
and the host side stay as they are.  Cites: 19_fault_handling.md, R565, 19_fault_handling.md,
R566. -/
def Obligations.HaltIsKept : Prop :=
  ∀ s t : State, s.halted = true → step s = .next t →
    t.halted = true ∧ t.flt = s.flt ∧ s.sameMem t ∧ s.sameFlash t ∧ s.sameHost t
      ∧ t.ciph = s.ciph ∧ t.dmc = s.dmc ∧ t.mcl = s.mcl ∧ t.sys = s.sys

/-- O6. A 4-byte write of a core or of the host to the register pages that its page serves and accepts
answers the state in which the register's fields are set by their access types and the block has
then acted on the write; a host's access is also a wake event. A write to the low or high word
of a counter pair is the same access.  Cites: 00_scope.md, R6, 02_register_pages.md, R34,
10_pcie_endpoint.md, R340. -/
def Obligations.RegisterWriteCompletes : Prop :=
  ∀ (s : State) (off : Nat) (v : Word), s.running = true → off % 4 = 0 →
    (∀ c : Fin 4, s.accepts regChecks (.core c) off v = true →
      exec (.registerWrite (.core c) 1 off (leBytes 4 v.toNat)) s
          = .next (regEffect (s.written (.core c) off v) (.core c) (pageOf off) (off % 0x1000) (s.wordBefore (.core c) off) v)
        ∧ exec (.counterPairWrite (.core c) off (leBytes 4 v.toNat)) s
          = exec (.registerWrite (.core c) 1 off (leBytes 4 v.toNat)) s)
    ∧ (s.accepts regChecks .host off v = true →
      exec (.registerWrite .host 1 off (leBytes 4 v.toNat)) s
        = .next ((regEffect (s.written .host off v) .host (pageOf off) (off % 0x1000) (s.wordBefore .host off) v).wake 1))

/-- O7. A 4-byte read of a core at natural alignment that its page serves answers the word the page
shows, with the read's effects: RC fields clear and the other word of a counter pair is latched
for the requester. A pair read is the same access. A read of 1 or 2 bytes of a served register
answers its bytes and leaves every register outside the page's counters as it is.  Cites:
00_scope.md, R6, 02_register_pages.md, R34, 02_register_pages.md, R582. -/
def Obligations.RegisterReadCompletes : Prop :=
  ∀ (s : State) (off : Nat) (c : Fin 4), s.running = true → s.readable (.core c) off = true →
    (off % 4 = 0 →
      exec (.rcFieldRead (.core c) 1 off 4) s = .next (s.wordRead regView regReadEffect (.core c) off)
        ∧ exec (.counterPairRead (.core c) off 4) s = .next (s.wordRead regView regReadEffect (.core c) off))
    ∧ (∀ size, (size = 1 ∨ size = 2 ∧ off % 2 = 0) →
        exec (.rcFieldRead (.core c) 1 off size) s
          = .next ((s.facing (.core c) (pageOf off) (off % 0x1000)).emit (.readData (.core c) off
              ((s.facing (.core c) (pageOf off) (off % 0x1000)).peek (.core c) (pageOf off) off size))))

/-- O8. A core's word write to an unmapped offset is discarded and recorded as kind 1, one to the Ledger
as kind 2, and one to a page whose domain is off as kind 0; DEAD_CNT counts each.  Cites:
02_register_pages.md, R36, 02_register_pages.md, R30. -/
def Obligations.DeadAccessesAreRecorded : Prop :=
  ∀ (s : State) (off : Nat) (c : Fin 4), s.running = true → off % 4 = 0 →
    (findPage off = none → exec (.deadAccess (.core c) off 4 true) s = .next (s.leaveDoze.deadAccess (.core c) off true 1))
    ∧ (∀ p, findPage off = some p → p.row.block = .ledger →
        exec (.deadAccess (.core c) off 4 true) s = .next (s.leaveDoze.deadAccess (.core c) off true 2))
    ∧ (∀ p, findPage off = some p → p.row.block ≠ .ledger → s.gate p (off % 0x1000) = .dead →
        exec (.deadAccess (.core c) off 4 true) s = .next (s.leaveDoze.deadAccess (.core c) off true 0))
    ∧ (s.leaveDoze.deadAccess (.core c) off true 1).get R.SYS_DEAD_ACC_KIND = 1
    ∧ (s.leaveDoze.deadAccess (.core c) off true 1).get R.SYS_DEAD_ACC_OFFSET = off % 2 ^ 26
    ∧ (s.leaveDoze.deadAccess (.core c) off true 1).get R.SYS_DEAD_CNT_CNT
        = satAdd (2 ^ 32 - 1) (s.leaveDoze.get R.SYS_DEAD_CNT_CNT) 1

/-- O9. A raised pulse source pulses and a raised level source takes its level; an accepted write to
SW_RAISE pulses source 512 + INDEX; an accepted write with SNAP set copies the eight global
counts; an accepted write of ones to PEND_w clears those bits, after which level sources that
are still active set theirs again and INTA follows.  Cites: 02_register_pages.md, R46,
02_register_pages.md, R47, 02_register_pages.md, R51. -/
def Obligations.EventCommandsComplete : Prop :=
  ∀ s : State, s.running = true →
    (∀ src : Fin 640, isLevel src.val = false → exec (.eventRaise src true) s = .next (s.pulse src.val))
    ∧ (∀ (src : Fin 640) (on : Bool), isLevel src.val = true → exec (.eventRaise src on) s = .next (s.setLevel src.val on))
    ∧ (∀ (r : Requester) (i : Fin 128), s.accepts evcChecks r R.EVC_SW_RAISE (BitVec.ofNat 32 i.val) = true →
        exec (.swRaise r i) s
          = .next ((s.written r R.EVC_SW_RAISE (BitVec.ofNat 32 i.val)).pulse (512 + i.val)))
    ∧ (∀ r : Requester, s.accepts evcChecks r R.EVC_EVC_CTL 1 = true →
        exec (.snap r) s = .next (s.written r R.EVC_EVC_CTL 1).snapshot)
    ∧ (∀ (r : Requester) (w : Fin 20) (v : Word), s.accepts evcChecks r (R.EVC_PEND w.val) v = true →
        exec (.pendClear r w v) s
          = .next ((s.written r (R.EVC_PEND w.val) v).repend w.val (s.wordBefore r (R.EVC_PEND w.val) &&& v)).intaRefresh)

/-- O10. Where the source's pending bit is 1 and no global counter counts the source, a pulse changes
nothing: no message, no output pulse, no counter (R47, R50). Where it is 0 and the route gives
neither a message nor an output pulse, the pulse sets it and changes nothing else. In both cases
the bit reads 1 after.  Cites: 02_register_pages.md, R47, 02_register_pages.md, R50. -/
def Obligations.PendingBitRules : Prop :=
  ∀ (s : State) (src : Nat), src < 640 →
    (∀ k < 8, s.flag (R.EVC_GCNT_SEL_EN k) = false) →
    (s.flag (pendRef src) = true → s.pulse src = s)
    ∧ (s.flag (pendRef src) = false → s.flag (R.EVC_ROUTE_PULSE_EN src) = false → s.flag (R.EVC_ROUTE_VEC_EN src) = false →
        s.pulse src = s.put (pendRef src) 1 ∧ (s.pulse src).flag (pendRef src) = true)

/-- O11. Whatever the counters, routes and modes, a pulse of a source changes no register outside the EVC
pages and PCI.INT_STS, no memory, and nothing of the flash side, the journal, the host queues,
the peers, the rails, the engines, the fault side, the power side, or the queue of commands.
Cites: 02_register_pages.md, R47, 02_register_pages.md, R49, 02_register_pages.md, R50,
02_register_pages.md, R51. -/
def Obligations.PulseFrame : Prop :=
  ∀ (s : State) (src : Nat), src < 640 →
    s.sameMem (s.pulse src) ∧ s.sameFlash (s.pulse src) ∧ s.sameHost (s.pulse src)
      ∧ (s.pulse src).flt = s.flt ∧ (s.pulse src).pwr = s.pwr ∧ (s.pulse src).rail = s.rail ∧ (s.pulse src).mcl = s.mcl
      ∧ (s.pulse src).boot = s.boot ∧ (s.pulse src).ciph = s.ciph ∧ (s.pulse src).dmc = s.dmc ∧ (s.pulse src).sys = s.sys
      ∧ (s.pulse src).now = s.now ∧ (s.pulse src).pending = s.pending
      ∧ ∀ off, off ≠ 0x1000A4 → (off < 0x3C0000 ∨ 0x3C3000 ≤ off) → (s.pulse src).rd off = s.rd off

/-- O12. On every channel an accepted DISC_CTL.START starts discovery, an accepted QUIESCE.MODE quiesces,
and an accepted FW_CTL.GO enters the FW operation that FW_OP holds: Reset LUN, Read ID, Get
Features, Set Features, Read Status, raw read. What follows in other blocks follows at once (log
entry 6).  Cites: 03_flash_channels.md, R55, 03_flash_channels.md, R60, 03_flash_channels.md,
R66, 03_flash_channels.md, R77. -/
def Obligations.ChannelRegisterCommandsComplete : Prop :=
  ∀ (s : State) (r : Requester) (n : Fin 32), s.running = true →
    (s.accepts chanChecks r (R.CHAN_DISC_CTL n.val) 1 = true →
      exec (.discStart r n) s = .next ((s.written r (R.CHAN_DISC_CTL n.val) 1).discStart n.val).settleAll)
    ∧ (∀ mode : BitVec 2, s.accepts chanChecks r (R.CHAN_QUIESCE n.val) (BitVec.ofNat 32 mode.toNat) = true →
      exec (.quiesceWrite r n mode) s
        = .next ((s.written r (R.CHAN_QUIESCE n.val) (BitVec.ofNat 32 mode.toNat)).quiesce n.val mode.toNat).settleAll)
    ∧ (∀ slot : BitVec 14,
        s.accepts chanChecks r (R.CHAN_FW_CTL n.val) (BitVec.ofNat 32 (1 + slot.toNat * 16)) = true →
        let t := (((s.written r (R.CHAN_FW_CTL n.val) (BitVec.ofNat 32 (1 + slot.toNat * 16))).fwGo n.val).settleAll)
        (s.get (R.CHAN_FW_OP_OPC n.val) = 0 → exec (.fwResetLun r n slot) s = .next t)
        ∧ (s.get (R.CHAN_FW_OP_OPC n.val) = 1 → exec (.fwReadId r n slot) s = .next t)
        ∧ (s.get (R.CHAN_FW_OP_OPC n.val) = 2 → exec (.fwGetFeatures r n slot) s = .next t)
        ∧ (s.get (R.CHAN_FW_OP_OPC n.val) = 3 → exec (.fwSetFeatures r n slot) s = .next t)
        ∧ (s.get (R.CHAN_FW_OP_OPC n.val) = 4 → exec (.fwReadStatus r n slot) s = .next t)
        ∧ (s.get (R.CHAN_FW_OP_OPC n.val) = 5 → exec (.fwRawRead r n slot) s = .next t))

/-- O13. Discovery: a probed die whose findings pass every check becomes ACTIVE, one that fails a check
EXCLUDED with the reason, one that does not answer within its time EXCLUDED with reason 9; then
the next die is probed. Operations: an operation of a requester enters the queue; an unissued
one is cancelled with code 4; the bus serves the next ready action; a read that waits suspends
its die's program or erase; a suspended die is marked so; data that have left the die complete
the read with code 0; a program or erase completes as the die says.  Cites:
03_flash_channels.md, R56, 03_flash_channels.md, R57, 03_flash_channels.md, R60,
03_flash_channels.md, R61, 03_flash_channels.md, R63, 03_flash_channels.md, R65,
03_flash_channels.md, R68, 03_flash_channels.md, R70. -/
def Obligations.ChannelEventsComplete : Prop :=
  ∀ (s : State) (n die : Fin 32), s.running = true →
    (∀ (f : DieFacts) (l : Nat), (s.chanSt n.val).probe = some l → f.signature = true → (f.crcOk = false ∨ l % 4 < f.luns) →
      s.dieCheck n.val f ≠ 0 →
      exec (.dieProbeDone n f) s
        = .next (((s.setDie n.val l 2).onDie n.val l fun d => { d with reason := s.dieCheck n.val f }).probeNext n.val (l + 1)).settleAll)
    ∧ (∀ (f : DieFacts) (l : Nat), (s.chanSt n.val).probe = some l → f.signature = true → l % 4 < f.luns → s.dieCheck n.val f = 0 →
      let d : DieSt := { DieSt.none_ with
        nosusp := !f.suspends, tempOk := f.temp.isSome, loopSet := s.flag (R.CHAN_LOOP_CFG_EN n.val) && f.loopOk
        tempDue := if f.temp.isSome then some s.now else none, stale := false }
      let t := (s.setDie n.val l 1).onDie n.val l fun _ => d
      (f.temp = none → exec (.dieProbeDone n f) s = .next (t.probeNext n.val (l + 1)).settleAll)
      ∧ (∀ p, f.temp = some p →
        exec (.dieProbeDone n f) s
          = .next (((t.tempSample n.val l (tempByte p (t.get (R.CHAN_TEMP_CFG_BIAS n.val)))).onDie n.val l
              fun d => { d with tempDue := some t.now }).probeNext n.val (l + 1)).settleAll))
    ∧ (∀ l : Nat, (s.chanSt n.val).probe = some l →
      exec (.tmoDisc n) s
        = .next (((s.setDie n.val l 2).onDie n.val l fun d => { d with reason := 9 }).probeNext n.val (l + 1)).settleAll)
    ∧ (∀ o : OpReq, o.die < 32 → o.fwOpc = none → exec (.opEnqueue n o) s = .next (s.opEnqueue n.val o).settleAll)
    ∧ (∀ (id : Nat) (o : ChanOp), s.chanOp n.val id = some o → o.stage = .queued →
      exec (.opCancel n id) s = .next ((s.opDone n.val o 4).refill n.val).settleAll)
    ∧ (∀ sensed : BitVec 32, s.enabled (chanPage n.val) = true → s.cur < 2 →
      exec (.diePick n sensed) s = .next (s.diePick State.progTag n.val sensed.toNat).2.settleAll)
    ∧ (∀ p : ChanOp, s.maySuspend n.val die.val = some p →
      exec (.minRunReached n die) s
        = .next ((s.setStage n.val p.id fun x => { x with stage := .suspending }).emit (.nandSuspend n.val p.req.die true)).settleAll)
    ∧ (∀ p : ChanOp, ((s.chanSt n.val).ops.find? fun o => decide (o.req.die = die.val) && decide (o.stage = .suspending)) = some p →
      exec (.dieSuspended n die) s
        = .next ((((s.setStage n.val p.id fun x => { x with stage := .suspended, susp := x.susp + 1 }).onDie n.val die.val fun d =>
            { d with suspReads := 0 }).evtB (chanPage n.val) 0x13 1).resume n.val die.val).settleAll)
    ∧ (∀ (id : Nat) (o : ChanOp) (data : Bytes), s.chanOp n.val id = some o → o.stage = .transfer → o.req.fwOpc = none →
        o.joined = false →
      exec (.readComplete n id data) s
        = .next ((((s.evtB (chanPage n.val) 0x10 (popcount 4 o.req.planes)).opDone n.val o 0).resume n.val o.req.die).refill n.val).settleAll)
    ∧ (∀ (id : Nat) (o : ChanOp) (fail : Option (BitVec 4)), s.chanOp n.val id = some o → o.stage = .running → o.req.isProg = true →
      exec (.programComplete n id fail) s = .next (s.peDone n.val o (fail.map (·.toNat))).settleAll)
    ∧ (∀ (id : Nat) (o : ChanOp) (fail : Option (BitVec 4)), s.chanOp n.val id = some o → o.stage = .running → o.req.isErase = true →
      exec (.eraseComplete n id fail) s = .next (s.peDone n.val o (fail.map (·.toNat))).settleAll)

/-- O14. An operation that overruns is recorded and answered with code 2, and its die is reset, or goes
OFFLINE where its last timeout was within 1 s; a die ready after Reset LUN keeps its state with
its loop limits set again, and one that is not ready goes OFFLINE; a temperature sample that is
due enters as a TEMP operation; a Read Status that ends on its die completes with code 0 and the
status in FW_DATA.  Cites: 03_flash_channels.md, R64, 03_flash_channels.md, R66,
03_flash_channels.md, R75. -/
def Obligations.ChannelTimeoutsComplete : Prop :=
  ∀ (s : State) (n die : Fin 32), s.running = true →
    (∀ (id : Nat) (o : ChanOp), s.chanOp n.val id = some o → o.stage = .running →
      let t := (s.failRecord n.val o.req 2 o.req.planes).evtB (chanPage n.val) 0x18 1
      let u := ((t.onDie n.val o.req.die fun d => { d with lastTmo := some t.now }).opDone n.val o 2).resetLun n.val o.req.die .timeout
      ((t.dieSt n.val o.req.die).lastTmo = none → exec (.opTimeout n id) s = .next (u.refill n.val).settleAll)
      ∧ (∀ w, (t.dieSt n.val o.req.die).lastTmo = some w → t.now ≤ w + 10 ^ 9 →
        exec (.opTimeout n id) s = .next (u.dieTimedOut n.val o.req.die).settleAll))
    ∧ (∀ loopOk : Bool, (s.dieSt n.val die.val).reset.isSome = true → s.fwOp n.val die.val 0 = none →
      exec (.resetLunDone n die loopOk) s
        = .next ((s.onDie n.val die.val fun d =>
            { d with reset := none, loopSet := s.flag (R.CHAN_LOOP_CFG_EN n.val) && loopOk }).refill n.val).settleAll)
    ∧ ((s.dieSt n.val die.val).reset.isSome = true → s.fwOp n.val die.val 0 = none →
      exec (.resetLunFail n die) s = .next (s.dieTimedOut n.val die.val).settleAll)
    ∧ (∀ t : Nat, s.flag (R.CHAN_TEMP_CFG_EN n.val) = true → (s.dieSt n.val die.val).tempOk = true →
      (s.dieSt n.val die.val).tempDue = some t → t ≤ s.now → s.dieState n.val die.val = 1 →
      ((s.chanSt n.val).ops.any fun o => decide (o.req.die = die.val) && decide (o.req.code = 6)) = false →
      exec (.tempDue n die) s
        = .next (s.opEnqueue n.val ⟨6, false, die.val, 0, 0, 0, 0, 0, false, [], .temp, []⟩).settleAll)
    ∧ (∀ (id : Nat) (o : ChanOp) (p : Word) (ok : Bool), s.chanOp n.val id = some o → o.stage = .running → o.req.code = 7 →
      o.req.use = .fw 4 →
      exec (.featureOpComplete n id p ok) s
        = .next (((s.wr (R.CHAN_FW_DATA n.val) (BitVec.ofNat 32 (p.fld 0 8))).opDone n.val o 0).refill n.val).settleAll)

/-- O15. PAGE_ENABLE, PAGE_DISABLE and PAGE_LOCK are writes of PAGE_CTL with EN 1, EN 0 and LOCK 1 beside
the other bits given: an accepted one sets the fields, and then the page's enable, disable and
clock rules and its block act on it.  Cites: 02_register_pages.md, R43, 02_register_pages.md,
R584. -/
def Obligations.PageControlCommandsComplete : Prop :=
  ∀ (s : State) (r : Requester) (page : Fin 16384) (v : Word), s.running = true →
    let off := 0x1000 * page.val + 4
    let after (w : Word) : State := regEffect (s.written r off w) r (pageOf off) 4 (s.wordBefore r off) w
    (s.accepts regChecks r off (v.setFld 0 1 1) = true → exec (.pageEnable r page v) s = .next (after (v.setFld 0 1 1)))
    ∧ (s.accepts regChecks r off (v.setFld 0 1 0) = true → exec (.pageDisable r page v) s = .next (after (v.setFld 0 1 0)))
    ∧ (s.accepts regChecks r off (v.setFld 8 1 1) = true → exec (.pageLock r page v) s = .next (after (v.setFld 8 1 1)))

/-- O16. A block whose domain is on and whose PLL is locked gets its fast clock when it asks in RUN, and
its page counts the grant; a block without work for 2^IDLE_HOLD microseconds under the on-demand
policy releases it; a page whose block has done what ends its start-up reads RUNNING 1, its
engines at word 1; a clock request in DOZE also ends DOZE; the oldest held access that can be
served leaves the queue of held accesses and is served.  Cites: 12_clocks_power_time.md, R390,
12_clocks_power_time.md, R394, 02_register_pages.md, R584, 02_register_pages.md, R37. -/
def Obligations.ClockAndStartUpComplete : Prop :=
  ∀ (s : State) (page : Fin 16384) (p : PageAt), s.running = true → pageNo page = some p →
    (∀ d, p.clock = some d → s.cur = 0 → s.domSts p.domain = true → s.get (hCKREQ p.base0) ≠ 2 → s.flag (hCLK_ON p.base0) = false →
      ((clockPll d).any fun k => s.pwr.unlocked.contains k) = false →
      exec (.clockRequest page) s = .next (((s.put (hCLK_ON p.base0) 1).touch p 0x80).evtB clkPage 0x10 1))
    ∧ (p.clock.isSome = true → s.cur = 1 → 
      exec (.clockRequest page) s = .next ((s.put R.PWR_STATE_CUR 0).clockGrant p))
    ∧ (p.clock.isSome = true → s.flag (hCLK_ON p.base0) = true → s.get (hCKREQ p.base0) = 0 → s.blockBusy p = false →
      (s.pwr.lastWork.find p.base0).getD 0 + 1000 * 2 ^ s.get (hIDLE_HOLD p.base0) ≤ s.now →
      exec (.idleClockRelease page) s = .next (s.put (hCLK_ON p.base0) 0))
    ∧ (p.row.always = false → s.enabled p.base0 = true → s.flag (hRUNNING p.base0) = false → s.domSts p.domain = true → s.cur < 2 →
      s.startupOver p = true → p.row.block ≠ .chan →
      exec (.blockStartupEnd page) s
        = .next ((p.engines.foldl (fun s e =>
            s.setEng e.1 e.2 { s.engSt e.1 e.2 with pc := 1, stack := [], vec := none, clocks := 0 }) s).put (hRUNNING p.base0) 1))
    ∧ (p.row.always = false → s.enabled p.base0 = true → s.flag (hRUNNING p.base0) = false → s.domSts p.domain = true → s.cur < 2 →
      s.startupOver p = true → p.row.block = .chan →
      exec (.blockStartupEnd page) s
        = .next (((s.setEng 1 p.inst { s.engSt 1 p.inst with pc := 1, stack := [], vec := none, clocks := 0 }).lunResets
            p.inst).put (hRUNNING p.base0) 1))
    ∧ (∀ a, s.sys.held.find? s.heldReady = some a →
      exec .heldAccessServed s = .next ((s.leaveDoze.onSys fun x => { x with held := x.held.erase a }).serveHeld a))

/-- O17. A lookup beyond the map answers out of range, one within it answers the entry read; a map change
that the journal takes is applied; a PU whose class may take it is placed; an OPEN superblock
idle for IDLE_PAD minutes is padded; a verified pass moves a CLOSING superblock to VERIFIED,
counts it, notes its hour and evaluates what waited for it, and a failed one moves it to
RELOCATING with VFY_FAIL and source 322; a FREE superblock that nothing holds has its members
erased; the score clock takes the present minute and changes nothing else.  Cites:
04_placement_translation.md, R85, 04_placement_translation.md, R87, 04_placement_translation.md,
R97, 04_placement_translation.md, R100, 04_placement_translation.md, R104,
04_placement_translation.md, R111, 04_placement_translation.md, R116. -/
def Obligations.MapAndPlacementCommandsComplete : Prop :=
  ∀ s : State, s.running = true →
    (∀ (ns : Fin 2) (iu : Nat), let t := s.evtB 0x240000 0x17 1
      (t.mapCap ns.val ≤ iu → exec (.mapLookup ns iu) s = .next (t.emit (.mapEntry ns.val iu none)))
      ∧ (∀ (e : Nat) (u : State), iu < t.mapCap ns.val → t.mapRead ns.val iu = (some e, u) →
        exec (.mapLookup ns iu) s = .next ((u.entryOk ns.val e).2.emit (.mapEntry ns.val iu (some (u.entryOk ns.val e).1)))))
    ∧ (∀ u : MapUpd, s.jnlStall = false → s.ftl.stalled = [] → exec (.mapUpdate u) s = .next (s.mapApply u).settleAll)
    ∧ (∀ u : PuReq, (u.host = true → u.cls < 64 ∧ s.flag (R.FTL_CLASS_CTL_WRITABLE u.cls) = true) →
      exec (.puPlace u) s = .next (s.place u).settleAll)
    ∧ (∀ k : Nat, (s.sb k).state = 1 → (s.sb k).use ≠ 3 → s.calm = true →
      (s.sb k).lastWrite + 60 * 10 ^ 9 * s.get R.FTL_OPEN_CFG_IDLE_PAD ≤ s.now →
      exec (.idlePad k) s = .next (s.sbPad k).settleAll)
    ∧ (∀ k : Nat, (s.sb k).state = 2 → s.calm = true →
      let t := (((s.sbMove k { s.sb k with state := 3, vfyFail := false }).evtB 0x240000 0x15 1).setHour k 0).lateRelease
      let u := t.onRdp fun x => { x with heldRd := x.heldRd.filter (· ≠ k) }
      ((s.sb k).vfyBad = false → t.rdp.heldRd.contains k = true →
        exec (.verifyPassDone k true) s = .next (u.rdTrigger k 0).settleAll)
      ∧ ((s.sb k).vfyBad = false → t.rdp.heldRd.contains k = false →
        exec (.verifyPassDone k true) s = .next (u.sbCheck k).settleAll)
      ∧ exec (.verifyPassDone k false) s
        = .next (((s.sbMove k { s.sb k with state := 4, vfyFail := true }).pulse 322).sbCheck k).settleAll)
    ∧ (∀ k : Nat, s.calm = true → s.sbExists k = true → (s.sb k).state = 0 → (s.sb k).erased = false → (s.sb k).reads = 0 →
      (s.sb k).erasing = 0 → (s.sb k).freeSeq ≤ s.rd64 R.PLJ_FLUSHED_LO → s.groupHolds k = false → s.ftl.drop = none →
      let t := s.repairAll k
      (t.sb k).state ≠ 5 →
      exec (.sbEraseStart k) s
        = .next (((t.members k).foldl (fun s m => s.eraseMember k m)
            (t.setSb k { t.sb k with erasing := (t.members k).length })).settleAll))
    ∧ exec .gcScoreUpdate s = .next { s with ftl := { s.ftl with scoreMin := s.secs / 60 } }

/-- O18. Garbage collection takes a superblock that failed its verify first and then the best scored
candidate; a relocated position's IUs move; wear levelling takes the VERIFIED superblock of
lowest PE when the spread is exceeded; the accepted commands CLASS_DROP, SB_CLOSE, SB_RELOCATE,
SB_RETIRE and DIE_LOST take effect and end with RESULT 0 (CLASS_DROP starts the drop), and a die
that goes OFFLINE is scanned; a read of SB_REC_0 answers the record.  Cites:
04_placement_translation.md, R92, 04_placement_translation.md, R93, 04_placement_translation.md,
R108, 04_placement_translation.md, R110, 04_placement_translation.md, R112,
04_placement_translation.md, R114, 04_placement_translation.md, R117. -/
def Obligations.RelocationAndFtlCommandsComplete : Prop :=
  ∀ s : State, s.running = true →
    (let t := s.gcRefresh
     t.calm = true → t.flag R.FTL_GC_STS_ACTIVE = true → t.ftl.victim = none →
      (∀ e, ((t.sbsIn 4).filter fun e => e.2.vfyFail && decide (e.2.cls ≠ 66)).head? = some e →
        exec .gcVictimSelect s = .next (t.onFtl fun x => { x with victim := some e.1 }).settleAll)
      ∧ (∀ k, ((t.sbsIn 4).filter fun e => e.2.vfyFail && decide (e.2.cls ≠ 66)) = [] → t.gcVictim = some k →
        exec .gcVictimSelect s = .next ((t.sbRelocate k).onFtl fun x => { x with victim := some k }).settleAll))
    ∧ (∀ (k p : Nat) (ns : Fin 2) (ius : List (Option Nat)) (data : Bytes), (s.sb k).state = 4 → p < (s.sb k).wptr →
      (s.sb k).cls ≠ 66 → s.calm = true → exec (.relocateIu k p ns ius data) s = .next (s.moveIus k p ns.val ius data).settleAll)
    ∧ (∀ k : Nat, s.calm = true → s.flag R.FTL_WL_CFG_EN = true → s.get R.FTL_GC_CFG2_FREE_CRIT ≤ s.freeCount →
      s.get R.FTL_WL_CFG_SPREAD < s.peStats.2.2.2 - s.peStats.2.2.1 → s.ftl.wl = none →
      s.lowestPe (((s.sbsIn 3).filter fun e => decide (e.2.cls ≠ 66)).map (·.1)) = some k →
      exec .wearLevelRelocate s = .next ((s.sbRelocate k).onFtl fun x => { x with wl := some k }).settleAll)
    ∧ (∀ (r : Requester) (cls : BitVec 7), s.accepts ftlChecks r R.FTL_CMD (BitVec.ofNat 32 (17 + cls.toNat * 256)) = true →
      let t := s.written r R.FTL_CMD (BitVec.ofNat 32 (17 + cls.toNat * 256))
      cls.toNat < 64 → t.flag (R.FTL_CLASS_CTL_WRITABLE cls.toNat) = false → t.ftl.drop = none →
      exec (.classDrop r cls) s
        = .next (((t.put (R.FTL_CLASS_STS_DROPPING cls.toNat) 1).onFtl fun x =>
            { x with drop := some (cls.toNat, none) }).dropStep).settleAll)
    ∧ (∀ r : Requester,
      (s.accepts ftlChecks r R.FTL_CMD 18 = true →
        let t := s.written r R.FTL_CMD 18
        let k := t.get R.FTL_CMD_ARG_TARGET
        t.sbExists k = true → (t.sb k).state = 1 → exec (.sbClose r) s = .next ((t.sbPad k).ftlCmdEnd 0).settleAll)
      ∧ (s.accepts ftlChecks r R.FTL_CMD 19 = true →
        let t := s.written r R.FTL_CMD 19
        let k := t.get R.FTL_CMD_ARG_TARGET
        t.sbExists k = true → (t.sb k).state = 3 → (t.sb k).cls ≠ 66 →
          exec (.sbRelocate r) s = .next ((t.sbRelocate k).ftlCmdEnd 0).settleAll)
      ∧ (s.accepts ftlChecks r R.FTL_CMD 20 = true →
        let t := s.written r R.FTL_CMD 20
        let k := t.get R.FTL_CMD_ARG_TARGET
        let u := t.sbMove k { t.sb k with state := 5, erased := false }
        t.sbExists k = true → (t.sb k).state = 0 →
          exec (.sbRetire r) s
            = .next ((((((t.members k).filter fun m => !t.memberBad m).foldl (fun s m =>
                s.setOwner (32 * m.1 + m.2.1) m.2.2 k 2) u).pulse 324).lifeUpdate).ftlCmdEnd 0).settleAll)
      ∧ (s.accepts ftlChecks r R.FTL_CMD 21 = true →
        let t := s.written r R.FTL_CMD 21
        let d := t.get R.FTL_CMD_ARG_TARGET % 1024
        t.dieState (d / 32) (d % 32) ≠ 0 →
          ∀ x, exec (.dieLost (some r) x) s = .next ((t.dieLost d).ftlCmdEnd 0).settleAll)
      ∧ (s.readable r (R.FTL_SB_REC 0) = true →
        exec (.sbRecSnapshot r) s = .next (s.wordRead ftlView ftlReadEffect r (R.FTL_SB_REC 0))))
    ∧ (∀ d : Fin 1024, s.dieState (d.val / 32) (d.val % 32) = 3 → exec (.dieLost none d) s = .next (s.dieLost d.val).settleAll)

/-- O19. A codeword outside a ladder whose syndrome is zero and whose CRC-32C over its data and its PSA
matches is counted, judged and delivered; one that fails enters a ladder. A ladder below its
last retry enters the next retry of step 2. A parity rebuild of a ladder at step 4 that succeeds
resolves it and writes the data back; a failed one leaves the ladder at step 4 for its next
step; a rebuild owed to a failed program is written back, or its entries become LOST or REMOTE.
The oldest disturb check owed runs. Patrol reads the next codewords of the superblock it is in.
Reads of WEAK and of the UNC record answer them with their effects.  Cites: 05_read_path_ecc.md,
R126, 05_read_path_ecc.md, R135, 05_read_path_ecc.md, R136, 05_read_path_ecc.md, R139,
05_read_path_ecc.md, R146, 05_read_path_ecc.md, R147, 05_read_path_ecc.md, R148,
05_read_path_ecc.md, R150. -/
def Obligations.ReadPathCommandsComplete : Prop :=
  ∀ s : State, s.running = true →
    (∀ (psa : BitVec 37) (soft syn : Bool) (data : Bytes) (crc : Word) (bits unsat i : Nat) (c : CwRead),
      (s.rdp.cws.zipIdx.find? fun c => decide (c.1.psa = psa.toNat)) = some (c, i) → c.ladder = none →
      let t := (s.onRdp fun x => { x with cws := x.cws.eraseIdx i }).evtB 0x280000 (if soft then 0x11 else 0x10) 1
      (syn = true → crc.toNat = crc32c (data ++ leBytes 8 psa.toNat) →
        exec (.codewordDecode psa soft syn data crc bits unsat) s
          = .next ((((t.countSuccess c.entry 0).stepCount 1).judge c.who (min 4095 bits) 1).deliver c.who psa.toNat (some data)).settleAll)
      ∧ (∀ h, c.who = .nvm h → (syn = false ∨ crc.toNat ≠ crc32c (data ++ leBytes 8 psa.toNat)) →
        exec (.codewordDecode psa soft syn data crc bits unsat) s = .next (t.ladderEnter c unsat).settleAll))
    ∧ (∀ (psa : BitVec 37) (l : Ladder), s.ladderAt psa.toNat = some l → l.busy = false → l.step ≤ 2 →
      l.sub < s.get R.RDP_CFG_MAX_RETRY →
      exec (.ladderStep psa) s
        = .next (((s.setLadder { l with step := 2, sub := l.sub + 1, tried := l.tried ||| 2, busy := true }).issueRead
            (l.who.headD .firmware) (some l.id) l.psa 1 (l.sub + 1) 0)).settleAll)
    ∧ (∀ (psa : BitVec 37) (data : Bytes) (l : Ladder),
      (s.rdp.ladders.find? fun l => decide (l.psa = psa.toNat) && decide (l.step = 4) && l.busy) = some l →
      exec (.parityRebuildDone psa true data) s
          = .next ((s.ladderOk l 4 0 ((data.drop (4096 * (psa.toNat % 16))).take 4096)).rebuiltWrite (s.sbOf psa.toNat)
              (s.posOf psa.toNat) data).settleAll
        ∧ exec (.parityRebuildDone psa false data) s = .next (s.setLadder { l with busy := false }).settleAll)
    ∧ (∀ (psa : BitVec 37) (data : Bytes),
      (s.rdp.ladders.find? fun l => decide (l.psa = psa.toNat) && decide (l.step = 4) && l.busy) = none →
      s.ftl.repairs.contains (s.sbOf psa.toNat, s.posOf psa.toNat) = true →
      let t := s.onFtl fun x => { x with repairs := x.repairs.filter (· ≠ (s.sbOf psa.toNat, s.posOf psa.toNat)) }
      exec (.parityRebuildDone psa true data) s
          = .next (t.rebuiltWrite (s.sbOf psa.toNat) (s.posOf psa.toNat) data).settleAll
        ∧ exec (.parityRebuildDone psa false data) s = .next (t.loseP (s.sbOf psa.toNat) (s.posOf psa.toNat)).settleAll)
    ∧ (∀ d b c cs, s.calm = true → s.rdp.checks = (d, b, c) :: cs →
      let t := (s.onRdp fun x => { x with checks := cs }).evtB 0x280000 0x18 1
      1024 * t.get R.RDP_RD_CFG_LIMIT ≤ c →
      exec .readDisturbCheck s = .next (t.rdTrigger (t.owner d b % 2 ^ 20) 0).settleAll)
    ∧ (let k := s.get R.RDP_PAT_STS_SBID
       let p := s.rdp.patPos
       let n := min (16 - p % 16) ((s.get R.RDP_PAT_CFG_RATE * 6400 - s.rdp.patBytes) / 4096)
       s.flag R.RDP_PAT_CFG_EN = true → s.calm = true → s.flag R.RDP_PAT_STS_ACTIVE = true → (s.sb k).state = 3 →
       p < 16 * (s.sb k).wptr → n ≠ 0 →
       let t := s.onRdp fun x => { x with patPos := p + n, patBytes := x.patBytes + 4096 * n }
       exec .patrolRead s
         = .next ((t.evtB 0x280000 0x17 n).issueRead (.patrol k) none (t.posPsa k (p / 16) + p % 16) n 0 0).settleAll)
    ∧ (∀ r : Requester, s.readable r R.RDP_WEAK = true →
      exec (.weakPop r) s = .next (s.wordRead rdpView rdpReadEffect r R.RDP_WEAK))
    ∧ (∀ (r : Requester) (w : Fin 3), s.readable r (R.RDP_UNC_PSA_LO + 4 * w.val) = true →
      exec (.uncRecordRead r w) s = .next (s.wordRead rdpView rdpReadEffect r (R.RDP_UNC_PSA_LO + 4 * w.val)))

/-- O20. A due flush starts and its chunks are tried; a chunk programmed without failure leaves the
queue, its superblock notes its last sequence number, its entries count as flushed, waiting map
changes go on, and the next flush is looked for; a failed one is programmed again elsewhere; up
to three due segments are written back; a due reserve is designated; an accepted REC_CTL.START
clears the recovery's record and begins at step 1; recovery's end rebuilds from what it found,
and an unclean one counts in the SMART log.  Cites: 06_brace_and_journal.md, R158,
06_brace_and_journal.md, R160, 06_brace_and_journal.md, R168, 06_brace_and_journal.md, R177,
06_brace_and_journal.md, R180. -/
def Obligations.JournalCommandsComplete : Prop :=
  ∀ s : State, s.running = true →
    (s.flushDue = true → exec .journalFlush s = .next ((s.flushStart 0).chunkRetry false).settleAll)
    ∧ (∀ c : ChunkJob, (s.plj.chunks.find? fun c => c.result.isSome) = some c → c.result = some true → c.pos = none →
      let t := (s.setChunks false (s.plj.chunks.filter fun x => x.no ≠ c.no)).sbHidden 0 fun r =>
        { r with lastSeq := c.ents.foldl (fun a e => max a e.seq) r.lastSeq }
      let u := ((t.entsFlushed c.ents).evtB pljPage 0x11 1).stallRefresh
      exec .journalChunkDone s = .next (u.unstall u.ftl.stalled.length).flush.settleAll)
    ∧ (∀ (c : ChunkJob) (k p : Nat), (s.plj.chunks.find? fun c => c.result.isSome) = some c → c.result = some false →
      c.pos = some (k, p) →
      let t := s.updChunk false c.no fun x => { x with pos := none, result := none }
      (t.sb k).state = 1 →
      exec .journalChunkDone s = .next (((t.sbClose k true).setLogPage false 0).chunkRetry false).settleAll)
    ∧ (∀ ds x r u, s.calm = true → s.enabled pljPage = true → s.wbDue.take 3 = ds → ds ≠ [] → State.segLoad ds s = (some r, u) →
      r.getLast? = some x →
      let r3 := (r ++ [x, x]).take 3
      let t := (u.onPlj fun x => { x with dirty := x.dirty.drop ds.length }).evtB pljPage 0x12 ds.length
      exec .segmentWriteback s
        = .next (t.place ⟨7, 0, 65, [], false, [], none, false, [], r3.map (·.1.seg) ++ r3.map (·.1.seq),
            (r3.flatMap (·.2)) ++ mapTrailer r3, .nobody⟩).settleAll)
    ∧ (s.reserveDue = true → exec .reserveDesignate s = .next s.designate.settleAll)
    ∧ (∀ r : Requester, s.accepts pljChecks r R.PLJ_REC_CTL 1 = true →
      let t := ((s.written r R.PLJ_REC_CTL 1).put R.PLJ_REC_STS_STEP 1).put R.PLJ_REC_STS_RESULT 0
      let u := ((t.put R.PLJ_REC_STS_PERMILLE 0).put R.PLJ_REC_STS_LAST_BRACE 0).put R.PLJ_REC_STS_UNCLEAN 0
      exec (.recStart r) s = .next (u.onPlj fun x => { x with recStart := u.now }).settleAll)
    ∧ (∀ f : RecFacts, s.recovering = true →
      ((s.recDone f).flag R.PLJ_REC_STS_UNCLEAN = true →
        exec (.recoveryDone f) s = .next ((s.recDone f).addSmart 144 1).settleAll)
      ∧ ((s.recDone f).flag R.PLJ_REC_STS_UNCLEAN = false → exec (.recoveryDone f) s = .next (s.recDone f).settleAll))

/-- O21. A recognised assertion sets SEEN and PFAIL, pulses 352 and starts a brace unless one runs; a
deassertion clears PFAIL and starts the dead time, and in BRACED ends self-refresh and pulses
354; with the tails of a brace written, its last page is written to the reserve, where there is
one, the channels' other operations are cancelled, and the rail steps begin; each rail step at
least 100 microseconds after the one before switches off the first group still driven; a BRACED
that is not late, outside sleep, records the brace and lets what waited for it go on; a dead
time that has run out reads DEAD 0; SEEN clears by an accepted write of 1; an accepted READMIT
leaves BRACED.  Cites: 06_brace_and_journal.md, R166, 06_brace_and_journal.md, R167,
06_brace_and_journal.md, R172, 06_brace_and_journal.md, R174, 06_brace_and_journal.md, R175,
06_brace_and_journal.md, R176, 13_rails_pins_electrical.md, R420. -/
def Obligations.BraceCommandsComplete : Prop :=
  ∀ s : State, s.running = true →
    (s.flag R.PLJ_PF_STS_PFAIL = false →
      let t := ((s.put R.PLJ_PF_STS_SEEN 1).put R.PLJ_PF_STS_PFAIL 1).pulse 352
      (t.get R.PLJ_PF_STS_STATE = 1 → exec .pfAssert s = .next t.settleAll)
      ∧ (t.get R.PLJ_PF_STS_STATE ≠ 1 → exec .pfAssert s = .next (t.braceStart true).settleAll))
    ∧ (s.flag R.PLJ_PF_STS_PFAIL = true →
      let t := (s.put R.PLJ_PF_STS_PFAIL 0).deadStart
      (t.get R.PLJ_PF_STS_STATE = 2 → exec .pfDeassert s = .next (t.srExit.pulse 354).settleAll)
      ∧ (t.get R.PLJ_PF_STS_STATE ≠ 2 → exec .pfDeassert s = .next t.settleAll))
    ∧ (∀ b : BraceJob, s.plj.brace = some b → b.ended = false → b.rails = false → s.plj.waitTails = 0 →
      let t := s.evtB pljPage 0x11 s.plj.chunks.length
      t.plj.reserve = none →
      exec .braceTailsWritten s
        = .next (t.cancelAll.onPlj fun x => { x with brace := some { b with ended := true, rails := true } }).settleAll)
    ∧ (∀ (b : BraceJob) (k : Nat) bs w, s.plj.brace = some b → b.ended = false → b.rails = false → s.plj.waitTails = 0 →
      let t := s.evtB pljPage 0x11 s.plj.chunks.length
      let top := (s.plj.chunks.flatMap (·.ents)).foldl (fun a e => max a e.seq) (s.rd64 R.PLJ_FLUSHED_LO)
      let v := (t.wr64 R.PLJ_FLUSHED_LO top).onPlj fun x => { x with chunks := [], ichunks := [] }
      let c : ChunkJob := ⟨v.plj.chunkNo, [], [], none, if b.kind = 2 then 7 else 5, v.devTime, none, none⟩
      t.plj.reserve = some k → v.chunkData c = (bs, w) →
      exec .braceTailsWritten s
        = .next (((((w.onPlj fun x => { x with chunkNo := x.chunkNo + 1 }).bracePage k 5 c.no bs).evtB pljPage 0x11 1).cancelAll).onPlj
            fun x => { x with brace := some { b with ended := true, rails := true } }).settleAll)
    ∧ (∀ (b : BraceJob) (g : Nat), s.plj.brace = some b → b.rails = true → s.plj.waitTails = 0 →
      (s.rail.lastDrop = 0 ∨ s.rail.lastDrop + 100000 ≤ s.now) → ((List.range 8).find? fun g => s.railDriven g) = some g →
      exec .braceRailStep s = .next ((s.railDrop g).onRail fun x => { x with lastDrop := s.now }))
    ∧ (s.bracedNow = true →
      let t := s.braced
      t.flag R.PLJ_BRACE_REC_LATE = false → t.cur < 2 →
      exec .braced s = .next t.shutdownStep.fnResetWaiting.rebootWaiting)
    ∧ (∀ t, s.plj.deadEnd = some t → t ≤ s.now →
      exec .deadTimeEnd s = .next ((s.put R.PLJ_PF_STS_DEAD 0).onPlj fun x => { x with deadEnd := none }))
    ∧ (∀ r : Requester, s.accepts pljChecks r R.PLJ_PF_STS 2 = true →
      exec (.seenClear r) s = .next (s.written r R.PLJ_PF_STS 2))
    ∧ (∀ r : Requester, s.accepts pljChecks r R.PLJ_PF_CTL 1 = true →
      exec (.readmit r) s = .next (s.written r R.PLJ_PF_CTL 1).readmit.settleAll)

/-- O22. An address request for the port's own address is answered with its MAC; an IPv4 gateway's reply
with a new MAC sets it and pulses, an IPv6 one with the MAC already known only ends the request;
a refresh asks for the gateways; a link comes up with its speed, FEC lock and event, and goes
down with its count and event; an uncorrectable codeword on a link that is up is counted and
reported; a WAKE frame that matches wakes the part; a frame with a bad FCS is counted and
dropped for reason 1.  Cites: 07_segment_service.md, R187, 07_segment_service.md, R189,
07_segment_service.md, R190, 07_segment_service.md, R237, 07_segment_service.md, R239. -/
def Obligations.NetPortCommandsComplete : Prop :=
  ∀ (s : State) (n : Fin 2), s.running = true →
    (∀ (v6 : Bool) (target ip : BitVec 128) (mac : BitVec 48), s.netRx n.val = true → s.netTx n.val = true → s.netIpOn n.val v6 = true →
      target.toNat = s.netIp n.val v6 →
      exec (.arpRequest n v6 target mac ip) s
        = .next (s.emit (.neighReply n.val v6 mac.toNat ip.toNat (s.netMac n.val) (s.netIp n.val v6))))
    ∧ (∀ (ip : BitVec 128) (mac : BitVec 48), s.netRx n.val = true → ip.toNat = s.gwIp n.val false →
      let t := s.onNet n.val fun x => { x with ask4 := false }
      t.gwMac n.val false ≠ some mac.toNat →
      exec (.gatewayReply n false ip mac) s = .next ((t.setGw n.val false (some mac.toNat)).pulse (netSrc n.val + 3)))
    ∧ (∀ (ip : BitVec 128) (mac : BitVec 48), s.netRx n.val = true → ip.toNat = s.gwIp n.val true →
      let t := s.onNet n.val fun x => { x with ask6 := false }
      t.gwMac n.val true = some mac.toNat → exec (.gatewayReply n true ip mac) s = .next t)
    ∧ (s.netTx n.val = true → exec (.neighRefresh n) s = .next ((s.neighAsk n.val false).neighAsk n.val true))
    ∧ (∀ sig : BitVec 4, s.netRuns n.val = true → s.flag (R.NET_LINK_STS_UP n.val) = false →
      exec (.netLinkUp n sig) s
        = .next ((((((s.put (R.NET_LINK_STS_UP n.val) 1).put (R.NET_LINK_STS_FEC_LOCK n.val) 1).put (R.NET_LINK_STS_SIG n.val)
            sig.toNat).put (R.NET_LINK_STS_SPEED n.val) (s.get (R.NET_MODE_SPEED n.val))).pulse (netSrc n.val)).gatewayAsk n.val))
    ∧ (∀ sig : BitVec 4, s.flag (R.NET_LINK_STS_UP n.val) = true →
      exec (.netLinkDown n sig) s
        = .next (((((s.put (R.NET_LINK_STS_UP n.val) 0).put (R.NET_LINK_STS_FEC_LOCK n.val) 0).put (R.NET_LINK_STS_SIG n.val)
            sig.toNat).bump (R.NET_LINK_CNT_DOWN n.val) 1).pulse (netSrc n.val + 1)))
    ∧ (s.flag (R.NET_LINK_STS_UP n.val) = true →
      exec (.fecUncorrectableCodeword n) s = .next ((s.addCount (R.NET_FEC_UNC_LO n.val) 1).pulse (netSrc n.val + 2)))
    ∧ (∀ f : Frame, s.wakeMatches f = true →
      let t := (s.pulse (netSrc f.port.val + 4)).wake (2 ^ (4 + f.port.val))
      exec (.frameReceive f) s = .next t.settleAll ∧ (f.row = 15 → exec (.wake f) s = .next t.settleAll))
    ∧ (∀ f : Frame, s.wakeMatches f = false → s.netRx f.port.val = true → f.fcs = false →
      exec (.frameReceive f) s = .next ((s.frameCount f).netDrop f.port.val 1).settleAll)

/-- O23. A frame whose message passes the steps of R195 up to its authentication is its sender's message:
with IST ready and not busy, with the right and no live flow of the same request, a GET or
GET_RANGE is served, a PUT opens ingest, a STAT is answered; data of a PUT reach its flow, and
an ACK and a CREDIT reach the flow that they name.  Cites: 07_segment_service.md, R194,
07_segment_service.md, R195, 07_segment_service.md, R216, 07_segment_service.md, R221,
07_segment_service.md, R228, 07_segment_service.md, R232, 07_segment_service.md, R233. -/
def Obligations.ClientMessagesComplete : Prop :=
  ∀ (s t : State) (f : Frame) (r : Rights), s.running = true → s.hears f r t → 
    let m := Msg.ofBytes f.data
    let e := s.heardBy f
    m.peer = false →
    ((f.row = 1 ∨ f.row = 2 ∨ f.row = 3 ∨ f.row = 5) → t.flag R.IST_STS_READY = true → t.busyNow m = false →
        m.resp = false → m.data = false → t.dupFlow m = none →
      (f.row = 1 → r.read = true → exec (.get f) s = .next (t.serveGet f.from_ e m r.cap).settleAll)
      ∧ (f.row = 2 → r.read = true → exec (.getRange f) s = .next (t.serveGet f.from_ e m r.cap).settleAll)
      ∧ (f.row = 3 → r.write = true → exec (.put f) s = .next (t.servePut f.from_ e m).settleAll)
      ∧ (f.row = 5 → r.read = true → exec (.stat f) s = .next (t.serveStat f.from_ e m).settleAll))
    ∧ (∀ i x, f.row = 4 → t.flowOf m = some (i, x) → x.kind = .put →
      exec (.putData f) s = .next (t.takeData i x m f.port.val f.payload).settleAll)
    ∧ (∀ i x, t.flowNamed m = some (i, x) →
      (f.row = 6 → exec (.ack f) s = .next (t.takeAck i x m).settleAll)
      ∧ (f.row = 7 → exec (.credit f) s = .next (t.takeCredit i x m).settleAll))

/-- O24. A peer message that passes the steps of R195 up to its authentication takes effect: PUT_SHARD
and GET_SHARD are served with Tarragon running, not busy and no live flow of the same request;
answers to what this member asked reach the flow or the HELLO that waits for them; a HELLO is
answered and an epoch taken while the part is awake; ACK and CREDIT reach the flow they name.
Cites: 07_segment_service.md, R195, 07_segment_service.md, R236, 08_peer_redundancy.md, R249,
08_peer_redundancy.md, R250, 08_peer_redundancy.md, R252, 08_peer_redundancy.md, R261,
08_peer_redundancy.md, R266, 08_peer_redundancy.md, R269. -/
def Obligations.PeerMessagesComplete : Prop :=
  ∀ (s t : State) (f : Frame) (r : Rights), s.running = true → s.hears f r t → 
    let m := Msg.ofBytes f.data
    let e := s.heardBy f
    m.peer = true →
    (t.busyNow m = false → t.tgnRuns = true → t.dupFlow m = none →
      (f.row = 8 → exec (.getShard f) s = .next (t.getShard f.from_ e m).settleAll)
      ∧ (f.row = 10 → m.data = false → exec (.putShard f) s = .next (t.putShard f.from_ e m).settleAll))
    ∧ (∀ i x, t.flowAsked m = some (i, x) →
      (∀ crcOk, f.row = 9 → exec (.shardResponse f crcOk) s = .next (t.shardData i x m f.port.val f.payload crcOk).settleAll)
      ∧ (f.row = 11 → exec (.putShardResponse f) s = .next (t.shareAnswer i x m).settleAll))
    ∧ (t.pwr.step = .awake → t.tgnRuns = true →
      (f.row = 12 → exec (.hello f) s = .next (t.helloAsk f.from_ m f.payload).settleAll)
      ∧ (∀ h, f.row = 13 → t.tgn.hellos.find m.reqId = some h →
        exec (.helloResponse f) s = .next (t.helloAnswer m.reqId h m).settleAll)
      ∧ (f.row = 14 → exec (.epoch f) s = .next (t.epochTake f.from_ m f.payload).settleAll))
    ∧ (∀ i x, t.flowNamed m = some (i, x) →
      (f.row = 6 → exec (.ack f) s = .next (t.takeAck i x m).settleAll)
      ∧ (f.row = 7 → exec (.credit f) s = .next (t.takeCredit i x m).settleAll))

/-- O25. A flow that serves data reads its next units when pacing, staging and contexts allow it; a flow
whose next data are staged returns to the wheel; an unreadable flow's last packet reports it; a
retransmission timer retransmits or, at RETX_MAX, aborts; a flow idle at rate or window 0 is
aborted; a PUT without data for PUT_TMO is aborted, and one whose entry is on flash ends with
success.  Cites: 07_segment_service.md, R211, 07_segment_service.md, R217,
07_segment_service.md, R220, 07_segment_service.md, R222, 07_segment_service.md, R224,
07_segment_service.md, R225, 07_segment_service.md, R226, 07_segment_service.md, R234,
07_segment_service.md, R235. -/
def Obligations.FlowCommandsComplete : Prop :=
  ∀ (s : State) (i : Nat) (f : Flow), s.running = true → s.ist.flows.find i = some f →
    (f.snd.nextUnits ≠ [] → f.serves = true → s.paced = true → s.mayRead f.snd f.snd.nextUnits = true →
      (f.ctx = true ∨ s.get R.IST_CTX_CFG_CTX_RSV < s.ctxFree) →
      exec (.flowReadIssue i) s
        = .next (s.readIu i { f with
            ctx := true
            snd := { f.snd with next := max f.snd.next (f.snd.nextUnits.foldl max 0 + 1) } } f.snd.nextUnits).settleAll)
    ∧ (∀ g : Flow,
        let mine := fun (g : Flow) => decide (g.snd.why ≠ 1)
          || (decide (g.cid = f.cid) && decide (g.reqId = f.reqId) && decide (g.peer = f.peer))
        let t := (State.flowArrivals mine s.rdp.got (s.onRdp fun x => { x with got := [] })).zeroUnits
        t.ist.flows.find i = some g → g.snd.why = 1 → g.snd.staged g.snd.off (t.nextLen g) = true →
      exec (.flowDataStaged i) s = .next (t.setFlow i { g with snd := { g.snd with why := 0, due := t.now256 } }).settleAll)
    ∧ (f.snd.bad.isSome = true → f.snd.ended = false → f.snd.off = f.snd.end_ → f.serves = true → s.paced = true →
      exec (.unreadableEnd i) s
        = .next ((s.setFlow i { f with
            ctx := false
            snd := { f.snd with
              ended := true
              psn := f.snd.psn + 1
              pkts := f.snd.pkts.put f.snd.psn ⟨f.snd.off, 0, s.now, 1, false, false⟩ } }).sendMsg f.addr
            { f.msg i f.op 5 with status := 4, off := f.snd.start + f.snd.off, seq := f.snd.psn } f.peer).settleAll)
    ∧ (s.paced = true → (f.snd.pkts.all fun p => p.2.acked) = false →
      (f.snd.expiries + 1 < s.get R.IST_RTO_CFG_RETX_MAX → exec (.rtoExpire i) s = .next (s.rtoFlow i f).settleAll)
      ∧ (s.get R.IST_RTO_CFG_RETX_MAX ≤ f.snd.expiries + 1 → exec (.rtoExpire i) s = .next (s.abortAny i).settleAll))
    ∧ (f.serves = true → s.paced = true → (f.snd.adv = 0 ∨ f.snd.win = 0) →
      exec (.flowIdleExpire i) s = .next (s.abortAny i).settleAll)
    ∧ (∀ p : PutSt, f.put = some p →
      (p.valid = false → s.paced = true → f.rcv.last + 10 ^ 6 * s.get R.IST_PUT_CFG_PUT_TMO ≤ s.now →
        exec (.putTmoExpire i) s = .next (s.putAbort i f).settleAll)
      ∧ (p.valid = true → s.segClean (p.ent / 2048) = true →
        exec (.putFinalResponse i) s = .next (s.endFlow i 0).settleAll))

/-- O26. A pacer slot of a port that sends serves retransmissions, messages without data and due flows in
this order; with fewer than LOW_WATER slots free, eviction frees one slot of the oldest data at
a time; the due index segments are copied; an accepted CMD with GO purges a class that is not
writable, reopens a class, inserts an entry that is not there at a free slot, removes an entry
that no other shares its extent with, or loads the index once recovery has ended.  Cites:
07_segment_service.md, R211, 07_segment_service.md, R212, 07_segment_service.md, R214,
07_segment_service.md, R215, 07_segment_service.md, R224, 07_segment_service.md, R226. -/
def Obligations.PacerStagingAndIndexCommandsComplete : Prop :=
  ∀ (s : State), s.running = true →
    (∀ p : Fin 2, s.netTx p.val = true → s.paced = true →
      let t := (s.ist.flows.filter fun e => decide (e.2.addr.port = p.val)).foldl (fun s e => s.sendRetx e.1) s
      exec (.pacerSlot p) s
        = .next (State.sendDue p.val 1024 (State.sendCtrl p.val (t.netSt p.val).ctrl (t.onNet p.val fun x =>
            { x with ctrl := [] }))).settleAll)
    ∧ (∀ i u a f, 16384 - s.stgUsed < s.get R.IST_STAGE_CFG_LOW_WATER → s.evictable = some (i, u, a) → s.ist.flows.find i = some f →
      let t := s.freeSlot ((f.snd.slots.find u).getD 0)
      exec .stagingEvict s
        = .next (State.evict 16383 (((t.setFlow i { f with snd := { f.snd with slots := f.snd.slots.del u } }).addCount
            R.IST_EVICTED_LO 1).evtB 0x310000 0x14 1)).settleAll)
    ∧ (s.enabled 0x310000 = true → s.get R.PLJ_PF_STS_STATE = 0 → s.limp = false →
      exec .indexSegWriteback s = .next (s.segsDue.foldl (fun s d => s.segCopy d.1 d.2.2) s).settleAll)
    ∧ (∀ (r : Requester) (cls : BitVec 6),
      (let v := BitVec.ofNat 32 (17 + cls.toNat * 256)
        let t := s.written r R.IST_CMD v
        s.accepts istChecks r R.IST_CMD v = true → t.flag (R.FTL_CLASS_CTL_WRITABLE cls.toNat) = false →
        exec (.purge r cls) s = .next (t.istPurge cls.toNat).settleAll)
      ∧ (let v := BitVec.ofNat 32 (18 + cls.toNat * 256)
        let t := s.written r R.IST_CMD v
        s.accepts istChecks r R.IST_CMD v = true →
        exec (.reopen r cls) s
          = .next ((t.putBit ⟨R.IST_PURGED (cls.toNat / 32), 0, 32⟩ (cls.toNat % 32) false).istEnd 0).settleAll))
    ∧ (∀ r : Requester, s.accepts istChecks r R.IST_CMD 19 = true →
      let t := s.written r R.IST_CMD 19
      let e := { IdxEnt.ofBytes t.entBytes with state := 1 }
      ∀ n u, (∀ m x, (t.idxLook e.key).1 ≠ .found m x) → (t.idxLook e.key).2.idxSlot e.key = (some n, u) →
        exec (.insert r) s = .next ((u.idxWrite n e).istEnd 0).settleAll)
    ∧ (∀ r : Requester, s.accepts istChecks r R.IST_CMD 20 = true →
      let t := s.written r R.IST_CMD 20
      ∀ n e u, t.idxLook (IdxEnt.ofBytes t.entBytes).key = (.found n e, u) → (u.idxWrite n { e with state := 3 }).extOf e.iu = none →
        exec (.remove r) s = .next ((u.idxWrite n { e with state := 3 }).istEnd 0).settleAll)
    ∧ (∀ (r : Requester) (segs : List (Nat × Nat × Bytes)) (lost : List Nat), s.accepts istChecks r R.IST_CMD 21 = true →
      let t := s.written r R.IST_CMD 21
      t.get R.PLJ_REC_STS_STEP = 7 → exec (.idxLoad r segs lost) s = .next (t.idxLoad segs lost).settleAll)

/-- O27. The next IUs owed to a holder that is not lost go out in one PUT_SHARD once they have met R19,
their intent is on flash and nothing sent to the holder is unanswered; a parity IU that has
waited HOLD is written, and one that is programmed gets its HOLD records; a share without a
final response for RESEND is sent again; due intent records go into a chunk; a region idle for
REGION_IDLE is closed; a read whose hedge timer has run out fires the hedge; a reconstruct that
has run for TMO fails.  Cites: 08_peer_redundancy.md, R251, 08_peer_redundancy.md, R253,
08_peer_redundancy.md, R257, 08_peer_redundancy.md, R259, 08_peer_redundancy.md, R261,
08_peer_redundancy.md, R263, 08_peer_redundancy.md, R264. -/
def Obligations.SharesAndReconstructsComplete : Prop :=
  ∀ (s : State), s.running = true →
    (∀ (n : Fin 16) (cls slot : Fin 64) (q : Bool) (c : ShareCopy) (cs : List ShareCopy) (m : Nat) (z : OpenInt) (i : Nat) (u : State),
      chunkRun (s.owed n.val cls.val slot.val q) = c :: cs → s.slotMember n.val slot.val = some m → s.tgnRuns = true →
      s.setOn n.val = true → c.met = true → s.intOf n.val cls.val (c.seq / 16) = some z → s.recDurable z.no = true →
      (s.tgn.jobs.any fun j => decide (j.2.set = n.val) && decide (j.2.cls = cls.val) && decide (j.2.slot = slot.val) && decide (j.2.q = q))
        = false →
      s.slotLost n.val slot.val = false → s.recsFull = false →
      (s.tgn.holdoff.find (holdKey n.val cls.val slot.val q)).getD 0 ≤ s.now →
      let run := c :: cs
      let d := run.flatMap fun x => gfScale (if q then gfPow (s.copyPlace c q).2.1 else 1) x.data
      s.askFlow m 8 (s.shardKey n.val cls.val (s.copyPlace c q).2.1 (if q then 2 else 1) (s.copyPlace c q).1 (c.seq % 16) (run.length - 1))
        d.length (.shareOut 0) cls.val { s.newSnd d 0 0 d.length 0 0 0 with win := 0, why := 3 } Rcv.none_ = some (i, u) →
      exec (.shareSend n cls slot q) s
        = .next (((u.onTgn fun y => { y with
            jobs := y.jobs.put i ⟨n.val, cls.val, q, slot.val, c.seq, run.length, u.now⟩
            copies := y.copies.map fun z => if run.contains z then z.put q 1 else z }).addCount R.TGN_SHARE_TX_LO run.length).evtB
              tgnPage 0x10 run.length).settleAll)
    ∧ (∀ (iu : Nat) (p : ParIu), s.tgn.par.find iu = some p →
      (∀ d u, p.first + 10 ^ 6 * s.get R.TGN_SHARE_CFG_HOLD ≤ s.now → p.base = none → p.going = none → p.shares ≠ [] →
        s.sealIu iu p.data = (some d, u) →
        exec (.shareHoldExpire iu) s
          = .next ((u.setPar iu { p with shares := [], going := some p.shares }).place
              ⟨1, 0, p.cls, [some iu], false, [], none, false, [], [], d, .share iu⟩).settleAll)
      ∧ (∀ e, s.ftl.news.find? (fun e => decide (e.1 = .share iu)) = some e → s.recsFull = false →
        exec (.parityIuWritten iu) s
          = .next ((s.onFtl fun x => { x with news := x.news.erase e }).parWritten iu p (p.going.getD [])).settleAll))
    ∧ (∀ i j, s.tgn.jobs.find i = some j → j.at_ + 10 ^ 6 * s.get R.TGN_SHARE_CFG_RESEND ≤ s.now →
      exec (.shareResend i) s = .next ((s.shareEnd i 0 0).shareSend j.set j.cls j.slot j.q).settleAll)
    ∧ (s.plj.recs ≠ [] → s.plj.recSince + 1000 * s.get R.TGN_INT_CFG_FLUSH_US ≤ s.now →
      exec .intentFlush s = .next ((s.intentStart 0).chunkRetry true).settleAll)
    ∧ (∀ (n : Fin 16) (cls : Fin 64) region z,
      s.tgn.ints.find? (fun z => z.dirty && decide (z.set = n.val) && decide (z.cls = cls.val) && decide (z.at_ = region)) = some z →
      z.no ≠ 0 → s.intBusy z = false → z.set ∉ s.tgn.resync → s.recsFull = false →
      z.busy + 10 ^ 7 * s.get R.TGN_INT_CFG_REGION_IDLE ≤ s.now →
      exec (.regionClean n cls region) s
        = .next (((s.record 5 z.set z.cls 0 0 0 0 z.at_).2.onTgn fun y => { y with
            ints := y.ints.filter fun w => decide (w ≠ z) }).openCount z.set).settleAll)
    ∧ (∀ i r, s.tgn.recons.find i = some r →
      (∀ pos x t m, r.reads.find? (fun x => decide (x.pos = pos) && decide (x.st = 0) && !x.seen) = some x → x.sent = some t →
        s.slotMember r.set x.slot = some m → t + 1000 * s.hedgeTime r.set m ≤ s.now →
        exec (.hedgeExpire i pos) s = .next (s.reconHedge i).settleAll)
      ∧ (r.start + 10 ^ 6 * s.get R.TGN_RECON_CFG_TMO ≤ s.now →
        exec (.reconTmoExpire i) s = .next (s.reconFail i r).settleAll))

/-- O28. The acting root sends beats and issues at most 16 queued changes as a new epoch once GAP has
passed; a silent parent is reported and a silent root probed; a member of 0 to 16 with no lower
live member takes over from a root that does not answer; a suspect that does not answer is made
DOWN, a member DOWN for DELAY is made REMOVED; after its back-off a joiner asks the next seed,
also when one does not answer; requests that BUSY put off are repeated; a peer that does not
answer a QUERY is recorded DOWN.  Cites: 08_peer_redundancy.md, R267, 08_peer_redundancy.md,
R268, 08_peer_redundancy.md, R269, 08_peer_redundancy.md, R271, 08_peer_redundancy.md, R273. -/
def Obligations.MembershipEventsComplete : Prop :=
  ∀ (s : State), s.running = true →
    (s.tgnRuns = true →
      (s.isRoot = true →
        exec .epochBeat s = .next (s.epochForward (s.children s.member) s.epoch s.devTime []).settleAll
        ∧ (let q := s.tgn.queue ++ s.tgn.joins.map fun m => (⟨m, 1, 0, 0, 0⟩ : Change)
          q ≠ [] → s.tgn.lastIssue + 1000 * s.get R.TGN_EPOCH_CFG_GAP ≤ s.now →
          let t := s.onTgn fun x => { x with
            queue := x.queue.drop 16, joins := x.joins.drop (16 - min 16 x.queue.length), lastIssue := s.now }
          let u := t.epochApply (t.epoch + 1) (q.take 16)
          exec .epochIssue s = .next (u.epochForward (t.children t.member) (t.epoch + 1) t.devTime (q.take 16)).settleAll))
      ∧ (s.tgn.own = 2 → s.isRoot = false →
        (∀ p, treeParent s.member = some p → s.tgn.heardParent + s.missTime ≤ s.now →
          exec (.parentSilent false) s = .next (s.report p).settleAll)
        ∧ (s.tgn.heardRoot + s.missTime ≤ s.now → (s.tgn.hellos.any fun h => decide (h.2.why = .probe)) = false →
          exec (.parentSilent true) s = .next (s.helloTo .probe s.rootId).settleAll))
      ∧ (∀ h, s.tgn.hellos.find? (fun h => decide (h.2.why = .probe) && decide (h.2.sent + s.seedTmo ≤ s.now)) = some h →
        s.member ≤ 16 → ((List.range s.member).any fun m => decide (m ≠ s.rootId) && decide (s.memberState m = 1)) = false → s.tgn.own = 2 →
        exec .rootTakeover s
          = .next ((((s.helloDrop h.1).put R.TGN_STS_ROOT 1).put R.TGN_ROOT_ID_ROOT s.member).pulse 474).settleAll))
    ∧ (∀ m h, s.isRoot = true →
      s.tgn.hellos.find? (fun h => decide (h.2.why = .check) && decide (h.2.member = m) && decide (h.2.sent + s.seedTmo ≤ s.now)) = some h →
      (s.memberState m < 2 →
        exec (.suspectProbeExpire m) s = .next (((s.helloDrop h.1).queueChange m 2).hello .check m h.2.addr).settleAll))
    ∧ (∀ m t, s.tgn.down.find m = some t → s.isRoot = true → t + s.get R.TGN_REB_CFG_DELAY * 10 ^ 9 ≤ s.now →
      exec (.memberRemoveDue m) s = .next ((s.onTgn fun x => { x with down := x.down.del m }).queueChange m 3).settleAll)
    ∧ (s.get R.TGN_JOIN_STS_STATE = 1 → s.tgn.backEnd ≤ s.now → exec .joinBackoffEnd s = .next s.seedNext.settleAll)
    ∧ (∀ h, s.tgn.hellos.find? (fun h => decide (h.2.why = .seed) && decide (h.2.sent + s.seedTmo ≤ s.now)) = some h →
      s.get R.TGN_JOIN_STS_STATE = 2 → exec .seedTmoExpire s = .next (s.helloDrop h.1).seedNext.settleAll)
    ∧ (∀ h t, s.tgn.hellos = [h] → h.2.retry = some t → t ≤ s.now →
      exec .retryAfterExpire s = .next ((s.helloDrop h.1).helloTo h.2.why s.rootId).settleAll)
    ∧ (∀ m h,
      s.tgn.hellos.find? (fun h => decide (h.2.why = .query) && decide (h.2.member = m) && decide (h.2.sent + s.seedTmo ≤ s.now)) = some h →
      exec (.queryTmoExpire m) s = .next ((List.range 16).foldl State.setRefresh ((s.helloDrop h.1).setMember m 2 s.epoch)).settleAll)

/-- O29. An accepted write starts joining or leaving, enables a set, whose state is brought up to date,
or starts LOAD (with IST READY), REPAIR, LOSS_SCAN or BACKFILL (with the set enabled and
LOADED); a read of a LOSS register gives the entry that the requester sees.  Cites:
08_peer_redundancy.md, R243, 08_peer_redundancy.md, R260, 08_peer_redundancy.md, R271,
08_peer_redundancy.md, R273, 08_peer_redundancy.md, R276, 08_peer_redundancy.md, R278,
08_peer_redundancy.md, R279, 08_peer_redundancy.md, R280. -/
def Obligations.TarragonCommandsComplete : Prop :=
  ∀ (s : State) (r : Requester), s.running = true →
    (s.accepts tgnChecks r R.TGN_JOIN_CTL 1 = true → (s.wordBefore r R.TGN_JOIN_CTL).bit 0 = false →
      exec (.join r) s = .next (s.written r R.TGN_JOIN_CTL 1).joinStart.settleAll)
    ∧ (s.accepts tgnChecks r R.TGN_JOIN_CTL 2 = true → (s.wordBefore r R.TGN_JOIN_CTL).bit 1 = false →
      exec (.leave r) s = .next (s.written r R.TGN_JOIN_CTL 2).leaveStart.settleAll)
    ∧ (∀ (n : Fin 16) (v : Word), s.accepts tgnChecks r (R.TGN_SET_CFG n.val) (v.setBit 17) = true →
      exec (.setEnable r n v) s
        = .next (((s.written r (R.TGN_SET_CFG n.val) (v.setBit 17)).setRefresh n.val).resyncCheck).settleAll)
    ∧ (∀ hws ints recNo, s.accepts tgnChecks r R.TGN_CMD 17 = true → (s.written r R.TGN_CMD 17).flag R.IST_STS_READY = true →
      exec (.load r hws ints recNo) s = .next ((s.written r R.TGN_CMD 17).tgnLoad hws ints recNo).settleAll)
    ∧ (∀ set : Fin 16,
      let v := fun (op : Nat) => BitVec.ofNat 32 (op + 16 + set.val * 256)
      let t := fun (op : Nat) => s.written r R.TGN_CMD (v op)
      (s.accepts tgnChecks r R.TGN_CMD (v 2) = true → (t 2).setOn set.val = true → (t 2).flag R.TGN_STS_LOADED = true →
        exec (.repair r set) s = .next ((t 2).tgnRepair set.val).settleAll)
      ∧ (s.accepts tgnChecks r R.TGN_CMD (v 3) = true → (t 3).setOn set.val = true → (t 3).flag R.TGN_STS_LOADED = true →
        exec (.lossScan r set) s
          = .next ((((t 3).put R.TGN_CMD_STS_PROGRESS ((t 3).idxNb / 2 ^ 16)).lossScan set.val).tgnEnd 0).settleAll)
      ∧ (s.accepts tgnChecks r R.TGN_CMD (v 4) = true → (t 4).setOn set.val = true → (t 4).flag R.TGN_STS_LOADED = true →
        exec (.backfill r set) s = .next ((t 4).tgnBackfill set.val).settleAll))
    ∧ (∀ hi : Bool, let off := if hi then R.TGN_LOSS_HI else R.TGN_LOSS_LO
      s.readable r off = true → exec (.lossEntryRead r hi) s = .next (s.wordRead tgnView tgnReadEffect r off).settleAll)

/-- O30. With Memory Space Enable and in D0, a doorbell of an existing queue takes the host's tail or
head, and one beyond the queue is an error event; CC written with EN going to 1 enables, to 0
resets, with SHN starts a shutdown; an entry that waits in the admin queue, or in the I/O queue
that arbitration picks with room for its range locks, is fetched; a finished command's
completion is posted where its queue has room; the aggregation time of a completion queue raises
its interrupt.  Cites: 01_architecture.md, R19, 09_nvme_command_engine.md, R283,
09_nvme_command_engine.md, R284, 09_nvme_command_engine.md, R286, 09_nvme_command_engine.md,
R287, 09_nvme_command_engine.md, R292, 09_nvme_command_engine.md, R320,
09_nvme_command_engine.md, R321. -/
def Obligations.NvmeQueueCommandsComplete : Prop :=
  ∀ (s : State), s.running = true →
    (s.memEn = true → s.pci.d3 = false →
      (∀ (y : Fin 129) (v : BitVec 16),
        (∀ q, (s.doorbellWake y.val).nvm.sqs.find y.val = some q →
          (v.toNat < q.size → exec (.sqDoorbell y v) s
            = .next ((((s.doorbellWake y.val).setSq y.val { q with tail := v.toNat }).aerAll).wake 1))
          ∧ (q.size ≤ v.toNat → exec (.sqDoorbell y v) s = .next (((s.doorbellWake y.val).badDoorbell.aerAll).wake 1)))
        ∧ (∀ q, s.nvm.cqs.find y.val = some q →
          (v.toNat < q.size → exec (.cqDoorbell y v) s
            = .next ((((s.setCq y.val { q with head := v.toNat }).intaRefresh).aerAll).wake 1))
          ∧ (q.size ≤ v.toNat → exec (.cqDoorbell y v) s = .next ((s.badDoorbell.aerAll).wake 1))))
      ∧ (∀ cc : Word, cc.fld 14 2 = s.nvm.cc.fld 14 2 →
        (s.nvm.cc.bit 0 = false → cc.bit 0 = true → exec (.ccEnable cc) s = .next ((s.ccEnable cc).wake 1))
        ∧ (s.nvm.cc.bit 0 = true → cc.bit 0 = false →
          exec (.controllerReset cc) s = .next ((((s.onNvm fun x => { x with cc := cc }).nvmStop).pulse 161).wake 1)))
      ∧ (s.nvm.cc.bit 0 = true → s.nvm.cc.fld 14 2 = 0 →
        let cc := fun (k : Nat) => s.nvm.cc.setFld 14 2 k
        let t := fun (k : Nat) => ((((s.onNvm fun x => { x with cc := cc k }).onNvm fun x => { x with shn := k }).pulse 161).shutdownStep).wake 1
        exec .shutdownNormal s = .next (t 1) ∧ exec .shutdownAbrupt s = .next (t 2)))
    ∧ (∀ (a : Sq) (sqe : Bytes) (ranges : Bytes), s.nvm.sqs.find 0 = some a → s.noFetch = false →
      (a.entries ≠ 0 → (s.nvm.cmds.filter fun c => decide (c.2.sq = 0)).length < 64 →
        exec (.sqFetch (some sqe) ranges) s = .next (s.fetched 0 a ⟨0, fit 64 sqe, ranges, 0, [], 0, 0, 0, [], [], [], [], 0, none⟩).settleAll)
      ∧ (∀ q x, a.entries = 0 → s.noFetchIo = false → s.pickSq = some q → q ≠ 0 → s.nvm.sqs.find q = some x →
        let c : NvmCmd := ⟨q, fit 64 sqe, ranges, (s.rd (R.FTL_QCLASS_CLASS0 ((q - 1) / 4)).off).fld (8 * ((q - 1) % 4)) 6, [], 0, 0, 0, [], [], [],
          [], 0, none⟩
        s.locksHeld + c.wants.length ≤ 4096 →
        exec (.sqFetch (some sqe) ranges) s = .next ((s.setLevel 166 false).fetched q x c).settleAll))
    ∧ (∀ id c q cq, s.nvm.cmds.find id = some c → s.nvm.sqs.find c.sq = some q → s.nvm.cqs.find q.cqid = some cq → c.stage = 2 →
      cq.full = false → s.busMaster = true → c.status % 2 ^ 11 = 0 → c.sq ≠ 0 → c.op = 2 →
      let t := s.hostWrite (cq.base + 16 * cq.tail) (cqeBytes c.dw0 q.head c.sq c.cid cq.phase c.status) false
      let tail := (cq.tail + 1) % max 1 cq.size
      let u := t.setCq q.cqid { cq with tail := tail, phase := if tail = 0 then !cq.phase else cq.phase }
      let w := (((u.addCount R.NVM_RD_CMD_LO 1).evtB nvmPage 0x10 1).addSmart 64 1)
      exec (.completionPost id) s = .next (((w.cmdFree id).onNvm fun x => { x with idle := w.now }).cqPosted q.cqid).settleAll)
    ∧ (∀ (q : Fin 129) (c : Cq), s.nvm.cqs.find q.val = some c → c.waiting ≠ 0 →
      c.first + 100000 * (s.feat 8 0 / 256 % 256) ≤ s.now →
      exec (.coalescingTimeExpire q) s = .next (s.cqInterrupt q.val))

/-- O31. A fetched I/O command whose range locks are active starts: Flush finishes with success; a Read
that passes its checks reads its IUs and sends what is unmapped as zeros; a Write of NSID 2, of
which an IU is one unit, that passes them, with room in staging, stages its data and goes on to
placement; a Read or Write that fails a check finishes with that check's status; a Dataset
Management with AD deallocates its ranges as logged map updates, and one without AD finishes
with success.  Cites: 09_nvme_command_engine.md, R288, 09_nvme_command_engine.md, R289,
09_nvme_command_engine.md, R290, 09_nvme_command_engine.md, R294, 09_nvme_command_engine.md,
R296. -/
def Obligations.NvmeIoCommandsComplete : Prop :=
  ∀ (s : State) (id : Nat) (c : NvmCmd), s.running = true →
    (s.runs id 0 = some c → s.flag R.NVM_STS_FORMAT = false → c.dw 0 / 2 ^ 14 % 4 = 0 →
      exec (.nvmFlush id) s = .next (s.finish id 0 0).settleAll)
    ∧ (∀ list, s.runs id 2 = some c →
      let prps := s.prps c (4096 * c.nlb) list
      (s.rwCheck c prps = none →
        let n := iuUnits c.ns
        let t := s.onCmd id fun c => { c with stage := 1, prps := prps }
        let ius := (List.range (cdiv (c.slba + c.nlb) n - c.slba / n)).map (c.slba / n + ·)
        exec (.nvmRead id list false) s
          = .next ((ius.foldl (fun s iu => match s.nvmReadIu id c.ns iu (c.dw 12 / 2 ^ 31) with
              | (s, zeros) => zeros.foldl (fun s l => s.lbaToHost { c with prps := prps } l []) s) t).readDone id).settleAll)
      ∧ (∀ st err, s.rwCheck c prps = some st → exec (.nvmRead id list err) s = .next (s.finish id st 0).settleAll))
    ∧ (∀ list data, s.runs id 1 = some c →
      let prps := s.prps c (4096 * c.nlb) list
      (s.rwCheck c prps = none → c.ns = 1 → c.nlb ≤ 16384 - s.stgUsed →
        let t := s.onCmd id fun c => { c with stage := 1, prps := prps, cut := none }
        let u := State.stageUnits id ((List.range c.nlb).map fun i => (c.slba + i, fit 4096 ((data.drop (4096 * i)).take 4096))) t
        let v := ((u.addCount R.NVM_WR_UNITS_LO c.nlb).evtB nvmPage 0x13 c.nlb).addSmart 48 (4096 * c.nlb)
        exec (.nvmWrite id list data none false) s = .next ((v.writeGo id).writeDone id).settleAll)
      ∧ (∀ st poison err, s.rwCheck c prps = some st → exec (.nvmWrite id list data poison err) s = .next (s.finish id st 0).settleAll))
    ∧ (s.runs id 9 = some c → s.limp = false → s.flag R.NVM_STS_FORMAT = false → c.dw 0 / 2 ^ 14 % 4 = 0 → c.nsid = 2 →
      (c.dw 11 / 4 % 2 = 0 → exec (.datasetManagement id false) s = .next (s.finish id 0 0).settleAll)
      ∧ (c.dw 11 / 4 % 2 = 1 → (∀ r ∈ c.ranges, r.1 + r.2 ≤ s.nsze 1) →
        let t := c.ranges.foldl (fun s r => if r.1 < r.1 + r.2 then s.mapUpdate (.trim 1 r.1 (r.1 + r.2 - r.1)) else s)
          (s.evtB nvmPage 0x15 c.ranges.length)
        exec (.datasetManagement id false) s = .next (t.onCmd id fun c => { c with stage := 1 }).settleAll))

/-- O32. The oldest waiting admin command of the engine, or the one in the mailbox, is carried out: a
legal Create or Delete of an I/O queue takes effect and completes; Identify, Get Log Page and
Get Features return their data or value; Abort completes without aborting; an Asynchronous Event
Request is held, up to 4; SMART events that stand, are enabled and have not been reported are
queued and reported.  Cites: 09_nvme_command_engine.md, R285, 09_nvme_command_engine.md, R299,
09_nvme_command_engine.md, R302, 09_nvme_command_engine.md, R307, 09_nvme_command_engine.md,
R314, 09_nvme_command_engine.md, R315. -/
def Obligations.AdminQueueCommandsComplete : Prop :=
  ∀ (s : State) (id : Nat) (c : NvmCmd), s.running = true →
    let own := fun (op : Nat) => s.admOwn fun c => decide (c.op = op)
    let box := fun (op : Nat) => s.admBox fun c => decide (c.op = op)
    let q := c.dw 10 % 2 ^ 16
    let hi := c.dw 11 / 2 ^ 16
    (own 0x05 = some (id, c) → c.dw 11 % 2 = 1 → q ≠ 0 → q ≤ s.cqAlloc → s.nvm.cqs.find q = none → hi ≤ 255 →
      exec .createIoCq s
        = .next ((s.setCq q ⟨c.dw 10 / 2 ^ 16 + 1, c.prp1, hi, decide (c.dw 11 / 2 % 2 = 1), 0, 0, true, 0, 0⟩).finish id 0 0))
    ∧ (own 0x01 = some (id, c) → c.dw 11 % 2 = 1 → q ≠ 0 → q ≤ s.sqAlloc → s.nvm.sqs.find q = none → hi ≠ 0 →
      (s.nvm.cqs.find hi).isSome = true →
      exec .createIoSq s = .next ((s.setSq q ⟨c.dw 10 / 2 ^ 16 + 1, c.prp1, hi, 0, 0⟩).finish id 0 0))
    ∧ (own 0x04 = some (id, c) → q ≠ 0 → (s.nvm.cqs.find q).isSome = true →
      (s.nvm.sqs.any fun x => decide (x.2.cqid = q) && decide (x.1 ≠ 0)) = false →
      exec .deleteIoCq s = .next (((s.onNvm fun x => { x with cqs := x.cqs.del q }).intaRefresh).finish id 0 0))
    ∧ (∀ x, own 0x00 = some (id, c) → q ≠ 0 → s.nvm.sqs.find q = some x →
      let t := (s.setSq q { x with tail := x.head }).onCmd id fun c => { c with stage := 1 }
      exec .deleteIoSq s
        = .next ((((t.nvm.cmds.filter fun c => decide (c.2.sq = q)).map (·.1)).foldl (fun s k => s.finish k 0x08 0) t).sqDelete id q))
    ∧ (own 0x08 = some (id, c) → exec .abort s = .next (s.finish id 0 1))
    ∧ (own 0x0C = some (id, c) → s.nvm.aers.length < 4 →
      exec .asyncEventRequest s
        = .next (((s.onCmd id fun c => { c with stage := 1 }).onNvm fun x => { x with aers := x.aers ++ [id] }).aerAll))
    ∧ (∀ list, box 0x06 = some (id, c) →
      (∀ b, s.identify (c.dw 10 % 256) c.nsid = some b → exec (.identify list) s = .next (s.admData id c list b 0))
      ∧ (s.identify (c.dw 10 % 256) c.nsid = none → c.dw 10 % 256 ≠ 0 → c.dw 10 % 256 ≠ 3 →
        exec (.identify list) s = .next (s.admEnd id 0x02 0)))
    ∧ (∀ list b, box 0x02 = some (id, c) → c.nsid = 0 → c.dw 10 % 256 ≠ 2 → s.logPage_ (c.dw 10 % 256) = some b →
      exec (.getLogPage list) s
        = .next (s.admData id c list (fit (4 * (c.dw 10 / 2 ^ 16 + c.dw 11 % 2 ^ 16 * 2 ^ 16 + 1)) (b.drop (c.dw 12 + c.dw 13 * 2 ^ 32))) 0))
    ∧ (∀ list v, c.dw 10 / 2 ^ 8 % 8 = 0 → s.featGet c false = some (v, []) →
      (own 0x0A = some (id, c) → exec (.getFeatures list) s = .next (s.admEnd id 0 v))
      ∧ (own 0x0A = none → box 0x0A = some (id, c) → exec (.getFeatures list) s = .next (s.admEnd id 0 v)))
    ∧ exec .asyncEventReport s = .next s.smartEvents.aerAll

/-- O33. A Set Features that does not ask to save and whose value is legal sets its feature and completes
with success: arbitration, power state (entered after the completion), temperature thresholds,
queue counts before any I/O queue exists, coalescing, a vector's coalescing disable, write
atomicity, asynchronous events, the APST table, device time, a queue's class, a class's control
and expiry, the NSID 2 size and the host's power cap; one that asks to save is refused with
Feature Identifier Not Saveable.  Cites: 09_nvme_command_engine.md, R307,
09_nvme_command_engine.md, R308, 09_nvme_command_engine.md, R309, 09_nvme_command_engine.md,
R310, 09_nvme_command_engine.md, R318, 09_nvme_command_engine.md, R319. -/
def Obligations.SetFeaturesComplete : Prop :=
  ∀ (s : State) (id : Nat) (c : NvmCmd), s.running = true →
    let own := fun (fid : Nat) => s.admOwn fun c => decide (c.op = 0x09) && decide (c.fid = fid)
    let box := fun (fid : Nat) => s.admBox fun c => decide (c.op = 0x09) && decide (c.fid = fid)
    let d := c.dw 11
    ((c.dw 10).testBit 31 = true →
      (own 1 = some (id, c) → exec .setArbitration s = .next (s.admEnd id 0x10D 0))
      ∧ (∀ tck, box 2 = some (id, c) → exec (.setPowerManagement tck) s = .next (s.admEnd id 0x10D 0)))
    ∧ ((c.dw 10).testBit 31 = false →
      (own 0x01 = some (id, c) → exec .setArbitration s = .next ((s.setFeat 1 0 (d % 8)).admEnd id 0 0))
      ∧ (∀ tck, box 0x02 = some (id, c) → d % 32 ≤ 4 →
        exec (.setPowerManagement tck) s = .next ((s.admEnd id 0 0).psEnter (d % 32) tck))
      ∧ (box 0x04 = some (id, c) → d / 2 ^ 16 % 16 ≤ 8 → d / 2 ^ 20 % 4 ≤ 1 →
        exec .setTemperatureThreshold s = .next ((s.setFeat 4 (2 * (d / 2 ^ 16 % 16) + d / 2 ^ 20 % 4) (d % 2 ^ 16)).admEnd id 0 0))
      ∧ (own 0x07 = some (id, c) → (s.nvm.sqs.any fun q => decide (q.1 ≠ 0)) = false → (s.nvm.cqs.any fun q => decide (q.1 ≠ 0)) = false →
        let v := min 127 (d % 2 ^ 16) + min 127 (d / 2 ^ 16) * 2 ^ 16
        exec .setNumberOfQueues s = .next ((s.setFeat 7 0 v).admEnd id 0 v))
      ∧ (own 0x08 = some (id, c) → exec .setInterruptCoalescing s = .next ((s.setFeat 8 0 (d % 2 ^ 16)).admEnd id 0 0))
      ∧ (own 0x09 = some (id, c) → d % 2 ^ 16 ≤ 255 →
        exec .setIntVectorConfig s = .next ((s.setFeat 9 (d % 2 ^ 16) (d / 2 ^ 16 % 2)).admEnd id 0 0))
      ∧ (box 0x0A = some (id, c) → exec .setWriteAtomicity s = .next ((s.setFeat 0x0A 0 (d % 2)).admEnd id 0 0))
      ∧ (own 0x0B = some (id, c) → d < 256 → exec .setAsyncEventConfig s = .next ((s.setFeat 0x0B 0 d).admEnd id 0 0))
      ∧ (∀ b, box 0x0C = some (id, c) → ((List.range 32).all fun k => apstOk b k) = true →
        exec (.setApst (some b)) s
          = .next (((s.onNvm fun x => { x with apst := apstOf b, idle := s.now }).setFeat 0x0C 0 (d % 2)).admEnd id 0 0))
      ∧ (∀ b, box 0x0E = some (id, c) →
        let t := s.timeLoad (hdrNum b 0 6 * 10 ^ 6) 1
        let u := ((t.put R.AON_TIME_STS_UNKNOWN 0).put R.AON_TIME_UNC_US 1000).aonLevels
        exec (.setTimestamp (some b)) s = .next (((u.onNvm fun x => { x with tsHost := true }).pulse 164).admEnd id 0 0))
      ∧ (box 0xC0 = some (id, c) → d % 256 ≠ 0 → d % 256 ≤ 128 → d / 2 ^ 8 % 128 ≤ 63 →
        let off := (R.FTL_QCLASS_CLASS0 ((d % 256 - 1) / 4)).off
        exec .setQueueClass s = .next ((s.softWrite ftlChecks ftlEffect (.core 0) off
          ((s.rd off).setFld (8 * ((d % 256 - 1) % 4)) 6 (d / 2 ^ 8 % 128))).admEnd id 0 0))
      ∧ (box 0xC1 = some (id, c) → d % 128 ≤ 63 → (s.boot.content = true ∨ d / 2 ^ 8 % 8 < 4) →
        let t := s.softWrite ftlChecks ftlEffect (.core 0) (R.FTL_CLASS_EXP_EXPIRE (d % 128)).off (BitVec.ofNat 32 (c.dw 12))
        exec .setClassControl s = .next ((t.softWrite ftlChecks ftlEffect (.core 0) (R.FTL_CLASS_CTL_WRITABLE (d % 128)).off
          (BitVec.ofNat 32 (d / 2 ^ 8 % 8))).admEnd id 0 0))
      ∧ (box 0xC2 = some (id, c) → 1 ≤ d % 2 ^ 14 → d % 2 ^ 14 ≤ s.blockMax →
        exec .setBlockNamespaceSize s = .next ((s.setFeat 0xC2 0 (d % 2 ^ 14)).admEnd id 0 0))
      ∧ (box 0xC3 = some (id, c) →
        exec .setBoardPowerCap s
          = .next ((s.softWrite escChecks escEffect (.core 0) R.ESC_HOST_CAP (BitVec.ofNat 32 (d % 2 ^ 16))).admEnd id 0 0)))

/-- O34. The admin commands that firmware executes take effect from the mailbox: a piece of a package is
stored, a commit verifies a slot and names it, Format starts, a class drop starts, an index
entry is inserted or removed, data move between the host and ADM_BUF, and ADMIN_DONE posts the
completion; after ITPT of idleness the controller moves to the next power state; the BMC's basic
management read is answered.  Cites: 09_nvme_command_engine.md, R311, 09_nvme_command_engine.md,
R312, 09_nvme_command_engine.md, R313, 09_nvme_command_engine.md, R316,
09_nvme_command_engine.md, R319, 09_nvme_command_engine.md, R324, 09_nvme_command_engine.md,
R325, 14_boot_and_update.md, R459. -/
def Obligations.FirmwareAdminCommandsComplete : Prop :=
  ∀ (s : State) (id : Nat) (c : NvmCmd), s.running = true →
    let box := fun (op : Nat) => s.admBox fun c => decide (c.op = op)
    (∀ b, box 0x11 = some (id, c) →
      let n := 4 * (c.dw 10 + 1)
      let off := 4 * c.dw 11
      off % 65536 = 0 → off + n ≤ 2 ^ 25 → n % 65536 = 0 →
      (s.nvm.fw.any fun p => decide (off < p.1 + p.2.length) && decide (p.1 < off + n)) = false →
      exec (.firmwareImageDownload (some b)) s
        = .next ((s.onNvm fun x => { x with fw := x.fw ++ [(off, fit n b)] }).admEnd id 0 0))
    ∧ (∀ other own, box 0x10 = some (id, c) → c.dw 10 / 8 % 8 = 2 → c.dw 10 % 8 ≤ 2 →
      let slot := if c.dw 10 % 8 = 0 then 3 - s.bootRec.1 else c.dw 10 % 8
      exec (.firmwareCommit other own) s = .next (match s.pkgRun (s.slotAt slot) own with
        | (k, _, t) => if k ≠ 0 then t.admEnd id 0x107 0 else (t.commitRec 2 slot).admEnd id 0 0))
    ∧ (box 0x80 = some (id, c) → c.dw 10 = 0 → (s.boot.content && s.flag R.TGN_STS_JOINED) = false → s.flag R.NVM_STS_FORMAT = false →
      exec .formatNvm s = .next s.format)
    ∧ (box 0xC4 = some (id, c) → s.nvm.drop = none → c.dw 10 ≤ 63 → s.flag (R.FTL_CLASS_CTL_WRITABLE (c.dw 10)) = false →
      exec .classDropAdmin s = .next (s.onNvm fun x => { x with drop := some (c.dw 10, 0) }).dropAdmin)
    ∧ (∀ b, s.flag R.IST_CMD_GO = false → s.flag R.IST_STS_READY = true →
      (box 0xC5 = some (id, c) → s.extOf (IdxEnt.ofBytes (fit 32 b)).iu = none →
        s.extOf ((IdxEnt.ofBytes (fit 32 b)).iu + (IdxEnt.ofBytes (fit 32 b)).ius - 1) = none →
        let x := s.istAdmin 3 (fit 32 b)
        exec (.indexInsert (some b)) s
          = .next (x.2.admEnd id (if x.1 = 0 then 0 else if x.1 = 3 then 0x1C0 else if x.1 = 4 then 0x1C1 else 0x0C) 0))
      ∧ (box 0xC9 = some (id, c) →
        let x := s.istAdmin 4 (fit 32 (fit 16 b))
        exec (.indexRemove (some b)) s = .next (x.2.admEnd id (if x.1 = 0 then 0 else 0x1C2) 0)))
    ∧ (∀ (r : Requester) (words : BitVec 16) list b,
      let v := BitVec.ofNat 32 (2 ^ 12 + words.toNat * 2 ^ 16)
      let t := ((s.written r R.NVM_ADM_CTL v).put R.NVM_ADM_CTL_XFER 0).put R.NVM_ADM_CTL_DONE 0
      s.accepts nvmChecks r R.NVM_ADM_CTL v = true → t.nvm.mbox.bind t.nvm.cmds.find = some c →
      exec (.adminXfer r words list none) s = .next (t.put R.NVM_ADM_STS_XFER_ERR 1)
      ∧ (t.dramOpen = true →
        (c.op % 4 = 1 →
          exec (.adminXfer r words list (some b)) s
            = .next (t.dramStore 6 (t.rd64 R.NVM_ADM_BUF_LO % 2 ^ 37) (fit (4 * words.toNat) b) false).2)
        ∧ (∀ d u, c.op % 4 = 2 → t.dramLoad 6 (t.rd64 R.NVM_ADM_BUF_LO % 2 ^ 37) (4 * words.toNat) = (some d, u) →
          exec (.adminXfer r words list (some b)) s = .next (u.toHost (u.prps c (4 * words.toNat) list) 0 d.1 d.2))))
    ∧ (∀ (r : Requester) (status : BitVec 11) (dnr : Bool),
      let v := BitVec.ofNat 32 (2 ^ 13 + status.toNat + b2n dnr * 2 ^ 11)
      let t := ((s.written r R.NVM_ADM_CTL v).put R.NVM_ADM_CTL_XFER 0).put R.NVM_ADM_CTL_DONE 0
      s.accepts nvmChecks r R.NVM_ADM_CTL v = true →
      exec (.adminDone r status dnr) s = .next (t.adminDone (status.toNat + b2n dnr * 2 ^ 14) (t.rd R.NVM_ADM_CPL).toNat))
    ∧ (∀ tck,
      let e := s.nvm.apst.getD (s.feat 2 0) (0, 0)
      s.feat 0x0C 0 = 1 → e.1 ≠ 0 → s.nvmQuiet = true → s.nvm.idle + e.1 * 10 ^ 6 ≤ s.now → s.ist.flows = [] →
      exec (.apstTransition tck) s = .next (s.psEnter e.2 tck))
    ∧ (s.pwr.step = .awake →
      (s.flag R.NVM_CFG_MI_EN = false → ∀ code, exec (.miBasicRead code) s = .next (s.emit (.smbus false [])))
      ∧ (s.flag R.NVM_CFG_MI_EN = true →
        (let d := leBytes 2 0x1FE4 ++ s.serial;
         exec (.miBasicRead 8) s = .next ((s.pulse 167).emit (.smbus true (d ++ [pec ([0xD4, 8, 0xD5] ++ d)]))))
        ∧ exec (.miBasicRead 9) s = .next ((s.pulse 167).emit (.smbus true [0xFF]))))

/-- O35. With PERST_N released and the page enabled the link comes up with what both partners offer; a
link that is up goes down, is reset, enters L1 or L2, changes its width under L0p, and takes
completions, requests and errors; PERST_N asserts and releases; configuration access opens 1.0 s
after L0 was first reached; a host read ends by its data, by an error status, or by the
completion timeout, whose tag returns when it is due.  Cites: 10_pcie_endpoint.md, R330,
10_pcie_endpoint.md, R333, 10_pcie_endpoint.md, R337, 10_pcie_endpoint.md, R339,
10_pcie_endpoint.md, R342, 10_pcie_endpoint.md, R346, 10_pcie_endpoint.md, R347,
10_pcie_endpoint.md, R348, 10_pcie_endpoint.md, R354, 10_pcie_endpoint.md, R357,
14_boot_and_update.md, R441. -/
def Obligations.PcieLinkCommandsComplete : Prop :=
  ∀ (s : State), s.running = true →
    (∀ (v : BitVec 3) (w : BitVec 2) (flit : Bool), s.linkMayTrain = true → s.flag R.PCI_LINK_STS_UP = false →
      s.get R.PCI_LINK_STS_LTSSM ≠ 8 → 1 ≤ v.toNat → v.toNat ≤ 6 →
      exec (.linkUp v w flit) s = .next (((s.put R.PCI_LINK_STS_UP 1).pulse 144).linkTrained v.toNat w.toNat flit))
    ∧ (s.pci.perst = false →
      exec .perstNAssert s
        = .next ((((((let t := s.onPci fun x => { x with perst := true }
            if s.flag R.PCI_LINK_STS_UP then t.linkDrop else t)).readsEnd false).onRail fun x => { x with seq := [] }).rebootAsk 4).wake 1))
    ∧ (let t := s.onPci fun x => { x with perst := false }
      t.linkMayTrain = true → t.get R.PCI_LINK_STS_LTSSM = 0 →
      exec .perstNRelease s = .next ((t.put R.PCI_LINK_STS_SPEED 1).put R.PCI_LINK_STS_LTSSM 1))
    ∧ (∀ t, s.pci.firstL0 = some t → t + 10 ^ 9 ≤ s.now → exec .cfgOpenTimeout s = .next (s.put R.PCI_LINK_STS_CFG_OPEN 1))
    ∧ (∀ (tag : BitVec 14) r, s.pci.reads.find tag.toNat = some r → (s.cfgRd 0x88).bit 4 = false → r.at_ + s.cplTimeout ≤ s.now →
      let p := ((s.readBusError 1 tag.toNat r true).pulse 152).freeHeader
      exec (.completionTimeout tag) s = .next ((p.2.aerUnc 14 p.1).dmaGoOn.tagRefresh))
    ∧ (∀ (tag : BitVec 14) t, s.pci.tagHold.find tag.toNat = some t → t ≤ s.now →
      exec (.tagHoldEnd tag) s = .next (s.onPci fun x => { x with tagHold := x.tagHold.del tag.toNat }).dmaGoOn)
    ∧ (∀ (bit : Fin 32) (h0 h1 h2 h3 : Word),
      (bit.val ∈ [0, 6, 7, 8] → exec (.linkLayerError true bit h0 h1 h2 h3) s = .next (s.aerCorr bit.val))
      ∧ (bit.val ∈ [4, 13, 17, 18] → exec (.linkLayerError false bit h0 h1 h2 h3) s = .next (s.aerUnc bit.val [h0, h1, h2, h3])))
    ∧ (s.flag R.PCI_LINK_STS_UP = true →
      exec .linkDown s = .next ((s.linkDrop.readsEnd true).fnResetAsk 3)
      ∧ exec .hotReset s = .next (((s.pulse 147).linkDrop.readsEnd true).fnResetAsk 1)
      ∧ (∀ (byHost : Bool) (w : BitVec 2), s.flag R.PCI_LINK_STS_FLIT = true → (s.cfgRd 0x268).bit 3 = true →
        w.toNat ≤ s.get R.PCI_LINK_STS_WIDTH →
        (byHost = true ∨ (s.flag R.PCI_LINK_CFG_L0P_EN = true
          ∧ (w.toNat + 1 = s.get R.PCI_LINK_STS_L0P_WIDTH ∨ w.toNat = s.get R.PCI_LINK_STS_WIDTH))) →
        exec (.l0pWidthChange byHost w) s = .next (s.put R.PCI_LINK_STS_L0P_WIDTH w.toNat))
      ∧ (s.pci.reads = [] →
        (s.get R.PCI_LINK_STS_LTSSM = 3 → (s.cfgRd 0x70).bit 1 = true →
          exec (.aspmL1Entry 0) s = .next (s.put R.PCI_LINK_STS_LTSSM 5)
          ∧ ((s.cfgRd 0x248).bit 3 = true → exec (.aspmL1Entry 1) s = .next (s.put R.PCI_LINK_STS_LTSSM 6))
          ∧ ((s.cfgRd 0x248).bit 2 = true → exec (.aspmL1Entry 2) s = .next (s.put R.PCI_LINK_STS_LTSSM 7)))
        ∧ exec .l2Entry s = .next (((s.put R.PCI_LINK_STS_UP 0).put R.PCI_LINK_STS_LTSSM 8).pulse 145))
      ∧ (∀ (tag : BitVec 14) (status : BitVec 3) data r,
        let t := ((s.linkActive).evtB pciPage 0x10 1).evtB pciPage 0x13 1
        t.pci.reads.find tag.toNat = some r →
        (status = 0 → exec (.readCompletion tag status data) s = .next (t.readData tag.toNat data false))
        ∧ (status ≠ 0 → exec (.readCompletion tag status data) s = .next (t.readBusError 2 tag.toNat r false).dmaGoOn.tagRefresh))
      ∧ (∀ h0 h1 h2 h3 : Word, exec (.unsupportedRequest h0 h1 h2 h3) s = .next (s.linkActive.aerUnc 20 [h0, h1, h2, h3]))
      ∧ (∀ (tag : BitVec 14) data,
        let p := (((s.linkActive).bump R.PCI_POISON_CNT_IN 1).pulse 150).freeHeader
        exec (.poisonedTlp none data) s = .next (p.2.aerUnc 12 p.1)
        ∧ exec (.poisonedTlp (some tag) data) s = .next ((p.2.aerUnc 12 p.1).readData tag.toNat data true)))

/-- O36. With the link up and configuration access open, a configuration write changes what the host may
change and has its effect, and completes; a read answers the dword; the writes that reset the
function, clear Bus Master Enable, enable MSI-X, unmask a vector, disable INTx and change
PowerState have the effect of the dword they write; an accepted CFG_READY opens configuration
access; an accepted RETRAIN trains the link to what the partner offers.  Cites:
10_pcie_endpoint.md, R332, 10_pcie_endpoint.md, R337, 10_pcie_endpoint.md, R340,
10_pcie_endpoint.md, R351, 10_pcie_endpoint.md, R352, 10_pcie_endpoint.md, R353,
10_pcie_endpoint.md, R356, 10_pcie_endpoint.md, R357. -/
def Obligations.ConfigCommandsComplete : Prop :=
  ∀ (s : State), s.running = true →
    (s.linkActive.flag R.PCI_LINK_STS_UP = true → s.linkActive.flag R.PCI_LINK_STS_CFG_OPEN = true →
      let wrote := fun (o : Nat) (v : Word) (be : BitVec 4) =>
        (Host.Outcome.next ((s.linkActive.cfgWrite o v be).emit (.config false 0)) : Host.Outcome State Fault Refusal)
      (∀ (o : BitVec 10) (be : BitVec 4) (v : Word),
        exec (.configRequest true o be v) s = wrote (4 * o.toNat) v be
        ∧ exec (.configRequest false o be v) s
          = .next (s.linkActive.emit (.config false (s.linkActive.cfgShow (4 * o.toNat)).toNat)))
      ∧ exec .functionLevelReset s = wrote 0x68 ((s.cfgRd 0x68).setBit 15) 0b0011
      ∧ exec .busMasterClear s = wrote 0x04 ((s.cfgRd 0x04).setFld 2 1 0 &&& 0xFFFF) 0b0011
      ∧ exec .msixEnable s = wrote 0x50 ((s.cfgRd 0x50).setBit 31) 0b1100
      ∧ exec (.msixVectorUnmask none) s = wrote 0x50 ((s.cfgRd 0x50).setFld 30 1 0) 0b1100
      ∧ exec .interruptDisable s = wrote 0x04 ((s.cfgRd 0x04).setBit 10 &&& 0xFFFF) 0b0011
      ∧ exec .d3hotEntry s = wrote 0x44 (((s.cfgRd 0x44).setFld 0 2 3).setFld 15 1 0) 0b0011
      ∧ exec .d0Return s = wrote 0x44 (((s.cfgRd 0x44).setFld 0 2 0).setFld 15 1 0) 0b0011)
    ∧ (∀ vec : BitVec 8, s.memEn = true → s.pci.d3 = false →
      exec (.msixVectorUnmask (some vec)) s = .next (s.bar4Write (16 * vec.toNat + 12) 0))
    ∧ (∀ r : Requester, s.accepts pciChecks r R.PCI_CTL 1 = true → (s.wordBefore r R.PCI_CTL).bit 0 = false →
      exec (.cfgReady r) s = .next ((s.written r R.PCI_CTL 1).put R.PCI_LINK_STS_CFG_OPEN 1))
    ∧ (∀ (r : Requester) (v : BitVec 3) (w : BitVec 2) (flit : Bool),
      let ctl := (s.rd R.PCI_CTL).setFld 1 1 1
      s.accepts pciChecks r R.PCI_CTL ctl = true → ctl.bit 1 = true → (s.wordBefore r R.PCI_CTL).bit 0 = true →
      exec (.retrain r v w flit) s = .next ((s.written r R.PCI_CTL ctl).linkTrained (max 1 (min 6 v.toNat)) w.toNat flit))

/-- O37. At a window boundary with the clocks on, budgets take effect and pools and shares refill, and a
running governor takes its sample; an accepted write of CTL.RUN starts the warm-up when RUN was
0, an accepted MODE changes the mode; ARM clears and arms the trace, TRIG_NOW marks the next
sample; with BMC_EN a board transfer with a right PEC sets the cap, with source 47, or the inlet
temperature, and a read answers the power in 100 mW with its PEC.  Cites:
11_escapement_governor.md, R365, 11_escapement_governor.md, R378, 11_escapement_governor.md,
R381, 11_escapement_governor.md, R382, 11_escapement_governor.md, R385, 03_flash_channels.md,
R73. -/
def Obligations.GovernorCommandsComplete : Prop :=
  ∀ (s : State), s.running = true →
    (∀ (y0 : Word) (age : Nat) (pkg iflash : Word), s.cur < 2 →
      let t := s.windowRefill
      ((t.flag R.ESC_CTL_RUN = true ∧ t.flag (hRUNNING escPage) = true ∧ t.pwr.step ≠ .settle) →
        exec (.windowBoundary y0 age pkg iflash) s = .next (t.escSample y0.toInt age pkg.toInt iflash.toInt))
      ∧ (t.flag R.ESC_CTL_RUN = false →
        exec (.windowBoundary y0 age pkg iflash) s = .next ((t.put R.ESC_STS_RUNNING 0).put R.ESC_STS_WARMING 0)))
    ∧ (∀ (r : Requester) (run : Bool),
      let ctl := (s.rd R.ESC_CTL).setFld 0 1 (b2n run)
      s.accepts escChecks r R.ESC_CTL ctl = true →
      ((ctl.bit 0 = true → (s.wordBefore r R.ESC_CTL).bit 0 = true) →
        exec (.governorRun r run) s = .next (s.written r R.ESC_CTL ctl))
      ∧ (ctl.bit 0 = true → (s.wordBefore r R.ESC_CTL).bit 0 = false →
        exec (.governorRun r run) s
          = .next ((s.written r R.ESC_CTL ctl).onEsc fun x => { x with warm := ctl.fld 8 8, fresh := true })))
    ∧ (∀ (r : Requester) (mode : BitVec 2),
      let ctl := (s.rd R.ESC_CTL).setFld 1 2 mode.toNat
      s.accepts escChecks r R.ESC_CTL ctl = true → (ctl.bit 0 = true → (s.wordBefore r R.ESC_CTL).bit 0 = true) →
      exec (.governorMode r mode) s = .next (s.written r R.ESC_CTL ctl))
    ∧ (∀ (r : Requester) (v : Word),
      let w := v.setFld 0 1 1
      s.accepts escChecks r R.ESC_TRC_CTL w = true → w.bit 0 = true → (s.wordBefore r R.ESC_TRC_CTL).bit 0 = false →
      exec (.traceArm r v) s
        = .next ((((((s.written r R.ESC_TRC_CTL w).put R.ESC_TRC_CTL_TRIG_NOW 0).put R.ESC_TRC_STS_ARMED 1).put R.ESC_TRC_STS_TRIGGERED 0).put
            R.ESC_TRC_STS_WR_IDX 0).onEsc fun x => { x with trace := [], decim := 0, trig := false, post := none }))
    ∧ (∀ r : Requester,
      let w := ((s.rd R.ESC_TRC_CTL).setFld 0 1 0).setFld 1 1 1
      s.accepts escChecks r R.ESC_TRC_CTL w = true → w.bit 0 = false →
      exec (.traceTrigger r) s = .next (s.written r R.ESC_TRC_CTL w))
    ∧ (s.pwr.step = .awake → s.flag R.ESC_CTL_BMC_EN = true →
      (∀ w : BitVec 16,
        (let p := pec ([0xD6, 0x40] ++ leBytes 2 w.toNat);
          exec (.bmcSetCap w p) s = .next (((s.put R.ESC_BMC_CAP_CAP w.toNat).pulse 47).emit (.smbus true [])))
        ∧ (let p := pec ([0xD6, 0x41] ++ leBytes 2 w.toNat);
          exec (.bmcSetInlet w p) s = .next ((s.wrQ R.ESC_T_AMB (w.toInt * 256)).emit (.smbus true []))))
      ∧ (let d := leBytes 2 (tenths (s.rdQ R.ESC_P_BOARD));
        exec .bmcReadBoardPower s = .next (s.emit (.smbus true (d ++ [pec ([0xD6, 0x42, 0xD7] ++ d)]))))
      ∧ (let d := leBytes 2 (tenths (s.rdQ R.ESC_P_PKG));
        exec .bmcReadPkgPower s = .next (s.emit (.smbus true (d ++ [pec ([0xD6, 0x43, 0xD7] ++ d)])))))

/-- O38. An accepted write of PWR.CMD.GO, the engine's request, or its retry starts entry when nothing
blocks it, and a blocked request waits with source 10; a due drain ends what still runs; a core
parks and waits; a due park time gives the entry up; with all parked the sleep state is reached,
and exit ends in RUN; a recognised enabled wake source that acts is recorded and starts exit;
DOZE begins with nothing on demand running and ends.  Cites: 12_clocks_power_time.md, R394,
12_clocks_power_time.md, R395, 12_clocks_power_time.md, R396, 12_clocks_power_time.md, R397,
12_clocks_power_time.md, R398, 12_clocks_power_time.md, R399. -/
def Obligations.SleepCommandsComplete : Prop :=
  ∀ (s : State), s.running = true →
    (∀ (r : Requester) (target : BitVec 2) (tck : Bool),
      let v : Word := BitVec.ofNat 32 (target.toNat + 4)
      s.accepts pwrChecks r R.PWR_CMD v = true → v.bit 2 = true → (s.wordBefore r R.PWR_CMD).bit 2 = false →
      exec (.sleepRequest (some r) target tck) s = .next ((s.written r R.PWR_CMD v).sleepGo (v.fld 0 2) false tck))
    ∧ (∀ (target : BitVec 2) (tck : Bool), 3 ≤ s.feat 2 0 % 32 → s.feat 2 0 % 32 - 2 = target.toNat → s.cur < 2 →
      s.flag R.PWR_STATE_ENTERING = false →
      (s.sleepBlocked = none → exec (.sleepRequest none target tck) s = .next (s.sleepGo target.toNat true tck))
      ∧ (∀ k, s.sleepBlocked = some k → s.flag R.PWR_STATE_PENDING = false →
        exec (.sleepRequest none target tck) s
          = .next ((((s.put R.PWR_STATE_PENDING 1).put R.PWR_STATE_PEND_TGT target.toNat).put R.PWR_STATE_REFUSE k).pulse 10)))
    ∧ (∀ tck : Bool, s.flag R.PWR_STATE_PENDING = true → s.sleepBlocked = none →
      exec (.sleepRetry tck) s = .next (s.sleepGo (s.get R.PWR_STATE_PEND_TGT) true tck))
    ∧ (s.pwr.step = .drain → s.pwr.drainAt ≤ s.now →
      exec .drainTimeout s = .next ((s.ist.flows.map (·.1)).foldl (fun s i => s.abortAny i) s).sleepStep)
    ∧ (∀ c : Fin 4,
      let v := (s.rd R.PWR_PARK).setBit c.val
      s.accepts pwrChecks (.core c) R.PWR_PARK v = true →
      exec (.corePark c) s
        = .next ((s.written (.core c) R.PWR_PARK v).onPwr fun x => { x with coreWait := x.coreWait ||| 2 ^ c.val }).sleepStep)
    ∧ (s.pwr.step = .park → s.pwr.parkAt ≤ s.now → exec .parkTimeout s = .next s.sleepGiveUp)
    ∧ (s.pwr.step = .settle → exec .sleepStateReached s = .next s.sleepReached)
    ∧ (∀ (srcs : BitVec 12) (c : Nat), ((List.range 12).filter fun c => srcs.toNat.testBit c && s.wakeOk c) = [c] →
      s.pwr.step = .asleep → s.pwr.wakeLatched = false → s.pci.d3 = false →
      let t := ((((s.putBit R.PWR_WAKE_ALL_SEEN c true).put R.PWR_WAKE_REC_SRC c).put R.PWR_WAKE_REC_ENTRY 0).put R.PWR_WAKE_REC_DEEP
        (b2n (decide (s.pwr.target = 2)))).put R.PWR_WAKE_REC_EXTRA 0
      exec (.wakeRecognised srcs) s = .next t.exitBegin)
    ∧ (s.pwr.step = .exit → exec .exitComplete s = .next s.exitDone)
    ∧ (s.cur = 0 → s.pwr.step = .awake →
      (ledgerPages.any fun p => s.flag (hCLK_ON p.base0) && decide (s.get (hCKREQ p.base0) = 0)) = false →
      exec .dozeEnter s = .next ((s.put R.PWR_STATE_CUR 1).onPwr fun x => { x with coreWait := 15 }))
    ∧ (s.cur = 1 → exec .dozeExit s = .next ((s.put R.PWR_STATE_CUR 0).onPwr fun x => { x with coreWait := 0 }))

/-- O39. An accepted DOM_ON write brings a domain up or takes it down; a domain not stable after 200
microseconds is a fault with source 14; a PLL that loses lock closes its branches, counts,
pulses 13 and is a fault, and relocked runs them again; loss of REF25_IN is fatal outside DEEP;
TIME_SET sets device time; HS_CTL.ARM arms, and a match clears ARM, pulses 0 and wakes; a GPIO
edge is shown, a selected one wakes; the regulator's guard keeps the peak and wakes over its
threshold; STBY_CLR clears the record.  Cites: 12_clocks_power_time.md, R391,
12_clocks_power_time.md, R393, 12_clocks_power_time.md, R403, 12_clocks_power_time.md, R404,
12_clocks_power_time.md, R405, 12_clocks_power_time.md, R407, 12_clocks_power_time.md, R410,
18_memory_protection.md, R540. -/
def Obligations.DomainClockAndTimeCommandsComplete : Prop :=
  ∀ (s : State), s.running = true →
    (∀ (r : Requester) (d : Fin 34),
      let o := R.PWR_DOM_ON_0 + 4 * (d.val / 32)
      let change := fun (t : State) (f : Nat → State → State) (old : Word) =>
        ((List.range 34).filter fun d' => decide (d' / 32 = d.val / 32)).foldl (fun t d' =>
          if old.bit (d' % 32) ∧ !t.domOn d' then t.domDown d'
          else if !old.bit (d' % 32) ∧ t.domOn d' then f d' t
          else t) t
      let keep := fun (t : State) (v : Word) => if d.val / 32 = 0 then t.wr R.PWR_DOM_ON_0 (((v.setBit 0).setBit 1).setBit 6) else t
      (∀ (mapOk up : Bool),
        let v := s.domWord d.val true
        s.accepts pwrChecks r o v = true →
        exec (.domainSwitchOn r d mapOk up) s
          = .next (change (keep (s.written r o v) v) (fun d' t => t.domUp d' mapOk up) (s.wordBefore r o)))
      ∧ (let v := s.domWord d.val false;
        s.accepts pwrChecks r o v = true →
        exec (.domainSwitchOff r d) s
          = .next (change (keep (s.written r o v) v) (fun d' t => t.domUp d' true true) (s.wordBefore r o))))
    ∧ (∀ (d : Fin 34) t, s.pwr.rising.find d.val = some t → t + 200000 ≤ s.now →
      exec (.domainOnTimeout d) s
        = .next (((s.onPwr fun x => { x with rising := x.rising.del d.val }).pulse 14).raise .pwr 0 0x09 .u d.val))
    ∧ (∀ p : Fin 8,
      (s.pllOn p.val = true → s.pwr.unlocked.contains p.val = false →
        let t := ((s.clocked p.val).foldl (fun s b => s.put (hCLK_ON b) 0) s).onPwr fun x =>
          { x with unlocked := insertNat p.val x.unlocked, clkWait := x.clkWait ++ s.clocked p.val }
        exec (.pllUnlock p) s
          = .next (((t.putBit R.CLK_UNLOCK_SEEN p.val true).bump R.CLK_UNLOCK_CNT 1).pulse 13 |>.raise .clk 0 0x08 .u p.val))
      ∧ (s.pwr.unlocked.contains p.val = true →
        let bs := s.pwr.clkWait.filter fun b => (findPage b).any fun q => decide (q.clock.bind clockPll = some p.val)
        exec (.pllRelock p) s
          = .next ((bs.foldl (fun s b => s.put (hCLK_ON b) 1) s).onPwr fun x =>
            { x with unlocked := x.unlocked.filter (· ≠ p.val), clkWait := x.clkWait.filter fun b => !bs.contains b })))
    ∧ (s.cur ≠ 3 → exec .refClockLoss s = .next ((s.onPwr fun x => { x with refLost := true }).fatal .clk 0 0x08 0xF))
    ∧ (∀ r : Requester,
      (s.accepts aonChecks r R.AON_TIME_CTL 1 = true → exec (.timeSet r) s = .next (s.written r R.AON_TIME_CTL 1).timeSet)
      ∧ (s.accepts aonChecks r R.AON_HS_CTL 1 = true → exec (.hsArm r) s = .next (s.written r R.AON_HS_CTL 1))
      ∧ (s.accepts aonChecks r R.AON_STBY_CLR 1 = true →
        exec (.stbyClr r) s
          = .next ((((s.written r R.AON_STBY_CLR 1).put R.AON_STBY_REC_CAUSE 0).put R.AON_STBY_REC_HALTED 0).aonLevels)))
    ∧ (s.flag R.AON_HS_CTL_ARM = true → s.count R.AON_HS_CMP_LO ≤ s.hs →
      exec .hsMatch s = .next ((((s.put R.AON_HS_CTL_ARM 0).put R.AON_HS_CTL_MATCH 1).pulse 0).wake (2 ^ 8)))
    ∧ (∀ (k : Fin 2) (level : Bool),
      let cfg := (s.rd R.AON_GPIO_CFG).fld (8 * k.val) 4
      let t := (s.putBit R.AON_GPIO_STS_IN k.val level).gpioDrive
      ((cfg % 4 = 0 ∧ s.fbit R.AON_GPIO_STS_IN k.val ≠ level ∧ (cfg / 4).testBit (if level then 0 else 1) = true) →
        exec (.gpioEdge k level) s = .next (((t.putBit R.AON_GPIO_STS_EDGE k.val true).pulse (4 + k.val)).wake (2 ^ (9 + k.val))))
      ∧ ((cfg % 4 ≠ 0 ∨ s.fbit R.AON_GPIO_STS_IN k.val = level ∨ (cfg / 4).testBit (if level then 0 else 1) = false) →
        exec (.gpioEdge k level) s = .next t))
    ∧ (∀ load : Nat, s.flag R.AON_REG_STS_LP = true →
      let t := s.put R.AON_REG_STS_PEAK (max (s.get R.AON_REG_STS_PEAK) (min 255 (load / 100)))
      (t.flag R.PWR_DEEP_CFG_GUARD_EN = true → t.get R.PWR_DEEP_CFG_GUARD_MA * 100 < load →
        exec (.regulatorGuard load) s = .next (t.wake (2 ^ 11)))
      ∧ (t.flag R.PWR_DEEP_CFG_GUARD_EN = false → exec (.regulatorGuard load) s = .next t))

/-- O40. An accepted CTL.SEQ starts the ramps of the enabled OFF groups one after another, an accepted
CTL.OFF pulls the chosen gates low; a slot that ends settled turns its group ON with its event
and the sequence goes on, one that does not settle locks it off with cause 5; a ramp reaches
SETTLE; the limiter engages on a ramping group or releases; shorts, overcurrent, undervoltage,
sleep undervoltage and a stuck output lock off with their causes 1 to 6; a group in COOL is
ramped once more; a group whose output has fallen is OFF.  Cites: 13_rails_pins_electrical.md,
R414, 13_rails_pins_electrical.md, R415, 13_rails_pins_electrical.md, R416,
13_rails_pins_electrical.md, R418, 13_rails_pins_electrical.md, R419,
13_rails_pins_electrical.md, R420, 13_rails_pins_electrical.md, R422. -/
def Obligations.RailCommandsComplete : Prop :=
  ∀ (s : State), s.running = true →
    (∀ r : Requester, s.accepts railChecks r R.RAIL_CTL 1 = true →
      exec (.railSequence r) s = .next (s.written r R.RAIL_CTL 1).railSeq)
    ∧ (∀ (r : Requester) (mask : Byte),
      let v : Word := BitVec.ofNat 32 (mask.toNat * 256)
      s.accepts railChecks r R.RAIL_CTL v = true → v.bit 0 = false →
      exec (.railOff r mask) s
        = .next ((List.range 8).foldl (fun s g => if v.bit (8 + g) then s.railOff g else s) (s.written r R.RAIL_CTL v)))
    ∧ (∀ (g : Fin 8) (peak : BitVec 16) t, s.rail.slot = some (g.val, t) → t ≤ s.now → s.railState g.val = 1 ∨ s.railState g.val = 2 →
      (let u := ((s.setLimit g.val false).setRail g.val 3).pulse (16 + g.val);
        exec (.railSlotEnd g true peak) s = .next (State.seqLoop u.rail.seq u))
      ∧ (let u := s.lockOff g.val 5 peak.toNat false;
        exec (.railSlotEnd g false peak) s = .next (State.seqLoop u.rail.seq u)))
    ∧ (∀ (g : Fin 8) (peak : BitVec 16),
      (s.railState g.val = 1 →
        (g.val ∉ s.rail.limit → exec (.railRampDone g) s = .next (s.setRail g.val 2))
        ∧ exec (.railLimiterChange g true) s = .next (s.setLimit g.val true)
        ∧ exec (.railShort g false peak) s = .next (s.lockOff g.val 1 peak.toNat false)
        ∧ (g.val ∈ s.rail.limit → exec (.railShort g true peak) s = .next (s.lockOff g.val 2 peak.toNat false)))
      ∧ exec (.railLimiterChange g false) s = .next (s.setLimit g.val false)
      ∧ (s.railState g.val = 3 →
        exec (.railOvercurrent g peak) s = .next (s.lockOff g.val 3 peak.toNat false)
        ∧ (s.get R.PLJ_PF_STS_STATE = 0 → exec (.railUndervoltage g peak) s = .next (s.lockOff g.val 4 peak.toNat false))
        ∧ (2 ≤ s.cur → exec (.railSleepUv g peak) s = .next (s.lockOff g.val 4 peak.toNat true)))
      ∧ (s.railState g.val = 4 →
        exec (.railOffDone g) s
          = .next (((s.setRail g.val 0).putBit R.RAIL_CTL_OFF g.val false).onRail fun x => { x with offAt := x.offAt.del g.val })
        ∧ (∀ t, s.rail.offAt.find g.val = some t → t + 10 ^ 8 ≤ s.now →
          exec (.railStuck g peak) s = .next (s.lockOff g.val 6 peak.toNat false))))
    ∧ (∀ (g : Fin 8) t, s.railState g.val = 6 → s.rail.cool.find g.val = some t → t ≤ s.now → s.rail.slot = none → s.rail.retry = none →
      s.anyRail (fun x => decide (x = 1)) = false → s.get R.PLJ_PF_STS_STATE = 0 → s.cur < 2 →
      exec (.railRetry g) s
        = .next ((((s.onRail fun x => { x with cool := x.cool.del g.val, retry := some (g.val, s.slotEndAt) }).putBit
            R.RAIL_FLT_RETRY_USED g.val true).rampStart g.val).pulse (16 + g.val)))

/-- O41. An accepted LOAD, CHECK or VERIFY checks its image, with LOAD also storing it, and completes
with its result; TOKEN in SECURE checks the token in the buffer; PROVISION blows the fuses it
names; ADVANCE_SVN with BOOT_OK set and a newer SVN running blows the fuses up to it; ERASE,
PROGRAM and READ act on the serial NOR; BOOT_OK stops the watchdog and clears the try count;
SEAL and CORE_REL set their fields.  Cites: 14_boot_and_update.md, R447, 14_boot_and_update.md,
R448, 14_boot_and_update.md, R449, 14_boot_and_update.md, R450, 14_boot_and_update.md, R452,
14_boot_and_update.md, R456, 14_boot_and_update.md, R458, 14_boot_and_update.md, R460. -/
def Obligations.BootCommandsComplete : Prop :=
  ∀ (s : State) (r : Requester), s.running = true →
    (s.flag R.BOOT_CMD_GO = false →
      let cmd := fun (op kind sel : Nat) => (BitVec.ofNat 32 (op + 16 + kind * 256 + sel * 4096) : Word)
      let took := fun (w : Word) => (s.written r R.BOOT_CMD w).put R.BOOT_CMD_STS_BUSY 1
      let takes := fun (w : Word) => s.accepts bootChecks r R.BOOT_CMD w = true ∧ w.bit 4 = true ∧ (took w).rd R.BOOT_CMD = w
      (∀ (kind : BitVec 2) (f : NorFact),
        (takes (cmd 1 kind.toNat 0) → exec (.loadImage r kind f) s = .next ((took (cmd 1 kind.toNat 0)).imgCmd r.core0 1 f))
        ∧ (takes (cmd 2 kind.toNat 0) → exec (.check r kind) s = .next ((took (cmd 2 kind.toNat 0)).imgCmd r.core0 2 .ok))
        ∧ (takes (cmd 3 kind.toNat 0) → exec (.verify r kind f) s = .next ((took (cmd 3 kind.toNat 0)).imgCmd r.core0 3 f)))
      ∧ (takes (cmd 4 0 0) → (took (cmd 4 0 0)).get R.BOOT_STS_SEC_STATE = 1 →
        exec (.token r) s = .next (took (cmd 4 0 0)).tokenCmd)
      ∧ (∀ sel : BitVec 3,
        let t := took (cmd 5 0 sel.toNat)
        takes (cmd 5 0 sel.toNat) → t.debugOpen = false →
        (sel.toNat ≤ 1 → t.get R.BOOT_CMD_SEL = sel.toNat → hashSet (t.boot.fuses.owner sel.toNat) = false →
          exec (.provision r sel) s = .next ((t.onBoot fun x => { x with fuses :=
            if sel.toNat = 0 then { t.boot.fuses with owner0 := t.tokBytes.take 48 } else { t.boot.fuses with owner1 := t.tokBytes.take 48 } }).bootEnd 0))
        ∧ (1 < t.get R.BOOT_CMD_SEL → exec (.provision r sel) s = .next t.provision))
      ∧ (let t := took (cmd 6 0 0);
        takes (cmd 6 0 0) → t.flag R.BOOT_STS_BOOT_OK = true → t.get R.BOOT_SVN_FUSED < t.get R.BOOT_SVN_ACTIVE →
        let up := fun (g : Fuses) => { g with svn := g.svn ||| (2 ^ t.get R.BOOT_SVN_ACTIVE - 2 ^ t.get R.BOOT_SVN_FUSED) }
        exec (.advanceSvn r) s
          = .next (((t.onBoot fun x => { x with fuses := up x.fuses, sensed := up x.sensed }).put R.BOOT_SVN_FUSED
              (t.get R.BOOT_SVN_ACTIVE)).bootEnd 0)))
    ∧ (s.flag R.BOOT_SPI_CMD_GO = false →
      let took := fun (op : Nat) => s.written r R.BOOT_SPI_CMD (BitVec.ofNat 32 (op + 4))
      let takes := fun (op : Nat) => s.accepts bootChecks r R.BOOT_SPI_CMD (BitVec.ofNat 32 (op + 4)) = true
        ∧ (took op).flag R.BOOT_SPI_CMD_GO = true ∧ (took op).get R.BOOT_SPI_CMD_OP = op
      ∀ err,
        (takes 1 → exec (.spiErase r err) s = .next ((took 1).spiRun 1 err))
        ∧ (takes 2 → exec (.spiProgram r err) s = .next ((took 2).spiRun 2 err))
        ∧ (takes 3 → exec (.spiRead r err) s = .next ((took 3).spiRun 3 err)))
    ∧ (s.accepts bootChecks r R.BOOT_CTL 1 = true →
      exec (.bootOk r) s
        = .next ((((s.written r R.BOOT_CTL 1).put R.BOOT_STS_BOOT_OK 1).put R.BOOT_WDT_RUNNING 0).put R.BOOT_TRY_CNT 0))
    ∧ (s.accepts bootChecks r R.BOOT_CTL 2 = true → exec (.ctlSeal r) s = .next ((s.written r R.BOOT_CTL 2).put R.BOOT_STS_SEALED 1))
    ∧ (∀ cores : BitVec 3,
      let v : Word := BitVec.ofNat 32 (cores.toNat * 16)
      s.accepts bootChecks r R.BOOT_CTL v = true → exec (.coreRelease r cores) s = .next (s.written r R.BOOT_CTL v))

/-- O42. REBOOT, when a reset has left it due, senses fuses and repair maps and runs the boot ROM; an
accepted FAIL_SLOT notes the slot to skip and asks for the reset, as an expired watchdog does;
half its time raises source 51; an expired debug window returns to SECURE; a power cycle and a
brownout give the state after a cold reset with the standby record of their cause; each TAP
instruction is selected, and IDCODE and CHALLENGE shift out their values.  Cites:
12_clocks_power_time.md, R404, 14_boot_and_update.md, R441, 14_boot_and_update.md, R448,
14_boot_and_update.md, R452, 14_boot_and_update.md, R453, 14_boot_and_update.md, R455,
14_boot_and_update.md, R456, 14_boot_and_update.md, R457, 18_memory_protection.md, R540. -/
def Obligations.ResetAndTapCommandsComplete : Prop :=
  ∀ (s : State), s.running = true →
    (∀ (norMode : Fin 3) (maps : BitVec 34) (facts : List NorFact), s.boot.due = true →
      let t := ((List.range 34).filter fun d => s.domSts d).foldl (fun s d => s.repair d (!maps.toNat.testBit d)) s
      exec (.reboot norMode maps facts) s = .next (t.bootRom norMode.val facts))
    ∧ (∀ r : Requester,
      let t := (s.written r R.BOOT_CTL 4).put R.BOOT_TRY_LAST 2
      let slot := (s.written r R.BOOT_CTL 4).get R.BOOT_STS_SLOT
      s.accepts bootChecks r R.BOOT_CTL 4 = true → slot ≠ 0 →
      exec (.failSlot r) s = .next ((t.putBit R.BOOT_TRY_SKIP (slot - 1) true).rebootAsk 6))
    ∧ (s.wdtPast 2 = true → s.boot.wdtHalf = false →
      exec .wdtHalf s = .next ((s.onBoot fun x => { x with wdtHalf := true }).pulse 51))
    ∧ (s.wdtPast 1 = true → exec .wdtExpire s = .next (((s.put R.BOOT_WDT_RUNNING 0).put R.BOOT_TRY_LAST 1).rebootAsk 5))
    ∧ (∀ t, s.boot.debugEnd = some t → s.debugOpen = true → t ≤ s.hsCount →
      exec .debugOpenExpire s = .next (((s.put R.BOOT_STS_SEC_STATE 1).onBoot fun x => { x with debugEnd := none }).pulse 49))
    ∧ exec (.coldReset true) s = .next (s.cold ((s.rd R.AON_STBY_REC).setFld 0 4 3) s.flt.haltRec)
    ∧ exec (.coldReset false) s = .next (s.cold 1 none)
    ∧ (let w := ((s.rd R.AON_STBY_REC).setFld 0 4 2).setFld 4 3 s.cur;
      exec .brownout s = .next ((s.cold (w.setFld 8 8 (satAdd 255 (w.fld 8 8) 1)) s.flt.haltRec).aonLevels))
    ∧ exec (.tapExtest none) s = .next (s.tap 0)
    ∧ (∀ (a : BitVec 26) (d : Bytes), exec (.tapExtest (some (a, d))) s
      = .next ((s.tap 0).onBoot fun b => { b with nor := norPut a.toNat (d.take (2 ^ 26 - a.toNat)) b.nor }))
    ∧ exec .tapSamplePreload s = .next (s.tap 1)
    ∧ exec .tapIdcode s = .next ((s.tap 2).emit (.tapOut 32 0x2964055D))
    ∧ exec .tapChallenge s
      = .next ((s.tap 0x10).emit (.tapOut 128 ((List.range 4).foldr (fun i a => (s.rd (R.BOOT_CHAL i)).toNat + 2 ^ 32 * a) 0)))
    ∧ exec (.tapUnlock none) s = .next ((s.tap 0x11).onBoot fun x => { x with tapShift := true })
    ∧ (∀ t : BitVec 1856, exec (.tapUnlock (some t)) s
      = .next ((((List.range 58).foldl (fun s w => s.wr (R.BOOT_TOK w) (BitVec.ofNat 32 (t.toNat / 2 ^ (32 * w)))) (s.tap 0x11)).put
          R.BOOT_CMD_OP 4).tokenCmd))
    ∧ (s.get R.BOOT_STS_SEC_STATE ≠ 1 → exec .tapDebug s = .next (s.tap 0x20))
    ∧ exec .tapBypass s = .next (s.tap 0xFF)
    ∧ exec .tapReset s = .next (s.tap 2)

/-- O43. An accepted LOAD, VERIFY or PATCH runs and completes; a running engine whose inputs rise runs on
to a safe point and takes one; a running engine that meets a cause of R470 stops with its
record, fault and event, and a Chervil engine's flows end; a running engine whose page is
disabled stops at its safe point.  Cites: 15_microcode_engines.md, R465,
15_microcode_engines.md, R468, 15_microcode_engines.md, R470, 15_microcode_engines.md, R472,
15_microcode_engines.md, R476, 15_microcode_engines.md, R481, 15_microcode_engines.md, R482. -/
def Obligations.MicrocodeCommandsComplete : Prop :=
  ∀ (s : State), s.running = true →
    (∀ (r : Requester) (c : BitVec 3),
      (let v : Word := BitVec.ofNat 32 (1 + 16 + c.toNat * 32);
        s.accepts mclChecks r R.MCL_CMD v = true → exec (.mclLoad r c) s = .next (s.written r R.MCL_CMD v).mclLoad)
      ∧ (let v : Word := BitVec.ofNat 32 (2 + 16 + c.toNat * 32);
        s.accepts mclChecks r R.MCL_CMD v = true → exec (.mclVerify r c) s = .next (s.written r R.MCL_CMD v).mclVerify))
    ∧ (∀ r : Requester, s.accepts mclChecks r R.MCL_CMD 19 = true →
      exec (.mclPatch r) s = .next (s.written r R.MCL_CMD 19).mclPatch)
    ∧ (∀ (c : Fin 4) (i : Fin 32), engExists c.val i.val = true → s.engRuns c.val i.val = true →
      (∀ (inputs : BitVec 5) (facts : List WordFact),
        let e := s.engSt c.val i.val
        let t := State.runWords c.val i.val facts (s.setEng c.val i.val { e with pend := e.pend ||| inputs.toNat })
        ((c.val ≠ 3 ∨ t.engRuns 3 i.val = true) → exec (.engineInterrupt c i inputs facts) s = .next t.settleAll)
        ∧ (c.val = 3 → t.engRuns 3 i.val = false → exec (.engineInterrupt c i inputs facts) s = .next (t.chvEnd i.val).settleAll))
      ∧ (∀ (cause : Fin 5) (addr : BitVec 14) (more : Bool), 1 ≤ cause.val →
        (c.val = 1 → cause.val ≠ 4 →
          exec (.engineStop c i cause addr more) s = .next ((s.stopReport 1 i.val cause.val addr.toNat more).seqStopped i.val).settleAll)
        ∧ (c.val = 2 → cause.val ≠ 4 →
          exec (.engineStop c i cause addr more) s = .next (s.stopReport 2 i.val cause.val addr.toNat more).settleAll)
        ∧ (c.val = 3 →
          exec (.engineStop c i cause addr more) s
            = .next ((s.stopReport 3 i.val cause.val addr.toNat more).chvEnd i.val).settleAll))
      ∧ (s.enabled (engPage c.val i.val) = false →
        exec (.engineStopRequest c i) s = .next (s.engHalt c.val i.val).settleAll))

/-- O44. INIT ends in TRAIN; an accepted CTL.LIVE makes the channel LIVE with its delays as trained; an
accepted mode-register command runs and stores the devices' answers or the datum; an accepted
training operation runs and leaves its pass map and error count, ZQ none; each clears its GO and
busy bits and pulses source 136 + 4n; an accepted FILL_CTL.GO puts the pointer at the base, and
the rest of a running fill completes.  Cites: 16_dram_controller.md, R496,
16_dram_controller.md, R497, 16_dram_controller.md, R499, 16_dram_controller.md, R504,
16_dram_controller.md, R505. -/
def Obligations.DramControllerCommandsComplete : Prop :=
  ∀ (s : State) (n : Fin 2), s.running = true →
    (s.dmcState n.val = 1 →
      exec (.dmcInitDone n) s = .next ((s.put (R.DMC_STS_STATE n.val) 2).put (hRUNNING (0xE0000 + 0x1000 * n.val)) 1))
    ∧ (∀ r : Requester, s.accepts dmcChecks r (R.DMC_CTL n.val) 1 = true →
      exec (.dmcLive r n) s
        = .next (((s.written r (R.DMC_CTL n.val) 1).put (R.DMC_STS_STATE n.val) 3).onDmc n.val fun d => { d with trained := d.dly }))
    ∧ (∀ (r : Requester) (mr : Byte) (rank sub : Fin 2), s.flag (R.DMC_MR_CMD_GO n.val) = false →
      let cmd := fun (write : Bool) => (BitVec.ofNat 32 (mr.toNat + b2n write * 2 ^ 8 + rank.val * 2 ^ 9 + sub.val * 2 ^ 10 + 2 ^ 11) : Word)
      let took := fun (w : Word) => (s.written r (R.DMC_MR_CMD n.val) w).put (R.DMC_STS_OP_BUSY n.val) 1
      let takes := fun (w : Word) => s.accepts dmcChecks r (R.DMC_MR_CMD n.val) w = true ∧ w.bit 11 = true
        ∧ (took w).rd (R.DMC_MR_CMD n.val) = w
      (∀ devs : BitVec 40, takes (cmd false) →
        exec (.mrRead r n mr rank sub devs) s
          = .next (((((took (cmd false)).put (R.DMC_MR_CMD_GO n.val) 0).wr (R.DMC_MR_RES_0 n.val) (BitVec.ofNat 32 devs.toNat)).wr
              (R.DMC_MR_RES_1 n.val) (BitVec.ofNat 32 (devs.toNat / 2 ^ 32))).dmcOpDone n.val))
      ∧ (takes (cmd true) →
        let t := (took (cmd true)).put (R.DMC_MR_CMD_GO n.val) 0
        exec (.mrWrite r n mr rank sub) s
          = .next ((t.onDmc n.val fun d =>
            { d with mr := d.mr.put ((rank.val * 2 + sub.val) * 256 + mr.toNat) (t.get (R.DMC_MR_DATA_WDATA n.val)) }).dmcOpDone n.val)))
    ∧ (∀ (r : Requester) (rank sub : Fin 2) (rep : Byte) (pass : BitVec 40) (errs : Nat), s.flag (R.DMC_TRAIN_CTL_GO n.val) = false →
      let cmd := fun (op : Nat) => (BitVec.ofNat 32 (op + 2 ^ 4 + rank.val * 2 ^ 5 + sub.val * 2 ^ 6 + rep.toNat * 2 ^ 8) : Word)
      let took := fun (op : Nat) => (s.written r (R.DMC_TRAIN_CTL n.val) (cmd op)).put (R.DMC_STS_OP_BUSY n.val) 1
      let takes := fun (op : Nat) => s.accepts dmcChecks r (R.DMC_TRAIN_CTL n.val) (cmd op) = true ∧ Word.bit (cmd op) 4 = true
        ∧ (took op).rd (R.DMC_TRAIN_CTL n.val) = cmd op
      let trained := fun (op : Nat) => (Host.Outcome.next
        (((((took op).put (R.DMC_TRAIN_CTL_GO n.val) 0).wr (R.DMC_TRAIN_RES_0 n.val) (BitVec.ofNat 32 pass.toNat)).wr
          (R.DMC_TRAIN_RES_1 n.val) (BitVec.ofNat 32 (pass.toNat / 2 ^ 32 % 256 + min 65535 errs * 2 ^ 16))).dmcOpDone n.val)
        : Host.Outcome State Fault Refusal)
      (takes 1 → exec (.csTrain r n rank sub rep pass errs) s = trained 1)
      ∧ (takes 2 → exec (.caTrain r n rank sub rep pass errs) s = trained 2)
      ∧ (takes 3 → exec (.wlev r n rank sub rep pass errs) s = trained 3)
      ∧ (takes 4 → exec (.rdGate r n rank sub rep pass errs) s = trained 4)
      ∧ (takes 5 → exec (.rdDq r n rank sub rep pass errs) s = trained 5)
      ∧ (takes 6 → exec (.wrDq r n rank sub rep pass errs) s = trained 6)
      ∧ (takes 7 → exec (.zq r n rank sub rep) s = .next (((took 7).put (R.DMC_TRAIN_CTL_GO n.val) 0).dmcOpDone n.val)))
    ∧ (∀ r : Requester, s.accepts dmcChecks r R.DMC_FILL_CTL 1 = true →
      let t := s.written r R.DMC_FILL_CTL 1
      exec (.dramFill r) s = .next (t.wr64 R.DMC_FILL_PTR_LO (t.rd64 R.DMC_FILL_BASE_LO)))
    ∧ (s.flag R.DMC_FILL_CTL_GO = true → s.dramOpen = true → exec .dramFillDone s = .next (s.fillStep (2 ^ 31)))

/-- O45. An access of a port waits its turn while the front end is open or the DRAM in self-refresh and
otherwise ends as a bus error; the token buckets refill by rate up to burst, and waiting
accesses are admitted; a due refresh is postponed while accesses wait for the rank and POST
allows it, and is otherwise issued with what is owed; an MR4 poll sets REF_2X; write tracking
moves a lane within 16 of its trained delay, else sets DRIFT with a C-class fault; ALERT_N
counts and holds the channel until it goes up; the channels enter and leave self-refresh.
Cites: 16_dram_controller.md, R490, 16_dram_controller.md, R495, 16_dram_controller.md, R496,
16_dram_controller.md, R498, 16_dram_controller.md, R500, 16_dram_controller.md, R501,
16_dram_controller.md, R503. -/
def Obligations.DramAccessCommandsComplete : Prop :=
  ∀ (s : State), s.running = true →
    (∀ (port : Fin 8) (addr : BitVec 37) (len : Nat) (data : Option Bytes) (poison : Bool),
      let a : DramAcc := ⟨port.val, addr.toNat, min (64 - addr.toNat % 64) len, data.map (·.take (64 - addr.toNat % 64)), poison, s.now⟩
      ((s.dramOpen = true ∨ s.dramSr = true) →
        exec (.dramAccess port addr len data poison) s = .next (s.onMem fun x => { x with wait := x.wait ++ [a] }).admitAll)
      ∧ (s.dramOpen = false → s.dramSr = false →
        exec (.dramAccess port addr len data poison) s = .next (s.emit (.dramError port.val addr.toNat))))
    ∧ exec .bucketRefill s = .next (((List.range 8).foldl (fun s p =>
        let s := if (s.mem.wait.any fun a => a.port = p) && !s.conforming p then s.bump (R.DMC_PORT_STS_WAITED p) 1 else s
        s.onMem fun x => { x with bucket := x.bucket.put p (min (s.get (R.DMC_PORT_BURST p) * 1024) (s.tokens p + s.get (R.DMC_PORT_RATE p) * 4)) }) s).admitAll)
    ∧ (∀ n rank sub : Fin 2, s.dmcState n.val = 3 → s.flag (R.DMC_REF_EN n.val) = true →
      let k := rank.val * 2 + sub.val
      let owed := ((s.dmcSt n.val).owed.find k).getD 0 + 1
      let busy := s.mem.wait.any fun a => s.chOf (a.addr / 64) = n.val && s.rankSubOf (a.addr / 64) = k
      (busy = true → owed ≤ s.get (R.DMC_REF_POST n.val) →
        exec (.dramRefresh n rank sub) s = .next (s.onDmc n.val fun d => { d with owed := d.owed.put k owed }))
      ∧ ((busy = false ∨ s.get (R.DMC_REF_POST n.val) < owed) →
        exec (.dramRefresh n rank sub) s
          = .next (((s.onDmc n.val fun d => { d with owed := d.owed.del k }).addCount (R.DMC_REFRESH_LO n.val) owed).evtB
              (0xE0000 + 0x1000 * n.val) 0x13 owed)))
    ∧ (∀ (n : Fin 2) (hot : BitVec 2), s.dmcState n.val = 3 → s.flag (R.DMC_REF_TEMP_EN n.val) = true →
      exec (.mr4Poll n hot) s
        = .next (((s.onDmc n.val fun d => { d with hot := (List.range 2).filter fun k => hot.getLsbD k }).put (R.DMC_STS_REF_2X n.val)
            (b2n (decide (hot ≠ 0)))).setLevel (137 + 4 * n.val) (decide (hot ≠ 0))))
    ∧ (∀ (n : Fin 2) (lane : Fin 62) (rank sub : Fin 2) (v : BitVec 10), s.dmcState n.val = 3 →
      let k := lane.val + rank.val * 2 ^ 6 + sub.val * 2 ^ 7
      let t := ((s.dmcSt n.val).trained.find k).getD 0
      (v.toNat ≤ t + 16 → t ≤ v.toNat + 16 →
        exec (.writeTracking n lane rank sub v) s = .next (s.onDmc n.val fun d => { d with dly := d.dly.put k v.toNat }))
      ∧ ((t + 16 < v.toNat ∨ v.toNat + 16 < t) →
        exec (.writeTracking n lane rank sub v) s
          = .next (((s.onDmc n.val fun d => { d with dly := d.dly.put k t }).put (R.DMC_STS_DRIFT n.val) 1).raise .dmc n.val 0x0D .c n.val)))
    ∧ (∀ n : Fin 2, (s.dmcSt n.val).alerts.length < 2 →
      exec (.alertNAssert n) s
        = .next (((s.onDmc n.val fun d => { d with alert := true, alerts := (s.now :: d.alerts).take 3 }).bump
            (R.DMC_ALERT_CNT_CNT n.val) 1).pulse (138 + 4 * n.val)))
    ∧ (∀ n : Fin 2, (s.dmcSt n.val).alert = true →
      let d := s.dmcSt n.val
      let k := (d.recent.filter fun x => decide (d.alerts.headD 0 ≤ x + 80)).length
      exec (.alertNDeassert n) s
        = .next ((((s.onDmc n.val fun d => { d with alert := false }).addCount (R.DMC_ACT_LO n.val) k).evtB
            (0xE0000 + 0x1000 * n.val) 0x12 k).admitAll))
    ∧ (s.dmcState 0 = 3 → s.dmcState 1 = 3 → exec .selfRefreshEntry s = .next s.srEnter)
    ∧ (s.dmcState 0 = 4 → s.dmcState 1 = 4 →
      (s.put (R.DMC_STS_STATE 0) 3).dmcState 1 = 4 →
      exec .selfRefreshExit s = .next ((s.put (R.DMC_STS_STATE 0) 3).put (R.DMC_STS_STATE 1) 3).admitAll)

/-- O46. An accepted TAIL write clears OWN_WAIT and lets waiting triggers release; an accepted START
releases up to TAIL; an accepted ABORT ends what is in progress; a trigger pulse releases a
descriptor below TAIL or is counted; a ready channel takes the next descriptor that its ring or
the NVMe engine holds, owned and not held back by a fence or by Bus Master Enable, and checks
and starts it (a descriptor that a check stops waits for no Bus Master Enable, by the model's
bmeWaits); the oldest descriptor retires when it has failed, when its host data are in, or with
its local units moved; a bus error marks its descriptor bad where the transfer stood.  Cites:
17_dma_and_cipher.md, R509, 17_dma_and_cipher.md, R510, 17_dma_and_cipher.md, R511,
17_dma_and_cipher.md, R512, 17_dma_and_cipher.md, R513, 17_dma_and_cipher.md, R516,
17_dma_and_cipher.md, R517. -/
def Obligations.DmaCommandsComplete : Prop :=
  ∀ (s : State) (n : Fin 32), s.running = true →
    (∀ r : Requester,
      (∀ idx : BitVec 16,
        let v : Word := BitVec.ofNat 32 idx.toNat
        s.accepts dmaChecks r (R.DMA_TAIL n.val) v = true →
        exec (.dmaTailWrite r n idx) s = .next (((s.written r (R.DMA_TAIL n.val) v).put (R.DMA_STS_OWN_WAIT n.val) 0).trigPending n.val))
      ∧ (s.accepts dmaChecks r (R.DMA_CTL n.val) 1 = true →
        let t := s.written r (R.DMA_CTL n.val) 1
        exec (.dmaStart r n) s
          = .next ((t.setDma n.val fun d => { d with
              released := t.ringDist n.val (t.dmaSt n.val).next (t.get (R.DMA_TAIL_IDX n.val)) }).put (R.DMA_CTL_START n.val) 0))
      ∧ (s.accepts dmaChecks r (R.DMA_CTL n.val) 2 = true →
        exec (.dmaAbort r n) s = .next ((s.written r (R.DMA_CTL n.val) 2).dmaAbort n.val)))
    ∧ ((s.dmaSt n.val).trig ≠ 0 → s.dmaNvm n.val = false → s.dmaMode n.val ≠ 0 → s.flag (R.DMA_CFG_TRIG_EN n.val) = true →
      let t := s.setDma n.val fun d => { d with trig := d.trig - 1 }
      let room := t.ringDist n.val (s.dmaSt n.val).next (t.get (R.DMA_TAIL_IDX n.val))
      ((s.dmaSt n.val).released < room → exec (.dmaTrigger n) s = .next (t.setDma n.val fun d => { d with released := d.released + 1 }))
      ∧ (room ≤ (s.dmaSt n.val).released → exec (.dmaTrigger n) s = .next (t.bump (R.DMA_STS_TRIG_PEND n.val) 1)))
    ∧ (s.dmaReady n.val = true →
      (∀ d ds, s.dmaNvm n.val = true → (s.dmaSt n.val).jobs = d :: ds → s.descWaits n.val d = false →
        s.bmeWaits n.val d = false →
        exec (.descriptorStart n) s
          = .next (((s.put (R.DMA_STS_BME_WAIT n.val) 0).setDma n.val fun x => { x with jobs := ds }).descTake n.val d 0))
      ∧ (∀ b t, s.dmaNvm n.val = false →
        (if s.dmaMode n.val = 0 then (s.dmaSt n.val).next ≠ s.get (R.DMA_TAIL_IDX n.val) ∧ s.flag (R.DMA_STS_OWN_WAIT n.val) = false
          else (s.dmaSt n.val).released ≠ 0) →
        s.ringEntry n.val (s.dmaSt n.val).next = (some b, t) →
        ((Desc.ofBytes b).own = true ∨ s.dmaMode n.val ≠ 0) → t.descWaits n.val (Desc.ofBytes b) = false →
        t.bmeWaits n.val (Desc.ofBytes b) = false →
        let u := t.put (R.DMA_STS_BME_WAIT n.val) 0
        exec (.descriptorStart n) s
          = .next ((u.setDma n.val fun x => { x with
              next := ((s.dmaSt n.val).next + 1) % u.ringSize n.val, released := x.released - 1 }).descTake n.val (Desc.ofBytes b)
                (s.dmaSt n.val).next)))
    ∧ (∀ j js, (s.dmaSt n.val).active = j :: js →
      (j.code.isSome = true → exec (.descriptorComplete n) s = .next (s.retire n.val))
      ∧ (j.code = none → j.d.hostRead.isSome = true → j.recv = j.d.len →
        exec (.descriptorComplete n) s = .next ((s.headDone n.val 0 0 j.d.len false).retire n.val))
      ∧ (j.code = none → j.d.hostRead = none → (State.needsHost j.d = false ∨ s.busMaster = true) →
        let p := s.moveLocal j.d j.d.len
        exec (.descriptorComplete n) s = .next ((p.2.headDone n.val p.1.code p.1.detail p.1.done p.1.poison).retire n.val)))
    ∧ (∀ (k : Fin 4) (write : Bool) (detail : BitVec 3) (units : Nat) j, (s.dmaSt n.val).active[k.val]? = some j → j.code = none →
      (j.d.hostRead.isSome = true →
        exec (.dmaBusError n k write detail units) s
          = .next (s.descBad n.val j.idx (if write then 5 else 4) detail.toNat (s.doneBytes n.val j)))
      ∧ (j.d.hostRead = none →
        let p := s.moveLocal j.d (min (64 * units) (j.d.len - 64))
        p.1.code = 0 →
        exec (.dmaBusError n k write detail units) s
          = .next (p.2.descBad n.val j.idx (if write then 5 else 4) detail.toNat (min (64 * units) (j.d.len - 64)))))

/-- O47. Units arrive and the next one of the rotating pick goes into a free pipeline and out; an
accepted UNWRAP, GENERATE or CLEAR runs on its slot; an accepted vector command under a usable
handle runs over its blocks; uncorrectable and corrected errors are recorded, those of control
stores also counted in MCL; a served record read answers its word; an accepted INJ_CTL arms, and
a write to the armed word is stored with the damage.  Cites: 17_dma_and_cipher.md, R518,
17_dma_and_cipher.md, R526, 17_dma_and_cipher.md, R527, 17_dma_and_cipher.md, R528,
17_dma_and_cipher.md, R529, 18_memory_protection.md, R541, 18_memory_protection.md, R542,
18_memory_protection.md, R543, 18_memory_protection.md, R544, 15_microcode_engines.md, R479. -/
def Obligations.CipherAndMemoryCommandsComplete : Prop :=
  ∀ (s : State), s.running = true →
    (∀ (units : List CiphUnit) p i u bs v,
      let t := (units.filter fun u => decide (u.port < 4)).foldl (fun s u => s.ciphEnqueue u) s.ciphSettle
      t.freePipe = some p → t.pickUnit = some (i, u) →
      (t.onCiph fun x => { x with queue := x.queue.eraseIdx i, last := u.port }).cipher u.op u.data = (some bs, v) →
      exec (.cipherDispatch units) s
        = .next (((v.onCiph fun x =>
            { x with pipes := x.pipes.put p (t.unitSlots u, v.now + cdiv ((u.op.blocks + 15) * 5) 6) }).unitDone u (some bs)).ciphSettle))
    ∧ (∀ (r : Requester) (slot : Byte), s.flag R.CIPH_KCMD_GO = false →
      let cmd := fun (op klen use dom : Nat) =>
        (BitVec.ofNat 32 (op + 4 + klen * 8 + use * 16 + dom * 64 + slot.toNat * 256) : Word)
      let took := fun (w : Word) => (s.written r R.CIPH_KCMD w).put R.CIPH_KSTS_BUSY 1
      let takes := fun (w : Word) => s.accepts ciphChecks r R.CIPH_KCMD w = true ∧ w.bit 2 = true ∧ (took w).rd R.CIPH_KCMD = w
        ∧ (took w).ciph.writes.any (·.cmd) = false
      (∀ (long : Bool) (dom : Fin 2), takes (cmd 1 (b2n long) 0 dom.val) →
        exec (.unwrap r long dom slot) s = .next (took (cmd 1 (b2n long) 0 dom.val)).kcmdUnwrap)
      ∧ (∀ (long : Bool) (use : BitVec 2) (key : Bytes), takes (cmd 2 (b2n long) use.toNat 0) →
        (took (cmd 2 (b2n long) use.toNat 0)).debugOpen = false → (took (cmd 2 (b2n long) use.toNat 0)).dramOpen = true →
        exec (.generate r long use slot key true) s = .next ((took (cmd 2 (b2n long) use.toNat 0)).kcmdGenerate key true))
      ∧ (takes (cmd 3 0 0 0) → exec (.clear r slot) s = .next (took (cmd 3 0 0 0)).kcmdClear))
    ∧ (∀ (r : Requester) (handle : BitVec 16), s.flag R.CIPH_VCMD_GO = false →
      let cmd := fun (dec : Bool) => (BitVec.ofNat 32 (b2n dec + 2 + handle.toNat * 65536) : Word)
      let took := fun (w : Word) => ((s.written r R.CIPH_VCMD w).put R.CIPH_VSTS_BUSY 1).put R.CIPH_VSTS_DONE 0
      let takes := fun (dec : Bool) => s.accepts ciphChecks r R.CIPH_VCMD (cmd dec) = true ∧ Word.bit (cmd dec) 1 = true
        ∧ (took (cmd dec)).rd R.CIPH_VCMD = cmd dec ∧ (took (cmd dec)).refuse ((took (cmd dec)).get R.CIPH_VCMD_HANDLE) dec = 0
      (takes false → exec (.vectorEncrypt r handle) s = .next (took (cmd false)).vcmdRun)
      ∧ (takes true → exec (.vectorDecrypt r handle) s = .next (took (cmd true)).vcmdRun))
    ∧ (∀ (cls : Fin 10) (inst : BitVec 5) (req : Fin 8) (addr : BitVec 37),
      (∀ kind : Fin 3, exec (.uncorrectableRead cls inst req kind addr) s
        = .next (s.uncorrectable cls.val inst.toNat req.val kind.val addr.toNat))
      ∧ (∀ sym : Fin 5,
        let t := s.corrected cls.val inst.toNat req.val sym.val addr.toNat
        ((cls.val < 4 ∨ 7 < cls.val) → exec (.correctedError cls inst req sym addr) s = .next t)
        ∧ (4 ≤ cls.val → cls.val ≤ 7 →
          exec (.correctedError cls inst req sym addr) s = .next (((t.bump R.MCL_ECC_CNT_CNT 1).evtB 0x90000 0x11 1).pulse 55))))
    ∧ (∀ (r : Requester) (ue : Bool) (w : Fin 3),
      let off := (if ue then R.MEM_UE_REC_0 else R.MEM_CE_REC_0) + 4 * w.val
      s.readable r off = true →
      exec (.memRecordRead r ue w) s = .next (s.wordRead (fun _ _ _ _ => none) memReadEffect r off))
    ∧ (∀ (r : Requester) (kind : BitVec 2) (staging : Bool),
      let v : Word := BitVec.ofNat 32 (kind.toNat + 4 * b2n staging + 8)
      s.accepts memChecks r R.MEM_INJ_CTL v = true → exec (.injectArm r kind staging) s = .next (s.written r R.MEM_INJ_CTL v))
    ∧ (∀ (port : Fin 8) (data : Bytes), s.flag R.MEM_INJ_CTL_ARM = true →
      let a := s.rd64 R.MEM_INJ_ADDR_LO % 2 ^ 37
      (s.flag R.MEM_INJ_CTL_TARGET = true →
        exec (.injected port data) s
          = .next (s.setWords (a / 4096) (a / 16 % 256) ((data ++ List.replicate 16 0).take 16) false))
      ∧ (s.flag R.MEM_INJ_CTL_TARGET = false →
        exec (.injected port data) s = .next (s.dramStore port.val a ((data ++ List.replicate 64 0).take 64) false).2))

/-- O48. The messages on the links arrive, and up to four are recorded; a fatal line, a firmware F
message and a junction at 120 degrees Celsius or more enter HALT; a firmware C or U message goes
onto the links; an accepted ACK takes records out; the oldest pending record past half its time
pulses 27, and one whose timer has reached its limit enters LIMP with its number, as an accepted
request does with cause 3; a first-fault slot clears; a RING_RD write clears FULL; a served
record read copies its words.  Cites: 19_fault_handling.md, R549, 19_fault_handling.md, R551,
19_fault_handling.md, R552, 19_fault_handling.md, R553, 19_fault_handling.md, R555,
19_fault_handling.md, R556, 19_fault_handling.md, R557, 19_fault_handling.md, R560,
19_fault_handling.md, R561, 19_fault_handling.md, R562, 19_fault_handling.md, R565. -/
def Obligations.FaultCommandsComplete : Prop :=
  ∀ (s : State), s.running = true →
    (∀ n : Nat, exec (.faultMessage n) s
      = .next (State.drainIn 4 ((s.onFlt fun y => { y with links := y.links.drop n }).msgsArrive (s.flt.links.take n))))
    ∧ (∀ m : FaultMsg, m.cls = .f → fatalKinds.contains m.kind = true → exec (.fatalLine [m]) s = .next (s.haltEnter [m]))
    ∧ (∀ temp : Nat, 120 ≤ temp → exec (.junctionTrip temp) s = .next (s.fatal .esc 0 0x0A (1 + temp % 256 * 256)))
    ∧ (∀ (c : Fin 4) (cls : BitVec 2),
      let v : Word := BitVec.ofNat 32 (cls.toNat + 4)
      let t := (s.written (.core c) R.FLT_FW_RAISE v).put R.FLT_FW_RAISE_GO 0
      let loc := t.get R.FLT_FW_LOC_LO_LOC + t.get R.FLT_FW_LOC_HI_LOC * 2 ^ 32
      let m := fun (k : FaultClass) => (⟨0x800 + c.val, 0x11, k, loc, t.devTime % 2 ^ 62⟩ : FaultMsg)
      s.accepts fltChecks (.core c) R.FLT_FW_RAISE v = true →
      (cls = 3 → exec (.fwRaise c cls) s = .next (t.haltEnter [m .f]))
      ∧ (cls = 2 → exec (.fwRaise c cls) s = .next (t.onFlt fun y => { y with links := y.links ++ [m .u] }))
      ∧ (cls = 1 → exec (.fwRaise c cls) s = .next (t.onFlt fun y => { y with links := y.links ++ [m .c] })))
    ∧ (∀ (r : Requester) (seq : Word), s.accepts fltChecks r R.FLT_ACK seq = true →
      exec (.faultAck r seq) s = .next ((s.written r R.FLT_ACK seq).ackUpTo seq.toNat))
    ∧ (∀ x xs, s.flt.pend = x :: xs → x.limit ≤ 2 * x.used → x.halfDone = false →
      exec .escHalf s = .next ((s.onFlt fun y => { y with pend := { x with halfDone := true } :: xs }).pulse 27))
    ∧ (∀ x, (s.flt.pend.find? fun x => decide (x.limit ≤ x.used)) = some x →
      exec .escalationExpire s = .next (s.limpEnter 1 x.seq))
    ∧ (∀ c : Fin 4, s.accepts fltChecks (.core c) R.FLT_CTL 1 = true →
      exec (.limpRequest c) s = .next ((s.written (.core c) R.FLT_CTL 1).limpEnter 3 0))
    ∧ (∀ (r : Requester) (k : FaultClass),
      let v : Word := BitVec.ofNat 32 (2 ^ 31)
      let t := s.written r (firstOff k) v
      s.accepts fltChecks r (firstOff k) v = true →
      (k = .f → exec (.firstSlotClear r k) s = .next (t.onFlt fun y => { y with firstF := none }))
      ∧ (k = .u → exec (.firstSlotClear r k) s = .next (t.onFlt fun y => { y with firstU := none }))
      ∧ (k = .c → exec (.firstSlotClear r k) s = .next (t.onFlt fun y => { y with firstC := none })))
    ∧ (∀ (r : Requester) (pos : Byte),
      let v : Word := BitVec.ofNat 32 pos.toNat
      s.accepts fltChecks r R.FLT_RING_RD v = true →
      exec (.ringRdWrite r pos) s = .next ((s.written r R.FLT_RING_RD v).put R.FLT_RING_STS_FULL 0))
    ∧ (∀ (r : Requester),
      (s.readable r (R.FLT_REC 0) = true →
        exec (.faultRecordRead r none) s = .next (s.wordRead fltView fltReadEffect r (R.FLT_REC 0)))
      ∧ (∀ k : FaultClass, s.readable r (firstOff k - 0x1C) = true →
        exec (.faultRecordRead r (some k)) s = .next (s.wordRead fltView fltReadEffect r (firstOff k - 0x1C))))

/-- O49. A write that a page serves and that fails a check, of 4 bytes at natural alignment or of 1 or 2
bytes or misaligned, leaves the register written unchanged. The page's REJECT register records
the offset within the page and the reject code, and its sticky count goes up by one, to 255 at
most. The code is that of the first failing check in the order 6, 3, 4, 5, 2, 7, 1.  Cites:
00_scope.md, R7, 00_scope.md, R9. -/
def Obligations.RejectedWritesAreRecorded : Prop :=
  ∀ (s : State) (r : Requester) (off : Nat) (p : PageAt), s.running = true → findPage off = some p →
    s.serves r p (off % 0x1000 / 4 * 4) = true →
    let first := fun (codes : List Nat) (c : Nat) =>
      ∃ before after, [6, 3, 4, 5, 2, 7, 1] = before ++ c :: after ∧ c ∈ codes ∧ ∀ j ∈ before, j ∉ codes
    (∀ (v : Word) (c : Nat), off % 4 = 0 → first (s.writeCodes regChecks r p (off % 0x1000) v) c →
      let u := s.facing r p (off % 0x1000)
      let t := u.rejectWrite p (off % 0x1000) c
      s.answersWrite r off (leBytes 4 v.toNat) t ∧ u.recorded p (off % 0x1000) c t)
    ∧ (∀ (data : Bytes) (c : Nat), (data.length = 1 ∨ data.length = 2 ∨ (data.length = 4 ∧ off % 4 ≠ 0)) →
      let u := s.leaveDoze.countAccess r p
      let o := off % 0x1000 / 4 * 4
      let t := u.rejectWrite p o c
      first (u.accessChecks r p o (p.reg o) ++ [5]) c → s.answersWrite r off data t ∧ u.recorded p o c t)

/-- O50. Outside debug-open every host write of a word to a page with HOST_WP is rejected with code 0x06,
whatever its value; a core's write to such a page never fails with that code; a write that sets
PAGE_CTL.LOCK of a page without LOCKABLE fails with code 0x01 and is rejected.  Cites:
02_register_pages.md, R44. -/
def Obligations.WriteProtectionAndLockFlags : Prop :=
  ∀ (s : State) (off : Nat) (v : Word) (p : PageAt), s.running = true → off % 4 = 0 → findPage off = some p →
    (p.row.hostWp = true → s.debugOpen = false → s.serves .host p (off % 0x1000) = true →
      s.answersWrite .host off (leBytes 4 v.toNat) ((s.facing .host p (off % 0x1000)).rejectWrite p (off % 0x1000) 6))
    ∧ (p.row.hostWp = true → ∀ c : Fin 4, 6 ∉ s.writeCodes regChecks (.core c) p (off % 0x1000) v)
    ∧ (∀ r : Requester, p.row.lockable = false → off % 0x1000 = 4 → v.bit 8 = true → s.serves r p 4 = true →
      1 ∈ s.writeCodes regChecks r p 4 v
        ∧ ∃ c, firstCode (s.writeCodes regChecks r p 4 v) = some c
          ∧ s.answersWrite r off (leBytes 4 v.toNat) ((s.facing r p 4).rejectWrite p 4 c))

/-- O51. While a page's LOCK is 1, a word write to a register that has a writable field of another kind
than W1C is rejected with code 0x03, unless code 0x06 comes first; so is a write of PAGE_CTL,
whatever its value, and LOCK stays 1. A register of which every writable field is W1C does not
fail with that code.  Cites: 02_register_pages.md, R43, 00_scope.md, R9. -/
def Obligations.LockedPagesTakeOnlyClears : Prop :=
  ∀ (s : State) (r : Requester) (off : Nat) (v : Word) (p : PageAt) (d : RegDesc), s.running = true → off % 4 = 0 →
    findPage off = some p → s.serves r p (off % 0x1000) = true → p.reg (off % 0x1000) = some d → s.flag (hLOCK p.base) = true →
    let o := off % 0x1000
    let t := (s.facing r p o).rejectWrite p o 3
    6 ∉ s.writeCodes regChecks r p o v →
      (d.onlyW1c = false → s.answersWrite r off (leBytes 4 v.toNat) t)
      ∧ (o = 4 → s.answersWrite r off (leBytes 4 v.toNat) t ∧ t.flag (hLOCK p.base) = true)
      ∧ (d.onlyW1c = true → 3 ∉ (s.facing r p o).accessChecks r p o (some d))

/-- O52. While PAGE_CTL.EN is 1, a word write to CFG, GEOM_REF or GEOM_BLK of a CHAN page, to CFG, the
base pairs, NS_CAP_1, NS_CAP_2, POOL or PAR_CFG of FTL, and to CFG of NVM is rejected with code
0x04. A base address of FTL whose bits 15:0 are not 0 and an ADM_BUF of NVM whose bits 5:0 are
not 0 are rejected with code 0x05. In both cases this is the code unless a check that comes
before it in R9's order fails too.  Cites: 03_flash_channels.md, R78,
04_placement_translation.md, R122, 09_nvme_command_engine.md, R326. -/
def Obligations.ConfigurationIsHeldWhileEnabled : Prop :=
  ∀ (s : State) (r : Requester) (v : Word), s.running = true →
    let codes := fun (off : Nat) => s.writeCodes regChecks r (pageOf off) (off % 0x1000) v
    let rejected := fun (off c : Nat) => s.answersWrite r off (leBytes 4 v.toNat)
      ((s.facing r (pageOf off) (off % 0x1000)).rejectWrite (pageOf off) (off % 0x1000) c)
    let held := fun (base off : Nat) => s.enabled base = true → s.serves r (pageOf off) (off % 0x1000) = true →
      4 ∈ codes off ∧ (6 ∉ codes off → 3 ∉ codes off → rejected off 4)
    let aligned := fun (off n : Nat) => v.fld 0 n ≠ 0 → s.serves r (pageOf off) (off % 0x1000) = true →
      5 ∈ codes off ∧ (6 ∉ codes off → 3 ∉ codes off → 4 ∉ codes off → rejected off 5)
    (∀ n : Fin 32, ∀ o ∈ [0x80, 0x84, 0x88], held (0x200000 + 0x1000 * n.val) (0x200000 + 0x1000 * n.val + o))
    ∧ (∀ o ∈ [0x80, 0x88, 0x8C, 0x90, 0x94, 0x98, 0x9C, 0xA0, 0xA4, 0xA8, 0xAC, 0xB0, 0xB4, 0xB8, 0xC0, 0xC8], held 0x240000 (0x240000 + o))
    ∧ held 0x110000 0x110080
    ∧ (∀ o ∈ [0x88, 0x90, 0x98, 0xA0, 0xA8], aligned (0x240000 + o) 16)
    ∧ aligned 0x1100E0 6

/-- O53. An accepted write of ARM arms the match. When the count has reached HS_CMP the armed match sets
MATCH, clears ARM and pulses source 0, and asks for the wake of source 8; an unarmed one changes
nothing. Setting ARM with HS_CMP not above the count fails with code 0x01, and a write to HS_CMP
while ARM is 1 fails with code 0x04.  Cites: 12_clocks_power_time.md, R410. -/
def Obligations.HairspringMatchRules : Prop :=
  ∀ s : State, s.running = true →
    (∀ r : Requester, s.accepts aonChecks r R.AON_HS_CTL 1 = true →
      ∃ t, exec (.hsArm r) s = .next t ∧ t.flag R.AON_HS_CTL_ARM = true)
    ∧ (s.flag R.AON_HS_CTL_ARM = true → s.count R.AON_HS_CMP_LO ≤ s.hs →
      let t := (s.put R.AON_HS_CTL_ARM 0).put R.AON_HS_CTL_MATCH 1
      exec .hsMatch s = .next ((t.pulse 0).wake (2 ^ 8))
        ∧ (t.pulse 0).flag R.AON_HS_CTL_ARM = false ∧ (t.pulse 0).flag R.AON_HS_CTL_MATCH = true)
    ∧ (s.flag R.AON_HS_CTL_ARM = false → exec .hsMatch s = .next s)
    ∧ (∀ (r : Requester) (v : Word),
      (v.bit 0 = true → (s.facing r (pageOf R.AON_HS_CTL) 0xB0).count R.AON_HS_CMP_LO ≤ (s.facing r (pageOf R.AON_HS_CTL) 0xB0).hs →
        1 ∈ s.writeCodes aonChecks r (pageOf R.AON_HS_CTL) 0xB0 v)
      ∧ (∀ o ∈ [0xA8, 0xAC], s.flag R.AON_HS_CTL_ARM = true → 4 ∈ s.writeCodes aonChecks r (pageOf (0x20000 + o)) o v))

/-- O54. In every state, for every command and all of its operands, carrying it out answers a next state:
none ends in a fault or a refusal.  Cites: 00_scope.md, 95_what_each_step_holds.md. -/
def Obligations.EveryCommandGoesOn : Prop := ∀ (s : State) (c : Instr), ∃ t, exec c s = .next t

/-- O55. Whatever the state and the operands, also where the write is held, discarded or rejected, these
commands answer a next state with the same DRAM, staging and SRAM, the same hidden state of the
flash side, of the journal, of the NVMe queues, flows and peers, the same fuses and serial NOR,
and the same queue of commands: EVENT_RAISE, PEND_CLEAR, SNAP, SW_RAISE, TIME_SET, HS_ARM,
STBY_CLR, GOVERNOR_RUN, GOVERNOR_MODE, TRACE_ARM, TRACE_TRIGGER, SEEN_CLEAR, RING_RD_WRITE,
FIRST_SLOT_CLEAR, INJECT_ARM, RAIL_RAMP_DONE, RAIL_LIMITER_CHANGE.  Cites: 02_register_pages.md,
R46, 02_register_pages.md, R47, 02_register_pages.md, R51, 11_escapement_governor.md, R382,
11_escapement_governor.md, R385, 12_clocks_power_time.md, R407, 13_rails_pins_electrical.md,
R414, 18_memory_protection.md, R545, 19_fault_handling.md, R557. -/
def Obligations.QuietCommandsFrame : Prop :=
  ∀ (s : State) (r : Requester),
    let quiet := fun (c : Instr) => ∃ t, exec c s = .next t ∧ s.sameMem t ∧ s.sameFlash t ∧ s.sameHost t ∧ t.boot = s.boot
      ∧ t.pending = s.pending
    (∀ (src : Fin 640) (on : Bool), quiet (.eventRaise src on))
    ∧ (∀ (w : Fin 20) (v : Word), quiet (.pendClear r w v))
    ∧ quiet (.snap r)
    ∧ (∀ i : Fin 128, quiet (.swRaise r i))
    ∧ quiet (.timeSet r) ∧ quiet (.hsArm r) ∧ quiet (.stbyClr r)
    ∧ (∀ run : Bool, quiet (.governorRun r run))
    ∧ (∀ mode : BitVec 2, quiet (.governorMode r mode))
    ∧ (∀ v : Word, quiet (.traceArm r v))
    ∧ quiet (.traceTrigger r)
    ∧ quiet (.seenClear r)
    ∧ (∀ pos : Byte, quiet (.ringRdWrite r pos))
    ∧ (∀ k : FaultClass, quiet (.firstSlotClear r k))
    ∧ (∀ (kind : BitVec 2) (staging : Bool), quiet (.injectArm r kind staging))
    ∧ (∀ g : Fin 8, quiet (.railRampDone g))
    ∧ (∀ (g : Fin 8) (on : Bool), quiet (.railLimiterChange g on))

end Statements
end

