-- ==== Sys2Proof/Laws/SMap.lean ====
section
/-! SUPPORT. Laws of the sparse tables: what a read gives after a write, and that every operation keeps the canonical
form. -/

namespace Sys2Proof.Machine

variable {V : Type}

@[simp] theorem SMap.find_nil (k : Nat) : SMap.find ([] : SMap V) k = none := rfl

@[simp] theorem SMap.find_put_self (m : SMap V) (k : Nat) (v : V) : SMap.find (SMap.put m k v) k = some v := by
  induction m with
  | nil => simp [SMap.put, SMap.find]
  | cons e m ih =>
    unfold SMap.put
    split
    · simp [SMap.find]
    · split
      · simp [SMap.find]
      · simp [SMap.find, *]

theorem SMap.find_put_ne (m : SMap V) {k j : Nat} (h : j ≠ k) (v : V) : SMap.find (SMap.put m k v) j = SMap.find m j := by
  induction m with
  | nil => simp [SMap.put, SMap.find, h]
  | cons e m ih =>
    unfold SMap.put
    split
    · simp [SMap.find, h]
    · split
      · next he => subst he; simp [SMap.find, h]
      · simp [SMap.find, ih]

@[simp] theorem SMap.find_del_self (m : SMap V) (k : Nat) : SMap.find (SMap.del m k) k = none := by
  induction m with
  | nil => rfl
  | cons e m ih =>
    unfold SMap.del
    split
    · exact ih
    · simp [SMap.find, *]

theorem SMap.find_del_ne (m : SMap V) {k j : Nat} (h : j ≠ k) : SMap.find (SMap.del m k) j = SMap.find m j := by
  induction m with
  | nil => rfl
  | cons e m ih =>
    unfold SMap.del
    split
    · next he => subst he; simp [SMap.find, h, ih]
    · simp [SMap.find, ih]

@[simp] theorem SMap.get_nil (d : Nat → V) (k : Nat) : SMap.get d [] k = d k := rfl

@[simp] theorem SMap.get_set_self [DecidableEq V] (d : Nat → V) (m : SMap V) (k : Nat) (v : V) :
    SMap.get d (SMap.set d m k v) k = v := by
  unfold SMap.get SMap.set
  split <;> simp [*]

theorem SMap.get_set_ne [DecidableEq V] (d : Nat → V) (m : SMap V) {k j : Nat} (h : j ≠ k) (v : V) :
    SMap.get d (SMap.set d m k v) j = SMap.get d m j := by
  unfold SMap.get SMap.set
  split <;> simp [SMap.find_del_ne, SMap.find_put_ne, h]

/-! ### The canonical form -/

theorem SMap.sorted_cons {k : Nat} {v : V} {m : SMap V} :
    SMap.sorted ((k, v) :: m) = true ↔ (∀ e ∈ m, k < e.1) ∧ SMap.sorted m = true := by
  induction m generalizing k v with
  | nil => simp [SMap.sorted]
  | cons e m ih =>
    obtain ⟨k', v'⟩ := e
    simp only [SMap.sorted, Bool.and_eq_true, decide_eq_true_eq, List.mem_cons, forall_eq_or_imp]
    constructor
    · rintro ⟨h1, h2⟩
      exact ⟨⟨h1, fun e he => Nat.lt_trans h1 ((ih.mp h2).1 e he)⟩, h2⟩
    · rintro ⟨⟨h1, -⟩, h2⟩
      exact ⟨h1, h2⟩

theorem SMap.mem_put {m : SMap V} {k : Nat} {v : V} {e : Nat × V} (h : e ∈ SMap.put m k v) : e = (k, v) ∨ e ∈ m := by
  induction m with
  | nil => simpa [SMap.put] using h
  | cons x m ih =>
    unfold SMap.put at h
    split at h
    · simpa using h
    · split at h
      · simp only [List.mem_cons] at h ⊢
        tauto
      · simp only [List.mem_cons] at h ⊢
        rcases h with h | h
        · exact Or.inr (Or.inl h)
        · rcases ih h with h | h <;> tauto

theorem SMap.mem_del {m : SMap V} {k : Nat} {e : Nat × V} (h : e ∈ SMap.del m k) : e ∈ m := by
  induction m with
  | nil => simp [SMap.del] at h
  | cons x m ih =>
    unfold SMap.del at h
    split at h
    · exact List.mem_cons_of_mem _ (ih h)
    · simp only [List.mem_cons] at h ⊢
      rcases h with h | h
      · exact Or.inl h
      · exact Or.inr (ih h)

theorem SMap.sorted_put {m : SMap V} (h : SMap.sorted m = true) (k : Nat) (v : V) :
    SMap.sorted (SMap.put m k v) = true := by
  induction m with
  | nil => rfl
  | cons e m ih =>
    obtain ⟨k', v'⟩ := e
    have hs := SMap.sorted_cons.mp h
    unfold SMap.put
    split
    · next hlt =>
      refine SMap.sorted_cons.mpr ⟨fun e he => ?_, h⟩
      rcases List.mem_cons.mp he with rfl | he
      · exact hlt
      · exact Nat.lt_trans hlt (hs.1 e he)
    · split
      · next he => subst he; exact SMap.sorted_cons.mpr hs
      · refine SMap.sorted_cons.mpr ⟨fun e he => ?_, ih hs.2⟩
        rcases SMap.mem_put he with rfl | he
        · show k' < k; omega
        · exact hs.1 e he

theorem SMap.sorted_del {m : SMap V} (h : SMap.sorted m = true) (k : Nat) : SMap.sorted (SMap.del m k) = true := by
  induction m with
  | nil => rfl
  | cons e m ih =>
    obtain ⟨k', v'⟩ := e
    have hs := SMap.sorted_cons.mp h
    unfold SMap.del
    split
    · exact ih hs.2
    · exact SMap.sorted_cons.mpr ⟨fun e he => hs.1 e (SMap.mem_del he), ih hs.2⟩

theorem SMap.wf_nil [DecidableEq V] (d : Nat → V) : SMap.wf d [] = true := rfl

/-- Writing a table keeps its canonical form. -/
theorem SMap.wf_set [DecidableEq V] (d : Nat → V) {m : SMap V} (h : SMap.wf d m = true) (k : Nat) (v : V) :
    SMap.wf d (SMap.set d m k v) = true := by
  simp only [SMap.wf, Bool.and_eq_true, List.all_eq_true, decide_eq_true_eq] at h ⊢
  unfold SMap.set
  split
  · exact ⟨SMap.sorted_del h.1 k, fun e he => h.2 e (SMap.mem_del he)⟩
  · next hv =>
    refine ⟨SMap.sorted_put h.1 k v, fun e he => ?_⟩
    rcases SMap.mem_put he with rfl | he
    · exact hv
    · exact h.2 e he

end Sys2Proof.Machine
end

