-- ==== Sys2Proof/Laws/State.lean ====
section
/-! SUPPORT. What each update of the state leaves of each field: one lemma per field per update, true by definition. -/

namespace Sys2Proof.Machine

open Sys2Proof

/-! ### onSys -/

@[simp] theorem State.onSys_now (s : State) (g : SysSt → SysSt) : (s.onSys g).now = s.now := rfl
@[simp] theorem State.onSys_free (s : State) (g : SysSt → SysSt) : (s.onSys g).free = s.free := rfl
@[simp] theorem State.onSys_regs (s : State) (g : SysSt → SysSt) : (s.onSys g).regs = s.regs := rfl
@[simp] theorem State.onSys_sys (s : State) (g : SysSt → SysSt) : (s.onSys g).sys = g s.sys := rfl
@[simp] theorem State.onSys_evc (s : State) (g : SysSt → SysSt) : (s.onSys g).evc = s.evc := rfl
@[simp] theorem State.onSys_pwr (s : State) (g : SysSt → SysSt) : (s.onSys g).pwr = s.pwr := rfl
@[simp] theorem State.onSys_flt (s : State) (g : SysSt → SysSt) : (s.onSys g).flt = s.flt := rfl
@[simp] theorem State.onSys_pci (s : State) (g : SysSt → SysSt) : (s.onSys g).pci = s.pci := rfl
@[simp] theorem State.onSys_dma (s : State) (g : SysSt → SysSt) : (s.onSys g).dma = s.dma := rfl
@[simp] theorem State.onSys_ciph (s : State) (g : SysSt → SysSt) : (s.onSys g).ciph = s.ciph := rfl
@[simp] theorem State.onSys_mem (s : State) (g : SysSt → SysSt) : (s.onSys g).mem = s.mem := rfl
@[simp] theorem State.onSys_dmc (s : State) (g : SysSt → SysSt) : (s.onSys g).dmc = s.dmc := rfl
@[simp] theorem State.onSys_nvm (s : State) (g : SysSt → SysSt) : (s.onSys g).nvm = s.nvm := rfl
@[simp] theorem State.onSys_chan (s : State) (g : SysSt → SysSt) : (s.onSys g).chan = s.chan := rfl
@[simp] theorem State.onSys_done (s : State) (g : SysSt → SysSt) : (s.onSys g).done = s.done := rfl
@[simp] theorem State.onSys_notices (s : State) (g : SysSt → SysSt) : (s.onSys g).notices = s.notices := rfl
@[simp] theorem State.onSys_ftl (s : State) (g : SysSt → SysSt) : (s.onSys g).ftl = s.ftl := rfl
@[simp] theorem State.onSys_plj (s : State) (g : SysSt → SysSt) : (s.onSys g).plj = s.plj := rfl
@[simp] theorem State.onSys_rdp (s : State) (g : SysSt → SysSt) : (s.onSys g).rdp = s.rdp := rfl
@[simp] theorem State.onSys_rail (s : State) (g : SysSt → SysSt) : (s.onSys g).rail = s.rail := rfl
@[simp] theorem State.onSys_mcl (s : State) (g : SysSt → SysSt) : (s.onSys g).mcl = s.mcl := rfl
@[simp] theorem State.onSys_boot (s : State) (g : SysSt → SysSt) : (s.onSys g).boot = s.boot := rfl
@[simp] theorem State.onSys_ist (s : State) (g : SysSt → SysSt) : (s.onSys g).ist = s.ist := rfl
@[simp] theorem State.onSys_net (s : State) (g : SysSt → SysSt) : (s.onSys g).net = s.net := rfl
@[simp] theorem State.onSys_tgn (s : State) (g : SysSt → SysSt) : (s.onSys g).tgn = s.tgn := rfl
@[simp] theorem State.onSys_esc (s : State) (g : SysSt → SysSt) : (s.onSys g).esc = s.esc := rfl
@[simp] theorem State.onSys_out (s : State) (g : SysSt → SysSt) : (s.onSys g).out = s.out := rfl
@[simp] theorem State.onSys_pending (s : State) (g : SysSt → SysSt) : (s.onSys g).pending = s.pending := rfl

/-! ### onEvc -/

@[simp] theorem State.onEvc_now (s : State) (g : EvcSt → EvcSt) : (s.onEvc g).now = s.now := rfl
@[simp] theorem State.onEvc_free (s : State) (g : EvcSt → EvcSt) : (s.onEvc g).free = s.free := rfl
@[simp] theorem State.onEvc_regs (s : State) (g : EvcSt → EvcSt) : (s.onEvc g).regs = s.regs := rfl
@[simp] theorem State.onEvc_sys (s : State) (g : EvcSt → EvcSt) : (s.onEvc g).sys = s.sys := rfl
@[simp] theorem State.onEvc_evc (s : State) (g : EvcSt → EvcSt) : (s.onEvc g).evc = g s.evc := rfl
@[simp] theorem State.onEvc_pwr (s : State) (g : EvcSt → EvcSt) : (s.onEvc g).pwr = s.pwr := rfl
@[simp] theorem State.onEvc_flt (s : State) (g : EvcSt → EvcSt) : (s.onEvc g).flt = s.flt := rfl
@[simp] theorem State.onEvc_pci (s : State) (g : EvcSt → EvcSt) : (s.onEvc g).pci = s.pci := rfl
@[simp] theorem State.onEvc_dma (s : State) (g : EvcSt → EvcSt) : (s.onEvc g).dma = s.dma := rfl
@[simp] theorem State.onEvc_ciph (s : State) (g : EvcSt → EvcSt) : (s.onEvc g).ciph = s.ciph := rfl
@[simp] theorem State.onEvc_mem (s : State) (g : EvcSt → EvcSt) : (s.onEvc g).mem = s.mem := rfl
@[simp] theorem State.onEvc_dmc (s : State) (g : EvcSt → EvcSt) : (s.onEvc g).dmc = s.dmc := rfl
@[simp] theorem State.onEvc_nvm (s : State) (g : EvcSt → EvcSt) : (s.onEvc g).nvm = s.nvm := rfl
@[simp] theorem State.onEvc_chan (s : State) (g : EvcSt → EvcSt) : (s.onEvc g).chan = s.chan := rfl
@[simp] theorem State.onEvc_done (s : State) (g : EvcSt → EvcSt) : (s.onEvc g).done = s.done := rfl
@[simp] theorem State.onEvc_notices (s : State) (g : EvcSt → EvcSt) : (s.onEvc g).notices = s.notices := rfl
@[simp] theorem State.onEvc_ftl (s : State) (g : EvcSt → EvcSt) : (s.onEvc g).ftl = s.ftl := rfl
@[simp] theorem State.onEvc_plj (s : State) (g : EvcSt → EvcSt) : (s.onEvc g).plj = s.plj := rfl
@[simp] theorem State.onEvc_rdp (s : State) (g : EvcSt → EvcSt) : (s.onEvc g).rdp = s.rdp := rfl
@[simp] theorem State.onEvc_rail (s : State) (g : EvcSt → EvcSt) : (s.onEvc g).rail = s.rail := rfl
@[simp] theorem State.onEvc_mcl (s : State) (g : EvcSt → EvcSt) : (s.onEvc g).mcl = s.mcl := rfl
@[simp] theorem State.onEvc_boot (s : State) (g : EvcSt → EvcSt) : (s.onEvc g).boot = s.boot := rfl
@[simp] theorem State.onEvc_ist (s : State) (g : EvcSt → EvcSt) : (s.onEvc g).ist = s.ist := rfl
@[simp] theorem State.onEvc_net (s : State) (g : EvcSt → EvcSt) : (s.onEvc g).net = s.net := rfl
@[simp] theorem State.onEvc_tgn (s : State) (g : EvcSt → EvcSt) : (s.onEvc g).tgn = s.tgn := rfl
@[simp] theorem State.onEvc_esc (s : State) (g : EvcSt → EvcSt) : (s.onEvc g).esc = s.esc := rfl
@[simp] theorem State.onEvc_out (s : State) (g : EvcSt → EvcSt) : (s.onEvc g).out = s.out := rfl
@[simp] theorem State.onEvc_pending (s : State) (g : EvcSt → EvcSt) : (s.onEvc g).pending = s.pending := rfl

/-! ### onPwr -/

@[simp] theorem State.onPwr_now (s : State) (g : PwrSt → PwrSt) : (s.onPwr g).now = s.now := rfl
@[simp] theorem State.onPwr_free (s : State) (g : PwrSt → PwrSt) : (s.onPwr g).free = s.free := rfl
@[simp] theorem State.onPwr_regs (s : State) (g : PwrSt → PwrSt) : (s.onPwr g).regs = s.regs := rfl
@[simp] theorem State.onPwr_sys (s : State) (g : PwrSt → PwrSt) : (s.onPwr g).sys = s.sys := rfl
@[simp] theorem State.onPwr_evc (s : State) (g : PwrSt → PwrSt) : (s.onPwr g).evc = s.evc := rfl
@[simp] theorem State.onPwr_pwr (s : State) (g : PwrSt → PwrSt) : (s.onPwr g).pwr = g s.pwr := rfl
@[simp] theorem State.onPwr_flt (s : State) (g : PwrSt → PwrSt) : (s.onPwr g).flt = s.flt := rfl
@[simp] theorem State.onPwr_pci (s : State) (g : PwrSt → PwrSt) : (s.onPwr g).pci = s.pci := rfl
@[simp] theorem State.onPwr_dma (s : State) (g : PwrSt → PwrSt) : (s.onPwr g).dma = s.dma := rfl
@[simp] theorem State.onPwr_ciph (s : State) (g : PwrSt → PwrSt) : (s.onPwr g).ciph = s.ciph := rfl
@[simp] theorem State.onPwr_mem (s : State) (g : PwrSt → PwrSt) : (s.onPwr g).mem = s.mem := rfl
@[simp] theorem State.onPwr_dmc (s : State) (g : PwrSt → PwrSt) : (s.onPwr g).dmc = s.dmc := rfl
@[simp] theorem State.onPwr_nvm (s : State) (g : PwrSt → PwrSt) : (s.onPwr g).nvm = s.nvm := rfl
@[simp] theorem State.onPwr_chan (s : State) (g : PwrSt → PwrSt) : (s.onPwr g).chan = s.chan := rfl
@[simp] theorem State.onPwr_done (s : State) (g : PwrSt → PwrSt) : (s.onPwr g).done = s.done := rfl
@[simp] theorem State.onPwr_notices (s : State) (g : PwrSt → PwrSt) : (s.onPwr g).notices = s.notices := rfl
@[simp] theorem State.onPwr_ftl (s : State) (g : PwrSt → PwrSt) : (s.onPwr g).ftl = s.ftl := rfl
@[simp] theorem State.onPwr_plj (s : State) (g : PwrSt → PwrSt) : (s.onPwr g).plj = s.plj := rfl
@[simp] theorem State.onPwr_rdp (s : State) (g : PwrSt → PwrSt) : (s.onPwr g).rdp = s.rdp := rfl
@[simp] theorem State.onPwr_rail (s : State) (g : PwrSt → PwrSt) : (s.onPwr g).rail = s.rail := rfl
@[simp] theorem State.onPwr_mcl (s : State) (g : PwrSt → PwrSt) : (s.onPwr g).mcl = s.mcl := rfl
@[simp] theorem State.onPwr_boot (s : State) (g : PwrSt → PwrSt) : (s.onPwr g).boot = s.boot := rfl
@[simp] theorem State.onPwr_ist (s : State) (g : PwrSt → PwrSt) : (s.onPwr g).ist = s.ist := rfl
@[simp] theorem State.onPwr_net (s : State) (g : PwrSt → PwrSt) : (s.onPwr g).net = s.net := rfl
@[simp] theorem State.onPwr_tgn (s : State) (g : PwrSt → PwrSt) : (s.onPwr g).tgn = s.tgn := rfl
@[simp] theorem State.onPwr_esc (s : State) (g : PwrSt → PwrSt) : (s.onPwr g).esc = s.esc := rfl
@[simp] theorem State.onPwr_out (s : State) (g : PwrSt → PwrSt) : (s.onPwr g).out = s.out := rfl
@[simp] theorem State.onPwr_pending (s : State) (g : PwrSt → PwrSt) : (s.onPwr g).pending = s.pending := rfl

/-! ### onFlt -/

@[simp] theorem State.onFlt_now (s : State) (g : FltSt → FltSt) : (s.onFlt g).now = s.now := rfl
@[simp] theorem State.onFlt_free (s : State) (g : FltSt → FltSt) : (s.onFlt g).free = s.free := rfl
@[simp] theorem State.onFlt_regs (s : State) (g : FltSt → FltSt) : (s.onFlt g).regs = s.regs := rfl
@[simp] theorem State.onFlt_sys (s : State) (g : FltSt → FltSt) : (s.onFlt g).sys = s.sys := rfl
@[simp] theorem State.onFlt_evc (s : State) (g : FltSt → FltSt) : (s.onFlt g).evc = s.evc := rfl
@[simp] theorem State.onFlt_pwr (s : State) (g : FltSt → FltSt) : (s.onFlt g).pwr = s.pwr := rfl
@[simp] theorem State.onFlt_flt (s : State) (g : FltSt → FltSt) : (s.onFlt g).flt = g s.flt := rfl
@[simp] theorem State.onFlt_pci (s : State) (g : FltSt → FltSt) : (s.onFlt g).pci = s.pci := rfl
@[simp] theorem State.onFlt_dma (s : State) (g : FltSt → FltSt) : (s.onFlt g).dma = s.dma := rfl
@[simp] theorem State.onFlt_ciph (s : State) (g : FltSt → FltSt) : (s.onFlt g).ciph = s.ciph := rfl
@[simp] theorem State.onFlt_mem (s : State) (g : FltSt → FltSt) : (s.onFlt g).mem = s.mem := rfl
@[simp] theorem State.onFlt_dmc (s : State) (g : FltSt → FltSt) : (s.onFlt g).dmc = s.dmc := rfl
@[simp] theorem State.onFlt_nvm (s : State) (g : FltSt → FltSt) : (s.onFlt g).nvm = s.nvm := rfl
@[simp] theorem State.onFlt_chan (s : State) (g : FltSt → FltSt) : (s.onFlt g).chan = s.chan := rfl
@[simp] theorem State.onFlt_done (s : State) (g : FltSt → FltSt) : (s.onFlt g).done = s.done := rfl
@[simp] theorem State.onFlt_notices (s : State) (g : FltSt → FltSt) : (s.onFlt g).notices = s.notices := rfl
@[simp] theorem State.onFlt_ftl (s : State) (g : FltSt → FltSt) : (s.onFlt g).ftl = s.ftl := rfl
@[simp] theorem State.onFlt_plj (s : State) (g : FltSt → FltSt) : (s.onFlt g).plj = s.plj := rfl
@[simp] theorem State.onFlt_rdp (s : State) (g : FltSt → FltSt) : (s.onFlt g).rdp = s.rdp := rfl
@[simp] theorem State.onFlt_rail (s : State) (g : FltSt → FltSt) : (s.onFlt g).rail = s.rail := rfl
@[simp] theorem State.onFlt_mcl (s : State) (g : FltSt → FltSt) : (s.onFlt g).mcl = s.mcl := rfl
@[simp] theorem State.onFlt_boot (s : State) (g : FltSt → FltSt) : (s.onFlt g).boot = s.boot := rfl
@[simp] theorem State.onFlt_ist (s : State) (g : FltSt → FltSt) : (s.onFlt g).ist = s.ist := rfl
@[simp] theorem State.onFlt_net (s : State) (g : FltSt → FltSt) : (s.onFlt g).net = s.net := rfl
@[simp] theorem State.onFlt_tgn (s : State) (g : FltSt → FltSt) : (s.onFlt g).tgn = s.tgn := rfl
@[simp] theorem State.onFlt_esc (s : State) (g : FltSt → FltSt) : (s.onFlt g).esc = s.esc := rfl
@[simp] theorem State.onFlt_out (s : State) (g : FltSt → FltSt) : (s.onFlt g).out = s.out := rfl
@[simp] theorem State.onFlt_pending (s : State) (g : FltSt → FltSt) : (s.onFlt g).pending = s.pending := rfl

/-! ### onPci -/

@[simp] theorem State.onPci_now (s : State) (g : PciSt → PciSt) : (s.onPci g).now = s.now := rfl
@[simp] theorem State.onPci_free (s : State) (g : PciSt → PciSt) : (s.onPci g).free = s.free := rfl
@[simp] theorem State.onPci_regs (s : State) (g : PciSt → PciSt) : (s.onPci g).regs = s.regs := rfl
@[simp] theorem State.onPci_sys (s : State) (g : PciSt → PciSt) : (s.onPci g).sys = s.sys := rfl
@[simp] theorem State.onPci_evc (s : State) (g : PciSt → PciSt) : (s.onPci g).evc = s.evc := rfl
@[simp] theorem State.onPci_pwr (s : State) (g : PciSt → PciSt) : (s.onPci g).pwr = s.pwr := rfl
@[simp] theorem State.onPci_flt (s : State) (g : PciSt → PciSt) : (s.onPci g).flt = s.flt := rfl
@[simp] theorem State.onPci_pci (s : State) (g : PciSt → PciSt) : (s.onPci g).pci = g s.pci := rfl
@[simp] theorem State.onPci_dma (s : State) (g : PciSt → PciSt) : (s.onPci g).dma = s.dma := rfl
@[simp] theorem State.onPci_ciph (s : State) (g : PciSt → PciSt) : (s.onPci g).ciph = s.ciph := rfl
@[simp] theorem State.onPci_mem (s : State) (g : PciSt → PciSt) : (s.onPci g).mem = s.mem := rfl
@[simp] theorem State.onPci_dmc (s : State) (g : PciSt → PciSt) : (s.onPci g).dmc = s.dmc := rfl
@[simp] theorem State.onPci_nvm (s : State) (g : PciSt → PciSt) : (s.onPci g).nvm = s.nvm := rfl
@[simp] theorem State.onPci_chan (s : State) (g : PciSt → PciSt) : (s.onPci g).chan = s.chan := rfl
@[simp] theorem State.onPci_done (s : State) (g : PciSt → PciSt) : (s.onPci g).done = s.done := rfl
@[simp] theorem State.onPci_notices (s : State) (g : PciSt → PciSt) : (s.onPci g).notices = s.notices := rfl
@[simp] theorem State.onPci_ftl (s : State) (g : PciSt → PciSt) : (s.onPci g).ftl = s.ftl := rfl
@[simp] theorem State.onPci_plj (s : State) (g : PciSt → PciSt) : (s.onPci g).plj = s.plj := rfl
@[simp] theorem State.onPci_rdp (s : State) (g : PciSt → PciSt) : (s.onPci g).rdp = s.rdp := rfl
@[simp] theorem State.onPci_rail (s : State) (g : PciSt → PciSt) : (s.onPci g).rail = s.rail := rfl
@[simp] theorem State.onPci_mcl (s : State) (g : PciSt → PciSt) : (s.onPci g).mcl = s.mcl := rfl
@[simp] theorem State.onPci_boot (s : State) (g : PciSt → PciSt) : (s.onPci g).boot = s.boot := rfl
@[simp] theorem State.onPci_ist (s : State) (g : PciSt → PciSt) : (s.onPci g).ist = s.ist := rfl
@[simp] theorem State.onPci_net (s : State) (g : PciSt → PciSt) : (s.onPci g).net = s.net := rfl
@[simp] theorem State.onPci_tgn (s : State) (g : PciSt → PciSt) : (s.onPci g).tgn = s.tgn := rfl
@[simp] theorem State.onPci_esc (s : State) (g : PciSt → PciSt) : (s.onPci g).esc = s.esc := rfl
@[simp] theorem State.onPci_out (s : State) (g : PciSt → PciSt) : (s.onPci g).out = s.out := rfl
@[simp] theorem State.onPci_pending (s : State) (g : PciSt → PciSt) : (s.onPci g).pending = s.pending := rfl

/-! ### onCiph -/

@[simp] theorem State.onCiph_now (s : State) (g : CiphSt → CiphSt) : (s.onCiph g).now = s.now := rfl
@[simp] theorem State.onCiph_free (s : State) (g : CiphSt → CiphSt) : (s.onCiph g).free = s.free := rfl
@[simp] theorem State.onCiph_regs (s : State) (g : CiphSt → CiphSt) : (s.onCiph g).regs = s.regs := rfl
@[simp] theorem State.onCiph_sys (s : State) (g : CiphSt → CiphSt) : (s.onCiph g).sys = s.sys := rfl
@[simp] theorem State.onCiph_evc (s : State) (g : CiphSt → CiphSt) : (s.onCiph g).evc = s.evc := rfl
@[simp] theorem State.onCiph_pwr (s : State) (g : CiphSt → CiphSt) : (s.onCiph g).pwr = s.pwr := rfl
@[simp] theorem State.onCiph_flt (s : State) (g : CiphSt → CiphSt) : (s.onCiph g).flt = s.flt := rfl
@[simp] theorem State.onCiph_pci (s : State) (g : CiphSt → CiphSt) : (s.onCiph g).pci = s.pci := rfl
@[simp] theorem State.onCiph_dma (s : State) (g : CiphSt → CiphSt) : (s.onCiph g).dma = s.dma := rfl
@[simp] theorem State.onCiph_ciph (s : State) (g : CiphSt → CiphSt) : (s.onCiph g).ciph = g s.ciph := rfl
@[simp] theorem State.onCiph_mem (s : State) (g : CiphSt → CiphSt) : (s.onCiph g).mem = s.mem := rfl
@[simp] theorem State.onCiph_dmc (s : State) (g : CiphSt → CiphSt) : (s.onCiph g).dmc = s.dmc := rfl
@[simp] theorem State.onCiph_nvm (s : State) (g : CiphSt → CiphSt) : (s.onCiph g).nvm = s.nvm := rfl
@[simp] theorem State.onCiph_chan (s : State) (g : CiphSt → CiphSt) : (s.onCiph g).chan = s.chan := rfl
@[simp] theorem State.onCiph_done (s : State) (g : CiphSt → CiphSt) : (s.onCiph g).done = s.done := rfl
@[simp] theorem State.onCiph_notices (s : State) (g : CiphSt → CiphSt) : (s.onCiph g).notices = s.notices := rfl
@[simp] theorem State.onCiph_ftl (s : State) (g : CiphSt → CiphSt) : (s.onCiph g).ftl = s.ftl := rfl
@[simp] theorem State.onCiph_plj (s : State) (g : CiphSt → CiphSt) : (s.onCiph g).plj = s.plj := rfl
@[simp] theorem State.onCiph_rdp (s : State) (g : CiphSt → CiphSt) : (s.onCiph g).rdp = s.rdp := rfl
@[simp] theorem State.onCiph_rail (s : State) (g : CiphSt → CiphSt) : (s.onCiph g).rail = s.rail := rfl
@[simp] theorem State.onCiph_mcl (s : State) (g : CiphSt → CiphSt) : (s.onCiph g).mcl = s.mcl := rfl
@[simp] theorem State.onCiph_boot (s : State) (g : CiphSt → CiphSt) : (s.onCiph g).boot = s.boot := rfl
@[simp] theorem State.onCiph_ist (s : State) (g : CiphSt → CiphSt) : (s.onCiph g).ist = s.ist := rfl
@[simp] theorem State.onCiph_net (s : State) (g : CiphSt → CiphSt) : (s.onCiph g).net = s.net := rfl
@[simp] theorem State.onCiph_tgn (s : State) (g : CiphSt → CiphSt) : (s.onCiph g).tgn = s.tgn := rfl
@[simp] theorem State.onCiph_esc (s : State) (g : CiphSt → CiphSt) : (s.onCiph g).esc = s.esc := rfl
@[simp] theorem State.onCiph_out (s : State) (g : CiphSt → CiphSt) : (s.onCiph g).out = s.out := rfl
@[simp] theorem State.onCiph_pending (s : State) (g : CiphSt → CiphSt) : (s.onCiph g).pending = s.pending := rfl

/-! ### onMem -/

@[simp] theorem State.onMem_now (s : State) (g : MemSt → MemSt) : (s.onMem g).now = s.now := rfl
@[simp] theorem State.onMem_free (s : State) (g : MemSt → MemSt) : (s.onMem g).free = s.free := rfl
@[simp] theorem State.onMem_regs (s : State) (g : MemSt → MemSt) : (s.onMem g).regs = s.regs := rfl
@[simp] theorem State.onMem_sys (s : State) (g : MemSt → MemSt) : (s.onMem g).sys = s.sys := rfl
@[simp] theorem State.onMem_evc (s : State) (g : MemSt → MemSt) : (s.onMem g).evc = s.evc := rfl
@[simp] theorem State.onMem_pwr (s : State) (g : MemSt → MemSt) : (s.onMem g).pwr = s.pwr := rfl
@[simp] theorem State.onMem_flt (s : State) (g : MemSt → MemSt) : (s.onMem g).flt = s.flt := rfl
@[simp] theorem State.onMem_pci (s : State) (g : MemSt → MemSt) : (s.onMem g).pci = s.pci := rfl
@[simp] theorem State.onMem_dma (s : State) (g : MemSt → MemSt) : (s.onMem g).dma = s.dma := rfl
@[simp] theorem State.onMem_ciph (s : State) (g : MemSt → MemSt) : (s.onMem g).ciph = s.ciph := rfl
@[simp] theorem State.onMem_mem (s : State) (g : MemSt → MemSt) : (s.onMem g).mem = g s.mem := rfl
@[simp] theorem State.onMem_dmc (s : State) (g : MemSt → MemSt) : (s.onMem g).dmc = s.dmc := rfl
@[simp] theorem State.onMem_nvm (s : State) (g : MemSt → MemSt) : (s.onMem g).nvm = s.nvm := rfl
@[simp] theorem State.onMem_chan (s : State) (g : MemSt → MemSt) : (s.onMem g).chan = s.chan := rfl
@[simp] theorem State.onMem_done (s : State) (g : MemSt → MemSt) : (s.onMem g).done = s.done := rfl
@[simp] theorem State.onMem_notices (s : State) (g : MemSt → MemSt) : (s.onMem g).notices = s.notices := rfl
@[simp] theorem State.onMem_ftl (s : State) (g : MemSt → MemSt) : (s.onMem g).ftl = s.ftl := rfl
@[simp] theorem State.onMem_plj (s : State) (g : MemSt → MemSt) : (s.onMem g).plj = s.plj := rfl
@[simp] theorem State.onMem_rdp (s : State) (g : MemSt → MemSt) : (s.onMem g).rdp = s.rdp := rfl
@[simp] theorem State.onMem_rail (s : State) (g : MemSt → MemSt) : (s.onMem g).rail = s.rail := rfl
@[simp] theorem State.onMem_mcl (s : State) (g : MemSt → MemSt) : (s.onMem g).mcl = s.mcl := rfl
@[simp] theorem State.onMem_boot (s : State) (g : MemSt → MemSt) : (s.onMem g).boot = s.boot := rfl
@[simp] theorem State.onMem_ist (s : State) (g : MemSt → MemSt) : (s.onMem g).ist = s.ist := rfl
@[simp] theorem State.onMem_net (s : State) (g : MemSt → MemSt) : (s.onMem g).net = s.net := rfl
@[simp] theorem State.onMem_tgn (s : State) (g : MemSt → MemSt) : (s.onMem g).tgn = s.tgn := rfl
@[simp] theorem State.onMem_esc (s : State) (g : MemSt → MemSt) : (s.onMem g).esc = s.esc := rfl
@[simp] theorem State.onMem_out (s : State) (g : MemSt → MemSt) : (s.onMem g).out = s.out := rfl
@[simp] theorem State.onMem_pending (s : State) (g : MemSt → MemSt) : (s.onMem g).pending = s.pending := rfl

/-! ### onNvm -/

@[simp] theorem State.onNvm_now (s : State) (g : NvmSt → NvmSt) : (s.onNvm g).now = s.now := rfl
@[simp] theorem State.onNvm_free (s : State) (g : NvmSt → NvmSt) : (s.onNvm g).free = s.free := rfl
@[simp] theorem State.onNvm_regs (s : State) (g : NvmSt → NvmSt) : (s.onNvm g).regs = s.regs := rfl
@[simp] theorem State.onNvm_sys (s : State) (g : NvmSt → NvmSt) : (s.onNvm g).sys = s.sys := rfl
@[simp] theorem State.onNvm_evc (s : State) (g : NvmSt → NvmSt) : (s.onNvm g).evc = s.evc := rfl
@[simp] theorem State.onNvm_pwr (s : State) (g : NvmSt → NvmSt) : (s.onNvm g).pwr = s.pwr := rfl
@[simp] theorem State.onNvm_flt (s : State) (g : NvmSt → NvmSt) : (s.onNvm g).flt = s.flt := rfl
@[simp] theorem State.onNvm_pci (s : State) (g : NvmSt → NvmSt) : (s.onNvm g).pci = s.pci := rfl
@[simp] theorem State.onNvm_dma (s : State) (g : NvmSt → NvmSt) : (s.onNvm g).dma = s.dma := rfl
@[simp] theorem State.onNvm_ciph (s : State) (g : NvmSt → NvmSt) : (s.onNvm g).ciph = s.ciph := rfl
@[simp] theorem State.onNvm_mem (s : State) (g : NvmSt → NvmSt) : (s.onNvm g).mem = s.mem := rfl
@[simp] theorem State.onNvm_dmc (s : State) (g : NvmSt → NvmSt) : (s.onNvm g).dmc = s.dmc := rfl
@[simp] theorem State.onNvm_nvm (s : State) (g : NvmSt → NvmSt) : (s.onNvm g).nvm = g s.nvm := rfl
@[simp] theorem State.onNvm_chan (s : State) (g : NvmSt → NvmSt) : (s.onNvm g).chan = s.chan := rfl
@[simp] theorem State.onNvm_done (s : State) (g : NvmSt → NvmSt) : (s.onNvm g).done = s.done := rfl
@[simp] theorem State.onNvm_notices (s : State) (g : NvmSt → NvmSt) : (s.onNvm g).notices = s.notices := rfl
@[simp] theorem State.onNvm_ftl (s : State) (g : NvmSt → NvmSt) : (s.onNvm g).ftl = s.ftl := rfl
@[simp] theorem State.onNvm_plj (s : State) (g : NvmSt → NvmSt) : (s.onNvm g).plj = s.plj := rfl
@[simp] theorem State.onNvm_rdp (s : State) (g : NvmSt → NvmSt) : (s.onNvm g).rdp = s.rdp := rfl
@[simp] theorem State.onNvm_rail (s : State) (g : NvmSt → NvmSt) : (s.onNvm g).rail = s.rail := rfl
@[simp] theorem State.onNvm_mcl (s : State) (g : NvmSt → NvmSt) : (s.onNvm g).mcl = s.mcl := rfl
@[simp] theorem State.onNvm_boot (s : State) (g : NvmSt → NvmSt) : (s.onNvm g).boot = s.boot := rfl
@[simp] theorem State.onNvm_ist (s : State) (g : NvmSt → NvmSt) : (s.onNvm g).ist = s.ist := rfl
@[simp] theorem State.onNvm_net (s : State) (g : NvmSt → NvmSt) : (s.onNvm g).net = s.net := rfl
@[simp] theorem State.onNvm_tgn (s : State) (g : NvmSt → NvmSt) : (s.onNvm g).tgn = s.tgn := rfl
@[simp] theorem State.onNvm_esc (s : State) (g : NvmSt → NvmSt) : (s.onNvm g).esc = s.esc := rfl
@[simp] theorem State.onNvm_out (s : State) (g : NvmSt → NvmSt) : (s.onNvm g).out = s.out := rfl
@[simp] theorem State.onNvm_pending (s : State) (g : NvmSt → NvmSt) : (s.onNvm g).pending = s.pending := rfl

/-! ### onFtl -/

@[simp] theorem State.onFtl_now (s : State) (g : FtlSt → FtlSt) : (s.onFtl g).now = s.now := rfl
@[simp] theorem State.onFtl_free (s : State) (g : FtlSt → FtlSt) : (s.onFtl g).free = s.free := rfl
@[simp] theorem State.onFtl_regs (s : State) (g : FtlSt → FtlSt) : (s.onFtl g).regs = s.regs := rfl
@[simp] theorem State.onFtl_sys (s : State) (g : FtlSt → FtlSt) : (s.onFtl g).sys = s.sys := rfl
@[simp] theorem State.onFtl_evc (s : State) (g : FtlSt → FtlSt) : (s.onFtl g).evc = s.evc := rfl
@[simp] theorem State.onFtl_pwr (s : State) (g : FtlSt → FtlSt) : (s.onFtl g).pwr = s.pwr := rfl
@[simp] theorem State.onFtl_flt (s : State) (g : FtlSt → FtlSt) : (s.onFtl g).flt = s.flt := rfl
@[simp] theorem State.onFtl_pci (s : State) (g : FtlSt → FtlSt) : (s.onFtl g).pci = s.pci := rfl
@[simp] theorem State.onFtl_dma (s : State) (g : FtlSt → FtlSt) : (s.onFtl g).dma = s.dma := rfl
@[simp] theorem State.onFtl_ciph (s : State) (g : FtlSt → FtlSt) : (s.onFtl g).ciph = s.ciph := rfl
@[simp] theorem State.onFtl_mem (s : State) (g : FtlSt → FtlSt) : (s.onFtl g).mem = s.mem := rfl
@[simp] theorem State.onFtl_dmc (s : State) (g : FtlSt → FtlSt) : (s.onFtl g).dmc = s.dmc := rfl
@[simp] theorem State.onFtl_nvm (s : State) (g : FtlSt → FtlSt) : (s.onFtl g).nvm = s.nvm := rfl
@[simp] theorem State.onFtl_chan (s : State) (g : FtlSt → FtlSt) : (s.onFtl g).chan = s.chan := rfl
@[simp] theorem State.onFtl_done (s : State) (g : FtlSt → FtlSt) : (s.onFtl g).done = s.done := rfl
@[simp] theorem State.onFtl_notices (s : State) (g : FtlSt → FtlSt) : (s.onFtl g).notices = s.notices := rfl
@[simp] theorem State.onFtl_ftl (s : State) (g : FtlSt → FtlSt) : (s.onFtl g).ftl = g s.ftl := rfl
@[simp] theorem State.onFtl_plj (s : State) (g : FtlSt → FtlSt) : (s.onFtl g).plj = s.plj := rfl
@[simp] theorem State.onFtl_rdp (s : State) (g : FtlSt → FtlSt) : (s.onFtl g).rdp = s.rdp := rfl
@[simp] theorem State.onFtl_rail (s : State) (g : FtlSt → FtlSt) : (s.onFtl g).rail = s.rail := rfl
@[simp] theorem State.onFtl_mcl (s : State) (g : FtlSt → FtlSt) : (s.onFtl g).mcl = s.mcl := rfl
@[simp] theorem State.onFtl_boot (s : State) (g : FtlSt → FtlSt) : (s.onFtl g).boot = s.boot := rfl
@[simp] theorem State.onFtl_ist (s : State) (g : FtlSt → FtlSt) : (s.onFtl g).ist = s.ist := rfl
@[simp] theorem State.onFtl_net (s : State) (g : FtlSt → FtlSt) : (s.onFtl g).net = s.net := rfl
@[simp] theorem State.onFtl_tgn (s : State) (g : FtlSt → FtlSt) : (s.onFtl g).tgn = s.tgn := rfl
@[simp] theorem State.onFtl_esc (s : State) (g : FtlSt → FtlSt) : (s.onFtl g).esc = s.esc := rfl
@[simp] theorem State.onFtl_out (s : State) (g : FtlSt → FtlSt) : (s.onFtl g).out = s.out := rfl
@[simp] theorem State.onFtl_pending (s : State) (g : FtlSt → FtlSt) : (s.onFtl g).pending = s.pending := rfl

/-! ### onPlj -/

@[simp] theorem State.onPlj_now (s : State) (g : PljSt → PljSt) : (s.onPlj g).now = s.now := rfl
@[simp] theorem State.onPlj_free (s : State) (g : PljSt → PljSt) : (s.onPlj g).free = s.free := rfl
@[simp] theorem State.onPlj_regs (s : State) (g : PljSt → PljSt) : (s.onPlj g).regs = s.regs := rfl
@[simp] theorem State.onPlj_sys (s : State) (g : PljSt → PljSt) : (s.onPlj g).sys = s.sys := rfl
@[simp] theorem State.onPlj_evc (s : State) (g : PljSt → PljSt) : (s.onPlj g).evc = s.evc := rfl
@[simp] theorem State.onPlj_pwr (s : State) (g : PljSt → PljSt) : (s.onPlj g).pwr = s.pwr := rfl
@[simp] theorem State.onPlj_flt (s : State) (g : PljSt → PljSt) : (s.onPlj g).flt = s.flt := rfl
@[simp] theorem State.onPlj_pci (s : State) (g : PljSt → PljSt) : (s.onPlj g).pci = s.pci := rfl
@[simp] theorem State.onPlj_dma (s : State) (g : PljSt → PljSt) : (s.onPlj g).dma = s.dma := rfl
@[simp] theorem State.onPlj_ciph (s : State) (g : PljSt → PljSt) : (s.onPlj g).ciph = s.ciph := rfl
@[simp] theorem State.onPlj_mem (s : State) (g : PljSt → PljSt) : (s.onPlj g).mem = s.mem := rfl
@[simp] theorem State.onPlj_dmc (s : State) (g : PljSt → PljSt) : (s.onPlj g).dmc = s.dmc := rfl
@[simp] theorem State.onPlj_nvm (s : State) (g : PljSt → PljSt) : (s.onPlj g).nvm = s.nvm := rfl
@[simp] theorem State.onPlj_chan (s : State) (g : PljSt → PljSt) : (s.onPlj g).chan = s.chan := rfl
@[simp] theorem State.onPlj_done (s : State) (g : PljSt → PljSt) : (s.onPlj g).done = s.done := rfl
@[simp] theorem State.onPlj_notices (s : State) (g : PljSt → PljSt) : (s.onPlj g).notices = s.notices := rfl
@[simp] theorem State.onPlj_ftl (s : State) (g : PljSt → PljSt) : (s.onPlj g).ftl = s.ftl := rfl
@[simp] theorem State.onPlj_plj (s : State) (g : PljSt → PljSt) : (s.onPlj g).plj = g s.plj := rfl
@[simp] theorem State.onPlj_rdp (s : State) (g : PljSt → PljSt) : (s.onPlj g).rdp = s.rdp := rfl
@[simp] theorem State.onPlj_rail (s : State) (g : PljSt → PljSt) : (s.onPlj g).rail = s.rail := rfl
@[simp] theorem State.onPlj_mcl (s : State) (g : PljSt → PljSt) : (s.onPlj g).mcl = s.mcl := rfl
@[simp] theorem State.onPlj_boot (s : State) (g : PljSt → PljSt) : (s.onPlj g).boot = s.boot := rfl
@[simp] theorem State.onPlj_ist (s : State) (g : PljSt → PljSt) : (s.onPlj g).ist = s.ist := rfl
@[simp] theorem State.onPlj_net (s : State) (g : PljSt → PljSt) : (s.onPlj g).net = s.net := rfl
@[simp] theorem State.onPlj_tgn (s : State) (g : PljSt → PljSt) : (s.onPlj g).tgn = s.tgn := rfl
@[simp] theorem State.onPlj_esc (s : State) (g : PljSt → PljSt) : (s.onPlj g).esc = s.esc := rfl
@[simp] theorem State.onPlj_out (s : State) (g : PljSt → PljSt) : (s.onPlj g).out = s.out := rfl
@[simp] theorem State.onPlj_pending (s : State) (g : PljSt → PljSt) : (s.onPlj g).pending = s.pending := rfl

/-! ### onRdp -/

@[simp] theorem State.onRdp_now (s : State) (g : RdpSt → RdpSt) : (s.onRdp g).now = s.now := rfl
@[simp] theorem State.onRdp_free (s : State) (g : RdpSt → RdpSt) : (s.onRdp g).free = s.free := rfl
@[simp] theorem State.onRdp_regs (s : State) (g : RdpSt → RdpSt) : (s.onRdp g).regs = s.regs := rfl
@[simp] theorem State.onRdp_sys (s : State) (g : RdpSt → RdpSt) : (s.onRdp g).sys = s.sys := rfl
@[simp] theorem State.onRdp_evc (s : State) (g : RdpSt → RdpSt) : (s.onRdp g).evc = s.evc := rfl
@[simp] theorem State.onRdp_pwr (s : State) (g : RdpSt → RdpSt) : (s.onRdp g).pwr = s.pwr := rfl
@[simp] theorem State.onRdp_flt (s : State) (g : RdpSt → RdpSt) : (s.onRdp g).flt = s.flt := rfl
@[simp] theorem State.onRdp_pci (s : State) (g : RdpSt → RdpSt) : (s.onRdp g).pci = s.pci := rfl
@[simp] theorem State.onRdp_dma (s : State) (g : RdpSt → RdpSt) : (s.onRdp g).dma = s.dma := rfl
@[simp] theorem State.onRdp_ciph (s : State) (g : RdpSt → RdpSt) : (s.onRdp g).ciph = s.ciph := rfl
@[simp] theorem State.onRdp_mem (s : State) (g : RdpSt → RdpSt) : (s.onRdp g).mem = s.mem := rfl
@[simp] theorem State.onRdp_dmc (s : State) (g : RdpSt → RdpSt) : (s.onRdp g).dmc = s.dmc := rfl
@[simp] theorem State.onRdp_nvm (s : State) (g : RdpSt → RdpSt) : (s.onRdp g).nvm = s.nvm := rfl
@[simp] theorem State.onRdp_chan (s : State) (g : RdpSt → RdpSt) : (s.onRdp g).chan = s.chan := rfl
@[simp] theorem State.onRdp_done (s : State) (g : RdpSt → RdpSt) : (s.onRdp g).done = s.done := rfl
@[simp] theorem State.onRdp_notices (s : State) (g : RdpSt → RdpSt) : (s.onRdp g).notices = s.notices := rfl
@[simp] theorem State.onRdp_ftl (s : State) (g : RdpSt → RdpSt) : (s.onRdp g).ftl = s.ftl := rfl
@[simp] theorem State.onRdp_plj (s : State) (g : RdpSt → RdpSt) : (s.onRdp g).plj = s.plj := rfl
@[simp] theorem State.onRdp_rdp (s : State) (g : RdpSt → RdpSt) : (s.onRdp g).rdp = g s.rdp := rfl
@[simp] theorem State.onRdp_rail (s : State) (g : RdpSt → RdpSt) : (s.onRdp g).rail = s.rail := rfl
@[simp] theorem State.onRdp_mcl (s : State) (g : RdpSt → RdpSt) : (s.onRdp g).mcl = s.mcl := rfl
@[simp] theorem State.onRdp_boot (s : State) (g : RdpSt → RdpSt) : (s.onRdp g).boot = s.boot := rfl
@[simp] theorem State.onRdp_ist (s : State) (g : RdpSt → RdpSt) : (s.onRdp g).ist = s.ist := rfl
@[simp] theorem State.onRdp_net (s : State) (g : RdpSt → RdpSt) : (s.onRdp g).net = s.net := rfl
@[simp] theorem State.onRdp_tgn (s : State) (g : RdpSt → RdpSt) : (s.onRdp g).tgn = s.tgn := rfl
@[simp] theorem State.onRdp_esc (s : State) (g : RdpSt → RdpSt) : (s.onRdp g).esc = s.esc := rfl
@[simp] theorem State.onRdp_out (s : State) (g : RdpSt → RdpSt) : (s.onRdp g).out = s.out := rfl
@[simp] theorem State.onRdp_pending (s : State) (g : RdpSt → RdpSt) : (s.onRdp g).pending = s.pending := rfl

/-! ### onRail -/

@[simp] theorem State.onRail_now (s : State) (g : RailSt → RailSt) : (s.onRail g).now = s.now := rfl
@[simp] theorem State.onRail_free (s : State) (g : RailSt → RailSt) : (s.onRail g).free = s.free := rfl
@[simp] theorem State.onRail_regs (s : State) (g : RailSt → RailSt) : (s.onRail g).regs = s.regs := rfl
@[simp] theorem State.onRail_sys (s : State) (g : RailSt → RailSt) : (s.onRail g).sys = s.sys := rfl
@[simp] theorem State.onRail_evc (s : State) (g : RailSt → RailSt) : (s.onRail g).evc = s.evc := rfl
@[simp] theorem State.onRail_pwr (s : State) (g : RailSt → RailSt) : (s.onRail g).pwr = s.pwr := rfl
@[simp] theorem State.onRail_flt (s : State) (g : RailSt → RailSt) : (s.onRail g).flt = s.flt := rfl
@[simp] theorem State.onRail_pci (s : State) (g : RailSt → RailSt) : (s.onRail g).pci = s.pci := rfl
@[simp] theorem State.onRail_dma (s : State) (g : RailSt → RailSt) : (s.onRail g).dma = s.dma := rfl
@[simp] theorem State.onRail_ciph (s : State) (g : RailSt → RailSt) : (s.onRail g).ciph = s.ciph := rfl
@[simp] theorem State.onRail_mem (s : State) (g : RailSt → RailSt) : (s.onRail g).mem = s.mem := rfl
@[simp] theorem State.onRail_dmc (s : State) (g : RailSt → RailSt) : (s.onRail g).dmc = s.dmc := rfl
@[simp] theorem State.onRail_nvm (s : State) (g : RailSt → RailSt) : (s.onRail g).nvm = s.nvm := rfl
@[simp] theorem State.onRail_chan (s : State) (g : RailSt → RailSt) : (s.onRail g).chan = s.chan := rfl
@[simp] theorem State.onRail_done (s : State) (g : RailSt → RailSt) : (s.onRail g).done = s.done := rfl
@[simp] theorem State.onRail_notices (s : State) (g : RailSt → RailSt) : (s.onRail g).notices = s.notices := rfl
@[simp] theorem State.onRail_ftl (s : State) (g : RailSt → RailSt) : (s.onRail g).ftl = s.ftl := rfl
@[simp] theorem State.onRail_plj (s : State) (g : RailSt → RailSt) : (s.onRail g).plj = s.plj := rfl
@[simp] theorem State.onRail_rdp (s : State) (g : RailSt → RailSt) : (s.onRail g).rdp = s.rdp := rfl
@[simp] theorem State.onRail_rail (s : State) (g : RailSt → RailSt) : (s.onRail g).rail = g s.rail := rfl
@[simp] theorem State.onRail_mcl (s : State) (g : RailSt → RailSt) : (s.onRail g).mcl = s.mcl := rfl
@[simp] theorem State.onRail_boot (s : State) (g : RailSt → RailSt) : (s.onRail g).boot = s.boot := rfl
@[simp] theorem State.onRail_ist (s : State) (g : RailSt → RailSt) : (s.onRail g).ist = s.ist := rfl
@[simp] theorem State.onRail_net (s : State) (g : RailSt → RailSt) : (s.onRail g).net = s.net := rfl
@[simp] theorem State.onRail_tgn (s : State) (g : RailSt → RailSt) : (s.onRail g).tgn = s.tgn := rfl
@[simp] theorem State.onRail_esc (s : State) (g : RailSt → RailSt) : (s.onRail g).esc = s.esc := rfl
@[simp] theorem State.onRail_out (s : State) (g : RailSt → RailSt) : (s.onRail g).out = s.out := rfl
@[simp] theorem State.onRail_pending (s : State) (g : RailSt → RailSt) : (s.onRail g).pending = s.pending := rfl

/-! ### onMcl -/

@[simp] theorem State.onMcl_now (s : State) (g : MclSt → MclSt) : (s.onMcl g).now = s.now := rfl
@[simp] theorem State.onMcl_free (s : State) (g : MclSt → MclSt) : (s.onMcl g).free = s.free := rfl
@[simp] theorem State.onMcl_regs (s : State) (g : MclSt → MclSt) : (s.onMcl g).regs = s.regs := rfl
@[simp] theorem State.onMcl_sys (s : State) (g : MclSt → MclSt) : (s.onMcl g).sys = s.sys := rfl
@[simp] theorem State.onMcl_evc (s : State) (g : MclSt → MclSt) : (s.onMcl g).evc = s.evc := rfl
@[simp] theorem State.onMcl_pwr (s : State) (g : MclSt → MclSt) : (s.onMcl g).pwr = s.pwr := rfl
@[simp] theorem State.onMcl_flt (s : State) (g : MclSt → MclSt) : (s.onMcl g).flt = s.flt := rfl
@[simp] theorem State.onMcl_pci (s : State) (g : MclSt → MclSt) : (s.onMcl g).pci = s.pci := rfl
@[simp] theorem State.onMcl_dma (s : State) (g : MclSt → MclSt) : (s.onMcl g).dma = s.dma := rfl
@[simp] theorem State.onMcl_ciph (s : State) (g : MclSt → MclSt) : (s.onMcl g).ciph = s.ciph := rfl
@[simp] theorem State.onMcl_mem (s : State) (g : MclSt → MclSt) : (s.onMcl g).mem = s.mem := rfl
@[simp] theorem State.onMcl_dmc (s : State) (g : MclSt → MclSt) : (s.onMcl g).dmc = s.dmc := rfl
@[simp] theorem State.onMcl_nvm (s : State) (g : MclSt → MclSt) : (s.onMcl g).nvm = s.nvm := rfl
@[simp] theorem State.onMcl_chan (s : State) (g : MclSt → MclSt) : (s.onMcl g).chan = s.chan := rfl
@[simp] theorem State.onMcl_done (s : State) (g : MclSt → MclSt) : (s.onMcl g).done = s.done := rfl
@[simp] theorem State.onMcl_notices (s : State) (g : MclSt → MclSt) : (s.onMcl g).notices = s.notices := rfl
@[simp] theorem State.onMcl_ftl (s : State) (g : MclSt → MclSt) : (s.onMcl g).ftl = s.ftl := rfl
@[simp] theorem State.onMcl_plj (s : State) (g : MclSt → MclSt) : (s.onMcl g).plj = s.plj := rfl
@[simp] theorem State.onMcl_rdp (s : State) (g : MclSt → MclSt) : (s.onMcl g).rdp = s.rdp := rfl
@[simp] theorem State.onMcl_rail (s : State) (g : MclSt → MclSt) : (s.onMcl g).rail = s.rail := rfl
@[simp] theorem State.onMcl_mcl (s : State) (g : MclSt → MclSt) : (s.onMcl g).mcl = g s.mcl := rfl
@[simp] theorem State.onMcl_boot (s : State) (g : MclSt → MclSt) : (s.onMcl g).boot = s.boot := rfl
@[simp] theorem State.onMcl_ist (s : State) (g : MclSt → MclSt) : (s.onMcl g).ist = s.ist := rfl
@[simp] theorem State.onMcl_net (s : State) (g : MclSt → MclSt) : (s.onMcl g).net = s.net := rfl
@[simp] theorem State.onMcl_tgn (s : State) (g : MclSt → MclSt) : (s.onMcl g).tgn = s.tgn := rfl
@[simp] theorem State.onMcl_esc (s : State) (g : MclSt → MclSt) : (s.onMcl g).esc = s.esc := rfl
@[simp] theorem State.onMcl_out (s : State) (g : MclSt → MclSt) : (s.onMcl g).out = s.out := rfl
@[simp] theorem State.onMcl_pending (s : State) (g : MclSt → MclSt) : (s.onMcl g).pending = s.pending := rfl

/-! ### onBoot -/

@[simp] theorem State.onBoot_now (s : State) (g : BootSt → BootSt) : (s.onBoot g).now = s.now := rfl
@[simp] theorem State.onBoot_free (s : State) (g : BootSt → BootSt) : (s.onBoot g).free = s.free := rfl
@[simp] theorem State.onBoot_regs (s : State) (g : BootSt → BootSt) : (s.onBoot g).regs = s.regs := rfl
@[simp] theorem State.onBoot_sys (s : State) (g : BootSt → BootSt) : (s.onBoot g).sys = s.sys := rfl
@[simp] theorem State.onBoot_evc (s : State) (g : BootSt → BootSt) : (s.onBoot g).evc = s.evc := rfl
@[simp] theorem State.onBoot_pwr (s : State) (g : BootSt → BootSt) : (s.onBoot g).pwr = s.pwr := rfl
@[simp] theorem State.onBoot_flt (s : State) (g : BootSt → BootSt) : (s.onBoot g).flt = s.flt := rfl
@[simp] theorem State.onBoot_pci (s : State) (g : BootSt → BootSt) : (s.onBoot g).pci = s.pci := rfl
@[simp] theorem State.onBoot_dma (s : State) (g : BootSt → BootSt) : (s.onBoot g).dma = s.dma := rfl
@[simp] theorem State.onBoot_ciph (s : State) (g : BootSt → BootSt) : (s.onBoot g).ciph = s.ciph := rfl
@[simp] theorem State.onBoot_mem (s : State) (g : BootSt → BootSt) : (s.onBoot g).mem = s.mem := rfl
@[simp] theorem State.onBoot_dmc (s : State) (g : BootSt → BootSt) : (s.onBoot g).dmc = s.dmc := rfl
@[simp] theorem State.onBoot_nvm (s : State) (g : BootSt → BootSt) : (s.onBoot g).nvm = s.nvm := rfl
@[simp] theorem State.onBoot_chan (s : State) (g : BootSt → BootSt) : (s.onBoot g).chan = s.chan := rfl
@[simp] theorem State.onBoot_done (s : State) (g : BootSt → BootSt) : (s.onBoot g).done = s.done := rfl
@[simp] theorem State.onBoot_notices (s : State) (g : BootSt → BootSt) : (s.onBoot g).notices = s.notices := rfl
@[simp] theorem State.onBoot_ftl (s : State) (g : BootSt → BootSt) : (s.onBoot g).ftl = s.ftl := rfl
@[simp] theorem State.onBoot_plj (s : State) (g : BootSt → BootSt) : (s.onBoot g).plj = s.plj := rfl
@[simp] theorem State.onBoot_rdp (s : State) (g : BootSt → BootSt) : (s.onBoot g).rdp = s.rdp := rfl
@[simp] theorem State.onBoot_rail (s : State) (g : BootSt → BootSt) : (s.onBoot g).rail = s.rail := rfl
@[simp] theorem State.onBoot_mcl (s : State) (g : BootSt → BootSt) : (s.onBoot g).mcl = s.mcl := rfl
@[simp] theorem State.onBoot_boot (s : State) (g : BootSt → BootSt) : (s.onBoot g).boot = g s.boot := rfl
@[simp] theorem State.onBoot_ist (s : State) (g : BootSt → BootSt) : (s.onBoot g).ist = s.ist := rfl
@[simp] theorem State.onBoot_net (s : State) (g : BootSt → BootSt) : (s.onBoot g).net = s.net := rfl
@[simp] theorem State.onBoot_tgn (s : State) (g : BootSt → BootSt) : (s.onBoot g).tgn = s.tgn := rfl
@[simp] theorem State.onBoot_esc (s : State) (g : BootSt → BootSt) : (s.onBoot g).esc = s.esc := rfl
@[simp] theorem State.onBoot_out (s : State) (g : BootSt → BootSt) : (s.onBoot g).out = s.out := rfl
@[simp] theorem State.onBoot_pending (s : State) (g : BootSt → BootSt) : (s.onBoot g).pending = s.pending := rfl

/-! ### onIst -/

@[simp] theorem State.onIst_now (s : State) (g : IstSt → IstSt) : (s.onIst g).now = s.now := rfl
@[simp] theorem State.onIst_free (s : State) (g : IstSt → IstSt) : (s.onIst g).free = s.free := rfl
@[simp] theorem State.onIst_regs (s : State) (g : IstSt → IstSt) : (s.onIst g).regs = s.regs := rfl
@[simp] theorem State.onIst_sys (s : State) (g : IstSt → IstSt) : (s.onIst g).sys = s.sys := rfl
@[simp] theorem State.onIst_evc (s : State) (g : IstSt → IstSt) : (s.onIst g).evc = s.evc := rfl
@[simp] theorem State.onIst_pwr (s : State) (g : IstSt → IstSt) : (s.onIst g).pwr = s.pwr := rfl
@[simp] theorem State.onIst_flt (s : State) (g : IstSt → IstSt) : (s.onIst g).flt = s.flt := rfl
@[simp] theorem State.onIst_pci (s : State) (g : IstSt → IstSt) : (s.onIst g).pci = s.pci := rfl
@[simp] theorem State.onIst_dma (s : State) (g : IstSt → IstSt) : (s.onIst g).dma = s.dma := rfl
@[simp] theorem State.onIst_ciph (s : State) (g : IstSt → IstSt) : (s.onIst g).ciph = s.ciph := rfl
@[simp] theorem State.onIst_mem (s : State) (g : IstSt → IstSt) : (s.onIst g).mem = s.mem := rfl
@[simp] theorem State.onIst_dmc (s : State) (g : IstSt → IstSt) : (s.onIst g).dmc = s.dmc := rfl
@[simp] theorem State.onIst_nvm (s : State) (g : IstSt → IstSt) : (s.onIst g).nvm = s.nvm := rfl
@[simp] theorem State.onIst_chan (s : State) (g : IstSt → IstSt) : (s.onIst g).chan = s.chan := rfl
@[simp] theorem State.onIst_done (s : State) (g : IstSt → IstSt) : (s.onIst g).done = s.done := rfl
@[simp] theorem State.onIst_notices (s : State) (g : IstSt → IstSt) : (s.onIst g).notices = s.notices := rfl
@[simp] theorem State.onIst_ftl (s : State) (g : IstSt → IstSt) : (s.onIst g).ftl = s.ftl := rfl
@[simp] theorem State.onIst_plj (s : State) (g : IstSt → IstSt) : (s.onIst g).plj = s.plj := rfl
@[simp] theorem State.onIst_rdp (s : State) (g : IstSt → IstSt) : (s.onIst g).rdp = s.rdp := rfl
@[simp] theorem State.onIst_rail (s : State) (g : IstSt → IstSt) : (s.onIst g).rail = s.rail := rfl
@[simp] theorem State.onIst_mcl (s : State) (g : IstSt → IstSt) : (s.onIst g).mcl = s.mcl := rfl
@[simp] theorem State.onIst_boot (s : State) (g : IstSt → IstSt) : (s.onIst g).boot = s.boot := rfl
@[simp] theorem State.onIst_ist (s : State) (g : IstSt → IstSt) : (s.onIst g).ist = g s.ist := rfl
@[simp] theorem State.onIst_net (s : State) (g : IstSt → IstSt) : (s.onIst g).net = s.net := rfl
@[simp] theorem State.onIst_tgn (s : State) (g : IstSt → IstSt) : (s.onIst g).tgn = s.tgn := rfl
@[simp] theorem State.onIst_esc (s : State) (g : IstSt → IstSt) : (s.onIst g).esc = s.esc := rfl
@[simp] theorem State.onIst_out (s : State) (g : IstSt → IstSt) : (s.onIst g).out = s.out := rfl
@[simp] theorem State.onIst_pending (s : State) (g : IstSt → IstSt) : (s.onIst g).pending = s.pending := rfl

/-! ### onTgn -/

@[simp] theorem State.onTgn_now (s : State) (g : TgnSt → TgnSt) : (s.onTgn g).now = s.now := rfl
@[simp] theorem State.onTgn_free (s : State) (g : TgnSt → TgnSt) : (s.onTgn g).free = s.free := rfl
@[simp] theorem State.onTgn_regs (s : State) (g : TgnSt → TgnSt) : (s.onTgn g).regs = s.regs := rfl
@[simp] theorem State.onTgn_sys (s : State) (g : TgnSt → TgnSt) : (s.onTgn g).sys = s.sys := rfl
@[simp] theorem State.onTgn_evc (s : State) (g : TgnSt → TgnSt) : (s.onTgn g).evc = s.evc := rfl
@[simp] theorem State.onTgn_pwr (s : State) (g : TgnSt → TgnSt) : (s.onTgn g).pwr = s.pwr := rfl
@[simp] theorem State.onTgn_flt (s : State) (g : TgnSt → TgnSt) : (s.onTgn g).flt = s.flt := rfl
@[simp] theorem State.onTgn_pci (s : State) (g : TgnSt → TgnSt) : (s.onTgn g).pci = s.pci := rfl
@[simp] theorem State.onTgn_dma (s : State) (g : TgnSt → TgnSt) : (s.onTgn g).dma = s.dma := rfl
@[simp] theorem State.onTgn_ciph (s : State) (g : TgnSt → TgnSt) : (s.onTgn g).ciph = s.ciph := rfl
@[simp] theorem State.onTgn_mem (s : State) (g : TgnSt → TgnSt) : (s.onTgn g).mem = s.mem := rfl
@[simp] theorem State.onTgn_dmc (s : State) (g : TgnSt → TgnSt) : (s.onTgn g).dmc = s.dmc := rfl
@[simp] theorem State.onTgn_nvm (s : State) (g : TgnSt → TgnSt) : (s.onTgn g).nvm = s.nvm := rfl
@[simp] theorem State.onTgn_chan (s : State) (g : TgnSt → TgnSt) : (s.onTgn g).chan = s.chan := rfl
@[simp] theorem State.onTgn_done (s : State) (g : TgnSt → TgnSt) : (s.onTgn g).done = s.done := rfl
@[simp] theorem State.onTgn_notices (s : State) (g : TgnSt → TgnSt) : (s.onTgn g).notices = s.notices := rfl
@[simp] theorem State.onTgn_ftl (s : State) (g : TgnSt → TgnSt) : (s.onTgn g).ftl = s.ftl := rfl
@[simp] theorem State.onTgn_plj (s : State) (g : TgnSt → TgnSt) : (s.onTgn g).plj = s.plj := rfl
@[simp] theorem State.onTgn_rdp (s : State) (g : TgnSt → TgnSt) : (s.onTgn g).rdp = s.rdp := rfl
@[simp] theorem State.onTgn_rail (s : State) (g : TgnSt → TgnSt) : (s.onTgn g).rail = s.rail := rfl
@[simp] theorem State.onTgn_mcl (s : State) (g : TgnSt → TgnSt) : (s.onTgn g).mcl = s.mcl := rfl
@[simp] theorem State.onTgn_boot (s : State) (g : TgnSt → TgnSt) : (s.onTgn g).boot = s.boot := rfl
@[simp] theorem State.onTgn_ist (s : State) (g : TgnSt → TgnSt) : (s.onTgn g).ist = s.ist := rfl
@[simp] theorem State.onTgn_net (s : State) (g : TgnSt → TgnSt) : (s.onTgn g).net = s.net := rfl
@[simp] theorem State.onTgn_tgn (s : State) (g : TgnSt → TgnSt) : (s.onTgn g).tgn = g s.tgn := rfl
@[simp] theorem State.onTgn_esc (s : State) (g : TgnSt → TgnSt) : (s.onTgn g).esc = s.esc := rfl
@[simp] theorem State.onTgn_out (s : State) (g : TgnSt → TgnSt) : (s.onTgn g).out = s.out := rfl
@[simp] theorem State.onTgn_pending (s : State) (g : TgnSt → TgnSt) : (s.onTgn g).pending = s.pending := rfl

/-! ### onEsc -/

@[simp] theorem State.onEsc_now (s : State) (g : EscSt → EscSt) : (s.onEsc g).now = s.now := rfl
@[simp] theorem State.onEsc_free (s : State) (g : EscSt → EscSt) : (s.onEsc g).free = s.free := rfl
@[simp] theorem State.onEsc_regs (s : State) (g : EscSt → EscSt) : (s.onEsc g).regs = s.regs := rfl
@[simp] theorem State.onEsc_sys (s : State) (g : EscSt → EscSt) : (s.onEsc g).sys = s.sys := rfl
@[simp] theorem State.onEsc_evc (s : State) (g : EscSt → EscSt) : (s.onEsc g).evc = s.evc := rfl
@[simp] theorem State.onEsc_pwr (s : State) (g : EscSt → EscSt) : (s.onEsc g).pwr = s.pwr := rfl
@[simp] theorem State.onEsc_flt (s : State) (g : EscSt → EscSt) : (s.onEsc g).flt = s.flt := rfl
@[simp] theorem State.onEsc_pci (s : State) (g : EscSt → EscSt) : (s.onEsc g).pci = s.pci := rfl
@[simp] theorem State.onEsc_dma (s : State) (g : EscSt → EscSt) : (s.onEsc g).dma = s.dma := rfl
@[simp] theorem State.onEsc_ciph (s : State) (g : EscSt → EscSt) : (s.onEsc g).ciph = s.ciph := rfl
@[simp] theorem State.onEsc_mem (s : State) (g : EscSt → EscSt) : (s.onEsc g).mem = s.mem := rfl
@[simp] theorem State.onEsc_dmc (s : State) (g : EscSt → EscSt) : (s.onEsc g).dmc = s.dmc := rfl
@[simp] theorem State.onEsc_nvm (s : State) (g : EscSt → EscSt) : (s.onEsc g).nvm = s.nvm := rfl
@[simp] theorem State.onEsc_chan (s : State) (g : EscSt → EscSt) : (s.onEsc g).chan = s.chan := rfl
@[simp] theorem State.onEsc_done (s : State) (g : EscSt → EscSt) : (s.onEsc g).done = s.done := rfl
@[simp] theorem State.onEsc_notices (s : State) (g : EscSt → EscSt) : (s.onEsc g).notices = s.notices := rfl
@[simp] theorem State.onEsc_ftl (s : State) (g : EscSt → EscSt) : (s.onEsc g).ftl = s.ftl := rfl
@[simp] theorem State.onEsc_plj (s : State) (g : EscSt → EscSt) : (s.onEsc g).plj = s.plj := rfl
@[simp] theorem State.onEsc_rdp (s : State) (g : EscSt → EscSt) : (s.onEsc g).rdp = s.rdp := rfl
@[simp] theorem State.onEsc_rail (s : State) (g : EscSt → EscSt) : (s.onEsc g).rail = s.rail := rfl
@[simp] theorem State.onEsc_mcl (s : State) (g : EscSt → EscSt) : (s.onEsc g).mcl = s.mcl := rfl
@[simp] theorem State.onEsc_boot (s : State) (g : EscSt → EscSt) : (s.onEsc g).boot = s.boot := rfl
@[simp] theorem State.onEsc_ist (s : State) (g : EscSt → EscSt) : (s.onEsc g).ist = s.ist := rfl
@[simp] theorem State.onEsc_net (s : State) (g : EscSt → EscSt) : (s.onEsc g).net = s.net := rfl
@[simp] theorem State.onEsc_tgn (s : State) (g : EscSt → EscSt) : (s.onEsc g).tgn = s.tgn := rfl
@[simp] theorem State.onEsc_esc (s : State) (g : EscSt → EscSt) : (s.onEsc g).esc = g s.esc := rfl
@[simp] theorem State.onEsc_out (s : State) (g : EscSt → EscSt) : (s.onEsc g).out = s.out := rfl
@[simp] theorem State.onEsc_pending (s : State) (g : EscSt → EscSt) : (s.onEsc g).pending = s.pending := rfl

/-! ### wr -/

@[simp] theorem State.wr_now (s : State) (off : Nat) (w : Word) : (s.wr off w).now = s.now := rfl
@[simp] theorem State.wr_free (s : State) (off : Nat) (w : Word) : (s.wr off w).free = s.free := rfl
@[simp] theorem State.wr_regs (s : State) (off : Nat) (w : Word) : (s.wr off w).regs = s.regs.set resetWord off w := rfl
@[simp] theorem State.wr_sys (s : State) (off : Nat) (w : Word) : (s.wr off w).sys = s.sys := rfl
@[simp] theorem State.wr_evc (s : State) (off : Nat) (w : Word) : (s.wr off w).evc = s.evc := rfl
@[simp] theorem State.wr_pwr (s : State) (off : Nat) (w : Word) : (s.wr off w).pwr = s.pwr := rfl
@[simp] theorem State.wr_flt (s : State) (off : Nat) (w : Word) : (s.wr off w).flt = s.flt := rfl
@[simp] theorem State.wr_pci (s : State) (off : Nat) (w : Word) : (s.wr off w).pci = s.pci := rfl
@[simp] theorem State.wr_dma (s : State) (off : Nat) (w : Word) : (s.wr off w).dma = s.dma := rfl
@[simp] theorem State.wr_ciph (s : State) (off : Nat) (w : Word) : (s.wr off w).ciph = s.ciph := rfl
@[simp] theorem State.wr_mem (s : State) (off : Nat) (w : Word) : (s.wr off w).mem = s.mem := rfl
@[simp] theorem State.wr_dmc (s : State) (off : Nat) (w : Word) : (s.wr off w).dmc = s.dmc := rfl
@[simp] theorem State.wr_nvm (s : State) (off : Nat) (w : Word) : (s.wr off w).nvm = s.nvm := rfl
@[simp] theorem State.wr_chan (s : State) (off : Nat) (w : Word) : (s.wr off w).chan = s.chan := rfl
@[simp] theorem State.wr_done (s : State) (off : Nat) (w : Word) : (s.wr off w).done = s.done := rfl
@[simp] theorem State.wr_notices (s : State) (off : Nat) (w : Word) : (s.wr off w).notices = s.notices := rfl
@[simp] theorem State.wr_ftl (s : State) (off : Nat) (w : Word) : (s.wr off w).ftl = s.ftl := rfl
@[simp] theorem State.wr_plj (s : State) (off : Nat) (w : Word) : (s.wr off w).plj = s.plj := rfl
@[simp] theorem State.wr_rdp (s : State) (off : Nat) (w : Word) : (s.wr off w).rdp = s.rdp := rfl
@[simp] theorem State.wr_rail (s : State) (off : Nat) (w : Word) : (s.wr off w).rail = s.rail := rfl
@[simp] theorem State.wr_mcl (s : State) (off : Nat) (w : Word) : (s.wr off w).mcl = s.mcl := rfl
@[simp] theorem State.wr_boot (s : State) (off : Nat) (w : Word) : (s.wr off w).boot = s.boot := rfl
@[simp] theorem State.wr_ist (s : State) (off : Nat) (w : Word) : (s.wr off w).ist = s.ist := rfl
@[simp] theorem State.wr_net (s : State) (off : Nat) (w : Word) : (s.wr off w).net = s.net := rfl
@[simp] theorem State.wr_tgn (s : State) (off : Nat) (w : Word) : (s.wr off w).tgn = s.tgn := rfl
@[simp] theorem State.wr_esc (s : State) (off : Nat) (w : Word) : (s.wr off w).esc = s.esc := rfl
@[simp] theorem State.wr_out (s : State) (off : Nat) (w : Word) : (s.wr off w).out = s.out := rfl
@[simp] theorem State.wr_pending (s : State) (off : Nat) (w : Word) : (s.wr off w).pending = s.pending := rfl

/-! ### emit -/

@[simp] theorem State.emit_now (s : State) (x : Out) : (s.emit x).now = s.now := rfl
@[simp] theorem State.emit_free (s : State) (x : Out) : (s.emit x).free = s.free := rfl
@[simp] theorem State.emit_regs (s : State) (x : Out) : (s.emit x).regs = s.regs := rfl
@[simp] theorem State.emit_sys (s : State) (x : Out) : (s.emit x).sys = s.sys := rfl
@[simp] theorem State.emit_evc (s : State) (x : Out) : (s.emit x).evc = s.evc := rfl
@[simp] theorem State.emit_pwr (s : State) (x : Out) : (s.emit x).pwr = s.pwr := rfl
@[simp] theorem State.emit_flt (s : State) (x : Out) : (s.emit x).flt = s.flt := rfl
@[simp] theorem State.emit_pci (s : State) (x : Out) : (s.emit x).pci = s.pci := rfl
@[simp] theorem State.emit_dma (s : State) (x : Out) : (s.emit x).dma = s.dma := rfl
@[simp] theorem State.emit_ciph (s : State) (x : Out) : (s.emit x).ciph = s.ciph := rfl
@[simp] theorem State.emit_mem (s : State) (x : Out) : (s.emit x).mem = s.mem := rfl
@[simp] theorem State.emit_dmc (s : State) (x : Out) : (s.emit x).dmc = s.dmc := rfl
@[simp] theorem State.emit_nvm (s : State) (x : Out) : (s.emit x).nvm = s.nvm := rfl
@[simp] theorem State.emit_chan (s : State) (x : Out) : (s.emit x).chan = s.chan := rfl
@[simp] theorem State.emit_done (s : State) (x : Out) : (s.emit x).done = s.done := rfl
@[simp] theorem State.emit_notices (s : State) (x : Out) : (s.emit x).notices = s.notices := rfl
@[simp] theorem State.emit_ftl (s : State) (x : Out) : (s.emit x).ftl = s.ftl := rfl
@[simp] theorem State.emit_plj (s : State) (x : Out) : (s.emit x).plj = s.plj := rfl
@[simp] theorem State.emit_rdp (s : State) (x : Out) : (s.emit x).rdp = s.rdp := rfl
@[simp] theorem State.emit_rail (s : State) (x : Out) : (s.emit x).rail = s.rail := rfl
@[simp] theorem State.emit_mcl (s : State) (x : Out) : (s.emit x).mcl = s.mcl := rfl
@[simp] theorem State.emit_boot (s : State) (x : Out) : (s.emit x).boot = s.boot := rfl
@[simp] theorem State.emit_ist (s : State) (x : Out) : (s.emit x).ist = s.ist := rfl
@[simp] theorem State.emit_net (s : State) (x : Out) : (s.emit x).net = s.net := rfl
@[simp] theorem State.emit_tgn (s : State) (x : Out) : (s.emit x).tgn = s.tgn := rfl
@[simp] theorem State.emit_esc (s : State) (x : Out) : (s.emit x).esc = s.esc := rfl
@[simp] theorem State.emit_out (s : State) (x : Out) : (s.emit x).out = x :: s.out := rfl
@[simp] theorem State.emit_pending (s : State) (x : Out) : (s.emit x).pending = s.pending := rfl

/-! ### withRest -/

@[simp] theorem State.withRest_now (s : State) (r : List Instr) : (s.withRest r).now = s.now := rfl
@[simp] theorem State.withRest_free (s : State) (r : List Instr) : (s.withRest r).free = s.free := rfl
@[simp] theorem State.withRest_regs (s : State) (r : List Instr) : (s.withRest r).regs = s.regs := rfl
@[simp] theorem State.withRest_sys (s : State) (r : List Instr) : (s.withRest r).sys = s.sys := rfl
@[simp] theorem State.withRest_evc (s : State) (r : List Instr) : (s.withRest r).evc = s.evc := rfl
@[simp] theorem State.withRest_pwr (s : State) (r : List Instr) : (s.withRest r).pwr = s.pwr := rfl
@[simp] theorem State.withRest_flt (s : State) (r : List Instr) : (s.withRest r).flt = s.flt := rfl
@[simp] theorem State.withRest_pci (s : State) (r : List Instr) : (s.withRest r).pci = s.pci := rfl
@[simp] theorem State.withRest_dma (s : State) (r : List Instr) : (s.withRest r).dma = s.dma := rfl
@[simp] theorem State.withRest_ciph (s : State) (r : List Instr) : (s.withRest r).ciph = s.ciph := rfl
@[simp] theorem State.withRest_mem (s : State) (r : List Instr) : (s.withRest r).mem = s.mem := rfl
@[simp] theorem State.withRest_dmc (s : State) (r : List Instr) : (s.withRest r).dmc = s.dmc := rfl
@[simp] theorem State.withRest_nvm (s : State) (r : List Instr) : (s.withRest r).nvm = s.nvm := rfl
@[simp] theorem State.withRest_chan (s : State) (r : List Instr) : (s.withRest r).chan = s.chan := rfl
@[simp] theorem State.withRest_done (s : State) (r : List Instr) : (s.withRest r).done = s.done := rfl
@[simp] theorem State.withRest_notices (s : State) (r : List Instr) : (s.withRest r).notices = s.notices := rfl
@[simp] theorem State.withRest_ftl (s : State) (r : List Instr) : (s.withRest r).ftl = s.ftl := rfl
@[simp] theorem State.withRest_plj (s : State) (r : List Instr) : (s.withRest r).plj = s.plj := rfl
@[simp] theorem State.withRest_rdp (s : State) (r : List Instr) : (s.withRest r).rdp = s.rdp := rfl
@[simp] theorem State.withRest_rail (s : State) (r : List Instr) : (s.withRest r).rail = s.rail := rfl
@[simp] theorem State.withRest_mcl (s : State) (r : List Instr) : (s.withRest r).mcl = s.mcl := rfl
@[simp] theorem State.withRest_boot (s : State) (r : List Instr) : (s.withRest r).boot = s.boot := rfl
@[simp] theorem State.withRest_ist (s : State) (r : List Instr) : (s.withRest r).ist = s.ist := rfl
@[simp] theorem State.withRest_net (s : State) (r : List Instr) : (s.withRest r).net = s.net := rfl
@[simp] theorem State.withRest_tgn (s : State) (r : List Instr) : (s.withRest r).tgn = s.tgn := rfl
@[simp] theorem State.withRest_esc (s : State) (r : List Instr) : (s.withRest r).esc = s.esc := rfl
@[simp] theorem State.withRest_out (s : State) (r : List Instr) : (s.withRest r).out = s.out := rfl
@[simp] theorem State.withRest_pending (s : State) (r : List Instr) : (s.withRest r).pending = r := rfl

/-! ### onNet -/

@[simp] theorem State.onNet_now (s : State) (n : Nat) (g : NetSt → NetSt) : (s.onNet n g).now = s.now := rfl
@[simp] theorem State.onNet_free (s : State) (n : Nat) (g : NetSt → NetSt) : (s.onNet n g).free = s.free := rfl
@[simp] theorem State.onNet_regs (s : State) (n : Nat) (g : NetSt → NetSt) : (s.onNet n g).regs = s.regs := rfl
@[simp] theorem State.onNet_sys (s : State) (n : Nat) (g : NetSt → NetSt) : (s.onNet n g).sys = s.sys := rfl
@[simp] theorem State.onNet_evc (s : State) (n : Nat) (g : NetSt → NetSt) : (s.onNet n g).evc = s.evc := rfl
@[simp] theorem State.onNet_pwr (s : State) (n : Nat) (g : NetSt → NetSt) : (s.onNet n g).pwr = s.pwr := rfl
@[simp] theorem State.onNet_flt (s : State) (n : Nat) (g : NetSt → NetSt) : (s.onNet n g).flt = s.flt := rfl
@[simp] theorem State.onNet_pci (s : State) (n : Nat) (g : NetSt → NetSt) : (s.onNet n g).pci = s.pci := rfl
@[simp] theorem State.onNet_dma (s : State) (n : Nat) (g : NetSt → NetSt) : (s.onNet n g).dma = s.dma := rfl
@[simp] theorem State.onNet_ciph (s : State) (n : Nat) (g : NetSt → NetSt) : (s.onNet n g).ciph = s.ciph := rfl
@[simp] theorem State.onNet_mem (s : State) (n : Nat) (g : NetSt → NetSt) : (s.onNet n g).mem = s.mem := rfl
@[simp] theorem State.onNet_dmc (s : State) (n : Nat) (g : NetSt → NetSt) : (s.onNet n g).dmc = s.dmc := rfl
@[simp] theorem State.onNet_nvm (s : State) (n : Nat) (g : NetSt → NetSt) : (s.onNet n g).nvm = s.nvm := rfl
@[simp] theorem State.onNet_chan (s : State) (n : Nat) (g : NetSt → NetSt) : (s.onNet n g).chan = s.chan := rfl
@[simp] theorem State.onNet_done (s : State) (n : Nat) (g : NetSt → NetSt) : (s.onNet n g).done = s.done := rfl
@[simp] theorem State.onNet_notices (s : State) (n : Nat) (g : NetSt → NetSt) : (s.onNet n g).notices = s.notices := rfl
@[simp] theorem State.onNet_ftl (s : State) (n : Nat) (g : NetSt → NetSt) : (s.onNet n g).ftl = s.ftl := rfl
@[simp] theorem State.onNet_plj (s : State) (n : Nat) (g : NetSt → NetSt) : (s.onNet n g).plj = s.plj := rfl
@[simp] theorem State.onNet_rdp (s : State) (n : Nat) (g : NetSt → NetSt) : (s.onNet n g).rdp = s.rdp := rfl
@[simp] theorem State.onNet_rail (s : State) (n : Nat) (g : NetSt → NetSt) : (s.onNet n g).rail = s.rail := rfl
@[simp] theorem State.onNet_mcl (s : State) (n : Nat) (g : NetSt → NetSt) : (s.onNet n g).mcl = s.mcl := rfl
@[simp] theorem State.onNet_boot (s : State) (n : Nat) (g : NetSt → NetSt) : (s.onNet n g).boot = s.boot := rfl
@[simp] theorem State.onNet_ist (s : State) (n : Nat) (g : NetSt → NetSt) : (s.onNet n g).ist = s.ist := rfl
@[simp] theorem State.onNet_net (s : State) (n : Nat) (g : NetSt → NetSt) : (s.onNet n g).net = s.net.set (fun _ => NetSt.reset) n (g (s.netSt n)) := rfl
@[simp] theorem State.onNet_tgn (s : State) (n : Nat) (g : NetSt → NetSt) : (s.onNet n g).tgn = s.tgn := rfl
@[simp] theorem State.onNet_esc (s : State) (n : Nat) (g : NetSt → NetSt) : (s.onNet n g).esc = s.esc := rfl
@[simp] theorem State.onNet_out (s : State) (n : Nat) (g : NetSt → NetSt) : (s.onNet n g).out = s.out := rfl
@[simp] theorem State.onNet_pending (s : State) (n : Nat) (g : NetSt → NetSt) : (s.onNet n g).pending = s.pending := rfl

/-! ### setDma -/

@[simp] theorem State.setDma_now (s : State) (n : Nat) (g : DmaSt → DmaSt) : (s.setDma n g).now = s.now := rfl
@[simp] theorem State.setDma_free (s : State) (n : Nat) (g : DmaSt → DmaSt) : (s.setDma n g).free = s.free := rfl
@[simp] theorem State.setDma_regs (s : State) (n : Nat) (g : DmaSt → DmaSt) : (s.setDma n g).regs = s.regs := rfl
@[simp] theorem State.setDma_sys (s : State) (n : Nat) (g : DmaSt → DmaSt) : (s.setDma n g).sys = s.sys := rfl
@[simp] theorem State.setDma_evc (s : State) (n : Nat) (g : DmaSt → DmaSt) : (s.setDma n g).evc = s.evc := rfl
@[simp] theorem State.setDma_pwr (s : State) (n : Nat) (g : DmaSt → DmaSt) : (s.setDma n g).pwr = s.pwr := rfl
@[simp] theorem State.setDma_flt (s : State) (n : Nat) (g : DmaSt → DmaSt) : (s.setDma n g).flt = s.flt := rfl
@[simp] theorem State.setDma_pci (s : State) (n : Nat) (g : DmaSt → DmaSt) : (s.setDma n g).pci = s.pci := rfl
@[simp] theorem State.setDma_dma (s : State) (n : Nat) (g : DmaSt → DmaSt) : (s.setDma n g).dma = s.dma.set (fun _ => DmaSt.reset) n (g (s.dmaSt n)) := rfl
@[simp] theorem State.setDma_ciph (s : State) (n : Nat) (g : DmaSt → DmaSt) : (s.setDma n g).ciph = s.ciph := rfl
@[simp] theorem State.setDma_mem (s : State) (n : Nat) (g : DmaSt → DmaSt) : (s.setDma n g).mem = s.mem := rfl
@[simp] theorem State.setDma_dmc (s : State) (n : Nat) (g : DmaSt → DmaSt) : (s.setDma n g).dmc = s.dmc := rfl
@[simp] theorem State.setDma_nvm (s : State) (n : Nat) (g : DmaSt → DmaSt) : (s.setDma n g).nvm = s.nvm := rfl
@[simp] theorem State.setDma_chan (s : State) (n : Nat) (g : DmaSt → DmaSt) : (s.setDma n g).chan = s.chan := rfl
@[simp] theorem State.setDma_done (s : State) (n : Nat) (g : DmaSt → DmaSt) : (s.setDma n g).done = s.done := rfl
@[simp] theorem State.setDma_notices (s : State) (n : Nat) (g : DmaSt → DmaSt) : (s.setDma n g).notices = s.notices := rfl
@[simp] theorem State.setDma_ftl (s : State) (n : Nat) (g : DmaSt → DmaSt) : (s.setDma n g).ftl = s.ftl := rfl
@[simp] theorem State.setDma_plj (s : State) (n : Nat) (g : DmaSt → DmaSt) : (s.setDma n g).plj = s.plj := rfl
@[simp] theorem State.setDma_rdp (s : State) (n : Nat) (g : DmaSt → DmaSt) : (s.setDma n g).rdp = s.rdp := rfl
@[simp] theorem State.setDma_rail (s : State) (n : Nat) (g : DmaSt → DmaSt) : (s.setDma n g).rail = s.rail := rfl
@[simp] theorem State.setDma_mcl (s : State) (n : Nat) (g : DmaSt → DmaSt) : (s.setDma n g).mcl = s.mcl := rfl
@[simp] theorem State.setDma_boot (s : State) (n : Nat) (g : DmaSt → DmaSt) : (s.setDma n g).boot = s.boot := rfl
@[simp] theorem State.setDma_ist (s : State) (n : Nat) (g : DmaSt → DmaSt) : (s.setDma n g).ist = s.ist := rfl
@[simp] theorem State.setDma_net (s : State) (n : Nat) (g : DmaSt → DmaSt) : (s.setDma n g).net = s.net := rfl
@[simp] theorem State.setDma_tgn (s : State) (n : Nat) (g : DmaSt → DmaSt) : (s.setDma n g).tgn = s.tgn := rfl
@[simp] theorem State.setDma_esc (s : State) (n : Nat) (g : DmaSt → DmaSt) : (s.setDma n g).esc = s.esc := rfl
@[simp] theorem State.setDma_out (s : State) (n : Nat) (g : DmaSt → DmaSt) : (s.setDma n g).out = s.out := rfl
@[simp] theorem State.setDma_pending (s : State) (n : Nat) (g : DmaSt → DmaSt) : (s.setDma n g).pending = s.pending := rfl

/-! ### put -/

@[simp] theorem State.put_now (s : State) (r : FRef) (v : Nat) : (s.put r v).now = s.now := rfl
@[simp] theorem State.put_free (s : State) (r : FRef) (v : Nat) : (s.put r v).free = s.free := rfl
@[simp] theorem State.put_regs (s : State) (r : FRef) (v : Nat) : (s.put r v).regs = s.regs.set resetWord r.off ((s.rd r.off).setFld r.lo r.wd v) := rfl
@[simp] theorem State.put_sys (s : State) (r : FRef) (v : Nat) : (s.put r v).sys = s.sys := rfl
@[simp] theorem State.put_evc (s : State) (r : FRef) (v : Nat) : (s.put r v).evc = s.evc := rfl
@[simp] theorem State.put_pwr (s : State) (r : FRef) (v : Nat) : (s.put r v).pwr = s.pwr := rfl
@[simp] theorem State.put_flt (s : State) (r : FRef) (v : Nat) : (s.put r v).flt = s.flt := rfl
@[simp] theorem State.put_pci (s : State) (r : FRef) (v : Nat) : (s.put r v).pci = s.pci := rfl
@[simp] theorem State.put_dma (s : State) (r : FRef) (v : Nat) : (s.put r v).dma = s.dma := rfl
@[simp] theorem State.put_ciph (s : State) (r : FRef) (v : Nat) : (s.put r v).ciph = s.ciph := rfl
@[simp] theorem State.put_mem (s : State) (r : FRef) (v : Nat) : (s.put r v).mem = s.mem := rfl
@[simp] theorem State.put_dmc (s : State) (r : FRef) (v : Nat) : (s.put r v).dmc = s.dmc := rfl
@[simp] theorem State.put_nvm (s : State) (r : FRef) (v : Nat) : (s.put r v).nvm = s.nvm := rfl
@[simp] theorem State.put_chan (s : State) (r : FRef) (v : Nat) : (s.put r v).chan = s.chan := rfl
@[simp] theorem State.put_done (s : State) (r : FRef) (v : Nat) : (s.put r v).done = s.done := rfl
@[simp] theorem State.put_notices (s : State) (r : FRef) (v : Nat) : (s.put r v).notices = s.notices := rfl
@[simp] theorem State.put_ftl (s : State) (r : FRef) (v : Nat) : (s.put r v).ftl = s.ftl := rfl
@[simp] theorem State.put_plj (s : State) (r : FRef) (v : Nat) : (s.put r v).plj = s.plj := rfl
@[simp] theorem State.put_rdp (s : State) (r : FRef) (v : Nat) : (s.put r v).rdp = s.rdp := rfl
@[simp] theorem State.put_rail (s : State) (r : FRef) (v : Nat) : (s.put r v).rail = s.rail := rfl
@[simp] theorem State.put_mcl (s : State) (r : FRef) (v : Nat) : (s.put r v).mcl = s.mcl := rfl
@[simp] theorem State.put_boot (s : State) (r : FRef) (v : Nat) : (s.put r v).boot = s.boot := rfl
@[simp] theorem State.put_ist (s : State) (r : FRef) (v : Nat) : (s.put r v).ist = s.ist := rfl
@[simp] theorem State.put_net (s : State) (r : FRef) (v : Nat) : (s.put r v).net = s.net := rfl
@[simp] theorem State.put_tgn (s : State) (r : FRef) (v : Nat) : (s.put r v).tgn = s.tgn := rfl
@[simp] theorem State.put_esc (s : State) (r : FRef) (v : Nat) : (s.put r v).esc = s.esc := rfl
@[simp] theorem State.put_out (s : State) (r : FRef) (v : Nat) : (s.put r v).out = s.out := rfl
@[simp] theorem State.put_pending (s : State) (r : FRef) (v : Nat) : (s.put r v).pending = s.pending := rfl

/-! ### Commands -/

theorem act_halt {s : State} (h : s.flt.halt = true) (f : State → State) : act s f = .next s := by simp [act, h]

theorem act_run {s : State} (h : s.flt.halt = false) (f : State → State) : act s f = .next (f s) := by simp [act, h]

theorem actAll_halt {s : State} (h : s.flt.halt = true) (f : State → State) : actAll s f = .next s := act_halt h _

theorem actAll_run {s : State} (h : s.flt.halt = false) (f : State → State) :
    actAll s f = .next (f s).settleAll := act_run h _

end Sys2Proof.Machine
end

