-- ==== Sys2Proof/Laws/Regs.lean ====
section
/-! SUPPORT. Laws of the registers and their fields: what a read of a register or of a field gives after a write. -/

namespace Sys2Proof

theorem Word.fld_lt (w : Word) (lo wd : Nat) : Word.fld w lo wd < 2 ^ wd := Nat.mod_lt _ (Nat.two_pow_pos wd)

/-- The number that `setFld` makes fits the word it came from. -/
theorem Word.setFld_toNat (w : Word) {lo wd : Nat} (h : lo + wd ≤ 32) (v : Nat) :
    (Word.setFld w lo wd v).toNat
      = w.toNat % 2 ^ lo + (v % 2 ^ wd) * 2 ^ lo + (w.toNat / 2 ^ (lo + wd)) * 2 ^ (lo + wd) := by
  have h1 : w.toNat % 2 ^ lo < 2 ^ lo := Nat.mod_lt _ (Nat.two_pow_pos lo)
  have h2 : v % 2 ^ wd < 2 ^ wd := Nat.mod_lt _ (Nat.two_pow_pos wd)
  have h3 : w.toNat / 2 ^ (lo + wd) < 2 ^ (32 - (lo + wd)) := by
    rw [Nat.div_lt_iff_lt_mul (Nat.two_pow_pos _), ← Nat.pow_add]
    have : 32 - (lo + wd) + (lo + wd) = 32 := by omega
    rw [this]
    exact w.isLt
  have h4 : w.toNat % 2 ^ lo + v % 2 ^ wd * 2 ^ lo < 2 ^ (lo + wd) := by
    have : (v % 2 ^ wd + 1) * 2 ^ lo ≤ 2 ^ wd * 2 ^ lo := Nat.mul_le_mul_right _ h2
    rw [Nat.add_mul, one_mul] at this
    rw [Nat.pow_add, Nat.mul_comm (2 ^ lo)]
    omega
  have h5 : w.toNat / 2 ^ (lo + wd) * 2 ^ (lo + wd) + 2 ^ (lo + wd) ≤ 2 ^ 32 := by
    have h5' : (w.toNat / 2 ^ (lo + wd) + 1) * 2 ^ (lo + wd) ≤ 2 ^ (32 - (lo + wd)) * 2 ^ (lo + wd) :=
      Nat.mul_le_mul_right _ h3
    rw [← Nat.pow_add, show 32 - (lo + wd) + (lo + wd) = 32 by omega, Nat.add_mul, one_mul] at h5'
    exact h5'
  unfold Word.setFld
  rw [BitVec.toNat_ofNat]
  exact Nat.mod_eq_of_lt (by omega)

/-- A field that lies in the word reads as it was set. -/
theorem Word.fld_setFld_self (w : Word) {lo wd : Nat} (h : lo + wd ≤ 32) (v : Nat) :
    Word.fld (Word.setFld w lo wd v) lo wd = v % 2 ^ wd := by
  unfold Word.fld
  rw [Word.setFld_toNat w h v]
  have h1 : w.toNat % 2 ^ lo < 2 ^ lo := Nat.mod_lt _ (Nat.two_pow_pos lo)
  have e : w.toNat % 2 ^ lo + v % 2 ^ wd * 2 ^ lo + w.toNat / 2 ^ (lo + wd) * 2 ^ (lo + wd)
      = w.toNat % 2 ^ lo + 2 ^ lo * (v % 2 ^ wd + 2 ^ wd * (w.toNat / 2 ^ (lo + wd))) := by
    rw [Nat.pow_add]; ring
  rw [e, Nat.add_mul_div_left _ _ (Nat.two_pow_pos lo), Nat.div_eq_of_lt h1, Nat.zero_add, Nat.add_mul_mod_self_left,
    Nat.mod_mod]

/-- The bits of a field. -/
theorem Word.testBit_fld (w : Word) (lo wd i : Nat) :
    (Word.fld w lo wd).testBit i = (decide (i < wd) && w.toNat.testBit (lo + i)) := by
  unfold Word.fld
  rw [Nat.testBit_mod_two_pow, Nat.testBit_div_two_pow, Nat.add_comm i lo]

/-- The bits of a word with a field set: those of the number in the field, the word's own outside it. -/
theorem Word.testBit_setFld (w : Word) {lo wd : Nat} (h : lo + wd ≤ 32) (v j : Nat) :
    (Word.setFld w lo wd v).toNat.testBit j
      = if lo ≤ j ∧ j < lo + wd then v.testBit (j - lo) else w.toNat.testBit j := by
  rw [Word.setFld_toNat w h v]
  have h1 : w.toNat % 2 ^ lo < 2 ^ lo := Nat.mod_lt _ (Nat.two_pow_pos lo)
  have h2 : v % 2 ^ wd < 2 ^ wd := Nat.mod_lt _ (Nat.two_pow_pos wd)
  have e : w.toNat % 2 ^ lo + v % 2 ^ wd * 2 ^ lo + w.toNat / 2 ^ (lo + wd) * 2 ^ (lo + wd)
      = 2 ^ lo * (2 ^ wd * (w.toNat / 2 ^ (lo + wd)) + v % 2 ^ wd) + w.toNat % 2 ^ lo := by
    rw [Nat.pow_add]; ring
  rw [e, Nat.testBit_two_pow_mul_add _ h1, Nat.testBit_two_pow_mul_add _ h2, Nat.testBit_mod_two_pow,
    Nat.testBit_mod_two_pow, Nat.testBit_div_two_pow]
  by_cases a : j < lo
  · rw [if_pos a, if_neg (by omega)]; simp [a]
  · rw [if_neg a]
    by_cases b : j < lo + wd
    · rw [if_pos (by omega), if_pos (by omega)]; simp; omega
    · rw [if_neg (by omega), if_neg (by omega)]
      congr 1; omega

/-- A field that lies outside the one set reads as before. -/
theorem Word.fld_setFld_ne (w : Word) {lo wd lo' wd' : Nat} (h : lo + wd ≤ 32) (hd : lo' + wd' ≤ lo ∨ lo + wd ≤ lo')
    (v : Nat) : Word.fld (Word.setFld w lo wd v) lo' wd' = Word.fld w lo' wd' := by
  apply Nat.eq_of_testBit_eq
  intro i
  rw [Word.testBit_fld, Word.testBit_fld, Word.testBit_setFld w h]
  by_cases hi : i < wd'
  · rw [if_neg (by omega)]
  · simp [hi]
namespace Machine

@[simp] theorem State.rd_wr_self (s : State) (off : Nat) (w : Word) : (s.wr off w).rd off = w :=
  SMap.get_set_self _ _ _ _

theorem State.rd_wr_ne (s : State) {off o : Nat} (h : o ≠ off) (w : Word) : (s.wr off w).rd o = s.rd o :=
  SMap.get_set_ne _ _ h _

/-- A field that lies in its register reads as it was put. -/
theorem State.get_put_self (s : State) (f : FRef) (h : f.lo + f.wd ≤ 32) (v : Nat) :
    (s.put f v).get f = v % 2 ^ f.wd := by
  unfold State.get State.put
  rw [State.rd_wr_self]
  exact Word.fld_setFld_self _ h v

/-- A field of another register reads as before. -/
theorem State.get_put_ne (s : State) (f g : FRef) (h : g.off ≠ f.off) (v : Nat) : (s.put f v).get g = s.get g := by
  unfold State.get State.put
  rw [State.rd_wr_ne _ h]

theorem State.rd_put_ne (s : State) (f : FRef) {o : Nat} (h : o ≠ f.off) (v : Nat) : (s.put f v).rd o = s.rd o :=
  State.rd_wr_ne _ h _

/-- Reads look at the registers alone. -/
theorem State.rd_congr {s t : State} (h : s.regs = t.regs) (off : Nat) : s.rd off = t.rd off := by
  unfold State.rd; rw [h]

theorem State.get_congr {s t : State} (h : s.regs = t.regs) (f : FRef) : s.get f = t.get f := by
  unfold State.get; rw [State.rd_congr h]

/-- Writing a register keeps the register table canonical. -/
theorem regs_wf_wr {s : State} (h : SMap.wf resetWord s.regs = true) (off : Nat) (w : Word) :
    SMap.wf resetWord (s.wr off w).regs = true := SMap.wf_set _ h off w

theorem regs_wf_put {s : State} (h : SMap.wf resetWord s.regs = true) (f : FRef) (v : Nat) :
    SMap.wf resetWord (s.put f v).regs = true := SMap.wf_set _ h _ _

end Machine

end Sys2Proof
end

