-- ==== Sys2Proof/Laws/Access.lean ====
section
/-! SUPPORT. What the shared write and read of a register can do: one lemma for an accepted write, one for a rejected
one, one for a served read. -/

namespace Sys2Proof.Machine

open Sys2Proof

theorem at_base {r : PageRow} {off : Nat} {p : PageAt} (h1 : r.base % 0x1000 = 0) (h2 : r.stride % 0x1000 = 0)
    (h : r.at_ off = some p) : p.row = r ∧ p.base + off % 0x1000 = off := by
  unfold PageRow.at_ at h
  split at h
  · next hb =>
    split at h
    · simp only [Option.some.injEq] at h
      subst h
      refine ⟨rfl, ?_⟩
      simp only [PageAt.base]
      have e1 := Nat.div_add_mod (off - r.base) r.stride
      have e2 := Nat.div_add_mod ((off - r.base) % r.stride) 0x1000
      have e3 : (off - r.base) % r.stride % 0x1000 = (off - r.base) % 0x1000 :=
        Nat.mod_mod_of_dvd _ (Nat.dvd_of_mod_eq_zero h2)
      have e4 : off % 0x1000 = (off - r.base) % 0x1000 := by omega
      rw [Nat.mul_comm] at e1
      omega
    · simp at h
  · simp at h

theorem findPageIn_base {rs : List PageRow} (hr : ∀ r ∈ rs, r.base % 0x1000 = 0 ∧ r.stride % 0x1000 = 0) {off : Nat}
    {p : PageAt} (h : findPageIn rs off = some p) : p.row ∈ rs ∧ p.base + off % 0x1000 = off := by
  induction rs with
  | nil => simp [findPageIn] at h
  | cons r rs ih =>
    unfold findPageIn at h
    split at h
    · next q hq =>
      simp only [Option.some.injEq] at h
      subst h
      have := hr r List.mem_cons_self
      have hb := at_base this.1 this.2 hq
      exact ⟨by rw [hb.1]; exact List.mem_cons_self, hb.2⟩
    · have := ih (fun r h => hr r (List.mem_cons_of_mem _ h)) h
      exact ⟨List.mem_cons_of_mem _ this.1, this.2⟩

/-- A page and the offset within it give the BAR2 offset back. -/
theorem findPage_base {off : Nat} {p : PageAt} (h : findPage off = some p) : p.base + off % 0x1000 = off :=
  (findPageIn_base (by decide) h).2

/-- A served write that passes every check sets the register's fields, and then its block acts on it. -/
theorem softWrite_accepted {s : State} {chk : Checks} {r : Requester} {off : Nat} {v : Word}
    (h : s.accepts chk r off v = true) (eff : Effect) :
    State.softWrite chk eff r off v s
      = eff (s.written r off v) r (pageOf off) (off % 0x1000) (s.wordBefore r off) v := by
  unfold State.accepts at h
  unfold State.softWrite State.written State.wordBefore pageOf
  cases hp : findPage off with
  | none => simp [hp] at h
  | some p =>
    simp only [hp, Bool.and_eq_true, State.serves, decide_eq_true_eq, Bool.not_eq_true'] at h
    obtain ⟨⟨⟨⟨⟨h1, h2⟩, h3⟩, h4⟩, h5⟩, h7⟩ := h
    have hh : ¬ (r = .host ∧ ((!s.memEn) = true ∨ s.pci.d3 = true)) := by
      rintro ⟨rfl, hx⟩
      rcases hx with hx | hx <;> simp [hx] at h1
    rw [if_neg hh]
    simp only [h2, if_false, h3]
    obtain ⟨d, hd⟩ := Option.isSome_iff_exists.mp h5
    unfold State.serveWrite
    have hc : firstCode (s.writeCodes chk r p (off % 0x1000) v) = none := by
      cases hf : firstCode (s.writeCodes chk r p (off % 0x1000) v) with
      | none => rfl
      | some c => simp [hf] at h4
    have hb : p.base + off % 0x1000 = off := findPage_base hp
    unfold State.writeCodes State.facing at hc
    simp only [hd] at hc ⊢
    rw [hc]
    simp only [hb]
    split
    · next lo he => rw [he] at h7; simp at h7
    · rfl

/-- What a register holds after a write that its page accepted: its fields by their access types (R6). -/
theorem written_rd {s : State} {r : Requester} {off : Nat} {v : Word}
    {p : PageAt} {d : RegDesc} (hp : findPage off = some p) (hd : p.reg (off % 0x1000) = some d)
    (h4 : off % 0x1000 ≠ 4) : (s.written r off v).rd off = d.apply (s.wordBefore r off) v := by
  unfold State.written State.wordBefore
  simp only [hp, hd, h4, false_and, if_false, State.rd_wr_self]

/-- A register other than the one written holds what it held when the write reached its page. -/
theorem written_rd_ne {s : State} {r : Requester} {off o : Nat} {v : Word} {p : PageAt} (hp : findPage off = some p)
    (ho : o ≠ off) : (s.written r off v).rd o = (s.facing r p (off % 0x1000)).rd o := by
  unfold State.written
  simp only [hp]
  cases p.reg (off % 0x1000) with
  | none => rfl
  | some d => exact State.rd_wr_ne _ ho _

/-- A served write that fails a check is recorded with the first failing code of R9, and changes nothing else (R7). -/
theorem softWrite_rejected {s : State} {chk : Checks} {r : Requester} {off : Nat} {v : Word} {p : PageAt} {c : Nat}
    (hp : findPage off = some p) (hs : s.serves r p (off % 0x1000) = true)
    (hc : firstCode (s.writeCodes chk r p (off % 0x1000) v) = some c) (eff : Effect) :
    State.softWrite chk eff r off v s = (s.facing r p (off % 0x1000)).rejectWrite p (off % 0x1000) c := by
  simp only [State.serves, Bool.and_eq_true, decide_eq_true_eq, Bool.not_eq_true'] at hs
  obtain ⟨⟨h1, h2⟩, h3⟩ := hs
  have hh : ¬ (r = .host ∧ ((!s.memEn) = true ∨ s.pci.d3 = true)) := by
    rintro ⟨rfl, hx⟩
    rcases hx with hx | hx <;> simp [hx] at h1
  unfold State.softWrite
  rw [if_neg hh]
  simp only [hp, h2, if_false, h3]
  unfold State.serveWrite
  unfold State.writeCodes State.facing at hc
  simp only [hc]
  rfl

/-- A served read answers with the word that the page shows. -/
theorem softRead_served {s : State} {r : Requester} {off : Nat} (h : s.readable r off = true) (view : View)
    (reff : ReadEffect) : State.softRead view reff r off s = s.wordRead view reff r off := by
  unfold State.readable at h
  cases hp : findPage off with
  | none => simp [hp] at h
  | some p =>
    simp only [hp, State.serves, Bool.and_eq_true, decide_eq_true_eq, Bool.not_eq_true'] at h
    obtain ⟨⟨h1, h2⟩, h3⟩ := h
    have hh : ¬ (r = .host ∧ ((!s.memEn) = true ∨ s.pci.d3 = true)) := by
      rintro ⟨rfl, hx⟩
      rcases hx with hx | hx <;> simp [hx] at h1
    unfold State.softRead State.wordRead pageOf
    rw [if_neg hh]
    simp only [hp, h2, if_false, h3, Option.getD_some]

/-! ### What an access changes besides its register -/

theorem addCount_rd_ne (s : State) {off n o : Nat} (h1 : o ≠ off) (h2 : o ≠ off + 4) (h3 : o ≠ pageOff off + 8) :
    (s.addCount off n).rd o = s.rd o := by
  unfold State.addCount State.wr64
  dsimp only
  split
  · rw [State.rd_wr_ne _ h2, State.rd_wr_ne _ h1]
  · rw [State.rd_put_ne _ _ h3, State.rd_wr_ne _ h2, State.rd_wr_ne _ h1]

theorem pageOff_add {p i : Nat} (hp : p % 0x1000 = 0) (hi : i < 0x1000) : pageOff (p + i) = p := by
  unfold pageOff; omega

theorem evtOne_rd_ne (s : State) {p val n i o : Nat} (hp : p % 0x1000 = 0) (hi : i < 4) (h8 : o ≠ p + 8)
    (hc : o < p + 0x20 ∨ p + 0x40 ≤ o) : (s.evtOne p val n i).rd o = s.rd o := by
  have e : ∀ (t : State) k, (t.addCount (p + 0x20 + 8 * i) k).rd o = t.rd o := fun t k => by
    refine addCount_rd_ne t (by omega) (by omega) ?_
    rw [show p + 0x20 + 8 * i = p + (0x20 + 8 * i) by omega, pageOff_add hp (by omega)]
    exact h8
  unfold State.evtOne
  split
  · rfl
  · split
    · split
      · exact e s n
      · split
        · rfl
        · rw [e]; rfl
    · rfl

/-- A page's counters change nothing but themselves and EVT_OVF of the page. -/
theorem evt_rd_ne (s : State) {p val n o : Nat} (hp : p % 0x1000 = 0) (h8 : o ≠ p + 8)
    (hc : o < p + 0x20 ∨ p + 0x40 ≤ o) : (s.evt p val n).rd o = s.rd o := by
  unfold State.evt
  simp only [List.foldl_cons, List.foldl_nil]
  rw [evtOne_rd_ne _ hp (by omega) h8 hc, evtOne_rd_ne _ hp (by omega) h8 hc, evtOne_rd_ne _ hp (by omega) h8 hc,
    evtOne_rd_ne _ hp (by omega) h8 hc]

/-- A page's base is a multiple of the page size. -/
theorem base_mod {off : Nat} {p : PageAt} (h : findPage off = some p) : p.base % 0x1000 = 0 := by
  have := findPage_base h
  omega

/-- An access that reaches its page changes the page's counters, and in DOZE PWR.STATE, and no other register. -/
theorem facing_rd_ne (s : State) {r : Requester} {p : PageAt} {off k o : Nat} (hp : findPage off = some p)
    (hs : o ≠ R.PWR_STATE_CUR.off) (h8 : o ≠ p.base + 8) (hc : o < p.base + 0x20 ∨ p.base + 0x40 ≤ o) :
    (s.facing r p k).rd o = s.rd o := by
  have hb := base_mod hp
  have h1 : s.leaveDoze.rd o = s.rd o := by
    unfold State.leaveDoze
    split
    · exact State.rd_put_ne _ _ hs _
    · rfl
  unfold State.facing State.touch State.countAccess
  rw [← h1]
  cases r <;> (split <;> exact evt_rd_ne _ hb h8 hc)

/-- A rejected write changes REJECT, REJ and the counters of its page, of PWR's CMD also PWR.STATE and the events, and no
other register (R7). -/
theorem rejectWrite_rd_ne (s : State) {p : PageAt} {k c o : Nat} (hb : p.base % 0x1000 = 0) (h8 : o ≠ p.base + 8)
    (hC : o ≠ p.base + 0xC) (hc : o < p.base + 0x20 ∨ p.base + 0x40 ≤ o)
    (hx : ¬ (p.row.block = .pwr ∧ k = 0x80 ∧ c = 4)) : (s.rejectWrite p k c).rd o = s.rd o := by
  unfold State.rejectWrite State.bump
  dsimp only
  rw [if_neg hx, evt_rd_ne _ hb h8 hc, State.rd_put_ne _ (hREJ p.base) h8, State.rd_put_ne _ (hREJ_COUNT p.base) hC,
    State.rd_put_ne _ (hREJ_CODE p.base) hC, State.rd_put_ne _ (hREJ_OFFSET p.base) hC]

end Sys2Proof.Machine
end

