-- ==== Sys2Proof/Laws/Aes.lean ====
section
/-! SUPPORT. The S-box tables of AES are those that FIPS 197 derives from inverses in GF(2^8). -/

namespace Sys2Proof.Machine

open Sys2Proof

/-- A byte rotated left. -/
def rotl8 (a k : Nat) : Nat := (a * 2 ^ k % 256) ||| (a / 2 ^ (8 - k))

/-- The affine transformation of FIPS 197. -/
def affine (b : Nat) : Nat := b ^^^ rotl8 b 1 ^^^ rotl8 b 2 ^^^ rotl8 b 3 ^^^ rotl8 b 4 ^^^ 0x63

/-- The inverse of the affine transformation. -/
def unaffine (b : Nat) : Nat := rotl8 b 1 ^^^ rotl8 b 3 ^^^ rotl8 b 6 ^^^ 0x05

/-- The S-box of 0 is the affine transformation of 0, and that of every other byte is the one of its inverse. -/
theorem sbox_affine : sbox 0 = affine 0
    ∧ ((List.range 256).all fun a => decide (affine (unaffine (sbox a)) = sbox a)
        && (decide (a = 0) || decide (gmulAux 8 a (unaffine (sbox a)) = 1))) = true := by decide +kernel

/-- The inverse S-box undoes the S-box. -/
theorem invSbox_sbox : ((List.range 256).all fun a => decide (invSbox (sbox a) = a)) = true := by decide +kernel

end Sys2Proof.Machine
end

