-- ==== Sys2Proof/Laws/Dispatch.lean ====
section
/-! SUPPORT. The meaning of each command by name: one lemma per constructor, true by definition. -/

namespace Sys2Proof.Machine

open Sys2Proof

variable (s : State)

@[simp] theorem exec_registerWrite (r : Requester) (bar : Fin 3) (off : Nat) (data : Bytes) : exec (.registerWrite r bar off data) s = execRegisterWrite r bar off data s := rfl
@[simp] theorem exec_rcFieldRead (r : Requester) (bar : Fin 3) (off : Nat) (size : Nat) : exec (.rcFieldRead r bar off size) s = execRcFieldRead r bar off size s := rfl
@[simp] theorem exec_counterPairRead (r : Requester) (off : Nat) (size : Nat) : exec (.counterPairRead r off size) s = execCounterPairRead r off size s := rfl
@[simp] theorem exec_counterPairWrite (r : Requester) (off : Nat) (data : Bytes) : exec (.counterPairWrite r off data) s = execCounterPairWrite r off data s := rfl
@[simp] theorem exec_deadAccess (r : Requester) (off : Nat) (size : Nat) (write : Bool) : exec (.deadAccess r off size write) s = execDeadAccess r off size write s := rfl
@[simp] theorem exec_heldAccessServed : exec .heldAccessServed s = execHeldAccessServed s := rfl
@[simp] theorem exec_pageEnable (r : Requester) (page : Fin 16384) (v : Word) : exec (.pageEnable r page v) s = execPageEnable r page v s := rfl
@[simp] theorem exec_pageDisable (r : Requester) (page : Fin 16384) (v : Word) : exec (.pageDisable r page v) s = execPageDisable r page v s := rfl
@[simp] theorem exec_blockStartupEnd (page : Fin 16384) : exec (.blockStartupEnd page) s = execBlockStartupEnd page s := rfl
@[simp] theorem exec_pageLock (r : Requester) (page : Fin 16384) (v : Word) : exec (.pageLock r page v) s = execPageLock r page v s := rfl
@[simp] theorem exec_clockRequest (page : Fin 16384) : exec (.clockRequest page) s = execClockRequest page s := rfl
@[simp] theorem exec_idleClockRelease (page : Fin 16384) : exec (.idleClockRelease page) s = execIdleClockRelease page s := rfl
@[simp] theorem exec_eventRaise (src : Fin 640) (on : Bool) : exec (.eventRaise src on) s = execEventRaise src on s := rfl
@[simp] theorem exec_pendClear (r : Requester) (w : Fin 20) (v : Word) : exec (.pendClear r w v) s = execPendClear r w v s := rfl
@[simp] theorem exec_snap (r : Requester) : exec (.snap r) s = execSnap r s := rfl
@[simp] theorem exec_swRaise (r : Requester) (i : Fin 128) : exec (.swRaise r i) s = execSwRaise r i s := rfl
@[simp] theorem exec_discStart (r : Requester) (n : Fin 32) : exec (.discStart r n) s = execDiscStart r n s := rfl
@[simp] theorem exec_dieProbeDone (n : Fin 32) (f : DieFacts) : exec (.dieProbeDone n f) s = execDieProbeDone n f s := rfl
@[simp] theorem exec_tmoDisc (n : Fin 32) : exec (.tmoDisc n) s = execTmoDisc n s := rfl
@[simp] theorem exec_opEnqueue (n : Fin 32) (o : OpReq) : exec (.opEnqueue n o) s = execOpEnqueue n o s := rfl
@[simp] theorem exec_opCancel (n : Fin 32) (id : Nat) : exec (.opCancel n id) s = execOpCancel n id s := rfl
@[simp] theorem exec_diePick (n : Fin 32) (sensed : BitVec 32) : exec (.diePick n sensed) s = execDiePick n sensed s := rfl
@[simp] theorem exec_minRunReached (n : Fin 32) (die : Fin 32) : exec (.minRunReached n die) s = execMinRunReached n die s := rfl
@[simp] theorem exec_dieSuspended (n : Fin 32) (die : Fin 32) : exec (.dieSuspended n die) s = execDieSuspended n die s := rfl
@[simp] theorem exec_readComplete (n : Fin 32) (id : Nat) (data : Bytes) : exec (.readComplete n id data) s = execReadComplete n id data s := rfl
@[simp] theorem exec_programComplete (n : Fin 32) (id : Nat) (fail : Option (BitVec 4)) : exec (.programComplete n id fail) s = execProgramComplete n id fail s := rfl
@[simp] theorem exec_eraseComplete (n : Fin 32) (id : Nat) (fail : Option (BitVec 4)) : exec (.eraseComplete n id fail) s = execEraseComplete n id fail s := rfl
@[simp] theorem exec_opTimeout (n : Fin 32) (id : Nat) : exec (.opTimeout n id) s = execOpTimeout n id s := rfl
@[simp] theorem exec_resetLunDone (n : Fin 32) (die : Fin 32) (loopOk : Bool) : exec (.resetLunDone n die loopOk) s = execResetLunDone n die loopOk s := rfl
@[simp] theorem exec_resetLunFail (n : Fin 32) (die : Fin 32) : exec (.resetLunFail n die) s = execResetLunFail n die s := rfl
@[simp] theorem exec_tempDue (n : Fin 32) (die : Fin 32) : exec (.tempDue n die) s = execTempDue n die s := rfl
@[simp] theorem exec_windowBoundary (y0 : Word) (age : Nat) (pkg : Word) (iflash : Word) : exec (.windowBoundary y0 age pkg iflash) s = execWindowBoundary y0 age pkg iflash s := rfl
@[simp] theorem exec_quiesceWrite (r : Requester) (n : Fin 32) (mode : BitVec 2) : exec (.quiesceWrite r n mode) s = execQuiesceWrite r n mode s := rfl
@[simp] theorem exec_fwResetLun (r : Requester) (n : Fin 32) (slot : BitVec 14) : exec (.fwResetLun r n slot) s = execFwResetLun r n slot s := rfl
@[simp] theorem exec_fwReadId (r : Requester) (n : Fin 32) (slot : BitVec 14) : exec (.fwReadId r n slot) s = execFwReadId r n slot s := rfl
@[simp] theorem exec_fwGetFeatures (r : Requester) (n : Fin 32) (slot : BitVec 14) : exec (.fwGetFeatures r n slot) s = execFwGetFeatures r n slot s := rfl
@[simp] theorem exec_fwSetFeatures (r : Requester) (n : Fin 32) (slot : BitVec 14) : exec (.fwSetFeatures r n slot) s = execFwSetFeatures r n slot s := rfl
@[simp] theorem exec_fwReadStatus (r : Requester) (n : Fin 32) (slot : BitVec 14) : exec (.fwReadStatus r n slot) s = execFwReadStatus r n slot s := rfl
@[simp] theorem exec_fwRawRead (r : Requester) (n : Fin 32) (slot : BitVec 14) : exec (.fwRawRead r n slot) s = execFwRawRead r n slot s := rfl
@[simp] theorem exec_mapLookup (ns : Fin 2) (iu : Nat) : exec (.mapLookup ns iu) s = execMapLookup ns iu s := rfl
@[simp] theorem exec_mapUpdate (u : MapUpd) : exec (.mapUpdate u) s = execMapUpdate u s := rfl
@[simp] theorem exec_puPlace (u : PuReq) : exec (.puPlace u) s = execPuPlace u s := rfl
@[simp] theorem exec_idlePad (k : Nat) : exec (.idlePad k) s = execIdlePad k s := rfl
@[simp] theorem exec_verifyPassDone (k : Nat) (ok : Bool) : exec (.verifyPassDone k ok) s = execVerifyPassDone k ok s := rfl
@[simp] theorem exec_sbEraseStart (k : Nat) : exec (.sbEraseStart k) s = execSbEraseStart k s := rfl
@[simp] theorem exec_gcVictimSelect : exec .gcVictimSelect s = execGcVictimSelect s := rfl
@[simp] theorem exec_gcScoreUpdate : exec .gcScoreUpdate s = execGcScoreUpdate s := rfl
@[simp] theorem exec_relocateIu (k : Nat) (p : Nat) (ns : Fin 2) (ius : List (Option Nat)) (data : Bytes) : exec (.relocateIu k p ns ius data) s = execRelocateIu k p ns ius data s := rfl
@[simp] theorem exec_wearLevelRelocate : exec .wearLevelRelocate s = execWearLevelRelocate s := rfl
@[simp] theorem exec_classDrop (r : Requester) (cls : BitVec 7) : exec (.classDrop r cls) s = execClassDrop r cls s := rfl
@[simp] theorem exec_sbClose (r : Requester) : exec (.sbClose r) s = execSbClose r s := rfl
@[simp] theorem exec_sbRelocate (r : Requester) : exec (.sbRelocate r) s = execSbRelocate r s := rfl
@[simp] theorem exec_sbRetire (r : Requester) : exec (.sbRetire r) s = execSbRetire r s := rfl
@[simp] theorem exec_dieLost (r : Option Requester) (d : Fin 1024) : exec (.dieLost r d) s = execDieLost r d s := rfl
@[simp] theorem exec_sbRecSnapshot (r : Requester) : exec (.sbRecSnapshot r) s = execSbRecSnapshot r s := rfl
@[simp] theorem exec_codewordDecode (psa : BitVec 37) (soft : Bool) (syn : Bool) (data : Bytes) (crc : Word) (bits : Nat) (unsat : Nat) : exec (.codewordDecode psa soft syn data crc bits unsat) s = execCodewordDecode psa soft syn data crc bits unsat s := rfl
@[simp] theorem exec_ladderStep (psa : BitVec 37) : exec (.ladderStep psa) s = execLadderStep psa s := rfl
@[simp] theorem exec_parityRebuildDone (psa : BitVec 37) (ok : Bool) (data : Bytes) : exec (.parityRebuildDone psa ok data) s = execParityRebuildDone psa ok data s := rfl
@[simp] theorem exec_readDisturbCheck : exec .readDisturbCheck s = execReadDisturbCheck s := rfl
@[simp] theorem exec_patrolRead : exec .patrolRead s = execPatrolRead s := rfl
@[simp] theorem exec_weakPop (r : Requester) : exec (.weakPop r) s = execWeakPop r s := rfl
@[simp] theorem exec_uncRecordRead (r : Requester) (w : Fin 3) : exec (.uncRecordRead r w) s = execUncRecordRead r w s := rfl
@[simp] theorem exec_journalFlush : exec .journalFlush s = execJournalFlush s := rfl
@[simp] theorem exec_journalChunkDone : exec .journalChunkDone s = execJournalChunkDone s := rfl
@[simp] theorem exec_segmentWriteback : exec .segmentWriteback s = execSegmentWriteback s := rfl
@[simp] theorem exec_pfAssert : exec .pfAssert s = execPfAssert s := rfl
@[simp] theorem exec_pfDeassert : exec .pfDeassert s = execPfDeassert s := rfl
@[simp] theorem exec_braceTailsWritten : exec .braceTailsWritten s = execBraceTailsWritten s := rfl
@[simp] theorem exec_braceRailStep : exec .braceRailStep s = execBraceRailStep s := rfl
@[simp] theorem exec_braced : exec .braced s = execBraced s := rfl
@[simp] theorem exec_deadTimeEnd : exec .deadTimeEnd s = execDeadTimeEnd s := rfl
@[simp] theorem exec_seenClear (r : Requester) : exec (.seenClear r) s = execSeenClear r s := rfl
@[simp] theorem exec_readmit (r : Requester) : exec (.readmit r) s = execReadmit r s := rfl
@[simp] theorem exec_recStart (r : Requester) : exec (.recStart r) s = execRecStart r s := rfl
@[simp] theorem exec_recoveryDone (f : RecFacts) : exec (.recoveryDone f) s = execRecoveryDone f s := rfl
@[simp] theorem exec_reserveDesignate : exec .reserveDesignate s = execReserveDesignate s := rfl
@[simp] theorem exec_frameReceive (f : Frame) : exec (.frameReceive f) s = execFrameReceive f s := rfl
@[simp] theorem exec_arpRequest (n : Fin 2) (v6 : Bool) (target : BitVec 128) (mac : BitVec 48) (ip : BitVec 128) : exec (.arpRequest n v6 target mac ip) s = execArpRequest n v6 target mac ip s := rfl
@[simp] theorem exec_gatewayReply (n : Fin 2) (v6 : Bool) (ip : BitVec 128) (mac : BitVec 48) : exec (.gatewayReply n v6 ip mac) s = execGatewayReply n v6 ip mac s := rfl
@[simp] theorem exec_neighRefresh (n : Fin 2) : exec (.neighRefresh n) s = execNeighRefresh n s := rfl
@[simp] theorem exec_netLinkUp (n : Fin 2) (sig : BitVec 4) : exec (.netLinkUp n sig) s = execNetLinkUp n sig s := rfl
@[simp] theorem exec_netLinkDown (n : Fin 2) (sig : BitVec 4) : exec (.netLinkDown n sig) s = execNetLinkDown n sig s := rfl
@[simp] theorem exec_get (f : Frame) : exec (.get f) s = execGet f s := rfl
@[simp] theorem exec_getRange (f : Frame) : exec (.getRange f) s = execGetRange f s := rfl
@[simp] theorem exec_put (f : Frame) : exec (.put f) s = execPut f s := rfl
@[simp] theorem exec_putData (f : Frame) : exec (.putData f) s = execPutData f s := rfl
@[simp] theorem exec_stat (f : Frame) : exec (.stat f) s = execStat f s := rfl
@[simp] theorem exec_ack (f : Frame) : exec (.ack f) s = execAck f s := rfl
@[simp] theorem exec_credit (f : Frame) : exec (.credit f) s = execCredit f s := rfl
@[simp] theorem exec_wake (f : Frame) : exec (.wake f) s = execWake f s := rfl
@[simp] theorem exec_flowReadIssue (i : Nat) : exec (.flowReadIssue i) s = execFlowReadIssue i s := rfl
@[simp] theorem exec_flowDataStaged (i : Nat) : exec (.flowDataStaged i) s = execFlowDataStaged i s := rfl
@[simp] theorem exec_pacerSlot (p : Fin 2) : exec (.pacerSlot p) s = execPacerSlot p s := rfl
@[simp] theorem exec_unreadableEnd (i : Nat) : exec (.unreadableEnd i) s = execUnreadableEnd i s := rfl
@[simp] theorem exec_stagingEvict : exec .stagingEvict s = execStagingEvict s := rfl
@[simp] theorem exec_rtoExpire (i : Nat) : exec (.rtoExpire i) s = execRtoExpire i s := rfl
@[simp] theorem exec_flowIdleExpire (i : Nat) : exec (.flowIdleExpire i) s = execFlowIdleExpire i s := rfl
@[simp] theorem exec_putTmoExpire (i : Nat) : exec (.putTmoExpire i) s = execPutTmoExpire i s := rfl
@[simp] theorem exec_putFinalResponse (i : Nat) : exec (.putFinalResponse i) s = execPutFinalResponse i s := rfl
@[simp] theorem exec_indexSegWriteback : exec .indexSegWriteback s = execIndexSegWriteback s := rfl
@[simp] theorem exec_purge (r : Requester) (cls : BitVec 6) : exec (.purge r cls) s = execPurge r cls s := rfl
@[simp] theorem exec_reopen (r : Requester) (cls : BitVec 6) : exec (.reopen r cls) s = execReopen r cls s := rfl
@[simp] theorem exec_insert (r : Requester) : exec (.insert r) s = execInsert r s := rfl
@[simp] theorem exec_remove (r : Requester) : exec (.remove r) s = execRemove r s := rfl
@[simp] theorem exec_idxLoad (r : Requester) (segs : List (Nat × Nat × Bytes)) (lost : List Nat) : exec (.idxLoad r segs lost) s = execIdxLoad r segs lost s := rfl
@[simp] theorem exec_shareSend (set : Fin 16) (cls : Fin 64) (slot : Fin 64) (q : Bool) : exec (.shareSend set cls slot q) s = execShareSend set cls slot q s := rfl
@[simp] theorem exec_putShard (f : Frame) : exec (.putShard f) s = execPutShard f s := rfl
@[simp] theorem exec_shareHoldExpire (iu : Nat) : exec (.shareHoldExpire iu) s = execShareHoldExpire iu s := rfl
@[simp] theorem exec_parityIuWritten (iu : Nat) : exec (.parityIuWritten iu) s = execParityIuWritten iu s := rfl
@[simp] theorem exec_shareResend (id : Nat) : exec (.shareResend id) s = execShareResend id s := rfl
@[simp] theorem exec_intentFlush : exec .intentFlush s = execIntentFlush s := rfl
@[simp] theorem exec_regionClean (set : Fin 16) (cls : Fin 64) (region : Nat) : exec (.regionClean set cls region) s = execRegionClean set cls region s := rfl
@[simp] theorem exec_getShard (f : Frame) : exec (.getShard f) s = execGetShard f s := rfl
@[simp] theorem exec_shardResponse (f : Frame) (crcOk : Bool) : exec (.shardResponse f crcOk) s = execShardResponse f crcOk s := rfl
@[simp] theorem exec_hedgeExpire (id : Nat) (pos : Nat) : exec (.hedgeExpire id pos) s = execHedgeExpire id pos s := rfl
@[simp] theorem exec_reconTmoExpire (id : Nat) : exec (.reconTmoExpire id) s = execReconTmoExpire id s := rfl
@[simp] theorem exec_epoch (f : Frame) : exec (.epoch f) s = execEpoch f s := rfl
@[simp] theorem exec_epochBeat : exec .epochBeat s = execEpochBeat s := rfl
@[simp] theorem exec_epochIssue : exec .epochIssue s = execEpochIssue s := rfl
@[simp] theorem exec_parentSilent (root : Bool) : exec (.parentSilent root) s = execParentSilent root s := rfl
@[simp] theorem exec_rootTakeover : exec .rootTakeover s = execRootTakeover s := rfl
@[simp] theorem exec_hello (f : Frame) : exec (.hello f) s = execHello f s := rfl
@[simp] theorem exec_helloResponse (f : Frame) : exec (.helloResponse f) s = execHelloResponse f s := rfl
@[simp] theorem exec_suspectProbeExpire (m : Nat) : exec (.suspectProbeExpire m) s = execSuspectProbeExpire m s := rfl
@[simp] theorem exec_memberRemoveDue (m : Nat) : exec (.memberRemoveDue m) s = execMemberRemoveDue m s := rfl
@[simp] theorem exec_join (r : Requester) : exec (.join r) s = execJoin r s := rfl
@[simp] theorem exec_joinBackoffEnd : exec .joinBackoffEnd s = execJoinBackoffEnd s := rfl
@[simp] theorem exec_seedTmoExpire : exec .seedTmoExpire s = execSeedTmoExpire s := rfl
@[simp] theorem exec_leave (r : Requester) : exec (.leave r) s = execLeave r s := rfl
@[simp] theorem exec_setEnable (r : Requester) (n : Fin 16) (v : Word) : exec (.setEnable r n v) s = execSetEnable r n v s := rfl
@[simp] theorem exec_load (r : Requester) (hws : List (Nat × Nat)) (ints : List IntentRec) (recNo : Nat) : exec (.load r hws ints recNo) s = execLoad r hws ints recNo s := rfl
@[simp] theorem exec_repair (r : Requester) (set : Fin 16) : exec (.repair r set) s = execRepair r set s := rfl
@[simp] theorem exec_lossScan (r : Requester) (set : Fin 16) : exec (.lossScan r set) s = execLossScan r set s := rfl
@[simp] theorem exec_backfill (r : Requester) (set : Fin 16) : exec (.backfill r set) s = execBackfill r set s := rfl
@[simp] theorem exec_lossEntryRead (r : Requester) (hi : Bool) : exec (.lossEntryRead r hi) s = execLossEntryRead r hi s := rfl
@[simp] theorem exec_sqDoorbell (y : Fin 129) (v : BitVec 16) : exec (.sqDoorbell y v) s = execSqDoorbell y v s := rfl
@[simp] theorem exec_cqDoorbell (y : Fin 129) (v : BitVec 16) : exec (.cqDoorbell y v) s = execCqDoorbell y v s := rfl
@[simp] theorem exec_sqFetch (sqe : Option Bytes) (ranges : Bytes) : exec (.sqFetch sqe ranges) s = execSqFetch sqe ranges s := rfl
@[simp] theorem exec_ccEnable (cc : Word) : exec (.ccEnable cc) s = execCcEnable cc s := rfl
@[simp] theorem exec_controllerReset (cc : Word) : exec (.controllerReset cc) s = execControllerReset cc s := rfl
@[simp] theorem exec_shutdownNormal : exec .shutdownNormal s = execShutdownNormal s := rfl
@[simp] theorem exec_shutdownAbrupt : exec .shutdownAbrupt s = execShutdownAbrupt s := rfl
@[simp] theorem exec_nvmFlush (id : Nat) : exec (.nvmFlush id) s = execNvmFlush id s := rfl
@[simp] theorem exec_nvmWrite (id : Nat) (list : List Nat) (data : Bytes) (poison : Option Nat) (err : Bool) : exec (.nvmWrite id list data poison err) s = execNvmWrite id list data poison err s := rfl
@[simp] theorem exec_nvmRead (id : Nat) (list : List Nat) (err : Bool) : exec (.nvmRead id list err) s = execNvmRead id list err s := rfl
@[simp] theorem exec_datasetManagement (id : Nat) (err : Bool) : exec (.datasetManagement id err) s = execDatasetManagement id err s := rfl
@[simp] theorem exec_completionPost (id : Nat) : exec (.completionPost id) s = execCompletionPost id s := rfl
@[simp] theorem exec_createIoSq : exec .createIoSq s = execCreateIoSq s := rfl
@[simp] theorem exec_createIoCq : exec .createIoCq s = execCreateIoCq s := rfl
@[simp] theorem exec_deleteIoSq : exec .deleteIoSq s = execDeleteIoSq s := rfl
@[simp] theorem exec_deleteIoCq : exec .deleteIoCq s = execDeleteIoCq s := rfl
@[simp] theorem exec_getLogPage (list : List Nat) : exec (.getLogPage list) s = execGetLogPage list s := rfl
@[simp] theorem exec_identify (list : List Nat) : exec (.identify list) s = execIdentify list s := rfl
@[simp] theorem exec_abort : exec .abort s = execAbort s := rfl
@[simp] theorem exec_asyncEventRequest : exec .asyncEventRequest s = execAsyncEventRequest s := rfl
@[simp] theorem exec_asyncEventReport : exec .asyncEventReport s = execAsyncEventReport s := rfl
@[simp] theorem exec_getFeatures (list : List Nat) : exec (.getFeatures list) s = execGetFeatures list s := rfl
@[simp] theorem exec_setArbitration : exec .setArbitration s = execSetArbitration s := rfl
@[simp] theorem exec_setPowerManagement (tck : Bool) : exec (.setPowerManagement tck) s = execSetPowerManagement tck s := rfl
@[simp] theorem exec_setTemperatureThreshold : exec .setTemperatureThreshold s = execSetTemperatureThreshold s := rfl
@[simp] theorem exec_setNumberOfQueues : exec .setNumberOfQueues s = execSetNumberOfQueues s := rfl
@[simp] theorem exec_setInterruptCoalescing : exec .setInterruptCoalescing s = execSetInterruptCoalescing s := rfl
@[simp] theorem exec_setIntVectorConfig : exec .setIntVectorConfig s = execSetIntVectorConfig s := rfl
@[simp] theorem exec_setWriteAtomicity : exec .setWriteAtomicity s = execSetWriteAtomicity s := rfl
@[simp] theorem exec_setAsyncEventConfig : exec .setAsyncEventConfig s = execSetAsyncEventConfig s := rfl
@[simp] theorem exec_setApst (data : Option Bytes) : exec (.setApst data) s = execSetApst data s := rfl
@[simp] theorem exec_setTimestamp (data : Option Bytes) : exec (.setTimestamp data) s = execSetTimestamp data s := rfl
@[simp] theorem exec_setQueueClass : exec .setQueueClass s = execSetQueueClass s := rfl
@[simp] theorem exec_setClassControl : exec .setClassControl s = execSetClassControl s := rfl
@[simp] theorem exec_setBlockNamespaceSize : exec .setBlockNamespaceSize s = execSetBlockNamespaceSize s := rfl
@[simp] theorem exec_setBoardPowerCap : exec .setBoardPowerCap s = execSetBoardPowerCap s := rfl
@[simp] theorem exec_firmwareImageDownload (data : Option Bytes) : exec (.firmwareImageDownload data) s = execFirmwareImageDownload data s := rfl
@[simp] theorem exec_firmwareCommit (other : NorFact) (own : NorFact) : exec (.firmwareCommit other own) s = execFirmwareCommit other own s := rfl
@[simp] theorem exec_formatNvm : exec .formatNvm s = execFormatNvm s := rfl
@[simp] theorem exec_classDropAdmin : exec .classDropAdmin s = execClassDropAdmin s := rfl
@[simp] theorem exec_indexInsert (data : Option Bytes) : exec (.indexInsert data) s = execIndexInsert data s := rfl
@[simp] theorem exec_indexRemove (data : Option Bytes) : exec (.indexRemove data) s = execIndexRemove data s := rfl
@[simp] theorem exec_adminXfer (r : Requester) (words : BitVec 16) (list : List Nat) (data : Option Bytes) : exec (.adminXfer r words list data) s = execAdminXfer r words list data s := rfl
@[simp] theorem exec_adminDone (r : Requester) (status : BitVec 11) (dnr : Bool) : exec (.adminDone r status dnr) s = execAdminDone r status dnr s := rfl
@[simp] theorem exec_apstTransition (tck : Bool) : exec (.apstTransition tck) s = execApstTransition tck s := rfl
@[simp] theorem exec_miBasicRead (code : Byte) : exec (.miBasicRead code) s = execMiBasicRead code s := rfl
@[simp] theorem exec_linkUp (speed : BitVec 3) (width : BitVec 2) (flit : Bool) : exec (.linkUp speed width flit) s = execLinkUp speed width flit s := rfl
@[simp] theorem exec_linkDown : exec .linkDown s = execLinkDown s := rfl
@[simp] theorem exec_hotReset : exec .hotReset s = execHotReset s := rfl
@[simp] theorem exec_functionLevelReset : exec .functionLevelReset s = execFunctionLevelReset s := rfl
@[simp] theorem exec_perstNAssert : exec .perstNAssert s = execPerstNAssert s := rfl
@[simp] theorem exec_retrain (r : Requester) (speed : BitVec 3) (width : BitVec 2) (flit : Bool) : exec (.retrain r speed width flit) s = execRetrain r speed width flit s := rfl
@[simp] theorem exec_l0pWidthChange (byHost : Bool) (width : BitVec 2) : exec (.l0pWidthChange byHost width) s = execL0pWidthChange byHost width s := rfl
@[simp] theorem exec_aspmL1Entry (sub : Fin 3) : exec (.aspmL1Entry sub) s = execAspmL1Entry sub s := rfl
@[simp] theorem exec_configRequest (write : Bool) (o : BitVec 10) (be : BitVec 4) (v : Word) : exec (.configRequest write o be v) s = execConfigRequest write o be v s := rfl
@[simp] theorem exec_cfgReady (r : Requester) : exec (.cfgReady r) s = execCfgReady r s := rfl
@[simp] theorem exec_cfgOpenTimeout : exec .cfgOpenTimeout s = execCfgOpenTimeout s := rfl
@[simp] theorem exec_unsupportedRequest (h0 : Word) (h1 : Word) (h2 : Word) (h3 : Word) : exec (.unsupportedRequest h0 h1 h2 h3) s = execUnsupportedRequest h0 h1 h2 h3 s := rfl
@[simp] theorem exec_readCompletion (tag : BitVec 14) (status : BitVec 3) (data : Bytes) : exec (.readCompletion tag status data) s = execReadCompletion tag status data s := rfl
@[simp] theorem exec_completionTimeout (tag : BitVec 14) : exec (.completionTimeout tag) s = execCompletionTimeout tag s := rfl
@[simp] theorem exec_tagHoldEnd (tag : BitVec 14) : exec (.tagHoldEnd tag) s = execTagHoldEnd tag s := rfl
@[simp] theorem exec_poisonedTlp (tag : Option (BitVec 14)) (data : Bytes) : exec (.poisonedTlp tag data) s = execPoisonedTlp tag data s := rfl
@[simp] theorem exec_busMasterClear : exec .busMasterClear s = execBusMasterClear s := rfl
@[simp] theorem exec_msixEnable : exec .msixEnable s = execMsixEnable s := rfl
@[simp] theorem exec_msixVectorUnmask (vec : Option (BitVec 8)) : exec (.msixVectorUnmask vec) s = execMsixVectorUnmask vec s := rfl
@[simp] theorem exec_interruptDisable : exec .interruptDisable s = execInterruptDisable s := rfl
@[simp] theorem exec_d3hotEntry : exec .d3hotEntry s = execD3hotEntry s := rfl
@[simp] theorem exec_d0Return : exec .d0Return s = execD0Return s := rfl
@[simp] theorem exec_l2Entry : exec .l2Entry s = execL2Entry s := rfl
@[simp] theorem exec_governorRun (r : Requester) (run : Bool) : exec (.governorRun r run) s = execGovernorRun r run s := rfl
@[simp] theorem exec_governorMode (r : Requester) (mode : BitVec 2) : exec (.governorMode r mode) s = execGovernorMode r mode s := rfl
@[simp] theorem exec_bmcSetCap (w : BitVec 16) (p : Byte) : exec (.bmcSetCap w p) s = execBmcSetCap w p s := rfl
@[simp] theorem exec_bmcSetInlet (w : BitVec 16) (p : Byte) : exec (.bmcSetInlet w p) s = execBmcSetInlet w p s := rfl
@[simp] theorem exec_bmcReadBoardPower : exec .bmcReadBoardPower s = execBmcReadBoardPower s := rfl
@[simp] theorem exec_bmcReadPkgPower : exec .bmcReadPkgPower s = execBmcReadPkgPower s := rfl
@[simp] theorem exec_traceArm (r : Requester) (v : Word) : exec (.traceArm r v) s = execTraceArm r v s := rfl
@[simp] theorem exec_traceTrigger (r : Requester) : exec (.traceTrigger r) s = execTraceTrigger r s := rfl
@[simp] theorem exec_sleepRequest (who : Option Requester) (target : BitVec 2) (tck : Bool) : exec (.sleepRequest who target tck) s = execSleepRequest who target tck s := rfl
@[simp] theorem exec_sleepRetry (tck : Bool) : exec (.sleepRetry tck) s = execSleepRetry tck s := rfl
@[simp] theorem exec_drainTimeout : exec .drainTimeout s = execDrainTimeout s := rfl
@[simp] theorem exec_corePark (c : Fin 4) : exec (.corePark c) s = execCorePark c s := rfl
@[simp] theorem exec_parkTimeout : exec .parkTimeout s = execParkTimeout s := rfl
@[simp] theorem exec_sleepStateReached : exec .sleepStateReached s = execSleepStateReached s := rfl
@[simp] theorem exec_wakeRecognised (srcs : BitVec 12) : exec (.wakeRecognised srcs) s = execWakeRecognised srcs s := rfl
@[simp] theorem exec_exitComplete : exec .exitComplete s = execExitComplete s := rfl
@[simp] theorem exec_dozeEnter : exec .dozeEnter s = execDozeEnter s := rfl
@[simp] theorem exec_dozeExit : exec .dozeExit s = execDozeExit s := rfl
@[simp] theorem exec_domainSwitchOn (r : Requester) (d : Fin 34) (mapOk : Bool) (up : Bool) : exec (.domainSwitchOn r d mapOk up) s = execDomainSwitchOn r d mapOk up s := rfl
@[simp] theorem exec_domainSwitchOff (r : Requester) (d : Fin 34) : exec (.domainSwitchOff r d) s = execDomainSwitchOff r d s := rfl
@[simp] theorem exec_domainOnTimeout (d : Fin 34) : exec (.domainOnTimeout d) s = execDomainOnTimeout d s := rfl
@[simp] theorem exec_pllUnlock (p : Fin 8) : exec (.pllUnlock p) s = execPllUnlock p s := rfl
@[simp] theorem exec_refClockLoss : exec .refClockLoss s = execRefClockLoss s := rfl
@[simp] theorem exec_timeSet (r : Requester) : exec (.timeSet r) s = execTimeSet r s := rfl
@[simp] theorem exec_hsArm (r : Requester) : exec (.hsArm r) s = execHsArm r s := rfl
@[simp] theorem exec_hsMatch : exec .hsMatch s = execHsMatch s := rfl
@[simp] theorem exec_gpioEdge (k : Fin 2) (level : Bool) : exec (.gpioEdge k level) s = execGpioEdge k level s := rfl
@[simp] theorem exec_regulatorGuard (load : Nat) : exec (.regulatorGuard load) s = execRegulatorGuard load s := rfl
@[simp] theorem exec_brownout : exec .brownout s = execBrownout s := rfl
@[simp] theorem exec_stbyClr (r : Requester) : exec (.stbyClr r) s = execStbyClr r s := rfl
@[simp] theorem exec_coldReset (stby : Bool) : exec (.coldReset stby) s = execColdReset stby s := rfl
@[simp] theorem exec_railSequence (r : Requester) : exec (.railSequence r) s = execRailSequence r s := rfl
@[simp] theorem exec_railSlotEnd (g : Fin 8) (settled : Bool) (peak : BitVec 16) : exec (.railSlotEnd g settled peak) s = execRailSlotEnd g settled peak s := rfl
@[simp] theorem exec_railShort (g : Fin 8) (sat : Bool) (peak : BitVec 16) : exec (.railShort g sat peak) s = execRailShort g sat peak s := rfl
@[simp] theorem exec_railOvercurrent (g : Fin 8) (peak : BitVec 16) : exec (.railOvercurrent g peak) s = execRailOvercurrent g peak s := rfl
@[simp] theorem exec_railUndervoltage (g : Fin 8) (peak : BitVec 16) : exec (.railUndervoltage g peak) s = execRailUndervoltage g peak s := rfl
@[simp] theorem exec_railSleepUv (g : Fin 8) (peak : BitVec 16) : exec (.railSleepUv g peak) s = execRailSleepUv g peak s := rfl
@[simp] theorem exec_railRetry (g : Fin 8) : exec (.railRetry g) s = execRailRetry g s := rfl
@[simp] theorem exec_railOff (r : Requester) (mask : Byte) : exec (.railOff r mask) s = execRailOff r mask s := rfl
@[simp] theorem exec_railOffDone (g : Fin 8) : exec (.railOffDone g) s = execRailOffDone g s := rfl
@[simp] theorem exec_railStuck (g : Fin 8) (peak : BitVec 16) : exec (.railStuck g peak) s = execRailStuck g peak s := rfl
@[simp] theorem exec_reboot (norMode : Fin 3) (maps : BitVec 34) (facts : List NorFact) : exec (.reboot norMode maps facts) s = execReboot norMode maps facts s := rfl
@[simp] theorem exec_loadImage (r : Requester) (kind : BitVec 2) (f : NorFact) : exec (.loadImage r kind f) s = execLoadImage r kind f s := rfl
@[simp] theorem exec_check (r : Requester) (kind : BitVec 2) : exec (.check r kind) s = execCheck r kind s := rfl
@[simp] theorem exec_verify (r : Requester) (kind : BitVec 2) (f : NorFact) : exec (.verify r kind f) s = execVerify r kind f s := rfl
@[simp] theorem exec_token (r : Requester) : exec (.token r) s = execToken r s := rfl
@[simp] theorem exec_provision (r : Requester) (sel : BitVec 3) : exec (.provision r sel) s = execProvision r sel s := rfl
@[simp] theorem exec_advanceSvn (r : Requester) : exec (.advanceSvn r) s = execAdvanceSvn r s := rfl
@[simp] theorem exec_spiErase (r : Requester) (err : Option Nat) : exec (.spiErase r err) s = execSpiErase r err s := rfl
@[simp] theorem exec_spiProgram (r : Requester) (err : Option Nat) : exec (.spiProgram r err) s = execSpiProgram r err s := rfl
@[simp] theorem exec_spiRead (r : Requester) (err : Option Nat) : exec (.spiRead r err) s = execSpiRead r err s := rfl
@[simp] theorem exec_bootOk (r : Requester) : exec (.bootOk r) s = execBootOk r s := rfl
@[simp] theorem exec_ctlSeal (r : Requester) : exec (.ctlSeal r) s = execCtlSeal r s := rfl
@[simp] theorem exec_failSlot (r : Requester) : exec (.failSlot r) s = execFailSlot r s := rfl
@[simp] theorem exec_coreRelease (r : Requester) (cores : BitVec 3) : exec (.coreRelease r cores) s = execCoreRelease r cores s := rfl
@[simp] theorem exec_wdtHalf : exec .wdtHalf s = execWdtHalf s := rfl
@[simp] theorem exec_wdtExpire : exec .wdtExpire s = execWdtExpire s := rfl
@[simp] theorem exec_debugOpenExpire : exec .debugOpenExpire s = execDebugOpenExpire s := rfl
@[simp] theorem exec_tapExtest (nor : Option (BitVec 26 × Bytes)) : exec (.tapExtest nor) s = execTapExtest nor s := rfl
@[simp] theorem exec_tapSamplePreload : exec .tapSamplePreload s = execTapSamplePreload s := rfl
@[simp] theorem exec_tapIdcode : exec .tapIdcode s = execTapIdcode s := rfl
@[simp] theorem exec_tapChallenge : exec .tapChallenge s = execTapChallenge s := rfl
@[simp] theorem exec_tapUnlock (tok : Option (BitVec 1856)) : exec (.tapUnlock tok) s = execTapUnlock tok s := rfl
@[simp] theorem exec_tapDebug : exec .tapDebug s = execTapDebug s := rfl
@[simp] theorem exec_tapBypass : exec .tapBypass s = execTapBypass s := rfl
@[simp] theorem exec_mclLoad (r : Requester) (c : BitVec 3) : exec (.mclLoad r c) s = execMclLoad r c s := rfl
@[simp] theorem exec_mclVerify (r : Requester) (c : BitVec 3) : exec (.mclVerify r c) s = execMclVerify r c s := rfl
@[simp] theorem exec_mclPatch (r : Requester) : exec (.mclPatch r) s = execMclPatch r s := rfl
@[simp] theorem exec_engineInterrupt (c : Fin 4) (i : Fin 32) (inputs : BitVec 5) (facts : List WordFact) : exec (.engineInterrupt c i inputs facts) s = execEngineInterrupt c i inputs facts s := rfl
@[simp] theorem exec_engineStop (c : Fin 4) (i : Fin 32) (cause : Fin 5) (addr : BitVec 14) (more : Bool) : exec (.engineStop c i cause addr more) s = execEngineStop c i cause addr more s := rfl
@[simp] theorem exec_engineStopRequest (c : Fin 4) (i : Fin 32) : exec (.engineStopRequest c i) s = execEngineStopRequest c i s := rfl
@[simp] theorem exec_dmcInitDone (n : Fin 2) : exec (.dmcInitDone n) s = execDmcInitDone n s := rfl
@[simp] theorem exec_dmcLive (r : Requester) (n : Fin 2) : exec (.dmcLive r n) s = execDmcLive r n s := rfl
@[simp] theorem exec_mrRead (r : Requester) (n : Fin 2) (mr : Byte) (rank : Fin 2) (sub : Fin 2) (devs : BitVec 40) : exec (.mrRead r n mr rank sub devs) s = execMrRead r n mr rank sub devs s := rfl
@[simp] theorem exec_mrWrite (r : Requester) (n : Fin 2) (mr : Byte) (rank : Fin 2) (sub : Fin 2) : exec (.mrWrite r n mr rank sub) s = execMrWrite r n mr rank sub s := rfl
@[simp] theorem exec_csTrain (r : Requester) (n : Fin 2) (rank : Fin 2) (sub : Fin 2) (rep : Byte) (pass : BitVec 40) (errs : Nat) : exec (.csTrain r n rank sub rep pass errs) s = execCsTrain r n rank sub rep pass errs s := rfl
@[simp] theorem exec_caTrain (r : Requester) (n : Fin 2) (rank : Fin 2) (sub : Fin 2) (rep : Byte) (pass : BitVec 40) (errs : Nat) : exec (.caTrain r n rank sub rep pass errs) s = execCaTrain r n rank sub rep pass errs s := rfl
@[simp] theorem exec_wlev (r : Requester) (n : Fin 2) (rank : Fin 2) (sub : Fin 2) (rep : Byte) (pass : BitVec 40) (errs : Nat) : exec (.wlev r n rank sub rep pass errs) s = execWlev r n rank sub rep pass errs s := rfl
@[simp] theorem exec_rdGate (r : Requester) (n : Fin 2) (rank : Fin 2) (sub : Fin 2) (rep : Byte) (pass : BitVec 40) (errs : Nat) : exec (.rdGate r n rank sub rep pass errs) s = execRdGate r n rank sub rep pass errs s := rfl
@[simp] theorem exec_rdDq (r : Requester) (n : Fin 2) (rank : Fin 2) (sub : Fin 2) (rep : Byte) (pass : BitVec 40) (errs : Nat) : exec (.rdDq r n rank sub rep pass errs) s = execRdDq r n rank sub rep pass errs s := rfl
@[simp] theorem exec_wrDq (r : Requester) (n : Fin 2) (rank : Fin 2) (sub : Fin 2) (rep : Byte) (pass : BitVec 40) (errs : Nat) : exec (.wrDq r n rank sub rep pass errs) s = execWrDq r n rank sub rep pass errs s := rfl
@[simp] theorem exec_zq (r : Requester) (n : Fin 2) (rank : Fin 2) (sub : Fin 2) (rep : Byte) : exec (.zq r n rank sub rep) s = execZq r n rank sub rep s := rfl
@[simp] theorem exec_dramFill (r : Requester) : exec (.dramFill r) s = execDramFill r s := rfl
@[simp] theorem exec_dramFillDone : exec .dramFillDone s = execDramFillDone s := rfl
@[simp] theorem exec_dramAccess (port : Fin 8) (addr : BitVec 37) (len : Nat) (data : Option Bytes) (poison : Bool) : exec (.dramAccess port addr len data poison) s = execDramAccess port addr len data poison s := rfl
@[simp] theorem exec_bucketRefill : exec .bucketRefill s = execBucketRefill s := rfl
@[simp] theorem exec_dramRefresh (n : Fin 2) (rank : Fin 2) (sub : Fin 2) : exec (.dramRefresh n rank sub) s = execDramRefresh n rank sub s := rfl
@[simp] theorem exec_mr4Poll (n : Fin 2) (hot : BitVec 2) : exec (.mr4Poll n hot) s = execMr4Poll n hot s := rfl
@[simp] theorem exec_writeTracking (n : Fin 2) (lane : Fin 62) (rank : Fin 2) (sub : Fin 2) (v : BitVec 10) : exec (.writeTracking n lane rank sub v) s = execWriteTracking n lane rank sub v s := rfl
@[simp] theorem exec_alertNAssert (n : Fin 2) : exec (.alertNAssert n) s = execAlertNAssert n s := rfl
@[simp] theorem exec_selfRefreshEntry : exec .selfRefreshEntry s = execSelfRefreshEntry s := rfl
@[simp] theorem exec_selfRefreshExit : exec .selfRefreshExit s = execSelfRefreshExit s := rfl
@[simp] theorem exec_dmaTailWrite (r : Requester) (n : Fin 32) (idx : BitVec 16) : exec (.dmaTailWrite r n idx) s = execDmaTailWrite r n idx s := rfl
@[simp] theorem exec_dmaStart (r : Requester) (n : Fin 32) : exec (.dmaStart r n) s = execDmaStart r n s := rfl
@[simp] theorem exec_dmaTrigger (n : Fin 32) : exec (.dmaTrigger n) s = execDmaTrigger n s := rfl
@[simp] theorem exec_dmaAbort (r : Requester) (n : Fin 32) : exec (.dmaAbort r n) s = execDmaAbort r n s := rfl
@[simp] theorem exec_descriptorStart (n : Fin 32) : exec (.descriptorStart n) s = execDescriptorStart n s := rfl
@[simp] theorem exec_descriptorComplete (n : Fin 32) : exec (.descriptorComplete n) s = execDescriptorComplete n s := rfl
@[simp] theorem exec_dmaBusError (n : Fin 32) (k : Fin 4) (write : Bool) (detail : BitVec 3) (units : Nat) : exec (.dmaBusError n k write detail units) s = execDmaBusError n k write detail units s := rfl
@[simp] theorem exec_cipherDispatch (units : List CiphUnit) : exec (.cipherDispatch units) s = execCipherDispatch units s := rfl
@[simp] theorem exec_unwrap (r : Requester) (long : Bool) (dom : Fin 2) (slot : Byte) : exec (.unwrap r long dom slot) s = execUnwrap r long dom slot s := rfl
@[simp] theorem exec_generate (r : Requester) (long : Bool) (use : BitVec 2) (slot : Byte) (key : Bytes) (healthy : Bool) : exec (.generate r long use slot key healthy) s = execGenerate r long use slot key healthy s := rfl
@[simp] theorem exec_clear (r : Requester) (slot : Byte) : exec (.clear r slot) s = execClear r slot s := rfl
@[simp] theorem exec_vectorEncrypt (r : Requester) (handle : BitVec 16) : exec (.vectorEncrypt r handle) s = execVectorEncrypt r handle s := rfl
@[simp] theorem exec_vectorDecrypt (r : Requester) (handle : BitVec 16) : exec (.vectorDecrypt r handle) s = execVectorDecrypt r handle s := rfl
@[simp] theorem exec_uncorrectableRead (cls : Fin 10) (inst : BitVec 5) (req : Fin 8) (kind : Fin 3) (addr : BitVec 37) : exec (.uncorrectableRead cls inst req kind addr) s = execUncorrectableRead cls inst req kind addr s := rfl
@[simp] theorem exec_correctedError (cls : Fin 10) (inst : BitVec 5) (req : Fin 8) (sym : Fin 5) (addr : BitVec 37) : exec (.correctedError cls inst req sym addr) s = execCorrectedError cls inst req sym addr s := rfl
@[simp] theorem exec_memRecordRead (r : Requester) (ue : Bool) (w : Fin 3) : exec (.memRecordRead r ue w) s = execMemRecordRead r ue w s := rfl
@[simp] theorem exec_injectArm (r : Requester) (kind : BitVec 2) (staging : Bool) : exec (.injectArm r kind staging) s = execInjectArm r kind staging s := rfl
@[simp] theorem exec_injected (port : Fin 8) (data : Bytes) : exec (.injected port data) s = execInjected port data s := rfl
@[simp] theorem exec_faultMessage (n : Nat) : exec (.faultMessage n) s = execFaultMessage n s := rfl
@[simp] theorem exec_fatalLine (msgs : List FaultMsg) : exec (.fatalLine msgs) s = execFatalLine msgs s := rfl
@[simp] theorem exec_fwRaise (c : Fin 4) (cls : BitVec 2) : exec (.fwRaise c cls) s = execFwRaise c cls s := rfl
@[simp] theorem exec_faultAck (r : Requester) (seq : Word) : exec (.faultAck r seq) s = execFaultAck r seq s := rfl
@[simp] theorem exec_escHalf : exec .escHalf s = execEscHalf s := rfl
@[simp] theorem exec_escalationExpire : exec .escalationExpire s = execEscalationExpire s := rfl
@[simp] theorem exec_limpRequest (c : Fin 4) : exec (.limpRequest c) s = execLimpRequest c s := rfl
@[simp] theorem exec_firstSlotClear (r : Requester) (slot : FaultClass) : exec (.firstSlotClear r slot) s = execFirstSlotClear r slot s := rfl
@[simp] theorem exec_ringRdWrite (r : Requester) (pos : Byte) : exec (.ringRdWrite r pos) s = execRingRdWrite r pos s := rfl
@[simp] theorem exec_faultRecordRead (r : Requester) (slot : Option FaultClass) : exec (.faultRecordRead r slot) s = execFaultRecordRead r slot s := rfl
@[simp] theorem exec_putShardResponse (f : Frame) : exec (.putShardResponse f) s = execPutShardResponse f s := rfl
@[simp] theorem exec_retryAfterExpire : exec .retryAfterExpire s = execRetryAfterExpire s := rfl
@[simp] theorem exec_queryTmoExpire (m : Nat) : exec (.queryTmoExpire m) s = execQueryTmoExpire m s := rfl
@[simp] theorem exec_perstNRelease : exec .perstNRelease s = execPerstNRelease s := rfl
@[simp] theorem exec_junctionTrip (temp : Nat) : exec (.junctionTrip temp) s = execJunctionTrip temp s := rfl
@[simp] theorem exec_alertNDeassert (n : Fin 2) : exec (.alertNDeassert n) s = execAlertNDeassert n s := rfl
@[simp] theorem exec_pllRelock (p : Fin 8) : exec (.pllRelock p) s = execPllRelock p s := rfl
@[simp] theorem exec_railRampDone (g : Fin 8) : exec (.railRampDone g) s = execRailRampDone g s := rfl
@[simp] theorem exec_railLimiterChange (g : Fin 8) (on : Bool) : exec (.railLimiterChange g on) s = execRailLimiterChange g on s := rfl
@[simp] theorem exec_featureOpComplete (n : Fin 32) (id : Nat) (p : Word) (ok : Bool) : exec (.featureOpComplete n id p ok) s = execFeatureOpComplete n id p ok s := rfl
@[simp] theorem exec_coalescingTimeExpire (cq : Fin 129) : exec (.coalescingTimeExpire cq) s = execCoalescingTimeExpire cq s := rfl
@[simp] theorem exec_linkLayerError (corr : Bool) (bit : Fin 32) (h0 : Word) (h1 : Word) (h2 : Word) (h3 : Word) : exec (.linkLayerError corr bit h0 h1 h2 h3) s = execLinkLayerError corr bit h0 h1 h2 h3 s := rfl
@[simp] theorem exec_fecUncorrectableCodeword (n : Fin 2) : exec (.fecUncorrectableCodeword n) s = execFecUncorrectableCodeword n s := rfl
@[simp] theorem exec_tapReset : exec .tapReset s = execTapReset s := rfl

end Sys2Proof.Machine
end

