-- ==== Sys2Proof/Laws/Memory.lean ====
section
/-! SUPPORT. Laws of the byte memories: every operation keeps the canonical form, a read after a write to the same place
gives what was written, and a write leaves every other place alone. -/

namespace Sys2Proof.Machine

open Sys2Proof

theorem memory_wf_reset : Memory.wf State.reset.mem.dram = true ∧ Memory.wf State.reset.mem.sram = true := ⟨rfl, rfl⟩

theorem memory_wf_putBytes {m : List Host.Cell} (h : Memory.wf m = true) (a : Nat) (bs : Bytes) :
    Memory.wf (putBytes m a bs) = true := by
  induction bs generalizing m a with
  | nil => exact h
  | cons b bs ih => exact ih (SMap.wf_set _ h a b) (a + 1)

theorem sorted_filter {V : Type} {m : SMap V} (h : SMap.sorted m = true) (p : Nat × V → Bool) :
    SMap.sorted (m.filter p) = true := by
  induction m with
  | nil => rfl
  | cons e m ih =>
    obtain ⟨k, v⟩ := e
    have hs := SMap.sorted_cons.mp h
    rw [List.filter_cons]
    split
    · exact SMap.sorted_cons.mpr ⟨fun e he => hs.1 e (List.mem_of_mem_filter he), ih hs.2⟩
    · exact ih hs.2

/-- Dropping cells (a fill, a format) keeps the canonical form. -/
theorem memory_wf_filter {m : List Host.Cell} (h : Memory.wf m = true) (p : Host.Cell → Bool) :
    Memory.wf (m.filter p) = true := by
  simp only [Memory.wf, SMap.wf, Bool.and_eq_true, List.all_eq_true] at h ⊢
  exact ⟨sorted_filter h.1 p, fun e he => h.2 e (List.mem_of_mem_filter he)⟩

/-- A byte outside the bytes stored reads as before. -/
theorem get_putBytes_out (m : List Host.Cell) (a j : Nat) (bs : Bytes) (h : j < a ∨ a + bs.length ≤ j) :
    SMap.get (fun _ => (0 : Byte)) (putBytes m a bs) j = SMap.get (fun _ => (0 : Byte)) m j := by
  induction bs generalizing m a with
  | nil => rfl
  | cons b bs ih =>
    have hl : (b :: bs).length = bs.length + 1 := rfl
    rw [putBytes, ih _ (a + 1) (by omega), SMap.get_set_ne]
    omega

/-- A byte stored reads as it was stored. -/
theorem get_putBytes_in (m : List Host.Cell) (a i : Nat) (bs : Bytes) (h : i < bs.length) :
    SMap.get (fun _ => (0 : Byte)) (putBytes m a bs) (a + i) = bs[i] := by
  induction bs generalizing m a i with
  | nil => simp at h
  | cons b bs ih =>
    cases i with
    | zero =>
      rw [putBytes, get_putBytes_out _ _ _ _ (by omega)]
      exact SMap.get_set_self _ _ _ _
    | succ i =>
      have hi : i < bs.length := Nat.lt_of_succ_lt_succ h
      have := ih (SMap.set (fun _ => (0 : Byte)) m a b) (a + 1) i hi
      rw [putBytes, ← Nat.add_right_comm a 1 i |>.trans (Nat.add_assoc a i 1)]
      simpa using this

end Sys2Proof.Machine
end

