-- ==== Sys2Proof/Laws/Messages.lean ====
section
/-! SUPPORT. What a received frame can do: an authenticated message goes to its sender's kind of message, once. -/

namespace Sys2Proof.Machine

open Sys2Proof

/-- A frame of its row that is heard is a message of a member or of a client. -/
theorem receiveRow_heard {s t : State} {f : Frame} {r : Rights} (h : s.hears f r t) {k : Nat} (hk : f.row = k) (c : Bool) :
    s.receiveRow k f c
      = if (Msg.ofBytes f.data).peer then t.peerMsg f.from_ (s.heardBy f) (Msg.ofBytes f.data) f.payload c
        else t.clientMsg f.from_ (s.heardBy f) (Msg.ofBytes f.data) f.payload r := by
  obtain ⟨h1, h2, h3, h4, h5, h6, h7, h8, h9, h10⟩ := h
  unfold State.receiveRow State.receive State.steer
  have e1 : ¬ (f.data.length < 64 ∨ (Msg.ofBytes f.data).ver ≠ 1) := by
    rintro (a | a)
    · omega
    · exact a h5
  have e2 : ¬ ((Msg.ofBytes f.data).isNew = true ∧ (s.frameCount f).get R.PLJ_PF_STS_STATE ≠ 0) := fun ⟨a, b⟩ => b (h8 a)
  have e3 : ¬ ((Msg.ofBytes f.data).data = true ∧ ((f.data.drop 64).take (Msg.ofBytes f.data).len).length < (Msg.ofBytes f.data).len
      ∧ (!(decide ((Msg.ofBytes f.data).op = 7) && (Msg.ofBytes f.data).resp)) = true) := by
    rintro ⟨a, b, -⟩
    have := h9 a
    rw [List.length_take, List.length_drop] at b
    omega
  have ht : (!(s.frameCount f).chvTakes (s.heardBy f)) = false := by rw [h7]; rfl
  simp only [if_pos hk, h1, Bool.not_true, h2, h3, if_neg e1, if_neg h6, State.heardBy] at *
  simp only [ht, if_neg e2, if_neg e3, h10, Frame.payload]
  simp

end Sys2Proof.Machine
end

