-- ==== Sys2Proof/Tests/Slice0.lean ====
section
/-!
SUPPORT. Tests.  First the well-formedness smoke: an ill-formed command for each check, which the check
refuses.  Then values known from outside the model.  Then, for every obligation with hypotheses, a
state and operands that meet them all.
-/

section Slice0

set_option Elab.async false
set_option maxRecDepth 8000
set_option exponentiation.threshold 2000

open Sys2Proof Sys2Proof.Machine

/-! ### Well-formedness -/

/-- A frame whose sizes fit: 64 bytes of UDP payload in an IPv4 packet of 92 bytes. -/
def tFrame : Frame := ⟨0, 110, true, true, 0, 0, [], true, false, 92, 0, 0, 0, 0, 0, 0, List.replicate 64 0⟩

/-- A frame whose payload is longer than its IP packet. -/
def tShortIp : Frame := { tFrame with ipLen := 91 }

/-- A frame whose IP packet is longer than the frame. -/
def tShortFrame : Frame := { tFrame with size := 105 }

/-- A frame longer than any. -/
def tLongFrame : Frame := { tFrame with size := 65537 }

theorem test_wf_frame : (Instr.get tFrame).wellFormed = true := by decide
theorem test_ill_frameReceive : (Instr.frameReceive tShortIp).wellFormed = false := by decide
theorem test_ill_get : (Instr.get tShortFrame).wellFormed = false := by decide
theorem test_ill_getRange : (Instr.getRange tLongFrame).wellFormed = false := by decide
theorem test_ill_put : (Instr.put tShortIp).wellFormed = false := by decide
theorem test_ill_putData : (Instr.putData tShortFrame).wellFormed = false := by decide
theorem test_ill_stat : (Instr.stat tLongFrame).wellFormed = false := by decide
theorem test_ill_ack : (Instr.ack tShortIp).wellFormed = false := by decide
theorem test_ill_credit : (Instr.credit tShortFrame).wellFormed = false := by decide
theorem test_ill_wake : (Instr.wake tLongFrame).wellFormed = false := by decide
theorem test_ill_putShard : (Instr.putShard tShortIp).wellFormed = false := by decide
theorem test_ill_getShard : (Instr.getShard tShortFrame).wellFormed = false := by decide
theorem test_ill_shardResponse : (Instr.shardResponse tLongFrame true).wellFormed = false := by decide
theorem test_ill_epoch : (Instr.epoch tShortIp).wellFormed = false := by decide
theorem test_ill_hello : (Instr.hello tShortFrame).wellFormed = false := by decide
theorem test_ill_helloResponse : (Instr.helloResponse tLongFrame).wellFormed = false := by decide
theorem test_ill_putShardResponse : (Instr.putShardResponse tShortIp).wellFormed = false := by decide
theorem test_ill_registerWrite_empty : (Instr.registerWrite .host 1 0 []).wellFormed = false := by decide
theorem test_ill_registerWrite_bar0 : (Instr.registerWrite .host 0 0xFFFF [0, 0]).wellFormed = false := by decide
theorem test_ill_rcFieldRead_bar2 : (Instr.rcFieldRead .host 1 0x3FFFFFC 8).wellFormed = false := by decide
theorem test_ill_rcFieldRead_bar4 : (Instr.rcFieldRead .host 2 0x4000 1).wellFormed = false := by decide
theorem test_ill_counterPairRead : (Instr.counterPairRead .host 0 9).wellFormed = false := by decide
theorem test_ill_counterPairWrite : (Instr.counterPairWrite .host 0 (List.replicate 9 0)).wellFormed = false := by decide
theorem test_ill_deadAccess : (Instr.deadAccess .host 0x4000000 4 true).wellFormed = false := by decide
theorem test_ill_mapLookup : (Instr.mapLookup 0 (2 ^ 37)).wellFormed = false := by decide
theorem test_ill_relocateIu : (Instr.relocateIu 0 0 0 [some 1] []).wellFormed = false := by decide
theorem test_ill_codewordDecode_bits : (Instr.codewordDecode 0 false true [] 0 36865 0).wellFormed = false := by decide
theorem test_ill_codewordDecode_unsat : (Instr.codewordDecode 0 false true [] 0 0 36865).wellFormed = false := by decide
theorem test_ill_sqFetch : (Instr.sqFetch (some [0]) []).wellFormed = false := by decide
theorem test_ill_nvmWrite : (Instr.nvmWrite 0 [] [0] none false).wellFormed = false := by decide
theorem test_ill_setApst : (Instr.setApst (some [0])).wellFormed = false := by decide
theorem test_ill_setTimestamp : (Instr.setTimestamp (some [0])).wellFormed = false := by decide
theorem test_ill_tapExtest : (Instr.tapExtest (some (0x3FFFFFF, [0, 0]))).wellFormed = false := by decide
theorem test_ill_dramAccess_range : (Instr.dramAccess 0 0x1FFFFFFFFF 2 none false).wellFormed = false := by decide
theorem test_ill_dramAccess_data : (Instr.dramAccess 0 0 2 (some [0]) false).wellFormed = false := by decide
theorem test_ill_generate : (Instr.generate (.core 0) true 0 0 (List.replicate 32 0) true).wellFormed = false := by decide
theorem test_ill_injected : (Instr.injected 0 (List.replicate 65 0)).wellFormed = false := by decide
theorem test_ill_fatalLine : (Instr.fatalLine [⟨0, 8, .c, 0, 0⟩]).wellFormed = false := by decide
theorem test_ill_junctionTrip : (Instr.junctionTrip 128).wellFormed = false := by decide
theorem test_ill_readComplete : (Instr.readComplete 0 0 (List.replicate 262145 0)).wellFormed = false := by
  show decide ((List.replicate 262145 (0 : Byte)).length ≤ 16 * 16384) = false
  rw [List.length_replicate]; decide
theorem test_ill_parityRebuildDone : (Instr.parityRebuildDone 0 true (List.replicate 4097 0)).wellFormed = false := by
  decide +kernel
theorem test_ill_codewordDecode_data :
    (Instr.codewordDecode 0 false true (List.replicate 4097 0) 0 0 0).wellFormed = false := by decide +kernel
theorem test_ill_idxLoad : (Instr.idxLoad .host [(0, 0, List.replicate 4097 0)] []).wellFormed = false := by
  decide +kernel
theorem test_ill_sqFetch_ranges : (Instr.sqFetch none (List.replicate 4097 0)).wellFormed = false := by
  decide +kernel
theorem test_ill_readCompletion : (Instr.readCompletion 0 0 (List.replicate 4097 0)).wellFormed = false := by
  decide +kernel
theorem test_ill_poisonedTlp : (Instr.poisonedTlp none (List.replicate 4097 0)).wellFormed = false := by
  decide +kernel

/-! ### Values known from outside the model -/

/-- The check value of CRC-32C: the CRC of the nine bytes "123456789". -/
theorem test_crc32c_check : crc32c [0x31, 0x32, 0x33, 0x34, 0x35, 0x36, 0x37, 0x38, 0x39] = 0xE3069283 := by decide +kernel

/-- FIPS 197, appendix C.1: AES-128. -/
theorem test_aes128 : aesEncNat (List.range 16) ((List.range 16).map (17 * ·))
    = [0x69, 0xC4, 0xE0, 0xD8, 0x6A, 0x7B, 0x04, 0x30, 0xD8, 0xCD, 0xB7, 0x80, 0x70, 0xB4, 0xC5, 0x5A] := by decide +kernel

/-- FIPS 197, appendix C.3: AES-256. -/
theorem test_aes256 : aesEncNat (List.range 32) ((List.range 16).map (17 * ·))
    = [0x8E, 0xA2, 0xB7, 0xCA, 0x51, 0x67, 0x45, 0xBF, 0xEA, 0xFC, 0x49, 0x90, 0x4B, 0x49, 0x60, 0x89] := by decide +kernel

/-- FIPS 180-4: the first eight bytes of the SHA-384 of "abc". -/
theorem test_sha384_abc : (sha384 [0x61, 0x62, 0x63]).take 8 = [0xCB, 0x00, 0x75, 0x3F, 0x45, 0xA3, 0x5E, 0x8B] := by
  decide +kernel

/-- RFC 3394, 4.1: 128 bits of key data wrapped under a 128-bit key, undone. -/
theorem test_unwrap : keyUnwrap ((List.range 16).map (BitVec.ofNat 8)) 2
    [0x1F, 0xA6, 0x8B, 0x0A, 0x81, 0x12, 0xB4, 0x47, 0xAE, 0xF3, 0x4B, 0xD8, 0xFB, 0x5A, 0x7B, 0x82,
     0x9D, 0x3E, 0x86, 0x23, 0x71, 0xD2, 0xCF, 0xE5]
    = ([0xA6, 0xA6, 0xA6, 0xA6, 0xA6, 0xA6, 0xA6, 0xA6],
       [0x00, 0x11, 0x22, 0x33, 0x44, 0x55, 0x66, 0x77, 0x88, 0x99, 0xAA, 0xBB, 0xCC, 0xDD, 0xEE, 0xFF]) := by
  decide +kernel

/-! ### States and operands that meet the hypotheses of the obligations -/

/-- Reset, with the fast clocks of some blocks running. -/
def wOn (bs : List Nat) : State := bs.foldl (fun s b => s.put (hCLK_ON b) 1) State.reset

theorem wit_step_front : { State.reset with pending := [.snap .host] }.pending = [.snap .host] := by decide

theorem wit_empty_queue : State.reset.pending = [] := by decide

theorem wit_halt : ({ State.reset with flt := { State.reset.flt with halt := true } } : State).running = false
    ∧ actsInHalt .brownout = true ∧ actsInHalt .stagingEvict = false := by decide

theorem wit_halt_kept :
    ({ State.reset with flt := { State.reset.flt with halt := true }, pending := [.tapIdcode] } : State).halted = true
      ∧ (match step { State.reset with flt := { State.reset.flt with halt := true }, pending := [.tapIdcode] } with
          | .next t => t.boot.tapIr
          | _ => 0) = 2 := by decide

theorem wit_register_write : (wOn [0x70000]).running = true
    ∧ (wOn [0x70000]).accepts regChecks (.core 0) 0x20088 0xFFFFFFFF = true
    ∧ ({ wOn [] with pci := { (wOn []).pci with cfg := [(4, 6)] } } : State).accepts regChecks .host 0x20088 7 = true := by decide

theorem wit_register_read : State.reset.readable (.core 3) 0x20080 = true ∧ State.reset.readable (.core 0) 0x20022 = true
    ∧ State.reset.readable (.core 0) 0x2008F = true := by decide

theorem wit_dead_access : findPage 0x0074000 = none ∧ State.reset.running = true
    ∧ (findPage 0x0000FFC).any (fun p => decide (p.row.block = .ledger)) = true
    ∧ (findPage 0x200080).any (fun p => decide (p.row.block ≠ .ledger)
        && decide (((State.reset.wr R.PWR_DOM_STS_0 0).wr R.PWR_DOM_ON_0 0).gate p 0x80 = .dead)) = true := by decide

theorem wit_events : State.reset.running = true ∧ isLevel 639 = false ∧ isLevel 498 = true
    ∧ State.reset.accepts evcChecks .host R.EVC_SW_RAISE 127 = false
    ∧ State.reset.accepts evcChecks (.core 0) R.EVC_SW_RAISE 127 = true
    ∧ State.reset.accepts evcChecks (.core 0) R.EVC_EVC_CTL 1 = true
    ∧ State.reset.accepts evcChecks (.core 0) (R.EVC_PEND 19) 0xFFFFFFFF = true := by decide

theorem wit_pending : (∀ k < 8, State.reset.flag (R.EVC_GCNT_SEL_EN k) = false) ∧ State.reset.flag (pendRef 0) = false
    ∧ State.reset.flag (R.EVC_ROUTE_PULSE_EN 639) = false ∧ State.reset.flag (R.EVC_ROUTE_VEC_EN 639) = false
    ∧ (State.reset.put (pendRef 639) 1).flag (pendRef 639) = true := by decide

theorem wit_pulse_frame : (639 : Nat) < 640 ∧ (0x1000A4 : Nat) = (R.PCI_INT_STS_INTA).off ∧ (R.EVC_LEVEL 19) < 0x3C3000 := by decide

/-- Channel 31 enabled and its group ON. -/
def wChan : State := ((wOn [0x21F000]).put (hEN 0x21F000) 1).wr R.RAIL_STS 0x00600000
theorem wit_chan_regs : wChan.running = true
    ∧ wChan.accepts chanChecks (.core 0) (R.CHAN_DISC_CTL 31) 1 = true
    ∧ wChan.accepts chanChecks (.core 0) (R.CHAN_QUIESCE 31) 2 = true
    ∧ wChan.accepts chanChecks (.core 0) (R.CHAN_FW_CTL 31) 1 = true
    ∧ (List.range 6).all (fun k => (wChan.put (R.CHAN_FW_OP_OPC 31) k).get (R.CHAN_FW_OP_OPC 31) = k
        && (wChan.put (R.CHAN_FW_OP_OPC 31) k).accepts chanChecks (.core 0) (R.CHAN_FW_CTL 31) (BitVec.ofNat 32 (1 + 16383 * 16))) := by
  decide

/-- A request of code `k` for die `l`. -/
def wReq (k l : Nat) : OpReq := ⟨k, false, l, 0, 0, 1, 0, 0, false, [], .temp, []⟩
/-- Channel 31 at a probe of die 31, with one operation in each stage. -/
def wOps : State := wChan.onChan 31 fun c => { c with
  probe := some 31
  ops := [⟨0, wReq 2 0, .running, 0, 0, false, 0, false, false⟩, ⟨1, wReq 4 1, .running, 0, 0, false, 0, false, false⟩,
    ⟨2, wReq 0 2, .transfer, 0, 0, false, 0, false, false⟩, ⟨3, wReq 4 3, .suspending, 0, 0, false, 0, false, false⟩,
    ⟨4, wReq 0 4, .queued, 0, 0, false, 0, false, false⟩, ⟨5, wReq 2 5, .running, 0, 0, false, 0, false, false⟩,
    ⟨6, { wReq 0 5 with block := 1 }, .queued, 0, 0, false, 0, false, false⟩] }
/-- What a die that fails its CRC shows. -/
def wBad : DieFacts := ⟨true, false, 31, 4, 4, 64, 256, 18592, true, true, true, true, none⟩
/-- What a die that fits the reset geometry shows. -/
def wGood : DieFacts := ⟨true, true, 2 ^ 32 - 1, State.reset.get (R.CHAN_GEOM_REF_LUNS 31) + 1, State.reset.planes 31, State.reset.ppb 31,
  State.reset.bpp 31, 18592, true, true, true, true, some 60⟩
theorem wit_probe_good : wOps.dieCheck 31 wGood = 0 ∧ 31 % 4 < wGood.luns ∧ wOps.dieCheck 31 { wGood with temp := none } = 0 := by decide
theorem wit_chan_events : wOps.running = true ∧ (wOps.chanSt 31).probe = some 31 ∧ wOps.dieCheck 31 wBad = 1
    ∧ (wReq 0 31).die < 32 ∧ (wReq 0 31).fwOpc = none
    ∧ (wOps.chanOp 31 4).any (fun o => decide (o.stage = .queued)) ∧ wOps.enabled (chanPage 31) = true ∧ wOps.cur < 2
    ∧ (wOps.chanOp 31 2).any (fun o => decide (o.stage = .transfer) && decide (o.req.fwOpc = none) && !o.joined)
    ∧ (wOps.chanOp 31 0).any (fun o => decide (o.stage = .running) && o.req.isProg)
    ∧ (wOps.chanOp 31 1).any (fun o => decide (o.stage = .running) && o.req.isErase)
    ∧ ((wOps.chanSt 31).ops.find? fun o => decide (o.req.die = 3) && decide (o.stage = .suspending)).isSome
    ∧ ({ (wOps.wr (R.CHAN_DIE_STATE_0 31) 0x55555555) with now := 10 ^ 9 }.maySuspend 31 5).isSome := by decide

/-- Channel 31 with die 7 in Reset LUN, die 8 due for a temperature, and a Read Status on die 9. -/
def wTmo : State := (((wOps.put (R.CHAN_TEMP_CFG_EN 31) 1).wr (R.CHAN_DIE_STATE_0 31) 0x55555555).onDie 31 7 fun d => { d with reset := some .timeout }).onDie 31 8 fun d =>
  { d with tempOk := true, tempDue := some 0 }
theorem wit_chan_timeouts : wTmo.running = true ∧ ((wTmo.chanOp 31 0).any fun o => decide (o.stage = .running))
    ∧ (((wTmo.failRecord 31 (wReq 2 0) 2 1).evtB (chanPage 31) 0x18 1).dieSt 31 0).lastTmo = none
    ∧ ((((wTmo.onDie 31 0 fun d => { d with lastTmo := some 0 }).failRecord 31 (wReq 2 0) 2 1).evtB (chanPage 31) 0x18 1).dieSt 31 0).lastTmo
      = some 0
    ∧ ((wTmo.failRecord 31 (wReq 2 0) 2 1).evtB (chanPage 31) 0x18 1).now ≤ 0 + 10 ^ 9
    ∧ (wTmo.dieSt 31 7).reset.isSome = true ∧ wTmo.fwOp 31 7 0 = none
    ∧ wTmo.flag (R.CHAN_TEMP_CFG_EN 31) = true ∧ (wTmo.dieSt 31 8).tempOk = true ∧ (wTmo.dieSt 31 8).tempDue = some 0 ∧ 0 ≤ wTmo.now
    ∧ wTmo.dieState 31 8 = 1 ∧ ((wTmo.chanSt 31).ops.any fun o => decide (o.req.die = 8) && decide (o.req.code = 6)) = false := by
  decide
theorem wit_chan_status : ({ wReq 7 9 with use := .fw 4 } : OpReq).code = 7
    ∧ ((wTmo.onChan 31 fun c => { c with ops := [⟨9, { wReq 7 9 with use := .fw 4 }, .running, 0, 0, false, 0, false, false⟩] }).chanOp 31 9).any
      (fun o => decide (o.stage = .running) && decide (o.req.use = .fw 4)) = true := by decide

theorem wit_page_control : State.reset.running = true
    ∧ State.reset.accepts regChecks (.core 0) (0x1000 * 0x240 + 4) ((0 : Word).setFld 0 1 1) = true
    ∧ State.reset.accepts regChecks (.core 3) (0x1000 * 0x240 + 4) ((0 : Word).setFld 0 1 0) = true
    ∧ State.reset.accepts regChecks (.core 3) (0x1000 * 0x240 + 4) ((0 : Word).setFld 8 1 1) = true := by decide

/-- The ESC page enabled, with its clock running since the start, and an access to it held. -/
def wPages : State := ((State.reset.put (hEN 0x70000) 1).put (hCLK_ON 0x70000) 1).onSys fun x => { x with held := [⟨.host, 0x70080, 4, false, 0⟩] }
theorem wit_clock : wPages.running = true ∧ (pageNo 0x70).map (·.row.block) = some .esc
    ∧ ((pageNo 0x70).all fun p => p.clock.isSome && State.reset.domSts p.domain && State.reset.get (hCKREQ p.base0) ≠ 2
        && !State.reset.flag (hCLK_ON p.base0) && !((p.clock.bind clockPll).any fun k => State.reset.pwr.unlocked.contains k)) = true
    ∧ State.reset.cur = 0 ∧ (State.reset.put R.PWR_STATE_CUR 1).cur = 1
    ∧ ((pageNo 0x70).all fun p => let s : State := { wPages with now := 10 ^ 12 }
        s.flag (hCLK_ON p.base0) && s.get (hCKREQ p.base0) = 0 && !s.blockBusy p
          && (s.pwr.lastWork.find p.base0).getD 0 + 1000 * 2 ^ s.get (hIDLE_HOLD p.base0) ≤ s.now) = true
    ∧ ((pageNo 0x70).all fun p => !p.row.always && wPages.enabled p.base0 && !wPages.flag (hRUNNING p.base0) && wPages.domSts p.domain
        && wPages.cur < 2 && wPages.startupOver p) = true
    ∧ (wPages.sys.held.find? wPages.heldReady).isSome := by decide
theorem wit_startup_chan : (pageNo 0x200).all (fun p =>
      let s := (State.reset.put (hEN p.base0) 1).setEng 1 p.inst { (State.reset.engSt 1 p.inst) with pc := 0 }
      decide (p.row.block = .chan) && !p.row.always && s.enabled p.base0 && !s.flag (hRUNNING p.base0)) = true := by decide

/-- One ACTIVE die on channel 0, superblocks of width 1 in each state, both DRAM controllers LIVE over a zeroed DRAM, and a
map of two IUs. -/
def wSbs : State :=
  let f := SbRec.fresh (2 ^ 32 - 2)
  let s := (State.reset.put R.FTL_CFG_MIN_WIDTH 1).wr (R.CHAN_DIE_STATE_0 0) 1
  let s := ((((s.put (R.CHAN_GEOM_BLK_BPP 0) 64).put (R.DMC_STS_STATE 0) 3).put (R.DMC_STS_STATE 1) 3).wr64 R.FTL_NS_CAP_1_LO 2)
  let s := { s with now := 10 ^ 12 }
  let s := s.onMem fun x => { x with filled := [(0, 1000)] }
  s.onFtl fun x => { x with
    home := [2 ^ 32 - 2]
    sbs := [(0, { f with state := 1, wptr := 4 }), (1, { f with state := 2, wptr := 4 }), (2, { f with state := 0 }),
      (3, { f with state := 3, valid := 5, wptr := 4 }), (4, { f with state := 4, wptr := 4, vfyFail := true }),
      (5, { f with state := 3, valid := 5, wptr := 4, pe := 9, slc := true })] }
theorem wit_place : wSbs.running = true ∧ (wSbs.evtB 0x240000 0x17 1).mapCap 1 ≤ 0 ∧ 1 < (wSbs.evtB 0x240000 0x17 1).mapCap 0
    ∧ ((wSbs.evtB 0x240000 0x17 1).mapRead 0 1).1 = some 0 ∧ wSbs.jnlStall = false ∧ wSbs.ftl.stalled = [] := by decide
theorem wit_sb_moves : wSbs.calm = true ∧ (wSbs.sb 0).state = 1 ∧ (wSbs.sb 0).use ≠ 3
    ∧ (wSbs.sb 0).lastWrite + 60 * 10 ^ 9 * wSbs.get R.FTL_OPEN_CFG_IDLE_PAD ≤ ({ wSbs with now := 10 ^ 20 } : State).now
    ∧ (wSbs.sb 1).state = 2 ∧ (wSbs.sb 1).vfyBad = false := by decide
theorem wit_verify_pass :
    ((((wSbs.sbMove 1 { wSbs.sb 1 with state := 3, vfyFail := false }).evtB 0x240000 0x15 1).setHour 1 0).lateRelease).rdp.heldRd.contains 1
      = false := by decide
theorem wit_verify_held : let s := wSbs.onRdp fun x => { x with heldRd := [1] }
    ((((s.sbMove 1 { s.sb 1 with state := 3, vfyFail := false }).evtB 0x240000 0x15 1).setHour 1 0).lateRelease).rdp.heldRd.contains 1
      = true := by decide
theorem wit_erase : wSbs.sbExists 2 = true ∧ (wSbs.sb 2).state = 0 ∧ (wSbs.sb 2).erased = false ∧ (wSbs.sb 2).reads = 0
    ∧ (wSbs.sb 2).erasing = 0 ∧ (wSbs.sb 2).freeSeq ≤ wSbs.rd64 R.PLJ_FLUSHED_LO ∧ wSbs.groupHolds 2 = false
    ∧ wSbs.ftl.drop = none ∧ ((wSbs.repairAll 2).sb 2).state ≠ 5 ∧ (wSbs.repairAll 2).members 2 = [(0, 0, 2)] := by decide

theorem wit_relocation : let t := (wSbs.put (hEN 0x240000) 1).gcRefresh
    t.calm = true ∧ t.flag R.FTL_GC_STS_ACTIVE = true ∧ t.ftl.victim = none
    ∧ (((t.sbsIn 4).filter fun e => e.2.vfyFail && decide (e.2.cls ≠ 66)).head?).isSome
    ∧ (wSbs.sb 4).state = 4 ∧ 3 < (wSbs.sb 4).wptr ∧ (wSbs.sb 4).cls ≠ 66 := by decide
theorem wit_victim : let s := wSbs.onFtl fun x => { x with sbs := [(3, { SbRec.fresh 0 with state := 3, valid := 5, wptr := 4 })] }
    let t := (s.put (hEN 0x240000) 1).gcRefresh
    t.calm = true ∧ t.flag R.FTL_GC_STS_ACTIVE = true ∧ t.ftl.victim = none
    ∧ ((t.sbsIn 4).filter fun e => e.2.vfyFail && decide (e.2.cls ≠ 66)) = [] ∧ t.gcVictim = some 3 := by decide
theorem wit_wear : let s := ((wSbs.put R.FTL_WL_CFG_EN 1).put R.FTL_GC_CFG2_FREE_CRIT 0).put R.FTL_WL_CFG_SPREAD 8
    s.calm = true ∧ s.flag R.FTL_WL_CFG_EN = true ∧ s.get R.FTL_GC_CFG2_FREE_CRIT ≤ s.freeCount
    ∧ s.get R.FTL_WL_CFG_SPREAD < s.peStats.2.2.2 - s.peStats.2.2.1 ∧ s.ftl.wl = none
    ∧ s.lowestPe (((s.sbsIn 3).filter fun e => decide (e.2.cls ≠ 66)).map (·.1)) = some 3 := by decide
theorem wit_ftl_commands : let s := wSbs.put (R.FTL_CLASS_CTL_WRITABLE 63) 0
    let w (k : Nat) (v : Word) := (s.put R.FTL_CMD_ARG_TARGET k).written (.core 0) R.FTL_CMD v
    s.accepts ftlChecks (.core 0) R.FTL_CMD (BitVec.ofNat 32 (17 + 63 * 256)) = true
    ∧ (w 0 (BitVec.ofNat 32 (17 + 63 * 256))).flag (R.FTL_CLASS_CTL_WRITABLE 63) = false
    ∧ (w 0 (BitVec.ofNat 32 (17 + 63 * 256))).ftl.drop = none
    ∧ (wSbs.put R.FTL_CMD_ARG_TARGET 0).accepts ftlChecks (.core 0) R.FTL_CMD 18 = true ∧ (w 0 18).sbExists 0 = true ∧ ((w 0 18).sb 0).state = 1
    ∧ (wSbs.put R.FTL_CMD_ARG_TARGET 3).accepts ftlChecks (.core 0) R.FTL_CMD 19 = true ∧ (w 3 19).sbExists 3 = true ∧ ((w 3 19).sb 3).state = 3
    ∧ ((w 3 19).sb 3).cls ≠ 66 := by decide
theorem wit_ftl_commands' : let w (k : Nat) (v : Word) := (wSbs.put R.FTL_CMD_ARG_TARGET k).written (.core 0) R.FTL_CMD v
    (wSbs.put R.FTL_CMD_ARG_TARGET 2).accepts ftlChecks (.core 0) R.FTL_CMD 20 = true ∧ (w 2 20).sbExists 2 = true ∧ ((w 2 20).sb 2).state = 0
    ∧ (wSbs.put R.FTL_CMD_ARG_TARGET 0).accepts ftlChecks (.core 0) R.FTL_CMD 21 = true ∧ (w 0 21).dieState 0 0 ≠ 0
    ∧ wSbs.readable (.core 0) (R.FTL_SB_REC 0) = true
    ∧ (wSbs.wr (R.CHAN_DIE_STATE_0 31) 3).dieState (992 / 32) (992 % 32) = 3 := by decide

/-- One codeword at the decoder, ladders at steps 2 and 4, a disturb check owed at the limit, and patrol in superblock 3. -/
def wRdp : State :=
  let s := ((wSbs.put R.RDP_PAT_CFG_EN 1).put R.RDP_PAT_STS_ACTIVE 1).put R.RDP_PAT_STS_SBID 3
  let s := s.onRdp fun x => { x with
    cws := [⟨.nvm 0, 17, 0, none⟩]
    checks := [(0, 3, 10 ^ 9)]
    ladders := [⟨0, 5, [.firmware], 1, 0, 0, 0, 2 ^ 32, false, 0⟩, ⟨1, 6, [.firmware], 4, 0, 0, 0, 2 ^ 32, true, 0⟩] }
  s.onFtl fun x => { x with repairs := [(s.sbOf 9, s.posOf 9)] }
theorem wit_codeword : wRdp.running = true
    ∧ (wRdp.rdp.cws.zipIdx.find? fun c => decide (c.1.psa = 17)) = some (⟨.nvm 0, 17, 0, none⟩, 0)
    ∧ (BitVec.ofNat 32 (crc32c ([1, 2, 3] ++ leBytes 8 17))).toNat = crc32c ([1, 2, 3] ++ leBytes 8 17) := by decide
theorem wit_ladders : (wRdp.ladderAt 5).any (fun l => !l.busy && decide (l.step ≤ 2) && decide (l.sub < wRdp.get R.RDP_CFG_MAX_RETRY)) = true
    ∧ (wRdp.rdp.ladders.find? fun l => decide (l.psa = 6) && decide (l.step = 4) && l.busy).isSome = true
    ∧ (wRdp.rdp.ladders.find? fun l => decide (l.psa = 9) && decide (l.step = 4) && l.busy) = none
    ∧ wRdp.ftl.repairs.contains (wRdp.sbOf 9, wRdp.posOf 9) = true := by decide
theorem wit_disturb : wRdp.calm = true
    ∧ 1024 * ((wRdp.onRdp fun x => { x with checks := [] }).evtB 0x280000 0x18 1).get R.RDP_RD_CFG_LIMIT ≤ 10 ^ 9 := by decide
theorem wit_patrol : wRdp.flag R.RDP_PAT_CFG_EN = true ∧ wRdp.flag R.RDP_PAT_STS_ACTIVE = true ∧ wRdp.get R.RDP_PAT_STS_SBID = 3
    ∧ (wRdp.sb 3).state = 3 ∧ wRdp.rdp.patPos < 16 * (wRdp.sb 3).wptr
    ∧ min (16 - wRdp.rdp.patPos % 16) ((wRdp.get R.RDP_PAT_CFG_RATE * 6400 - wRdp.rdp.patBytes) / 4096) ≠ 0 := by decide
theorem wit_rdp_reads : wRdp.readable (.core 1) R.RDP_WEAK = true ∧ wRdp.readable (.core 1) (R.RDP_UNC_PSA_LO + 4 * 2) = true := by decide

/-- PLJ enabled with an entry that waits since time 0, a dirty segment, and a recovery that has ended. -/
def wPlj : State :=
  let s := (wSbs.put (hEN 0x2C0000) 1).put R.PLJ_REC_STS_STEP 7
  s.onPlj fun x => { x with ents := [⟨1, 0, 0, 0, 0, 0, 0⟩], dirty := [⟨0, 0, 0⟩] }
/-- A chunk programmed with this result. -/
def wChunk (r : Bool) (p : Option (Nat × Nat)) : State :=
  wPlj.onPlj fun x => { x with chunks := [⟨4, x.ents, [], none, 0, 0, p, some r⟩] }
theorem wit_journal : wPlj.running = true ∧ wPlj.flushDue = true ∧ wPlj.reserveDue = true := by decide
theorem wit_chunks : (((wChunk true none).plj.chunks.find? fun c => c.result.isSome).any fun c => decide (c.result = some true) && c.pos.isNone) = true
    ∧ (((wChunk false (some (0, 0))).plj.chunks.find? fun c => c.result.isSome).any fun c => decide (c.result = some false)
        && decide (c.pos = some (0, 0))) = true
    ∧ (((wChunk false (some (0, 0))).updChunk false 4 fun x => { x with pos := none, result := none }).sb 0).state = 1 := by decide
/-- The same with its maps at the end of the DRAM, and segment 3 dirty, of which 4 KiB lie in the DRAM. -/
def wSeg : State := (((wPlj.wr64 R.FTL_NS_CAP_1_LO 20000).wr64 R.FTL_CMAP_BASE_LO (2 ^ 35 - 2 ^ 16)).onMem fun x => { x with filled := [(0, 2 ^ 29)] }).onPlj
  fun x => { x with dirty := [⟨3, 0, 0⟩] }
theorem wit_writeback : wSeg.calm = true ∧ wSeg.enabled pljPage = true ∧ wSeg.wbDue.take 3 = [⟨3, 0, 0⟩]
    ∧ ((State.segLoad [⟨3, 0, 0⟩] wSeg).1.map (·.length)) = some 1 := by decide +kernel
/-- Every channel discovered, FTL and RDP enabled, PLJ enabled. -/
def wRec : State := (List.range 32).foldl (fun s n => s.put (R.CHAN_DISC_STS_DONE n) 1)
  (((wSbs.put (hEN 0x2C0000) 1).put (hEN 0x240000) 1).put (hEN 0x280000) 1)
theorem wit_recovery : wRec.accepts pljChecks (.core 0) R.PLJ_REC_CTL 1 = true
    ∧ (wRec.put R.PLJ_REC_STS_STEP 1).recovering = true := by decide +kernel
/-- What a recovery finds on an empty array. -/
def wFound (b : Nat) : RecFacts := ⟨1, [], [], 0, b, none, [], []⟩
theorem wit_recovered : ((wRec.put R.PLJ_REC_STS_STEP 1).recDone (wFound 0)).flag R.PLJ_REC_STS_UNCLEAN = true
    ∧ ((wRec.put R.PLJ_REC_STS_STEP 1).recDone (wFound 1)).flag R.PLJ_REC_STS_UNCLEAN = false := by decide

/-- A brace of an assertion, with its tails written, before and after its last page. -/
def wBrace (rails : Bool) : State := (State.reset.wr R.RAIL_STS 3).onPlj fun x => { x with brace := some ⟨1, 0, rails, rails⟩ }
theorem wit_brace : State.reset.running = true ∧ State.reset.flag R.PLJ_PF_STS_PFAIL = false
    ∧ (((State.reset.put R.PLJ_PF_STS_SEEN 1).put R.PLJ_PF_STS_PFAIL 1).pulse 352).get R.PLJ_PF_STS_STATE ≠ 1
    ∧ ((((State.reset.put R.PLJ_PF_STS_STATE 1).put R.PLJ_PF_STS_SEEN 1).put R.PLJ_PF_STS_PFAIL 1).pulse 352).get R.PLJ_PF_STS_STATE = 1 := by decide
theorem wit_deassert : (State.reset.put R.PLJ_PF_STS_PFAIL 1).flag R.PLJ_PF_STS_PFAIL = true
    ∧ (((State.reset.put R.PLJ_PF_STS_PFAIL 1).put R.PLJ_PF_STS_PFAIL 0).deadStart).get R.PLJ_PF_STS_STATE ≠ 2
    ∧ ((((State.reset.put R.PLJ_PF_STS_STATE 2).put R.PLJ_PF_STS_PFAIL 1).put R.PLJ_PF_STS_PFAIL 0).deadStart).get R.PLJ_PF_STS_STATE = 2 := by decide
theorem wit_tails_reserve : (((wBrace false).onPlj fun x => { x with reserve := some 7 }).evtB pljPage 0x11 0).plj.reserve = some 7
    ∧ (((wBrace false).onPlj fun x => { x with reserve := some 7 }).plj.brace.all fun b => !b.ended && !b.rails) = true := by decide
theorem wit_tails : ((wBrace false).plj.brace.all fun b => !b.ended && !b.rails) = true ∧ (wBrace false).plj.waitTails = 0
    ∧ ((wBrace false).evtB pljPage 0x11 0).plj.reserve = none ∧ ((wBrace true).plj.brace.all fun b => b.rails) = true
    ∧ (wBrace true).rail.lastDrop = 0 ∧ ((List.range 8).find? fun g => (wBrace true).railDriven g).isSome = true := by decide
/-- A brace whose groups are all off. -/
def wBraced : State := (wBrace true).wr R.RAIL_STS 0
theorem wit_braced : wBraced.bracedNow = true ∧ wBraced.braced.flag R.PLJ_BRACE_REC_LATE = false ∧ wBraced.braced.cur < 2 := by decide
theorem wit_dead_time : State.reset.plj.deadEnd = some (50 * 10 ^ 6) ∧ 50 * 10 ^ 6 ≤ ({ State.reset with now := 10 ^ 9 } : State).now
    ∧ State.reset.accepts pljChecks (.core 0) R.PLJ_PF_STS 2 = true
    ∧ (State.reset.put R.PLJ_PF_STS_STATE 2).accepts pljChecks (.core 0) R.PLJ_PF_CTL 1 = true := by decide

/-- Both ports up, with IPv4 in use. -/
def wNet : State := (List.range 2).foldl (fun s n =>
  (((((s.put (hEN (netPage n)) 1).put (hRUNNING (netPage n)) 1).put (R.NET_MODE_TX_EN n) 1).put (R.NET_MODE_RX_EN n) 1).put
    (R.NET_LINK_STS_UP n) 1).put (R.NET_IP_CTL_V4_EN n) 1) wSbs
/-- A frame with a payload, from UDP port 7 of address 9 to the part's own. -/
def wFrame (d : Bytes) : Frame := ⟨1, 200, true, true, 0, 0x0800, [], true, false, 186, 0, 9, 17, 0, 7, BitVec.ofNat 16 (State.reset.get R.IST_CFG_PORT), d⟩
theorem wit_net : wNet.running = true ∧ wNet.netRx 1 = true ∧ wNet.netTx 1 = true ∧ wNet.netIpOn 1 false = true
    ∧ (0 : BitVec 128).toNat = wNet.netIp 1 false ∧ (0 : BitVec 128).toNat = wNet.gwIp 1 false
    ∧ wNet.gwMac 1 false ≠ some 5 ∧ wNet.gwMac 1 true = none ∧ (wNet.setGw 1 true (some 5)).gwMac 1 true = some 5
    ∧ wNet.flag (R.NET_LINK_STS_UP 1) = true
    ∧ wNet.netRuns 1 = true ∧ (wNet.put (R.NET_LINK_STS_UP 1) 0).flag (R.NET_LINK_STS_UP 1) = false := by decide
/-- A part asleep that a WAKE frame may wake. -/
def wAsleep : State := { (wNet.put (R.NET_WAKE_EN 1) 1) with pwr := { wNet.pwr with step := .asleep, target := 1 } }
/-- A WAKE message with token 0. -/
def wWake : Bytes := ⟨1, 14, 0, 0, 0, 0, 0, 0, 0, 0, 0, 0⟩ |> Msg.bytes |> (· ++ List.replicate 8 0)
theorem wit_wake : wAsleep.running = true ∧ wAsleep.wakeMatches (wFrame wWake) = true ∧ (wFrame wWake).row = 15
    ∧ wNet.wakeMatches { wFrame [] with fcs := false } = false := by decide

/-- A key. -/
def wKey : Bytes := (List.range 16).map (BitVec.ofNat 8)
/-- IST and its engines running, client 0 with both rights and member 1 known by one key, in content mode with a set enabled and
ready, and one flow of each side. -/
def wIst : State :=
  let s := (List.range 16).foldl (fun s e => (s.put (hEN (chvPage e)) 1).put (R.CHV_STS_RUNNING e) 1)
    ((((wNet.put (hEN 0x310000) 1).put R.IST_STS_READY 1).put R.IST_CLT_MAX_MAX 1).put (R.NET_VLAN_UNTAG_OK 1) 1)
  let s := s.onCiph fun x => { x with slots := [(5, ⟨true, false, 4, 0, 0, wKey⟩)] }
  let s := s.onMem fun x => { x with dram := [(40, 0x0E)] }
  s.onIst fun x => { x with cache := [(5, ⟨0, 0, 0⟩)] }
/-- A message in a frame with its authenticator. -/
def wMsg (m : Msg) (auth : Nat) : Frame := wFrame (m.bytes ++ beBytes 8 auth)
/-- A message of client 0 with an operation and flags. -/
def wReqMsg (op flags : Nat) : Msg := ⟨1, op, flags, 0, 0, 77, 0, 1, 0, 0, 0, 0⟩
/-- The message is heard, and the state then has a property. -/
def hearsB (s : State) (f : Frame) (p : Rights → State → Bool) : Bool :=
  let m := Msg.ofBytes f.data
  let u := s.frameCount f
  let e := s.heardBy f
  s.netRx f.port.val && decide (u.frameReason f = none) && !f.neigh && decide (64 ≤ f.data.length) && decide (m.ver = 1) && decide (m.op ≠ 14)
    && u.chvTakes e && (!m.isNew || decide (u.get R.PLJ_PF_STS_STATE = 0)) && (!m.data || decide (m.len + 64 ≤ f.data.length))
    && (match ((u.addCount (R.CHV_MSG_LO e) 1).evtB (chvPage e) 0x10 1).authenticate f.port.val e m f.data with
        | (some r, t) => p r t
        | _ => false)
/-- The Boolean form of being heard gives the rights and the state. -/
theorem hears_of_hearsB {s : State} {f : Frame} {p : Rights → State → Bool} (h : hearsB s f p = true) :
    ∃ r t, s.hears f r t ∧ p r t = true := by
  unfold hearsB at h
  simp only [Bool.and_eq_true, decide_eq_true_eq, Bool.or_eq_true, Bool.not_eq_true'] at h
  obtain ⟨⟨⟨⟨⟨⟨⟨⟨⟨h1, h2⟩, h3⟩, h4⟩, h5⟩, h6⟩, h7⟩, h8⟩, h9⟩, h10⟩ := h
  split at h10
  · next r t ht =>
    refine ⟨r, t, ⟨h1, h2, h3, h4, h5, h6, h7, fun a => ?_, fun a => ?_, ht⟩, h10⟩
    · rcases h8 with h8 | h8
      · rw [a] at h8; cases h8
      · exact h8
    · rcases h9 with h9 | h9
      · rw [a] at h9; cases h9
      · exact h9
  · cases h10
/-- A request of client 0 is heard, and meets what its row needs. -/
def wHeard (op flags auth : Nat) : Bool := hearsB wIst (wMsg (wReqMsg op flags) auth) fun r t =>
  let m := Msg.ofBytes (wMsg (wReqMsg op flags) auth).data
  t.flag R.IST_STS_READY && !t.busyNow m && !m.resp && !m.data && (t.dupFlow m).isNone && r.read && r.write && !m.peer
    && decide ((wMsg (wReqMsg op flags) auth).row = if op = 4 then 5 else op)
theorem wit_get : wHeard 1 0 7762034116934712209 = true := by decide +kernel
theorem wit_getRange : wHeard 2 0 1377968917123645371 = true := by decide +kernel
theorem wit_put : wHeard 3 0 5667727587644297426 = true := by decide +kernel
theorem wit_stat : wHeard 4 0 10095497900073998636 = true := by decide +kernel
/-- The same part with a PUT of client 0 open as flow 0 of engine 0. -/
def wFlow : State := wIst.onIst fun x => { x with flows := [(0, ⟨.put, 0, 0, 0, 77, false, ⟨1, false, 9, 7⟩, 0, 1, 3, true, 0, Snd.none_, Rcv.none_,
  some ⟨none, false, 0, 0, [], [], false, false, false, none⟩⟩)] }
/-- A message to the flow is heard and names it. -/
def wNamed (op flags row auth : Nat) : Bool := hearsB wFlow (wMsg (wReqMsg op flags) auth) fun _ t =>
  let m := Msg.ofBytes (wMsg (wReqMsg op flags) auth).data
  !m.peer && (t.flowOf m).any (fun x => decide (x.2.kind = .put)) && (t.flowNamed m).isSome && decide ((wMsg (wReqMsg op flags) auth).row = row)
theorem wit_put_data : wNamed 3 2 4 3460878732475925749 = true := by decide +kernel
theorem wit_ack : wNamed 5 0 6 3796588203544736059 = true := by decide +kernel
theorem wit_credit : wNamed 6 0 7 2214886943480336334 = true := by decide +kernel

/-- Tarragon running in content mode in a cluster of two, with the peer key. -/
def wTgn : State := ((((((wIst.onBoot fun x => { x with content := true }).put (hEN tgnPage) 1).put (hRUNNING tgnPage) 1).put R.TGN_CLUSTER_SIZE 2).put
  R.TGN_PKEY_SLOT 5).put R.TGN_PKEY_VALID 1).put R.TGN_STS_READY 1
/-- A message of member 1, with the state where it is heard, the row, and a property then. -/
def wPeer (s : State) (op flags row auth : Nat) (p : State → Msg → Bool) : Bool :=
  let f := wMsg ⟨1, op, flags ||| 16, 0, 1, 77, 0, 1, 0, 0, 0, 0⟩ auth
  hearsB s f fun _ t => (Msg.ofBytes f.data).peer && decide (f.row = row) && p t (Msg.ofBytes f.data)
theorem wit_hello : wPeer wTgn 11 0 12 8541390895970462177 (fun t _ => decide (t.pwr.step = .awake) && t.tgnRuns) = true := by decide +kernel
theorem wit_epoch : wPeer wTgn 12 0 14 3358040303724960173 (fun t _ => decide (t.pwr.step = .awake) && t.tgnRuns) = true := by decide +kernel
theorem wit_hello_response :
    wPeer (wTgn.onTgn fun x => { x with hellos := [(77, ⟨.check, 1, ⟨1, false, 9, 7⟩, 0, none⟩)] }) 11 1 13 10644231823310636719 (fun t m =>
      decide (t.pwr.step = .awake) && t.tgnRuns && (t.tgn.hellos.find m.reqId).isSome) = true := by decide +kernel
/-- The same with member 1 in the peer table. -/
def wKnown : State := wTgn.onMem fun x => { x with dram := [(0, 1), (2, 4), (40, 0x0E)] }
theorem wit_get_shard : wPeer wKnown 7 0 8 2888119299500579676 (fun t m => !t.busyNow m && t.tgnRuns && (t.dupFlow m).isNone) = true := by
  decide +kernel
theorem wit_put_shard : wPeer wKnown 8 0 10 7067947052960387805 (fun t m => !t.busyNow m && t.tgnRuns && (t.dupFlow m).isNone && !m.data)
    = true := by decide +kernel
/-- The same with a flow that this member started. -/
def wAsked (k : FlowKind) : State := wKnown.onIst fun x => { x with flows := [(0, ⟨k, 0, 0, 1, 77, true, ⟨1, false, 9, 7⟩, 0, 1, 7, true, 0,
  Snd.none_, Rcv.none_, none⟩)] }
theorem wit_shard_response : wPeer (wAsked (.shardIn 0 0)) 7 1 9 17238369848352464205 (fun t m => (t.flowAsked m).isSome) = true := by
  decide +kernel
theorem wit_put_shard_response : wPeer (wAsked (.shareOut 0)) 8 1 11 3616212199677165153 (fun t m => (t.flowAsked m).isSome) = true := by
  decide +kernel

/-- A GET of 100 bytes whose first packet is out, and one that failed. -/
def wSend : State := wIst.onIst fun x => { x with flows := [
  (0, ⟨.get, 0, 0, 0, 77, false, ⟨1, false, 9, 7⟩, 0, 1, 1, true, 0, { Snd.none_ with len := 8192, next := 0, rate := 2560, adv := 100, win := 10 ^ 6, cap := 100 }, Rcv.none_, none⟩),
  (1, ⟨.get, 0, 0, 0, 78, false, ⟨1, false, 9, 7⟩, 0, 1, 1, true, 0, { Snd.none_ with bad := some 0, adv := 0, pkts := [(0, ⟨0, 0, 0, 1, false, false⟩)] }, Rcv.none_, none⟩),
  (2, ⟨.get, 0, 0, 0, 79, false, ⟨1, false, 9, 7⟩, 0, 1, 1, true, 0, { Snd.none_ with why := 1, len := 0 }, Rcv.none_, none⟩)] }
theorem wit_flow_read : wSend.running = true ∧ (wSend.ist.flows.find 0).any (fun f => !f.snd.nextUnits.isEmpty && f.serves && wSend.paced
    && wSend.mayRead f.snd f.snd.nextUnits && f.ctx) = true := by decide +kernel
theorem wit_flow_ends : (wSend.ist.flows.find 1).any (fun f => f.snd.bad.isSome && !f.snd.ended && decide (f.snd.off = f.snd.end_) && f.serves
      && wSend.paced && !(f.snd.pkts.all fun p => p.2.acked) && decide (f.snd.expiries + 1 < wSend.get R.IST_RTO_CFG_RETX_MAX)
      && decide (f.snd.adv = 0)) = true
    ∧ (wSend.put R.IST_RTO_CFG_RETX_MAX 1).get R.IST_RTO_CFG_RETX_MAX ≤ 1 := by decide +kernel
theorem wit_flow_staged : let t := (State.flowArrivals (fun _ => true) wSend.rdp.got (wSend.onRdp fun x => { x with got := [] })).zeroUnits
    (t.ist.flows.find 2).any (fun g => decide (g.snd.why = 1) && g.snd.staged g.snd.off (t.nextLen g)) = true := by decide +kernel
theorem wit_put_ends : (wFlow.ist.flows.find 0).any (fun f => f.put.any fun p => !p.valid && wFlow.paced
      && decide (f.rcv.last + 10 ^ 6 * wFlow.get R.IST_PUT_CFG_PUT_TMO ≤ wFlow.now) && wFlow.segClean (p.ent / 2048)) = true := by decide +kernel

theorem wit_pacer : wIst.running = true ∧ wIst.netTx 1 = true ∧ wIst.paced = true ∧ wIst.enabled 0x310000 = true ∧ wIst.get R.PLJ_PF_STS_STATE = 0
    ∧ wIst.limp = false := by decide +kernel
/-- Staging with fewer free slots than LOW_WATER would ask for, and one slot whose data have been sent. -/
def wEvict : State := (wIst.put R.IST_STAGE_CFG_LOW_WATER 16383).onIst fun x => { x with flows := [
  (0, ⟨.get, 0, 0, 0, 77, false, ⟨1, false, 9, 7⟩, 0, 1, 1, true, 0, { Snd.none_ with len := 4096, off := 4096, slots := [(0, 3)] }, Rcv.none_, none⟩)] }
/-- Two slots used. -/
def wUsed : State := wEvict.onMem fun x => { x with stg := [(3, { StgSlot.free with owner := .flow 0 }), (4, { StgSlot.free with owner := .flow 0 })] }
theorem wit_evict : (wUsed.evictable.any fun x => (wUsed.ist.flows.find x.1).isSome) = true
    ∧ 16384 - wUsed.stgUsed < wUsed.get R.IST_STAGE_CFG_LOW_WATER := by decide +kernel
/-- An index of one bucket at address 6,400, and recovery ended. -/
def wIdx : State := (((wIst.wr64 R.IST_IDX_BASE_LO 6400).put R.IST_IDX_CFG_LOG2_NB 0).put R.PLJ_REC_STS_STEP 7).put (R.FTL_CLASS_CTL_WRITABLE 63) 0
/-- The same with an entry of key 0. -/
def wEnt : State := wIdx.onMem fun x => { x with dram := putBytes x.dram 6400 { IdxEnt.ofBytes (List.replicate 32 0) with state := 1 }.bytes }
theorem wit_ist_commands : wIdx.running = true ∧ wIdx.accepts istChecks (.core 0) R.IST_CMD (BitVec.ofNat 32 (17 + 63 * 256)) = true
    ∧ (wIdx.written (.core 0) R.IST_CMD (BitVec.ofNat 32 (17 + 63 * 256))).flag (R.FTL_CLASS_CTL_WRITABLE 63) = false
    ∧ wIdx.accepts istChecks (.core 0) R.IST_CMD (BitVec.ofNat 32 (18 + 63 * 256)) = true
    ∧ wIdx.accepts istChecks (.core 0) R.IST_CMD 19 = true ∧ wEnt.accepts istChecks (.core 0) R.IST_CMD 20 = true
    ∧ wIdx.accepts istChecks (.core 0) R.IST_CMD 21 = true ∧ (wIdx.written (.core 0) R.IST_CMD 21).get R.PLJ_REC_STS_STEP = 7 := by decide +kernel
theorem wit_insert : let t := wIdx.written (.core 0) R.IST_CMD 19
    (t.idxLook (IdxEnt.ofBytes t.entBytes).key).1 = .miss
    ∧ ((t.idxLook (IdxEnt.ofBytes t.entBytes).key).2.idxSlot (IdxEnt.ofBytes t.entBytes).key).1.isSome = true := by decide +kernel
theorem wit_remove : let t := wEnt.written (.core 0) R.IST_CMD 20
    (match t.idxLook (IdxEnt.ofBytes t.entBytes).key with
     | (.found n e, u) => ((u.idxWrite n { e with state := 3 }).extOf e.iu).isNone
     | _ => false) = true := by decide +kernel

/-- Set 0 enabled with this member in slot 0 and member 1, which is UP, in slot 1; row 0 has slots 0, 2, 3, 4, 1 and 5 at its positions; an
ingest set. -/
def wSet : State :=
  let s := ((((wTgn.put (R.TGN_SET_CFG_EN 0) 1).put (R.TGN_SET_CFG_INGEST 0) 1).put (R.TGN_SET_CFG_G 0) 5).put R.TGN_STS_LOADED 1)
  (((s.wr64 R.TGN_LAYOUT_BASE_LO 8192).put (R.TGN_SET_CFG_K 0) 0).put R.TGN_SHBUF_SIZE_SIZE 1).onMem fun x => { x with
    dram := putBytes (putBytes (putBytes x.dram 0 [1, 0, 0x44]) 8192 [0, 2, 3, 4, 1, 5]) (8192 + 0x20000) [0, 0, 4, 0, 1, 0, 4] }
/-- An IU of sequence index 0 whose P share is owed, a region with its record durable, a parity IU, a read and records. -/
def wShare : State := ((wSet.onCiph fun x => { x with slots := (0, ⟨true, false, 3, 0, 0, wKey⟩) :: x.slots }).onTgn fun x => { x with
  copies := [⟨0, 0, 0, 5, [1, 2], true, 0, 0⟩], ints := [⟨0, 0, true, 0, 1, 5, 1, 0⟩, ⟨0, 1, true, 0, 1, 5, 2, 0⟩]
  par := [(9, ⟨0, 0, 0, 0, 4, 1, [3], none, 0, [(0, 0, 1)], none⟩)], jobs := [(3, ⟨0, 1, true, 1, 0, 1, 0⟩)]
  recons := [(4, ⟨0, 0, 0, 0, 0, none, none, [⟨4, 4, 1, none, some 0, false, 0, []⟩], false, 0, false⟩)] }).onPlj fun x => { x with
    recs := [⟨1, 0, 0, 0, 0, 0, 0, 0, 0, 9⟩] }
/-- Chunk 0 of a slot lies where the slot first appears at a data position. -/
theorem chunkPlace_zero (s : State) (n slot : Nat) :
    s.chunkPlace n slot 0 = ((s.dataPairs n slot)[0]?).map fun p => (p.1, p.2) := by
  simp [State.chunkPlace]
/-- The copy of `wShare`. -/
def wCopy : ShareCopy := ⟨0, 0, 0, 5, [1, 2], true, 0, 0⟩
theorem wit_share_place : (wShare.copyPlace wCopy false).2.2 = some 1 := by
  unfold State.copyPlace
  rw [show wCopy.seq / 16 = 0 from rfl, chunkPlace_zero]
  decide +kernel
theorem wit_share_copies : wShare.tgn.copies = [wCopy] := rfl
theorem wit_share_owed : chunkRun (wShare.owed 0 0 1 false) = [wCopy] := by
  unfold State.owed
  rw [wit_share_copies, List.filter_cons_of_pos (by simp [wit_share_place]; decide), List.filter_nil]
  rfl
theorem wit_share_send : wShare.slotMember 0 1 = some 1 ∧ wShare.tgnRuns = true ∧ wShare.setOn 0 = true := by decide +kernel
theorem wit_share_durable : (wShare.intOf 0 0 0).any (fun z => wShare.recDurable z.no) = true := by decide +kernel
theorem wit_share_free :
    (wShare.tgn.jobs.any fun j => decide (j.2.set = 0) && decide (j.2.cls = 0) && decide (j.2.slot = 1) && decide (j.2.q = false)) = false
    ∧ wShare.slotLost 0 1 = false ∧ wShare.recsFull = false ∧ (wShare.tgn.holdoff.find (holdKey 0 0 1 false)).getD 0 ≤ wShare.now := by
  decide +kernel
theorem wit_share_flow :
    (wShare.askFlow 1 8 0 2 (.shareOut 0) 0 (wShare.newSnd [1, 2] 0 0 2 0 0 0) Rcv.none_).isSome = true := by decide +kernel
theorem wit_parity : (wShare.tgn.par.find 9).any (fun p => decide (p.first + 10 ^ 6 * wShare.get R.TGN_SHARE_CFG_HOLD ≤ wShare.now)
      && p.base.isNone && p.going.isNone && decide (p.shares ≠ []) && (wShare.sealIu 9 p.data).1.isSome) = true
    ∧ ((wShare.onFtl fun x => { x with news := [(.share 9, .durable 0)] }).ftl.news.find? fun e => decide (e.1 = .share 9)).isSome = true := by
  decide +kernel
theorem wit_resend : (wShare.tgn.jobs.find 3).any (fun j => decide (j.at_ + 10 ^ 6 * wShare.get R.TGN_SHARE_CFG_RESEND ≤ wShare.now)) = true
    ∧ wShare.plj.recs ≠ [] ∧ wShare.plj.recSince + 1000 * wShare.get R.TGN_INT_CFG_FLUSH_US ≤ wShare.now := by decide +kernel
theorem wit_region : (wShare.tgn.ints.find? fun z => z.dirty && decide (z.set = 0) && decide (z.cls = 1) && decide (z.at_ = 0)).any (fun z =>
      decide (z.no ≠ 0) && !wShare.intBusy z && decide (z.set ∉ wShare.tgn.resync)
      && decide (z.busy + 10 ^ 7 * wShare.get R.TGN_INT_CFG_REGION_IDLE ≤ wShare.now)) = true := by decide +kernel
theorem wit_recon : (wShare.tgn.recons.find 4).any (fun r => decide (r.start + 10 ^ 6 * wShare.get R.TGN_RECON_CFG_TMO ≤ wShare.now)
      && (r.reads.find? fun x => decide (x.pos = 4) && decide (x.st = 0) && !x.seen).any (fun x => decide (x.sent = some 0)
      && (wShare.slotMember r.set x.slot).any fun m => decide (0 + 1000 * wShare.hedgeTime r.set m ≤ wShare.now))) = true := by decide +kernel

def wHello (w : HelloWhy) : SMap Hello := [(7, ⟨w, 1, ⟨1, false, 9, 7⟩, 0, some 0⟩)]
/-- The acting root with a change to issue. -/
def wRoot : State := (wSet.put R.TGN_STS_ROOT 1).onTgn fun x => { x with
  own := 2, queue := [⟨1, 2, 0, 0, 0⟩], hellos := wHello .check, down := [(1, 0)] }
/-- Member 1 that is UP and hears from nobody. -/
def wSilent : State := ((wSet.put R.TGN_CFG_MEMBER 1).put R.TGN_JOIN_STS_STATE 1).onTgn fun x => { x with own := 2 }
theorem wit_root : wRoot.running = true ∧ wRoot.tgnRuns = true ∧ wRoot.isRoot = true ∧ wRoot.tgn.queue ≠ []
    ∧ wRoot.tgn.lastIssue + 1000 * wRoot.get R.TGN_EPOCH_CFG_GAP ≤ wRoot.now ∧ wRoot.memberState 1 < 2
    ∧ (wRoot.tgn.hellos.find? fun h => decide (h.2.why = .check) && decide (h.2.member = 1) && decide (h.2.sent + wRoot.seedTmo ≤ wRoot.now)).isSome
      = true ∧ wRoot.tgn.down.find 1 = some 0 ∧ 0 + wRoot.get R.TGN_REB_CFG_DELAY * 10 ^ 9 ≤ wRoot.now := by decide +kernel
theorem wit_silent : wSilent.running = true ∧ wSilent.tgnRuns = true ∧ wSilent.tgn.own = 2 ∧ wSilent.isRoot = false
    ∧ treeParent wSilent.member = some 0 ∧ wSilent.tgn.heardParent + wSilent.missTime ≤ wSilent.now
    ∧ (wSilent.tgn.hellos.any fun h => decide (h.2.why = .probe)) = false ∧ wSilent.get R.TGN_JOIN_STS_STATE = 1
    ∧ wSilent.tgn.backEnd ≤ wSilent.now := by decide +kernel
theorem wit_takeover : let s := wSilent.onTgn fun x => { x with hellos := wHello .probe }
    (s.tgn.hellos.find? fun h => decide (h.2.why = .probe) && decide (h.2.sent + s.seedTmo ≤ s.now)).isSome = true ∧ s.member ≤ 16
    ∧ ((List.range s.member).any fun m => decide (m ≠ s.rootId) && decide (s.memberState m = 1)) = false ∧ s.tgn.own = 2 := by decide +kernel
theorem wit_seed : let s := (wSilent.put R.TGN_JOIN_STS_STATE 2).onTgn fun x => { x with hellos := wHello .seed }
    (s.tgn.hellos.find? fun h => decide (h.2.why = .seed) && decide (h.2.sent + s.seedTmo ≤ s.now)).isSome = true
    ∧ s.get R.TGN_JOIN_STS_STATE = 2 ∧ (s.tgn.hellos.map fun h => h.2.retry) = [some 0] := by decide +kernel
theorem wit_query : let s := wSilent.onTgn fun x => { x with hellos := wHello .query }
    (s.tgn.hellos.find? fun h => decide (h.2.why = .query) && decide (h.2.member = 1) && decide (h.2.sent + s.seedTmo ≤ s.now)).isSome = true := by
  decide +kernel

theorem wit_tgn_commands : wSet.running = true ∧ wSet.accepts tgnChecks (.core 0) R.TGN_JOIN_CTL 1 = true
    ∧ (wSet.wordBefore (.core 0) R.TGN_JOIN_CTL).bit 0 = false ∧ wSet.accepts tgnChecks (.core 0) R.TGN_JOIN_CTL 2 = true
    ∧ (wSet.wordBefore (.core 0) R.TGN_JOIN_CTL).bit 1 = false ∧ wSet.accepts tgnChecks (.core 0) R.TGN_CMD 17 = true
    ∧ (wSet.written (.core 0) R.TGN_CMD 17).flag R.IST_STS_READY = true := by decide +kernel
theorem wit_set_enable : wSet.accepts tgnChecks (.core 0) (R.TGN_SET_CFG 0) ((wSet.rd (R.TGN_SET_CFG 0)).setBit 17) = true := by decide +kernel
theorem wit_set_commands : ([2, 3, 4].all fun op => wSet.accepts tgnChecks (.core 0) R.TGN_CMD (BitVec.ofNat 32 (op + 16))
      && (wSet.written (.core 0) R.TGN_CMD (BitVec.ofNat 32 (op + 16))).setOn 0
      && (wSet.written (.core 0) R.TGN_CMD (BitVec.ofNat 32 (op + 16))).flag R.TGN_STS_LOADED) = true
    ∧ wSet.readable (.core 0) R.TGN_LOSS_LO = true ∧ wSet.readable (.core 0) R.TGN_LOSS_HI = true := by decide +kernel

/-- A submission entry with an opcode (and PSDT and CID 0) and dwords. -/
def wSqe (op : Nat) (ds : List (Nat × Nat)) : Bytes :=
  (List.range 16).flatMap fun w => leBytes 4 (if w = 0 then op else ((ds.find? fun d => decide (d.1 = w)).map (·.2)).getD 0)
/-- A command of a queue with a stage. -/
def wCmd (sq stage op : Nat) (ds : List (Nat × Nat)) : NvmCmd := ⟨sq, wSqe op ds, [], 0, [], stage, 0, 0, [], [], [], [], 0, none⟩
/-- The controller ready with an admin queue and an I/O queue of 16 entries, one entry waiting in each, and room in the completion
queues; a coalesced completion waits in the second one. -/
def wNvm : State :=
  ((State.reset.onPci fun x => { x with cfg := [(4, 6)] }).put R.NVM_STS_RDY 1).onNvm fun x => { x with
    cc := 0x00460001
    sqs := [(0, ⟨16, 0x10000, 0, 0, 1⟩), (1, ⟨16, 0x20000, 1, 0, 1⟩)]
    cqs := [(0, ⟨16, 0x30000, 0, true, 0, 0, true, 0, 0⟩), (1, ⟨16, 0x40000, 1, true, 0, 0, true, 1, 0⟩)]
    next := 9 }
theorem wit_doorbells : wNvm.running = true ∧ wNvm.memEn = true ∧ wNvm.pci.d3 = false
    ∧ ((wNvm.doorbellWake 128).nvm.sqs.find 1).any (fun q => decide ((1 : BitVec 16).toNat < q.size) && decide (q.size ≤ (16 : BitVec 16).toNat)) = true
    ∧ (wNvm.nvm.cqs.find 1).any (fun q => decide ((1 : BitVec 16).toNat < q.size) && decide (q.size ≤ (16 : BitVec 16).toNat)) = true := by decide
theorem wit_cc : wNvm.nvm.cc.bit 0 = true ∧ wNvm.nvm.cc.fld 14 2 = 0 ∧ (0x00460000 : Word).fld 14 2 = 0 ∧ (0x00460000 : Word).bit 0 = false := by
  decide
theorem wit_fetch : wNvm.noFetch = false ∧ (wNvm.nvm.sqs.find 0).any (fun a => decide (a.entries ≠ 0)) = true
    ∧ (wNvm.nvm.cmds.filter fun c => decide (c.2.sq = 0)).length < 64 := by decide +kernel
theorem wit_fetch_io : let s := (wNvm.put R.NVM_CFG_CTX_MAX 8).onNvm fun x => { x with sqs := [(0, ⟨16, 0x10000, 0, 1, 1⟩), (1, ⟨16, 0x20000, 1, 0, 1⟩)] }
    (s.nvm.sqs.find 0).any (fun a => decide (a.entries = 0)) = true ∧ s.noFetchIo = false ∧ s.pickSq = some 1 ∧ s.locksHeld + 0 ≤ 4096 := by
  decide +kernel
theorem wit_post : wNvm.busMaster = true ∧ (wNvm.nvm.cqs.find 1).any (fun q => !q.full) = true ∧ (wCmd 1 2 2 []).op = 2
    ∧ (wCmd 1 2 2 []).stage = 2 := by decide
theorem wit_coalesce : (wNvm.nvm.cqs.find 1).any (fun c => decide (c.waiting ≠ 0) && decide (c.first + 100000 * (wNvm.feat 8 0 / 256 % 256) ≤ wNvm.now))
    = true := by decide

/-- A command of the block namespace of 2^18 IUs, and classes that can be written. -/
def wIo (op : Nat) (ds : List (Nat × Nat)) : State :=
  (((wNvm.put R.FTL_NS_CAP_2_IU (2 ^ 18)).put (R.FTL_CLASS_CTL_WRITABLE 0) 1).onPlj fun x => { x with reserve := some 7 }).onNvm fun x => { x with
    cmds := [(3, { wCmd 1 0 op ds with data := leBytes 16 (2 ^ 32 + 2 ^ 64 * 5) })] }
theorem wit_flush : (wIo 0 []).running = true ∧ ((wIo 0 []).runs 3 0).any (fun c => decide (c.dw 0 / 2 ^ 14 % 4 = 0)) = true
    ∧ (wIo 0 []).flag R.NVM_STS_FORMAT = false := by decide +kernel
theorem wit_read : ((wIo 2 [(1, 2)]).runs 3 2).any (fun c => decide ((wIo 2 [(1, 2)]).rwCheck c ((wIo 2 [(1, 2)]).prps c (4096 * c.nlb) []) = none)) = true
    ∧ ((wIo 2 [(1, 7)]).runs 3 2).any (fun c => decide ((wIo 2 [(1, 7)]).rwCheck c ((wIo 2 [(1, 7)]).prps c (4096 * c.nlb) []) = some 0x0B)) = true := by
  decide +kernel
theorem wit_write : ((wIo 1 [(1, 2)]).runs 3 1).any (fun c => decide ((wIo 1 [(1, 2)]).rwCheck c ((wIo 1 [(1, 2)]).prps c (4096 * c.nlb) []) = none)
      && decide (c.ns = 1) && decide (c.nlb ≤ 16384 - (wIo 1 [(1, 2)]).stgUsed)) = true
    ∧ ((wIo 1 [(1, 7)]).runs 3 1).any (fun c => decide ((wIo 1 [(1, 7)]).rwCheck c ((wIo 1 [(1, 7)]).prps c (4096 * c.nlb) []) = some 0x0B)) = true := by
  decide +kernel
theorem wit_dsm : ((wIo 9 [(1, 2), (11, 4)]).runs 3 9).any (fun c => decide (c.nsid = 2) && decide (c.dw 11 / 4 % 2 = 1)
      && c.ranges.all fun r => decide (r.1 + r.2 ≤ (wIo 9 [(1, 2), (11, 4)]).nsze 1)) = true
    ∧ ((wIo 9 [(1, 2)]).runs 3 9).any (fun c => decide (c.dw 11 / 4 % 2 = 0)) = true := by decide +kernel

/-- The controller with an admin command that waits for the engine, or one in the mailbox. -/
def wOwn (op : Nat) (ds : List (Nat × Nat)) : State := wNvm.onNvm fun x => { x with cmds := [(3, wCmd 0 0 op ds)] }
def wBox (op : Nat) (ds : List (Nat × Nat)) : State := wNvm.onNvm fun x => { x with cmds := [(3, wCmd 0 1 op ds)], mbox := some 3 }
def ownB (op : Nat) (ds : List (Nat × Nat)) (p : State → NvmCmd → Bool) : Bool :=
  ((wOwn op ds).admOwn fun c => decide (c.op = op)).any fun x => p (wOwn op ds) x.2
def boxB (op : Nat) (ds : List (Nat × Nat)) (p : State → NvmCmd → Bool) : Bool :=
  ((wBox op ds).admBox fun c => decide (c.op = op)).any fun x => p (wBox op ds) x.2
theorem wit_create_cq : ownB 5 [(10, 128 + 15 * 65536), (11, 1 + 255 * 65536)] (fun s c => decide (c.dw 11 % 2 = 1)
    && decide (c.dw 10 % 65536 ≤ s.cqAlloc) && (s.nvm.cqs.find (c.dw 10 % 65536)).isNone && decide (c.dw 11 / 65536 ≤ 255)) = true := by decide
theorem wit_create_sq : ownB 1 [(10, 128 + 15 * 65536), (11, 1 + 1 * 65536)] (fun s c => decide (c.dw 11 % 2 = 1)
    && decide (c.dw 10 % 65536 ≤ s.sqAlloc) && (s.nvm.sqs.find (c.dw 10 % 65536)).isNone && (s.nvm.cqs.find (c.dw 11 / 65536)).isSome) = true := by
  decide
theorem wit_delete : let s := (wOwn 4 [(10, 1)]).onNvm fun x => { x with sqs := [(0, ⟨16, 0x10000, 0, 0, 1⟩)] }
    (s.admOwn fun c => decide (c.op = 4)).any (fun x => decide (x.2.dw 10 % 65536 = 1)) = true ∧ (s.nvm.cqs.find 1).isSome = true
    ∧ (s.nvm.sqs.any fun x => decide (x.2.cqid = 1) && decide (x.1 ≠ 0)) = false
    ∧ ownB 0 [(10, 1)] (fun s c => (s.nvm.sqs.find (c.dw 10 % 65536)).isSome) = true := by decide
theorem wit_abort_aer : ownB 8 [] (fun _ _ => true) = true ∧ ownB 0x0C [] (fun s _ => decide (s.nvm.aers.length < 4)) = true := by decide
theorem wit_identify : boxB 6 [(10, 2)] (fun s c => (s.identify (c.dw 10 % 256) c.nsid).isSome) = true
    ∧ boxB 6 [(10, 9)] (fun s c => (s.identify (c.dw 10 % 256) c.nsid).isNone) = true := by decide +kernel
theorem wit_log_page : boxB 2 [(10, 1)] (fun s c => decide (c.nsid = 0) && (s.logPage_ (c.dw 10 % 256)).isSome) = true := by decide +kernel
theorem wit_get_features : ownB 0x0A [(10, 1)] (fun s c => decide (s.featGet c false = some (3, []))) = true
    ∧ boxB 0x0A [(10, 2)] (fun s c => decide (s.featGet c false = some (0, [])) && (s.admOwn fun c => decide (c.op = 0x0A)).isNone) = true := by
  decide +kernel

def setOwn (fid v : Nat) (p : State → NvmCmd → Bool) : Bool :=
  ((wOwn 9 [(10, fid), (11, v)]).admOwn fun c => decide (c.op = 0x09) && decide (c.fid = fid)).any fun x =>
    !(x.2.dw 10).testBit 31 && p (wOwn 9 [(10, fid), (11, v)]) x.2
def setBox (fid v : Nat) (p : State → NvmCmd → Bool) : Bool :=
  ((wBox 9 [(10, fid), (11, v)]).admBox fun c => decide (c.op = 0x09) && decide (c.fid = fid)).any fun x =>
    !(x.2.dw 10).testBit 31 && p (wBox 9 [(10, fid), (11, v)]) x.2
theorem wit_set_own : setOwn 1 7 (fun _ _ => true) = true ∧ setOwn 8 0x0101 (fun _ _ => true) = true
    ∧ setOwn 9 (255 + 65536) (fun _ c => decide (c.dw 11 % 65536 ≤ 255)) = true ∧ setOwn 0x0B 255 (fun _ c => decide (c.dw 11 < 256)) = true := by decide
theorem wit_set_queues : let s := (wOwn 9 [(10, 7), (11, 0x00030003)]).onNvm fun x => { x with sqs := [(0, ⟨16, 0x10000, 0, 0, 1⟩)], cqs := [] }
    (s.admOwn fun c => decide (c.op = 0x09) && decide (c.fid = 7)).any (fun x => !(x.2.dw 10).testBit 31) = true
    ∧ (s.nvm.sqs.any fun q => decide (q.1 ≠ 0)) = false ∧ (s.nvm.cqs.any fun q => decide (q.1 ≠ 0)) = false := by decide
theorem wit_set_box : setBox 2 4 (fun _ c => decide (c.dw 11 % 32 ≤ 4)) = true
    ∧ setBox 4 (368 + 8 * 65536 + 2 ^ 20) (fun _ c => decide (c.dw 11 / 65536 % 16 ≤ 8) && decide (c.dw 11 / 2 ^ 20 % 4 ≤ 1)) = true
    ∧ setBox 0x0A 1 (fun _ _ => true) = true ∧ setBox 0x0E 0 (fun _ _ => true) = true
    ∧ setBox 0xC0 (128 + 63 * 256) (fun _ c => decide (c.dw 11 % 256 ≤ 128) && decide (c.dw 11 / 256 % 128 ≤ 63)) = true
    ∧ setBox 0xC1 (63 + 3 * 256) (fun _ c => decide (c.dw 11 % 128 ≤ 63) && decide (c.dw 11 / 256 % 8 < 4)) = true
    ∧ setBox 0xC2 1024 (fun s c => decide (c.dw 11 % 16384 ≤ s.blockMax)) = true ∧ setBox 0xC3 52 (fun _ _ => true) = true := by decide
theorem wit_set_apst : setBox 0x0C 1 (fun _ _ => true) = true ∧ ((List.range 32).all fun k => apstOk (List.replicate 256 0) k) = true := by
  decide +kernel
theorem wit_set_save : ((wOwn 9 [(10, 2 ^ 31 + 1)]).admOwn fun c => decide (c.op = 0x09) && decide (c.fid = 1)).any (fun x =>
    (x.2.dw 10).testBit 31) = true := by decide

theorem wit_fw : boxB 0x11 [(10, 0x3FFF)] (fun s c => decide (4 * c.dw 11 % 65536 = 0) && decide (4 * c.dw 11 + 4 * (c.dw 10 + 1) ≤ 2 ^ 25)
      && decide (4 * (c.dw 10 + 1) % 65536 = 0) && s.nvm.fw.isEmpty) = true
    ∧ boxB 0x10 [(10, 17)] (fun _ c => decide (c.dw 10 / 8 % 8 = 2) && decide (c.dw 10 % 8 ≤ 2)) = true := by decide +kernel
theorem wit_format : boxB 0x80 [] (fun s c => decide (c.dw 10 = 0) && !(s.boot.content && s.flag R.TGN_STS_JOINED) && !s.flag R.NVM_STS_FORMAT) = true := by
  decide +kernel
theorem wit_drop : let s := (wBox 0xC4 [(10, 63)]).put (R.FTL_CLASS_CTL_WRITABLE 63) 0
    (s.admBox fun c => decide (c.op = 0xC4)).any (fun x => decide (x.2.dw 10 = 63)) = true ∧ s.nvm.drop = none
    ∧ s.flag (R.FTL_CLASS_CTL_WRITABLE 63) = false := by decide +kernel
theorem wit_index : let s := (wBox 0xC5 []).put R.IST_STS_READY 1
    (s.admBox fun c => decide (c.op = 0xC5)).isSome = true ∧ s.flag R.IST_CMD_GO = false ∧ s.flag R.IST_STS_READY = true
    ∧ s.extOf (IdxEnt.ofBytes (fit 32 [])).iu = none
    ∧ s.extOf ((IdxEnt.ofBytes (fit 32 [])).iu + (IdxEnt.ofBytes (fit 32 [])).ius - 1) = none
    ∧ boxB 0xC9 [] (fun _ _ => true) = true := by decide +kernel
/-- The NVM page enabled with an admin command in the mailbox. -/
def wMail : State := ((wBox 6 []).put R.NVM_ADM_STS_PENDING 1).put (hCLK_ON nvmPage) 1
theorem wit_mail : (List.all [4096, 65536 + 4096] fun n => wMail.accepts nvmChecks (.core 0) R.NVM_ADM_CTL (BitVec.ofNat 32 n)) = true
    ∧ (wMail.written (.core 0) R.NVM_ADM_CTL 4096).nvm.mbox = some 3 ∧ (wCmd 0 1 6 []).op % 4 = 2 ∧ (wCmd 0 1 0xC5 []).op % 4 = 1
    ∧ wMail.accepts nvmChecks (.core 0) R.NVM_ADM_CTL (BitVec.ofNat 32 (2 ^ 13 + 2 + 2 ^ 11)) = true := by decide +kernel
theorem wit_apst : let s := ((wNvm.setFeat 0x0C 0 1).onNvm fun x => { x with apst := (1, 3) :: List.replicate 31 (0, 0) })
    s.feat 0x0C 0 = 1 ∧ s.nvm.apst.getD (s.feat 2 0) (0, 0) = (1, 3) ∧ s.nvmQuiet = true ∧ s.ist.flows = []
    ∧ s.nvm.idle + 1 * 10 ^ 6 ≤ { s with now := 10 ^ 6 }.now ∧ s.pwr.step = .awake ∧ s.flag R.NVM_CFG_MI_EN = true
    ∧ (s.put R.NVM_CFG_MI_EN 0).flag R.NVM_CFG_MI_EN = false := by decide +kernel

/-- PERST_N released, the PCI page enabled, and the link down. -/
def wDown : State := (((State.reset.onPci fun x => { x with perst := false, firstL0 := some 0 }).put (hEN pciPage) 1).put (hCLK_ON pciPage) 1)
/-- The link up in L0 with FLIT, L0p, ASPM and its substates enabled, and configuration access open. -/
def wUp : State := { (((((((wDown.put R.PCI_LINK_STS_UP 1).put R.PCI_LINK_STS_LTSSM 3).put R.PCI_LINK_STS_FLIT 1).put R.PCI_LINK_STS_WIDTH 3).put
  R.PCI_LINK_STS_CFG_OPEN 1).cfgWr 0x70 2).cfgWr 0x248 12).cfgWr 0x268 8 with now := 10 ^ 12 }
/-- With a host read that is outstanding and a tag that is held. -/
def wRead : State := wUp.onPci fun x => { x with reads := [(5, ⟨.nvm 0, 0, 64, 0, 0⟩)], tagHold := [(6, 7)] }
theorem wit_link_down : wDown.running = true ∧ wDown.linkMayTrain = true ∧ wDown.flag R.PCI_LINK_STS_UP = false
    ∧ wDown.get R.PCI_LINK_STS_LTSSM ≠ 8 ∧ wDown.pci.perst = false
    ∧ (((State.reset.put (hEN pciPage) 1).put (hCLK_ON pciPage) 1).onPci fun x => { x with perst := false }).linkMayTrain = true
    ∧ wUp.pci.firstL0 = some 0 ∧ 0 + 10 ^ 9 ≤ wUp.now := by decide
theorem wit_link_up : wUp.flag R.PCI_LINK_STS_UP = true ∧ wUp.flag R.PCI_LINK_STS_FLIT = true ∧ (wUp.cfgRd 0x268).bit 3 = true
    ∧ wUp.get R.PCI_LINK_STS_WIDTH = 3 ∧ wUp.pci.reads = [] ∧ wUp.get R.PCI_LINK_STS_LTSSM = 3 ∧ (wUp.cfgRd 0x70).bit 1 = true
    ∧ (wUp.cfgRd 0x248).bit 3 = true ∧ (wUp.cfgRd 0x248).bit 2 = true := by decide
theorem wit_reads : (wRead.cfgRd 0x88).bit 4 = false ∧ 0 + wRead.cplTimeout ≤ wRead.now ∧ wRead.flag R.PCI_LINK_STS_UP = true
    ∧ (wRead.pci.reads.find 5).isSome = true ∧ wRead.pci.tagHold.find 6 = some 7 ∧ 7 ≤ wRead.now
    ∧ ((((wRead.linkActive).evtB pciPage 0x10 1).evtB pciPage 0x13 1).pci.reads.find 5).isSome = true := by decide

theorem wit_cfg : wUp.linkActive.flag R.PCI_LINK_STS_UP = true ∧ wUp.linkActive.flag R.PCI_LINK_STS_CFG_OPEN = true
    ∧ (wUp.cfgWr 4 2).memEn = true ∧ wUp.pci.d3 = false := by decide
theorem wit_pci_ctl : wUp.accepts pciChecks (.core 0) R.PCI_CTL 1 = true ∧ (wUp.wordBefore (.core 0) R.PCI_CTL).bit 0 = false
    ∧ (wUp.put R.PCI_CTL_CFG_READY 1).accepts pciChecks (.core 0) R.PCI_CTL (((wUp.put R.PCI_CTL_CFG_READY 1).rd R.PCI_CTL).setFld 1 1 1) = true
    ∧ (((wUp.put R.PCI_CTL_CFG_READY 1).rd R.PCI_CTL).setFld 1 1 1).bit 1 = true
    ∧ ((wUp.put R.PCI_CTL_CFG_READY 1).wordBefore (.core 0) R.PCI_CTL).bit 0 = true := by decide

/-- The governor's page enabled and running, with RUN and the board's transfers on. -/
def wEsc : State :=
  (((((State.reset.put (hEN escPage) 1).put (hCLK_ON escPage) 1).put (hRUNNING escPage) 1).put R.ESC_CTL_RUN 1).put R.ESC_CTL_BMC_EN 1)
theorem wit_window : wEsc.running = true ∧ wEsc.cur < 2 ∧ wEsc.windowRefill.flag R.ESC_CTL_RUN = true
    ∧ wEsc.windowRefill.flag (hRUNNING escPage) = true ∧ wEsc.windowRefill.pwr.step ≠ .settle
    ∧ (wEsc.put R.ESC_CTL_RUN 0).windowRefill.flag R.ESC_CTL_RUN = false := by decide
theorem wit_governor : wEsc.accepts escChecks (.core 0) R.ESC_CTL ((wEsc.rd R.ESC_CTL).setFld 0 1 (b2n false)) = true
    ∧ ((wEsc.rd R.ESC_CTL).setFld 0 1 (b2n false)).bit 0 = false
    ∧ (let t := wEsc.put R.ESC_CTL_RUN 0
      t.accepts escChecks (.core 3) R.ESC_CTL ((t.rd R.ESC_CTL).setFld 0 1 (b2n true)) = true
      ∧ ((t.rd R.ESC_CTL).setFld 0 1 (b2n true)).bit 0 = true ∧ (t.wordBefore (.core 3) R.ESC_CTL).bit 0 = false)
    ∧ wEsc.accepts escChecks (.core 0) R.ESC_CTL ((wEsc.rd R.ESC_CTL).setFld 1 2 1) = true
    ∧ ((wEsc.rd R.ESC_CTL).setFld 1 2 1).bit 0 = true ∧ (wEsc.wordBefore (.core 0) R.ESC_CTL).bit 0 = true := by decide
theorem wit_trace : wEsc.accepts escChecks (.core 0) R.ESC_TRC_CTL ((0 : Word).setFld 0 1 1) = true
    ∧ ((0 : Word).setFld 0 1 1).bit 0 = true ∧ (wEsc.wordBefore (.core 0) R.ESC_TRC_CTL).bit 0 = false
    ∧ wEsc.accepts escChecks (.core 0) R.ESC_TRC_CTL (((wEsc.rd R.ESC_TRC_CTL).setFld 0 1 0).setFld 1 1 1) = true
    ∧ (((wEsc.rd R.ESC_TRC_CTL).setFld 0 1 0).setFld 1 1 1).bit 0 = false := by decide
theorem wit_bmc : wEsc.pwr.step = .awake ∧ wEsc.flag R.ESC_CTL_BMC_EN = true := by decide

/-- A step of sleep. -/
def wSleep (p : SleepStep) : State := State.reset.onPwr fun x => { x with step := p, target := 2 }
theorem wit_sleep_ask : State.reset.running = true ∧ State.reset.accepts pwrChecks (.core 0) R.PWR_CMD 6 = true
    ∧ (State.reset.wordBefore (.core 0) R.PWR_CMD).bit 2 = false
    ∧ 3 ≤ (State.reset.setFeat 2 0 3).feat 2 0 % 32 ∧ (State.reset.setFeat 2 0 3).feat 2 0 % 32 - 2 = 1
    ∧ (State.reset.setFeat 2 0 3).cur < 2 ∧ (State.reset.setFeat 2 0 3).flag R.PWR_STATE_ENTERING = false
    ∧ (State.reset.setFeat 2 0 3).sleepBlocked = none
    ∧ ((State.reset.setFeat 2 0 3).put R.PLJ_PF_STS_STATE 2).sleepBlocked = some 1
    ∧ ((State.reset.setFeat 2 0 3).put R.PLJ_PF_STS_STATE 2).flag R.PWR_STATE_PENDING = false
    ∧ (State.reset.put R.PWR_STATE_PENDING 1).flag R.PWR_STATE_PENDING = true
    ∧ (State.reset.put R.PWR_STATE_PENDING 1).sleepBlocked = none := by decide
theorem wit_sleep_steps : (wSleep .drain).pwr.step = .drain ∧ (wSleep .drain).pwr.drainAt ≤ (wSleep .drain).now
    ∧ (wSleep .park).pwr.step = .park ∧ (wSleep .park).pwr.parkAt ≤ (wSleep .park).now
    ∧ (wSleep .park).accepts pwrChecks (.core 3) R.PWR_PARK (((wSleep .park).rd R.PWR_PARK).setBit 3) = true
    ∧ (wSleep .settle).pwr.step = .settle ∧ (wSleep .exit).pwr.step = .exit
    ∧ ((List.range 12).filter fun c => (BitVec.toNat (1#12)).testBit c && (wSleep .asleep).wakeOk c) = [0]
    ∧ (wSleep .asleep).pwr.wakeLatched = false ∧ (wSleep .asleep).pci.d3 = false := by decide
theorem wit_doze : State.reset.cur = 0 ∧ State.reset.pwr.step = .awake
    ∧ (ledgerPages.any fun p => State.reset.flag (hCLK_ON p.base0) && decide (State.reset.get (hCKREQ p.base0) = 0)) = false
    ∧ (State.reset.put R.PWR_STATE_CUR 1).cur = 1 := by decide

/-- PLL 0 running, at a later time, with a domain that does not rise and a PLL without lock; the regulator in its low mode. -/
def wPwr : State :=
  { (((State.reset.put R.AON_REG_STS_LP 1).put R.PWR_DEEP_CFG_GUARD_EN 1).put R.AON_HS_CTL_ARM 1).onPwr fun x =>
    { x with rising := [(33, 5)], unlocked := [3], clkWait := [] } with now := 10 ^ 9 }
theorem wit_domains : State.reset.accepts pwrChecks (.core 0) R.PWR_DOM_ON_0 (State.reset.domWord 11 true) = true
    ∧ State.reset.accepts pwrChecks (.core 0) (R.PWR_DOM_ON_0 + 4) (State.reset.domWord 32 false) = true
    ∧ State.reset.accepts pwrChecks (.core 0) R.PWR_DOM_ON_0 (State.reset.domWord 15 false) = true
    ∧ wPwr.pwr.rising.find 33 = some 5 ∧ 5 + 200000 ≤ wPwr.now := by decide
theorem wit_plls : wPwr.pllOn 0 = true ∧ wPwr.pwr.unlocked.contains 0 = false ∧ wPwr.pwr.unlocked.contains 3 = true ∧ wPwr.cur ≠ 3 := by
  decide
theorem wit_aon : State.reset.accepts aonChecks (.core 0) R.AON_TIME_CTL 1 = true
    ∧ ((State.reset.put ⟨R.AON_HS_CMP_LO, 0, 32⟩ 7).accepts aonChecks (.core 0) R.AON_HS_CTL 1) = true
    ∧ State.reset.accepts aonChecks (.core 0) R.AON_STBY_CLR 1 = true
    ∧ wPwr.flag R.AON_HS_CTL_ARM = true ∧ wPwr.count R.AON_HS_CMP_LO ≤ wPwr.hs := by decide
theorem wit_pins : (let s := State.reset.wr R.AON_GPIO_CFG 0x400
      ((s.rd R.AON_GPIO_CFG).fld 8 4 % 4 = 0 ∧ s.fbit R.AON_GPIO_STS_IN 1 ≠ true ∧ ((s.rd R.AON_GPIO_CFG).fld 8 4 / 4).testBit 0 = true))
    ∧ (State.reset.fbit R.AON_GPIO_STS_IN 0 = false)
    ∧ wPwr.flag R.AON_REG_STS_LP = true
    ∧ (wPwr.put R.AON_REG_STS_PEAK 255).flag R.PWR_DEEP_CFG_GUARD_EN = true
    ∧ (wPwr.put R.AON_REG_STS_PEAK 255).get R.PWR_DEEP_CFG_GUARD_MA * 100 < 25600
    ∧ ((wPwr.put R.PWR_DEEP_CFG_GUARD_EN 0).put R.AON_REG_STS_PEAK 0).flag R.PWR_DEEP_CFG_GUARD_EN = false := by decide

/-- Group 7 in this state since long. -/
def wRail (st : Nat) : State :=
  { ((State.reset.setRail 7 st).onRail fun x => { x with slot := some (7, 5), offAt := [(7, 5)] }) with now := 10 ^ 9 }
theorem wit_rail_ctl : State.reset.running = true ∧ State.reset.accepts railChecks (.core 0) R.RAIL_CTL 1 = true
    ∧ State.reset.accepts railChecks (.core 0) R.RAIL_CTL 0x8100 = true ∧ (0x8100 : Word).bit 0 = false := by decide
theorem wit_rail_slots : (wRail 2).rail.slot = some (7, 5) ∧ 5 ≤ (wRail 2).now ∧ (wRail 2).railState 7 = 2 ∧ (wRail 1).railState 7 = 1
    ∧ 7 ∉ (wRail 1).rail.limit ∧ 7 ∈ ((wRail 1).setLimit 7 true).rail.limit ∧ ((wRail 1).setLimit 7 true).railState 7 = 1 := by decide
theorem wit_rail_locks : (wRail 3).railState 7 = 3 ∧ (wRail 3).get R.PLJ_PF_STS_STATE = 0
    ∧ 2 ≤ ((wRail 3).put R.PWR_STATE_CUR 2).cur ∧ ((wRail 3).put R.PWR_STATE_CUR 2).railState 7 = 3
    ∧ (wRail 4).railState 7 = 4 ∧ (wRail 4).rail.offAt.find 7 = some 5 ∧ 5 + 10 ^ 8 ≤ (wRail 4).now := by decide
theorem wit_rail_retry : (let s := (wRail 6).onRail fun x => { x with slot := none, cool := [(7, 9)] }
    s.railState 7 = 6 ∧ s.rail.cool.find 7 = some 9 ∧ 9 ≤ s.now ∧ s.rail.slot = none ∧ s.rail.retry = none
    ∧ s.anyRail (fun x => decide (x = 1)) = false ∧ s.get R.PLJ_PF_STS_STATE = 0 ∧ s.cur < 2) := by decide

/-- SECURE with firmware of security version 2 running. -/
def wBoot : State := ((((State.reset.put (hCLK_ON 0x80000) 1).put R.BOOT_STS_SEC_STATE 1).put R.BOOT_STS_BOOT_OK 1).put R.BOOT_SVN_ACTIVE 2).put R.BOOT_STS_MAIN_OK 1
theorem wit_boot_cmd : wBoot.running = true ∧ wBoot.flag R.BOOT_CMD_GO = false
    ∧ ([0x111, 0x212, 0x313, 0x14, 0x1015, 0x2015, 0x16].all fun w : Nat =>
      wBoot.accepts bootChecks (.core 0) R.BOOT_CMD (BitVec.ofNat 32 w)
        && Word.bit (BitVec.ofNat 32 w) 4
        && decide (((wBoot.written (.core 0) R.BOOT_CMD (BitVec.ofNat 32 w)).put R.BOOT_CMD_STS_BUSY 1).rd R.BOOT_CMD = BitVec.ofNat 32 w)) = true := by
  decide
theorem wit_boot_fuses : (let t := (wBoot.written (.core 0) R.BOOT_CMD 0x1015).put R.BOOT_CMD_STS_BUSY 1
    t.debugOpen = false ∧ t.get R.BOOT_CMD_SEL = 1 ∧ hashSet (t.boot.fuses.owner 1) = false)
    ∧ 1 < ((wBoot.written (.core 0) R.BOOT_CMD 0x2015).put R.BOOT_CMD_STS_BUSY 1).get R.BOOT_CMD_SEL
    ∧ ((wBoot.written (.core 0) R.BOOT_CMD 0x14).put R.BOOT_CMD_STS_BUSY 1).get R.BOOT_STS_SEC_STATE = 1
    ∧ (let t := (wBoot.written (.core 0) R.BOOT_CMD 0x16).put R.BOOT_CMD_STS_BUSY 1
      t.flag R.BOOT_STS_BOOT_OK = true ∧ t.get R.BOOT_SVN_FUSED < t.get R.BOOT_SVN_ACTIVE) := by decide
theorem wit_spi : wBoot.flag R.BOOT_SPI_CMD_GO = false
    ∧ ([1, 2, 3].all fun op => wBoot.accepts bootChecks (.core 0) R.BOOT_SPI_CMD (BitVec.ofNat 32 (op + 4))
      && (wBoot.written (.core 0) R.BOOT_SPI_CMD (BitVec.ofNat 32 (op + 4))).flag R.BOOT_SPI_CMD_GO
      && decide ((wBoot.written (.core 0) R.BOOT_SPI_CMD (BitVec.ofNat 32 (op + 4))).get R.BOOT_SPI_CMD_OP = op)) = true := by decide
theorem wit_boot_ctl : ([1, 2, 0x70].all fun v : Nat => wBoot.accepts bootChecks (.core 0) R.BOOT_CTL (BitVec.ofNat 32 v)) = true := by decide

theorem wit_reboot : State.reset.boot.due = true
    ∧ (let s := (wBoot.put R.BOOT_STS_SLOT 2)
      s.accepts bootChecks (.core 0) R.BOOT_CTL 4 = true ∧ (s.written (.core 0) R.BOOT_CTL 4).get R.BOOT_STS_SLOT ≠ 0)
    ∧ (let s : State := { (State.reset.put R.BOOT_WDT_RUNNING 1) with now := 2 ^ 50 }
      s.wdtPast 2 = true ∧ s.wdtPast 1 = true ∧ s.boot.wdtHalf = false)
    ∧ (let s := (State.reset.put R.BOOT_STS_SEC_STATE 2).onBoot fun x => { x with debugEnd := some 0 }
      s.boot.debugEnd = some 0 ∧ s.debugOpen = true ∧ 0 ≤ s.hsCount ∧ s.get R.BOOT_STS_SEC_STATE ≠ 1) := by decide

/-- MCL's clock on, a DRAM range named, and an engine of each class running. -/
def wMcl : State :=
  ((((State.reset.put (hCLK_ON 0x90000) 1).setRuns 1 31 true).setRuns 2 1 true).setRuns 3 15 true)
theorem wit_mcl : wMcl.running = true
    ∧ (([0x31, 0x32].all fun v : Nat => (wMcl.put R.MCL_RANGE_COUNT 1).accepts mclChecks (.core 0) R.MCL_CMD (BitVec.ofNat 32 v)) = true)
    ∧ wMcl.accepts mclChecks (.core 0) R.MCL_CMD 19 = true
    ∧ engExists 1 31 = true ∧ wMcl.engRuns 1 31 = true ∧ engExists 2 1 = true ∧ wMcl.engRuns 2 1 = true
    ∧ engExists 3 15 = true ∧ wMcl.engRuns 3 15 = true ∧ wMcl.enabled (engPage 3 15) = false
    ∧ (State.runWords 3 15 [] (wMcl.setEng 3 15 { wMcl.engSt 3 15 with pend := 16 })).engRuns 3 15 = true := by decide
/-- The word that a Chervil engine meets first has no legal pair. -/
theorem wit_engine_stops : (State.runWords 3 15 [⟨true, 0⟩] ((wMcl.onMcl fun x =>
      { x with store := [(engKey 3 15 * 16384, 4096)] }).setEng 3 15 EngSt.reset)).engRuns 3 15 = true
    ∧ (State.runWords 3 15 [⟨true, 0⟩] ((wMcl.onMcl fun x =>
      { x with store := [(engKey 4 3 * 16384, 2 ^ 104)] }).setEng 3 15 EngSt.reset)).engRuns 3 15 = false := by decide +kernel

/-- Both channels with their pages enabled, in this state. -/
def wDmc (st : Nat) : State := (List.range 2).foldl (fun s n =>
  (((s.put (hEN (0xE0000 + 0x1000 * n)) 1).put (hCLK_ON (0xE0000 + 0x1000 * n)) 1).put (R.DMC_STS_STATE n) st)) State.reset
theorem wit_dmc : (wDmc 1).running = true ∧ (wDmc 1).dmcState 1 = 1
    ∧ (wDmc 2).accepts dmcChecks (.core 0) (R.DMC_TRAIN_CTL 1) 0xFF71 = true ∧ (wDmc 2).flag (R.DMC_TRAIN_CTL_GO 1) = false
    ∧ (0xFF71 : Word) = BitVec.ofNat 32 (1 + 2 ^ 4 + 1 * 2 ^ 5 + 1 * 2 ^ 6 + 255 * 2 ^ 8)
    ∧ ([1, 2, 3, 4, 5, 6, 7].all fun op => let w : Word := BitVec.ofNat 32 (op + 2 ^ 4 + 1 * 2 ^ 5 + 1 * 2 ^ 6 + 255 * 2 ^ 8)
      (wDmc 2).accepts dmcChecks (.core 0) (R.DMC_TRAIN_CTL 1) w && w.bit 4
      && decide ((((wDmc 2).written (.core 0) (R.DMC_TRAIN_CTL 1) w).put (R.DMC_STS_OP_BUSY 1) 1).rd (R.DMC_TRAIN_CTL 1) = w)) = true := by decide
theorem wit_mr : (wDmc 2).flag (R.DMC_MR_CMD_GO 1) = false
    ∧ ([false, true].all fun b => let w : Word := BitVec.ofNat 32 (255 + b2n b * 2 ^ 8 + 1 * 2 ^ 9 + 1 * 2 ^ 10 + 2 ^ 11)
      (wDmc 2).accepts dmcChecks (.core 0) (R.DMC_MR_CMD 1) w && w.bit 11
      && decide ((((wDmc 2).written (.core 0) (R.DMC_MR_CMD 1) w).put (R.DMC_STS_OP_BUSY 1) 1).rd (R.DMC_MR_CMD 1) = w)) = true := by decide
theorem wit_live : (wDmc 2).accepts dmcChecks (.core 0) (R.DMC_CTL 1) 1 = true := by decide
theorem wit_fill : ((wDmc 3).put R.DMC_FILL_LEN_LEN 1).accepts dmcChecks (.core 0) R.DMC_FILL_CTL 1 = true
    ∧ ((wDmc 3).put R.DMC_FILL_CTL_GO 1).flag R.DMC_FILL_CTL_GO = true ∧ ((wDmc 3).put R.DMC_FILL_CTL_GO 1).dramOpen = true := by decide

/-- A waiting access, refresh and temperature compensation on, an ALERT that stands. -/
def wDram : State := ((List.range 2).foldl (fun s n => ((s.put (R.DMC_REF_EN n) 1).put (R.DMC_REF_TEMP_EN n) 1).put (R.DMC_REF_POST n) 4) (wDmc 3)).onMem
  fun x => { x with wait := [⟨0, 0, 64, none, false, 0⟩] }
theorem wit_dram : wDram.running = true ∧ wDram.dramOpen = true ∧ (wDmc 2).dramOpen = false ∧ (wDmc 2).dramSr = false
    ∧ (wDmc 4).dramSr = true ∧ wDram.dmcState 0 = 3 ∧ wDram.dmcState 1 = 3 ∧ wDram.flag (R.DMC_REF_EN 0) = true
    ∧ wDram.flag (R.DMC_REF_TEMP_EN 1) = true
    ∧ (wDram.mem.wait.any fun a => wDram.chOf (a.addr / 64) = 0 && wDram.rankSubOf (a.addr / 64) = 0) = true
    ∧ ((wDram.dmcSt 0).owed.find 0).getD 0 + 1 ≤ wDram.get (R.DMC_REF_POST 0)
    ∧ (wDram.mem.wait.any fun a => wDram.chOf (a.addr / 64) = 1 && wDram.rankSubOf (a.addr / 64) = 0) = false := by decide
theorem wit_dram_more : (wDram.dmcSt 1).alerts.length < 2 ∧ ((wDram.onDmc 1 fun d => { d with alert := true }).dmcSt 1).alert = true
    ∧ ((wDram.dmcSt 0).trained.find (61 + 2 ^ 6 + 2 ^ 7)).getD 0 + 16 < 17
    ∧ (wDmc 4).dmcState 0 = 4 ∧ (wDmc 4).dmcState 1 = 4 ∧ ((wDmc 4).put (R.DMC_STS_STATE 0) 3).dmcState 1 = 4 := by decide

/-- Channel 31 enabled, its ring of 4 entries in core local SRAM, with an owned FILL of one unit of core local SRAM at entry 0. -/
def wDma : State :=
  let s := (((((State.reset.put (hEN (dmaPage 31)) 1).put (hCLK_ON (dmaPage 31)) 1).put (hRUNNING (dmaPage 31)) 1).put
    (R.DMA_CFG_RING_LOG2 31) 4).put (R.DMA_CFG_RING_CORE 31) 1).put (R.DMA_TAIL_IDX 31) 1
  s.onMem fun x => { x with sram := putBytes x.sram 0 ([0x03, 0x0C, 0, 0, 64, 0, 0, 0] ++ List.replicate 8 0 ++ [0, 0x10] ++ List.replicate 6 0) }
/-- The same with that descriptor in progress, with this code. -/
def wJob (c : Option Nat) : State :=
  wDma.setDma 31 fun x => { x with active := [⟨0, Desc.ofBytes (getBytes wDma.mem.sram 0 64), c, 0, 0, false, 0, 0⟩] }
/-- A descriptor that reads 64 bytes of the host into core local SRAM, with this much of it received. -/
def wHostJob (k : Nat) : State :=
  wDma.setDma 31 fun x => { x with active := [⟨0, { Desc.ofBytes (getBytes wDma.mem.sram 0 64) with op := 0, srcT := 1, src := 64 }, none, 0, 0, false, 64, k⟩] }
theorem wit_dma_regs : wDma.running = true ∧ wDma.accepts dmaChecks (.core 0) (R.DMA_TAIL 31) 15 = true
    ∧ (wDma.put (R.DMA_CFG_MODE 31) 1).accepts dmaChecks (.core 0) (R.DMA_CTL 31) 1 = true
    ∧ ((wJob none).put (hEN (dmaPage 31)) 0).accepts dmaChecks (.core 0) (R.DMA_CTL 31) 2 = true := by decide +kernel
theorem wit_dma_trigger : (let s := ((wDma.put (R.DMA_CFG_MODE 31) 1).put (R.DMA_CFG_TRIG_EN 31) 1).setDma 31 fun x => { x with trig := 1 }
    (s.dmaSt 31).trig ≠ 0 ∧ s.dmaNvm 31 = false ∧ s.dmaMode 31 ≠ 0 ∧ s.flag (R.DMA_CFG_TRIG_EN 31) = true
    ∧ (s.dmaSt 31).released < s.ringDist 31 (s.dmaSt 31).next (s.get (R.DMA_TAIL_IDX 31))
    ∧ (s.put (R.DMA_TAIL_IDX 31) 0).ringDist 31 (s.dmaSt 31).next 0 ≤ (s.dmaSt 31).released) := by decide +kernel
theorem wit_dma_start : wDma.dmaReady 31 = true ∧ wDma.dmaNvm 31 = false ∧ wDma.dmaMode 31 = 0
    ∧ (wDma.dmaSt 31).next ≠ wDma.get (R.DMA_TAIL_IDX 31) ∧ wDma.flag (R.DMA_STS_OWN_WAIT 31) = false
    ∧ ((wDma.ringEntry 31 0).1.any fun b => (Desc.ofBytes b).own && !(wDma.ringEntry 31 0).2.descWaits 31 (Desc.ofBytes b)
        && !(wDma.ringEntry 31 0).2.bmeWaits 31 (Desc.ofBytes b) && decide (wDma.descCheck 31 (Desc.ofBytes b) = 0)) = true
    ∧ (let s := (wDma.put (R.DMA_CFG_OWNER 31) 1).setDma 31 fun x => { x with jobs := [Desc.ofBytes (getBytes wDma.mem.sram 0 64)] }
      s.dmaReady 31 = true ∧ s.dmaNvm 31 = true ∧ (s.dmaSt 31).jobs.length = 1
      ∧ s.descWaits 31 (Desc.ofBytes (getBytes wDma.mem.sram 0 64)) = false
      ∧ s.bmeWaits 31 (Desc.ofBytes (getBytes wDma.mem.sram 0 64)) = false) := by decide +kernel
theorem wit_dma_jobs : (((wJob (some 3)).dmaSt 31).active.head?.any fun j => j.code.isSome) = true
    ∧ (((wJob none).dmaSt 31).active.head?.any fun j => j.code.isNone && j.d.hostRead.isNone && !State.needsHost j.d
        && decide (((wJob none).moveLocal j.d (min (64 * 0) (j.d.len - 64))).1.code = 0)) = true
    ∧ (((wHostJob 64).dmaSt 31).active.head?.any fun j => j.code.isNone && j.d.hostRead.isSome && decide (j.recv = j.d.len)) = true := by
  decide +kernel

/-- CIPH running with a 16-byte key for encryption and decryption in slot 0. -/
def wCiph : State := ((wDmc 3).put (hCLK_ON 0xC0000) 1).onCiph fun x => { x with slots := [(0, ⟨true, false, 3, 0, 1, List.replicate 16 7⟩)] }
theorem wit_cipher : wCiph.running = true
    ∧ (let u : CiphUnit := ⟨3, .block 256 false, List.replicate 16 0, none, false⟩
      let t := (([u].filter fun u => decide (u.port < 4)).foldl (fun s u => s.ciphEnqueue u) wCiph.ciphSettle)
      t.freePipe = some 0 ∧ t.pickUnit.isSome = true ∧ (wCiph.cipher u.op u.data).1.isSome = true) := by decide +kernel
theorem wit_keys : wCiph.flag R.CIPH_KCMD_GO = false ∧ wCiph.flag R.CIPH_VCMD_GO = false
    ∧ ([0xFF4D, 0xFF3E, 0xFF07].all fun w : Nat => let v : Word := BitVec.ofNat 32 w
      let t := (wCiph.written (.core 0) R.CIPH_KCMD v).put R.CIPH_KSTS_BUSY 1
      wCiph.accepts ciphChecks (.core 0) R.CIPH_KCMD v && v.bit 2 && decide (t.rd R.CIPH_KCMD = v) && !t.ciph.writes.any (·.cmd)
        && !t.debugOpen && t.dramOpen) = true := by decide +kernel
theorem wit_vectors : (let s := wCiph.put R.CIPH_VCNT_BLOCKS 1
    [false, true].all fun dec => let v : Word := BitVec.ofNat 32 (b2n dec + 2 + 256 * 65536)
      let t := ((s.written (.core 0) R.CIPH_VCMD v).put R.CIPH_VSTS_BUSY 1).put R.CIPH_VSTS_DONE 0
      s.accepts ciphChecks (.core 0) R.CIPH_VCMD v && v.bit 1 && decide (t.rd R.CIPH_VCMD = v)
        && decide (t.refuse (t.get R.CIPH_VCMD_HANDLE) dec = 0)) = true := by decide +kernel
/-- MEM's clock running and an injection armed. -/
def wInj (staging : Nat) : State := ((State.reset.put (hCLK_ON 0xD0000) 1).put R.MEM_INJ_CTL_ARM 1).put R.MEM_INJ_CTL_TARGET staging
theorem wit_memory : ((State.reset.put (hCLK_ON 0xD0000) 1).accepts memChecks (.core 0) R.MEM_INJ_CTL 0xF) = true
    ∧ (wInj 0).readable (.core 0) (R.MEM_UE_REC_0 + 8) = true ∧ (wInj 0).readable .host R.MEM_CE_REC_0 = false
    ∧ (wInj 0).readable (.core 3) R.MEM_CE_REC_0 = true
    ∧ (wInj 1).flag R.MEM_INJ_CTL_ARM = true ∧ (wInj 1).flag R.MEM_INJ_CTL_TARGET = true ∧ (wInj 0).flag R.MEM_INJ_CTL_ARM = true
    ∧ (wInj 0).flag R.MEM_INJ_CTL_TARGET = false := by decide +kernel

/-- A record pending that has used all of its time. -/
def wFlt : State := State.reset.onFlt fun x => { x with pend := [⟨1, 10, 10, false⟩] }
theorem wit_fault : wFlt.running = true ∧ fatalKinds.contains 0x10 = true ∧ wFlt.flt.pend = [⟨1, 10, 10, false⟩]
    ∧ (wFlt.flt.pend.find? fun x => decide (x.limit ≤ x.used)).isSome = true
    ∧ ([1, 2, 3].all fun k => wFlt.accepts fltChecks (.core 3) R.FLT_FW_RAISE (BitVec.ofNat 32 (k + 4))) = true := by decide
theorem wit_fault_regs : wFlt.accepts fltChecks (.core 0) R.FLT_ACK 0 = true ∧ wFlt.accepts fltChecks (.core 0) R.FLT_CTL 1 = true
    ∧ ([FaultClass.f, .u, .c].all fun k => wFlt.accepts fltChecks (.core 0) (firstOff k) (BitVec.ofNat 32 (2 ^ 31))
      && wFlt.readable (.core 0) (firstOff k - 0x1C)) = true
    ∧ wFlt.accepts fltChecks (.core 0) R.FLT_RING_RD 255 = true ∧ wFlt.readable (.core 0) (R.FLT_REC 0) = true := by decide

/-- Reset with page CHAN_0 enabled, its clock on. -/
def wChanOn : State := (wOn [0x200000]).put (hEN 0x200000) 1
theorem wit_rejected : State.reset.running = true ∧ findPage 0x80080 = some (pageOf 0x80080)
    ∧ State.reset.serves (.core 0) (pageOf 0x60088) 0x88 = true
    ∧ firstCode (State.reset.writeCodes regChecks (.core 0) (pageOf 0x60088) 0x88 2) = some 2
    ∧ firstCode (State.reset.accessChecks (.core 0) (pageOf 0x60088) 0x88 ((pageOf 0x60088).reg 0x88) ++ [5]) = some 5 := by decide

theorem wit_host_wp : (wOn [0x80000]).debugOpen = false ∧ findPage 0x80084 = some (pageOf 0x80084) ∧ (pageOf 0x80084).row.hostWp = true
    ∧ ({ wOn [0x80000] with pci := { (wOn []).pci with cfg := [(4, 6)] } } : State).serves .host (pageOf 0x80084) 0x84 = true
    ∧ (pageOf 0x10004).row.lockable = false ∧ State.reset.serves (.core 1) (pageOf 0x10004) 4 = true ∧ Word.bit 0x100 8 = true := by decide

theorem wit_lock : (State.reset.put (hLOCK 0x60000) 1).serves (.core 0) (pageOf 0x60004) 4 = true
    ∧ ((pageOf 0x60004).reg 4).any (fun d => !d.onlyW1c) = true
    ∧ (State.reset.put (hLOCK 0x60000) 1).flag (hLOCK (pageOf 0x60004).base) = true
    ∧ 6 ∉ (State.reset.put (hLOCK 0x60000) 1).writeCodes regChecks (.core 0) (pageOf 0x60004) 4 0
    ∧ ((pageOf 0x60008).reg 8).any (fun d => d.onlyW1c) = true := by decide

theorem wit_held : wChanOn.enabled 0x200000 = true ∧ wChanOn.serves (.core 0) (pageOf 0x200084) 0x84 = true
    ∧ 6 ∉ wChanOn.writeCodes regChecks (.core 0) (pageOf 0x200084) 0x84 0
    ∧ 3 ∉ wChanOn.writeCodes regChecks (.core 0) (pageOf 0x200084) 0x84 0 := by decide
theorem wit_held_ftl : ((wOn [0x240000]).put (hEN 0x240000) 1).enabled 0x240000 = true
    ∧ ((wOn [0x240000]).put (hEN 0x240000) 1).serves (.core 3) (pageOf 0x2400C8) 0xC8 = true
    ∧ (wOn [0x240000]).serves (.core 0) (pageOf 0x2400A8) 0xA8 = true
    ∧ 4 ∉ (wOn [0x240000]).writeCodes regChecks (.core 0) (pageOf 0x2400A8) 0xA8 0x8000 := by decide
theorem wit_held_nvm : ((wOn [0x110000]).put (hEN 0x110000) 1).enabled 0x110000 = true
    ∧ ((wOn [0x110000]).put (hEN 0x110000) 1).serves (.core 0) (pageOf 0x110080) 0x80 = true
    ∧ (wOn [0x110000]).serves (.core 0) (pageOf 0x1100E0) 0xE0 = true
    ∧ 4 ∉ (wOn [0x110000]).writeCodes regChecks (.core 0) (pageOf 0x1100E0) 0xE0 0x20 := by decide

theorem wit_hs : State.reset.accepts aonChecks (.core 0) R.AON_HS_CTL 1 = false
    ∧ ({ (State.reset.wr64 R.AON_HS_CMP_LO 5) with now := 0 } : State).accepts aonChecks (.core 0) R.AON_HS_CTL 1 = true
    ∧ (State.reset.put R.AON_HS_CTL_ARM 1).count R.AON_HS_CMP_LO ≤ (State.reset.put R.AON_HS_CTL_ARM 1).hs
    ∧ (State.reset.facing (.core 0) (pageOf R.AON_HS_CTL) 0xB0).count R.AON_HS_CMP_LO
      ≤ (State.reset.facing (.core 0) (pageOf R.AON_HS_CTL) 0xB0).hs := by decide


end Slice0
end

section
/-! SUPPORT. What a pulse of an event source can change (R47 to R51): the registers of EVC and PCI.INT_STS alone. -/

namespace Sys2Proof.Machine

open Sys2Proof

/-- Steps that each leave a register as it was leave it so together. -/
theorem foldl_rd {α : Type} {o : Nat} {f : State → α → State} {l : List α}
    (h : ∀ t, ∀ x ∈ l, (f t x).rd o = t.rd o) (s : State) : (l.foldl f s).rd o = s.rd o := by
  induction l generalizing s with
  | nil => rfl
  | cons x l ih =>
    rw [List.foldl_cons, ih fun t y hy => h t y (List.mem_cons_of_mem _ hy), h s x List.mem_cons_self]

/-- A step that depends on a condition leaves a register as it was where both of its branches do. -/
theorem ite_rd {o : Nat} {c : Prop} [Decidable c] {s t u : State} (ht : t.rd o = s.rd o) (hu : u.rd o = s.rd o) :
    (if c then t else u).rd o = s.rd o := by
  split
  · exact ht
  · exact hu

@[simp] theorem State.emit_rd (s : State) (x : Out) (o : Nat) : (s.emit x).rd o = s.rd o := rfl

@[simp] theorem State.msix_rd (s : State) (vec o : Nat) : (s.msix vec).rd o = s.rd o := by
  unfold State.msix
  exact ite_rd (State.rd_congr (State.onPci_regs _ _) o) rfl

@[simp] theorem State.dmaTriggerPulse_rd (s : State) (k o : Nat) : (s.dmaTriggerPulse k).rd o = s.rd o := by
  unfold State.dmaTriggerPulse
  exact foldl_rd (fun t n _ => ite_rd (State.rd_congr (State.setDma_regs _ _ _) o) rfl) s

@[simp] theorem State.pulseOut_rd (s : State) (k o : Nat) : (s.pulseOut k).rd o = s.rd o := by
  unfold State.pulseOut
  rw [State.dmaTriggerPulse_rd, State.emit_rd]
  exact ite_rd (State.rd_congr (State.onEsc_regs _ _) o) rfl

/-- The registers that no event moves: those outside the pages of EVC, except PCI.INT_STS. -/
def outsideEvents (o : Nat) : Prop := o ≠ 0x1000A4 ∧ (o < 0x3C0000 ∨ 0x3C3000 ≤ o)

section
variable {o : Nat} (ho : outsideEvents o)
include ho

theorem intaRefresh_rd_ne (s : State) : s.intaRefresh.rd o = s.rd o := by
  have hput : ∀ mode mask inta, (((s.put R.PCI_INT_STS_MODE mode).put R.PCI_INT_STS_FN_MASK mask).put
      R.PCI_INT_STS_INTA inta).rd o = s.rd o := fun _ _ _ => by
    rw [State.rd_put_ne _ R.PCI_INT_STS_INTA ho.1, State.rd_put_ne _ R.PCI_INT_STS_FN_MASK ho.1,
      State.rd_put_ne _ R.PCI_INT_STS_MODE ho.1]
  unfold State.intaRefresh
  exact ite_rd (hput _ _ _) ((State.emit_rd _ _ o).trans (hput _ _ _))

theorem pendRef_put_rd_ne (s : State) {src : Nat} (hs : src < 640) (v : Nat) : (s.put (pendRef src) v).rd o = s.rd o := by
  have hout := ho.2
  refine State.rd_put_ne _ _ (show o ≠ 0x3C2080 + 4 * (src / 32) from ?_) _
  omega

theorem evcMessage_rd_ne (s : State) {src : Nat} (hs : src < 640) : (s.evcMessage src).rd o = s.rd o := by
  have hmsix : ∀ vec, (s.msix vec).rd o = s.rd o := fun vec => State.msix_rd s vec o
  unfold State.evcMessage
  exact ite_rd (ite_rd ((pendRef_put_rd_ne ho _ hs 0).trans (hmsix _)) (hmsix _))
    (ite_rd (intaRefresh_rd_ne ho s) (State.rd_congr (State.onEvc_regs _ _) o))

theorem pendSet_rd_ne (s : State) {src : Nat} (hs : src < 640) : (s.pendSet src).rd o = s.rd o := by
  have hput := pendRef_put_rd_ne ho s hs 1
  have hout : ∀ (c : Bool) k, (if c then (s.put (pendRef src) 1).pulseOut k else s.put (pendRef src) 1).rd o = s.rd o :=
    fun _ k => ite_rd ((State.pulseOut_rd _ k o).trans hput) hput
  unfold State.pendSet
  exact ite_rd rfl (ite_rd ((evcMessage_rd_ne ho _ hs).trans (hout _ _)) (hout _ _))

theorem globalCount_rd_ne {rec : Nat → State → State}
    (hrec : ∀ src < 640, ∀ t, (rec src t).rd o = t.rd o) (src : Nat) {k : Nat} (hk : k < 8) (s : State) :
    (s.globalCount rec src k).rd o = s.rd o := by
  have hout := ho.2
  have hcount : ∀ t : State, (t.addCount (R.EVC_GCNT_LO k) 1).rd o = t.rd o := fun t =>
    addCount_rd_ne (off := 0x3C0108 + 0x20 * k) t (by omega) (by omega) (by unfold pageOff; omega)
  have hmode : ∀ (c : Bool) (g : EvcSt → EvcSt), (if c then s.onEvc g else s).rd o = s.rd o := fun _ _ =>
    ite_rd (State.rd_congr (State.onEvc_regs _ _) o) rfl
  have hstep : ∀ (c : Bool) (g : EvcSt → EvcSt),
      ((if c then s.onEvc g else s).addCount (R.EVC_GCNT_LO k) 1).rd o = s.rd o := fun c g =>
    (hcount _).trans (hmode c g)
  unfold State.globalCount
  exact ite_rd (ite_rd rfl (ite_rd ((hrec (504 + k) (by omega) _).trans (hstep _ _)) (hstep _ _))) rfl

theorem pulseFuel_rd_ne (fuel : Nat) : ∀ src < 640, ∀ s : State, (pulseFuel fuel src s).rd o = s.rd o := by
  induction fuel with
  | zero => exact fun _ _ _ => rfl
  | succ fuel ih =>
    intro src hs s
    unfold pulseFuel
    rw [pendSet_rd_ne ho _ hs]
    exact foldl_rd (fun t k hk => globalCount_rd_ne ho ih src (List.mem_range.mp hk) t) s

/-- A pulse changes no register outside the EVC pages and PCI.INT_STS. -/
theorem pulse_rd_ne (s : State) {src : Nat} (hs : src < 640) : (s.pulse src).rd o = s.rd o :=
  pulseFuel_rd_ne ho 9 src hs s

end

end Sys2Proof.Machine
end

section
/-! SUPPORT. Accesses to BAR2 by their sizes (R34, R582): which of them are word accesses, and what a served one of 1 or
2 bytes, or one at no natural alignment, does. -/

namespace Sys2Proof.Machine

open Sys2Proof

theorem State.running_iff {s : State} : s.running = true ↔ s.flt.halt = false := by
  simp [State.running]

/-- A served access reaches its page: the host may use BAR2, the page is not the Ledger, and its gate is open. -/
theorem State.serves_iff {s : State} {r : Requester} {p : PageAt} {o : Nat} :
    s.serves r p o = true ↔
      ¬ (r = .host ∧ ((!s.memEn) = true ∨ s.pci.d3 = true)) ∧ p.row.block ≠ .ledger
        ∧ s.leaveDoze.gate p o = .served := by
  simp [State.serves, and_assoc, imp_iff_not_or]

/-- A readable offset lies in a page that serves it. -/
theorem State.readable_page {s : State} {r : Requester} {off : Nat} (h : s.readable r off = true) :
    findPage off = some (pageOf off) ∧ s.serves r (pageOf off) (off % 0x1000) = true := by
  unfold State.readable at h
  unfold pageOf
  cases hp : findPage off with
  | none => simp [hp] at h
  | some p => exact ⟨rfl, by simpa [hp] using h⟩

/-! ### Reads -/

/-- A 4-byte read at natural alignment is one word read. -/
theorem bar2Read_word (s : State) (r : Requester) {off : Nat} (h : off % 4 = 0) :
    s.bar2Read r off 4 = s.softRead regView regReadEffect r off := by
  simp [State.bar2Read, State.readWords, h]

/-- A read of 1 or 2 bytes at natural alignment is a small read. -/
theorem bar2Read_small (s : State) (r : Requester) {off size : Nat} (h : size = 1 ∨ size = 2 ∧ off % 2 = 0) :
    s.bar2Read r off size = s.smallRead r off size := by
  rcases h with rfl | ⟨rfl, h⟩
  · simp [State.bar2Read, Nat.mod_one]
  · simp [State.bar2Read, h]

/-- A served read of 1 or 2 bytes sends its bytes, and the access is counted (R582). -/
theorem smallRead_served {s : State} {r : Requester} {off : Nat} (h : s.readable r off = true) (size : Nat) :
    s.smallRead r off size
      = (s.facing r (pageOf off) (off % 0x1000)).emit (.readData r off
          ((s.facing r (pageOf off) (off % 0x1000)).peek r (pageOf off) off size)) := by
  obtain ⟨hp, hs⟩ := State.readable_page h
  obtain ⟨hhost, hledger, hgate⟩ := State.serves_iff.mp hs
  unfold State.smallRead
  rw [if_neg hhost]
  simp only [hp, if_neg hledger, hgate]
  rfl

/-- A core's read of BAR2 outside HALT, as RC_FIELD_READ carries it out. -/
theorem exec_coreRead {s : State} (hrun : s.running = true) (c : Fin 4) (off size : Nat) :
    exec (.rcFieldRead (.core c) 1 off size) s = .next (s.bar2Read (.core c) off size) := by
  rw [exec_rcFieldRead, execRcFieldRead, act_run (State.running_iff.mp hrun)]
  rfl

/-- COUNTER_PAIR_READ is the same access. -/
theorem exec_corePairRead {s : State} (hrun : s.running = true) (c : Fin 4) (off size : Nat) :
    exec (.counterPairRead (.core c) off size) s = .next (s.bar2Read (.core c) off size) := by
  rw [exec_counterPairRead, execCounterPairRead, act_run (State.running_iff.mp hrun)]
  rfl

/-! ### Writes -/

@[simp] theorem leBytes_length (n v : Nat) : (leBytes n v).length = n := by
  induction n generalizing v with
  | zero => rfl
  | succ n ih => simp [leBytes, ih]

/-- The number whose `n` little-endian bytes were taken, modulo what they hold. -/
theorem leNat_leBytes (n v : Nat) : leNat (leBytes n v) = v % 256 ^ n := by
  induction n generalizing v with
  | zero => simp [leBytes, leNat, Nat.mod_one]
  | succ n ih => rw [leBytes, leNat, ih, BitVec.toNat_ofNat, pow_succ' 256 n, Nat.mod_mul]

theorem wordsOf_leBytes (v : Word) : wordsOf 1 (leBytes 4 v.toNat) = [v] := by
  have hlen : (leBytes 4 v.toNat).take 4 = leBytes 4 v.toNat := List.take_of_length_le (leBytes_length _ _).le
  have hlt : v.toNat % 256 ^ 4 = v.toNat := Nat.mod_eq_of_lt v.isLt
  simp only [wordsOf, hlen, leNat_leBytes, hlt, BitVec.ofNat_toNat, BitVec.setWidth_eq]

/-- A 4-byte write at natural alignment is one word write. -/
theorem bar2Write_word (s : State) (r : Requester) {off : Nat} (h : off % 4 = 0) (v : Word) :
    s.bar2Write r off (leBytes 4 v.toNat) = s.softWrite regChecks regEffect r off v := by
  simp [State.bar2Write, wordsOf_leBytes, h]

/-- A write of 1 or 2 bytes, or of 4 at no natural alignment, is one that R34 does not allow. -/
theorem bar2Write_bad (s : State) (r : Requester) {off : Nat} {data : Bytes}
    (h : data.length = 1 ∨ data.length = 2 ∨ (data.length = 4 ∧ off % 4 ≠ 0)) :
    s.bar2Write r off data = s.badWrite r off := by
  have hne : data ≠ [] := by rintro rfl; simp at h
  unfold State.bar2Write
  rcases h with h | h | ⟨h, hoff⟩
  · simp [h, wordsOf, hne]
  · simp [h, wordsOf, hne]
  · simp [h, wordsOf, hoff]

/-- A write to BAR2 answers what its bytes do, and a host's also asks for a wake. -/
theorem answersWrite_bar2 {s t : State} (hrun : s.running = true) {r : Requester} {off : Nat} {data : Bytes}
    (h : s.bar2Write r off data = t) : s.answersWrite r off data t := by
  subst h
  unfold State.answersWrite
  rw [exec_registerWrite, execRegisterWrite, act_run (State.running_iff.mp hrun)]
  cases r <;> rfl

/-- A write of 1 or 2 bytes or at no natural alignment that reaches its page is counted and rejected, with code 0x05 or
one that comes before it in R9's order (R34). -/
theorem badWrite_served {s : State} {r : Requester} {off : Nat} {p : PageAt} {c : Nat} (hp : findPage off = some p)
    (hs : s.serves r p (off % 0x1000 / 4 * 4) = true)
    (hc : firstCode ((s.leaveDoze.countAccess r p).accessChecks r p (off % 0x1000 / 4 * 4)
      (p.reg (off % 0x1000 / 4 * 4)) ++ [5]) = some c) :
    s.badWrite r off = (s.leaveDoze.countAccess r p).rejectWrite p (off % 0x1000 / 4 * 4) c := by
  obtain ⟨hhost, hledger, hgate⟩ := State.serves_iff.mp hs
  unfold State.badWrite
  rw [if_neg hhost]
  simp only [hp, if_neg hledger, hgate, hc, Option.getD_some]

end Sys2Proof.Machine
end

section
/-! SUPPORT. What REJECT holds after a rejected write (R7), and which code of R9's order it is. -/

namespace Sys2Proof.Machine

open Sys2Proof

/-- The first failing code is the one in R9's order of which none before it fails. -/
theorem firstCode_eq_some_iff {codes : List Nat} {c : Nat} :
    firstCode codes = some c ↔
      ∃ before after, [6, 3, 4, 5, 2, 7, 1] = before ++ c :: after ∧ c ∈ codes ∧ ∀ j ∈ before, j ∉ codes := by
  unfold firstCode
  rw [List.find?_eq_some_iff_append]
  simp only [Bool.not_eq_true', List.contains_eq_mem, decide_eq_false_iff_not, decide_eq_true_eq]
  constructor
  · rintro ⟨hc, before, after, he, hb⟩
    exact ⟨before, after, he, hc, hb⟩
  · rintro ⟨before, after, he, hc, hb⟩
    exact ⟨hc, before, after, he, hb⟩

/-- A reject code fits the CODE field. -/
theorem firstCode_lt {codes : List Nat} {c : Nat} (h : firstCode codes = some c) : c < 2 ^ 8 :=
  (by decide : ∀ c ∈ [6, 3, 4, 5, 2, 7, 1], c < 2 ^ 8) c (List.mem_of_find?_eq_some h)

/-- A field of the same register that does not overlap the one put reads as before. -/
theorem get_put_disjoint (s : State) {off lo wd lo' wd' : Nat} (h : lo + wd ≤ 32)
    (hd : lo' + wd' ≤ lo ∨ lo + wd ≤ lo') (v : Nat) : (s.put ⟨off, lo, wd⟩ v).get ⟨off, lo', wd'⟩ = s.get ⟨off, lo', wd'⟩ := by
  unfold State.get State.put
  rw [State.rd_wr_self, Word.fld_setFld_ne _ h hd]

/-- A page's REJECT and PAGE_STS.REJ with a rejected write entered. -/
def State.enterReject (s : State) (b o c : Nat) : State :=
  (((s.put (hREJ_OFFSET b) o).put (hREJ_CODE b) c).bump (hREJ_COUNT b) 1).put (hREJ b) 1

section
variable (s : State) (b o c : Nat)

/-- PAGE_STS is another register than REJECT. -/
theorem get_put_hREJ {lo wd v : Nat} : (s.put (hREJ b) v).get ⟨b + 0xC, lo, wd⟩ = s.get ⟨b + 0xC, lo, wd⟩ :=
  State.get_put_ne _ _ _ (by simp [hREJ]) _

theorem enterReject_offset (ho : o < 2 ^ 16) : (s.enterReject b o c).get (hREJ_OFFSET b) = o := by
  unfold State.enterReject State.bump hREJ_OFFSET hREJ_CODE hREJ_COUNT
  rw [get_put_hREJ, get_put_disjoint _ (by decide) (by decide), get_put_disjoint _ (by decide) (by decide),
    State.get_put_self _ _ (by simp)]
  exact Nat.mod_eq_of_lt ho

theorem enterReject_code (hc : c < 2 ^ 8) : (s.enterReject b o c).get (hREJ_CODE b) = c := by
  unfold State.enterReject State.bump hREJ_OFFSET hREJ_CODE hREJ_COUNT
  rw [get_put_hREJ, get_put_disjoint _ (by decide) (by decide), State.get_put_self _ _ (by simp)]
  exact Nat.mod_eq_of_lt hc

theorem enterReject_count : (s.enterReject b o c).get (hREJ_COUNT b) = min 255 (s.get (hREJ_COUNT b) + 1) := by
  unfold State.enterReject State.bump hREJ_OFFSET hREJ_CODE hREJ_COUNT
  rw [get_put_hREJ, State.get_put_self _ _ (by simp), get_put_disjoint _ (by decide) (by decide),
    get_put_disjoint _ (by decide) (by decide)]
  exact Nat.mod_eq_of_lt (Nat.lt_succ_of_le (Nat.min_le_left _ _))

theorem enterReject_rd_ne {k : Nat} (h8 : k ≠ b + 8) (hC : k ≠ b + 0xC) : (s.enterReject b o c).rd k = s.rd k := by
  unfold State.enterReject State.bump
  rw [State.rd_put_ne _ (hREJ b) h8, State.rd_put_ne _ (hREJ_COUNT b) hC, State.rd_put_ne _ (hREJ_CODE b) hC,
    State.rd_put_ne _ (hREJ_OFFSET b) hC]

end

/-- An offset lies below the end of the row of the page that holds it. -/
theorem findPageIn_range {rs : List PageRow} {off : Nat} {p : PageAt} (h : findPageIn rs off = some p) :
    off < p.row.base + p.row.insts * p.row.stride := by
  induction rs with
  | nil => simp [findPageIn] at h
  | cons r rs ih =>
    unfold findPageIn at h
    split at h
    · next q hq =>
      obtain rfl : q = p := by simpa using h
      unfold PageRow.at_ at hq
      split at hq
      · next hrange =>
        split at hq
        · obtain rfl : _ = q := by simpa using hq
          exact hrange.2
        · simp at hq
      · simp at hq
    · exact ih h

/-- The page of PWR ends at 0x40000 (R29). -/
theorem findPage_pwr_lt {off : Nat} {p : PageAt} (hp : findPage off = some p) (hb : p.row.block = .pwr) :
    off < 0x40000 := by
  have hend : ∀ r ∈ pageRows, r.block = .pwr → r.base + r.insts * r.stride = 0x40000 := by decide
  have hrow : p.row ∈ pageRows := (findPageIn_base (by decide) hp).1
  exact hend _ hrow hb ▸ findPageIn_range hp

/-- A rejected write moves no more of its page than REJECT, PAGE_STS and the counters, and for a sleep request that the
state refuses PWR.STATE (R7, R395): the pulse that goes with the refusal stays within the events' registers. -/
theorem rejectWrite_rd_page (s : State) {p : PageAt} {off k c i : Nat} (hp : findPage off = some p) (hi : i < 0x1000)
    (h8 : i ≠ 8) (hcnt : i < 0x20 ∨ 0x40 ≤ i) (hstate : k = 0x80 → i ≠ 0x90) :
    (s.rejectWrite p k c).rd (p.base + i) = (s.enterReject p.base k c).rd (p.base + i) := by
  have hb := base_mod hp
  have hbase := findPage_base hp
  have hevt : ((s.enterReject p.base k c).evt p.base 2 1).rd (p.base + i) = (s.enterReject p.base k c).rd (p.base + i) :=
    evt_rd_ne _ hb (by omega) (by omega)
  unfold State.rejectWrite
  dsimp only
  split
  · next hpwr =>
    obtain ⟨hblock, hk, -⟩ := hpwr
    have hlt := findPage_pwr_lt hp hblock
    have hout : outsideEvents (p.base + i) := ⟨by omega, Or.inl (by omega)⟩
    have hne : p.base + i ≠ 0x30090 := by have := hstate hk; omega
    rw [pulse_rd_ne hout _ (by decide), State.rd_put_ne _ R.PWR_STATE_REFUSE hne]
    exact hevt
  · exact hevt

/-- REJECT records a rejected write as R7 says. -/
theorem rejectWrite_recorded (s : State) {p : PageAt} {off k c : Nat} (hp : findPage off = some p) (hk : k < 0x1000)
    (hc : c < 2 ^ 8) : s.recorded p k c (s.rejectWrite p k c) := by
  have hrej : (s.rejectWrite p k c).rd (p.base + 0xC) = (s.enterReject p.base k c).rd (p.base + 0xC) :=
    rejectWrite_rd_page s hp (by decide) (by decide) (by decide) fun _ => by decide
  have hget : ∀ lo wd, (s.rejectWrite p k c).get ⟨p.base + 0xC, lo, wd⟩
      = (s.enterReject p.base k c).get ⟨p.base + 0xC, lo, wd⟩ := fun lo wd =>
    congrArg (fun w => Word.fld w lo wd) hrej
  refine ⟨?_, ?_, ?_, fun h8 hC hcnt => ?_⟩
  · exact (hget _ _).trans (enterReject_offset s _ _ _ (by omega))
  · exact (hget _ _).trans (enterReject_code s _ _ _ hc)
  · exact (hget _ _).trans (enterReject_count s _ _ _)
  · rw [rejectWrite_rd_page s hp hk h8 hcnt (by omega), enterReject_rd_ne _ _ _ _ (by omega) (by omega)]

end Sys2Proof.Machine
end

section
/-! The obligations of 00_scope.md on accesses. -/

namespace Sys2Proof.Machine

open Sys2Proof

/-- Settles O7: a served word read is `softRead_served`, a served read of 1 or 2 bytes `smallRead_served`. -/
theorem registerReadCompletes : Obligations.RegisterReadCompletes := by
  unfold Obligations.RegisterReadCompletes
  intro s off c hrun hread
  refine ⟨fun h4 => ?_, fun size hsize => ?_⟩
  · rw [exec_coreRead hrun, exec_corePairRead hrun, bar2Read_word s _ h4, softRead_served hread]
    exact ⟨rfl, rfl⟩
  · rw [exec_coreRead hrun, bar2Read_small s _ hsize, smallRead_served hread]

/-- Settles O49: a rejected word write is `softWrite_rejected`, one that R34 does not allow `badWrite_served`, and
`rejectWrite_recorded` says what REJECT holds after either. -/
theorem rejectedWritesAreRecorded : Obligations.RejectedWritesAreRecorded := by
  unfold Obligations.RejectedWritesAreRecorded
  intro s r off p hrun hp hs
  refine ⟨fun v c h4 hfirst => ?_, fun data c hsize hfirst => ?_⟩
  · have hc := firstCode_eq_some_iff.mpr hfirst
    have ho : off % 0x1000 / 4 * 4 = off % 0x1000 := by omega
    rw [ho] at hs
    exact ⟨answersWrite_bar2 hrun ((bar2Write_word s r h4 v).trans (softWrite_rejected hp hs hc regEffect)),
      rejectWrite_recorded _ hp (Nat.mod_lt _ (by decide)) (firstCode_lt hc)⟩
  · have hc := firstCode_eq_some_iff.mpr hfirst
    exact ⟨answersWrite_bar2 hrun ((bar2Write_bad s r hsize).trans (badWrite_served hp hs hc)),
      rejectWrite_recorded _ hp (by omega) (firstCode_lt hc)⟩

end Sys2Proof.Machine
end

section
/-! SUPPORT. A word's field set to what it holds already, and one bit of a word as a field of width 1. -/

namespace Sys2Proof

/-- A field set to the number that it holds leaves the word as it was. -/
theorem Word.setFld_eq_self {w : Word} {lo wd v : Nat} (h : lo + wd ≤ 32) (hv : w.fld lo wd = v) : w.setFld lo wd v = w := by
  subst hv
  apply BitVec.eq_of_toNat_eq
  apply Nat.eq_of_testBit_eq
  intro j
  rw [Word.testBit_setFld w h, Word.testBit_fld]
  split
  · next hj => rw [Nat.add_sub_cancel' hj.1, decide_eq_true (by omega), Bool.true_and]
  · rfl

/-- The bit of a word is its field of width 1. -/
theorem Word.fld_one (w : Word) (i : Nat) : w.fld i 1 = (w.bit i).toNat := by
  rw [Word.bit, BitVec.getLsbD, Nat.toNat_testBit]
  rfl

/-- A bit that lies outside the field set reads as before. -/
theorem Word.bit_setFld_ne (w : Word) {lo wd i : Nat} (h : lo + wd ≤ 32) (hi : i < lo ∨ lo + wd ≤ i) (v : Nat) :
    (w.setFld lo wd v).bit i = w.bit i := by
  rw [Word.bit, BitVec.getLsbD, Word.testBit_setFld w h, if_neg (by omega)]
  rfl

/-- Setting a bit that is set leaves the word as it was. -/
theorem Word.setBit_eq_self {w : Word} {i : Nat} (hi : i < 32) (h : w.bit i = true) : w.setBit i = w :=
  Word.setFld_eq_self hi (by rw [Word.fld_one, h]; rfl)

/-- Clearing a bit that is clear leaves the word as it was. -/
theorem Word.clearBit_eq_self {w : Word} {i : Nat} (hi : i < 32) (h : w.bit i = false) : w.setFld i 1 0 = w :=
  Word.setFld_eq_self hi (by rw [Word.fld_one, h]; rfl)

end Sys2Proof
end

section
/-! SUPPORT. The host's writes to the registers of BAR0 (R283, R284, R320, R321): what a doorbell and a write of CC do, case
by case. -/

namespace Sys2Proof.Machine

open Sys2Proof

/-- A host access to BAR0 with Memory Space Enable and in D0 takes effect, and wakes a sleeping part (R318, R340). -/
theorem act_hostBar0 {s : State} (hrun : s.running = true) (hmem : s.memEn = true) (hd3 : s.pci.d3 = false)
    (f : State → State) : act s (fun s => s.hostBar0 f) = .next ((f s).wake 1) := by
  rw [act_run (State.running_iff.mp hrun), State.hostBar0, if_neg (by simp [hmem, hd3])]

/-! ### Doorbells -/

section
variable {s : State} {y v : Nat}

theorem sqDoorbell_inside {q : Sq} (hq : s.nvm.sqs.find y = some q) (hv : v < q.size) :
    s.sqDoorbell y v = s.setSq y { q with tail := v } := by
  simp only [State.sqDoorbell, hq, if_neg (Nat.not_le.mpr hv)]

theorem sqDoorbell_beyond {q : Sq} (hq : s.nvm.sqs.find y = some q) (hv : q.size ≤ v) :
    s.sqDoorbell y v = s.badDoorbell := by
  simp only [State.sqDoorbell, hq, if_pos hv]

theorem cqDoorbell_inside {q : Cq} (hq : s.nvm.cqs.find y = some q) (hv : v < q.size) :
    s.cqDoorbell y v = (s.setCq y { q with head := v }).intaRefresh := by
  simp only [State.cqDoorbell, hq, if_neg (Nat.not_le.mpr hv)]

theorem cqDoorbell_beyond {q : Cq} (hq : s.nvm.cqs.find y = some q) (hv : q.size ≤ v) :
    s.cqDoorbell y v = s.badDoorbell := by
  simp only [State.cqDoorbell, hq, if_pos hv]

end

/-! ### CC -/

section
variable {s : State} {cc : Word}

/-- EN going to 1 with SHN as it was enables the controller (R284). -/
theorem ccWrite_enable (hshn : cc.fld 14 2 = s.nvm.cc.fld 14 2) (hold : s.nvm.cc.bit 0 = false) (hnew : cc.bit 0 = true) :
    s.ccWrite cc = s.ccEnable cc := by
  simp [State.ccWrite, hshn, hold, hnew]

/-- EN going to 0 resets the controller (R321). -/
theorem ccWrite_reset (hold : s.nvm.cc.bit 0 = true) (hnew : cc.bit 0 = false) :
    s.ccWrite cc = ((s.onNvm fun x => { x with cc := cc }).nvmStop).pulse 161 := by
  simp [State.ccWrite, hold, hnew]

/-- SHN going to 1 or 2 while EN stays 1 starts a shutdown (R320). -/
theorem ccWrite_shutdown {k : Nat} (hold : s.nvm.cc.bit 0 = true) (hshn : s.nvm.cc.fld 14 2 = 0) (hk : k = 1 ∨ k = 2) :
    s.ccWrite (s.nvm.cc.setFld 14 2 k)
      = (((s.onNvm fun x => { x with cc := s.nvm.cc.setFld 14 2 k }).onNvm fun x => { x with shn := k }).pulse
          161).shutdownStep := by
  have hbit : (s.nvm.cc.setFld 14 2 k).bit 0 = true := by
    rw [Word.bit_setFld_ne _ (by decide) (by decide), hold]
  have hfld : (s.nvm.cc.setFld 14 2 k).fld 14 2 = k := by
    rw [Word.fld_setFld_self _ (by decide)]
    omega
  have hne : k ≠ 0 := by omega
  simp [State.ccWrite, hold, hbit, hfld, hshn, hk, hne]

end

end Sys2Proof.Machine
end

section
/-! SUPPORT. Fetching from the submission queues (R286, R292), and posting to the completion queues (R19, R287). -/

namespace Sys2Proof.Machine

open Sys2Proof

/-! ### Fetching -/

/-- A command as it is fetched from queue `q`: nothing of it has begun. -/
def fetchedCmd (q cls : Nat) (sqe ranges : Bytes) : NvmCmd :=
  ⟨q, fit 64 sqe, ranges, cls, [], 0, 0, 0, [], [], [], [], 0, none⟩

/-- The class that FTL.QCLASS gives an I/O queue (R96). -/
def State.queueClass (s : State) (q : Nat) : Nat :=
  (s.rd (R.FTL_QCLASS_CLASS0 ((q - 1) / 4)).off).fld (8 * ((q - 1) % 4)) 6

section
variable {s : State} {a : Sq} (sqe ranges : Bytes)

/-- An entry of the admin queue is fetched while fewer than 64 admin commands are held. -/
theorem sqFetch_admin (ha : s.nvm.sqs.find 0 = some a) (hstop : s.noFetch = false) (hent : a.entries ≠ 0)
    (hroom : (s.nvm.cmds.filter fun c => decide (c.2.sq = 0)).length < 64) :
    s.sqFetch (some sqe) ranges = s.fetched 0 a (fetchedCmd 0 0 sqe ranges) := by
  have hadm : a.entries ≠ 0 ∧ (s.nvm.cmds.filter fun c => decide (c.2.sq = 0)).length < 64 := ⟨hent, hroom⟩
  simp only [State.sqFetch, ha, hstop, if_pos hadm, Bool.false_eq_true, if_false, if_true]
  rfl

/-- With the admin queue empty, an entry of the I/O queue picked is fetched when its range locks have room. -/
theorem sqFetch_io {q : Nat} {x : Sq} (ha : s.nvm.sqs.find 0 = some a) (hent : a.entries = 0) (hstop : s.noFetch = false)
    (hio : s.noFetchIo = false) (hpick : s.pickSq = some q) (hq : q ≠ 0) (hx : s.nvm.sqs.find q = some x)
    (hlocks : s.locksHeld + (fetchedCmd q (s.queueClass q) sqe ranges).wants.length ≤ 4096) :
    s.sqFetch (some sqe) ranges = (s.setLevel 166 false).fetched q x (fetchedCmd q (s.queueClass q) sqe ranges) := by
  have hadm : ¬ (a.entries ≠ 0 ∧ (s.nvm.cmds.filter fun c => decide (c.2.sq = 0)).length < 64) := fun h => h.1 hent
  unfold State.sqFetch
  simp only [ha, hstop, hio, hpick, hx, if_neg hadm, if_neg hq, Bool.false_eq_true, if_false]
  exact if_neg (Nat.not_lt.mpr hlocks)

end

/-! ### Completions -/

/-- The completion entry of a command written to the tail of its queue, which moves on. -/
def State.cqeWritten (s : State) (c : NvmCmd) (q : Sq) (cq : Cq) : State :=
  let tail := (cq.tail + 1) % max 1 cq.size
  (s.hostWrite (cq.base + 16 * cq.tail) (cqeBytes c.dw0 q.head c.sq c.cid cq.phase c.status) false).setCq q.cqid
    { cq with tail := tail, phase := if tail = 0 then !cq.phase else cq.phase }

/-- A Read counted: RD_CMD, its event and its SMART counter. -/
def State.readCounted (s : State) : State := ((s.addCount R.NVM_RD_CMD_LO 1).evtB nvmPage 0x10 1).addSmart 64 1

/-- A command that has been posted leaves, and its completion queue hears of the entry. -/
def State.postEnd (s : State) (id cqid : Nat) : State :=
  ((s.cmdFree id).onNvm fun x => { x with idle := s.now }).cqPosted cqid

/-- A finished Read of an I/O queue with status 0 is posted where its completion queue has room: its entry is written, it is
counted once, and no error is. -/
theorem post_readSuccess {s : State} {id : Nat} {c : NvmCmd} {q : Sq} {cq : Cq} (hc : s.nvm.cmds.find id = some c)
    (hq : s.nvm.sqs.find c.sq = some q) (hcq : s.nvm.cqs.find q.cqid = some cq) (hstage : c.stage = 2)
    (hroom : cq.full = false) (hbus : s.busMaster = true) (hst : c.status % 2 ^ 11 = 0) (hio : c.sq ≠ 0) (hop : c.op = 2) :
    s.post id = ((s.cqeWritten c q cq).readCounted).postEnd id q.cqid := by
  have hsct : c.status / 2 ^ 8 % 8 = 0 := by omega
  have hread : c.sq ≠ 0 ∧ c.op = 2 := ⟨hio, hop⟩
  have hwrite : ¬ (c.sq ≠ 0 ∧ c.op = 1) := fun h => by omega
  have hpost : ¬ (c.stage ≠ 2 ∨ cq.full = true ∨ (!s.busMaster) = true) := by simp [hstage, hroom, hbus]
  have hnoMediaError : ¬ (0 = 0x281 ∧ c.op = 2) := by omega
  unfold State.post
  simp only [hc, hq, hcq, if_neg hpost, hst, hsct, if_pos hread, if_neg hwrite, if_neg hnoMediaError, ne_eq, not_true_eq_false,
    if_false]
  rfl

/-- The aggregation time of a queue in which completions wait is over (R287). -/
theorem coalesceEnd_due {s : State} {q : Nat} {c : Cq} (hc : s.nvm.cqs.find q = some c) (hwait : c.waiting ≠ 0)
    (hdue : c.first + 100000 * (s.feat 8 0 / 256 % 256) ≤ s.now) : s.coalesceEnd q = s.cqInterrupt q := by
  simp only [State.coalesceEnd, hc]
  exact if_pos ⟨hwait, hdue⟩

end Sys2Proof.Machine
end

section
/-! The obligation of 01_architecture.md on the NVMe queues, from one lemma per command. -/

namespace Sys2Proof.Machine

open Sys2Proof

section
variable {s : State} (hrun : s.running = true)
include hrun

section
variable (hmem : s.memEn = true) (hd3 : s.pci.d3 = false)
include hmem hd3

theorem exec_sqDoorbell_run (y : Fin 129) (v : BitVec 16) :
    exec (.sqDoorbell y v) s = .next ((((s.doorbellWake y.val).sqDoorbell y.val v.toNat).aerAll).wake 1) := by
  rw [exec_sqDoorbell, execSqDoorbell, act_hostBar0 hrun hmem hd3]

theorem exec_cqDoorbell_run (y : Fin 129) (v : BitVec 16) :
    exec (.cqDoorbell y v) s = .next (((s.cqDoorbell y.val v.toNat).aerAll).wake 1) := by
  rw [exec_cqDoorbell, execCqDoorbell, act_hostBar0 hrun hmem hd3]

theorem exec_ccEnable_run {cc : Word} (hen : cc.bit 0 = true) : exec (.ccEnable cc) s = .next ((s.ccWrite cc).wake 1) := by
  rw [exec_ccEnable, execCcEnable, act_hostBar0 hrun hmem hd3, Word.setBit_eq_self (by decide) hen]

theorem exec_controllerReset_run {cc : Word} (hen : cc.bit 0 = false) :
    exec (.controllerReset cc) s = .next ((s.ccWrite cc).wake 1) := by
  rw [exec_controllerReset, execControllerReset, act_hostBar0 hrun hmem hd3, Word.clearBit_eq_self (by decide) hen]

theorem exec_shutdownNormal_run : exec .shutdownNormal s = .next ((s.ccWrite (s.nvm.cc.setFld 14 2 1)).wake 1) := by
  rw [exec_shutdownNormal, execShutdownNormal, act_hostBar0 hrun hmem hd3]

theorem exec_shutdownAbrupt_run : exec .shutdownAbrupt s = .next ((s.ccWrite (s.nvm.cc.setFld 14 2 2)).wake 1) := by
  rw [exec_shutdownAbrupt, execShutdownAbrupt, act_hostBar0 hrun hmem hd3]

end

theorem exec_sqFetch_run (sqe : Option Bytes) (ranges : Bytes) :
    exec (.sqFetch sqe ranges) s = .next (s.sqFetch sqe ranges).settleAll := by
  rw [exec_sqFetch, execSqFetch, actAll_run (State.running_iff.mp hrun)]

theorem exec_completionPost_run (id : Nat) : exec (.completionPost id) s = .next (s.post id).settleAll := by
  rw [exec_completionPost, execCompletionPost, actAll_run (State.running_iff.mp hrun)]

theorem exec_coalescingTimeExpire_run (q : Fin 129) : exec (.coalescingTimeExpire q) s = .next (s.coalesceEnd q.val) := by
  rw [exec_coalescingTimeExpire, execCoalescingTimeExpire, act_run (State.running_iff.mp hrun)]

end

/-- Settles O30: the host's writes are doorbells inside or beyond their queue and the three changes of CC, a fetch is from the
admin queue or from the I/O queue picked, and a completion is `post_readSuccess` or `coalesceEnd_due`. -/
theorem nvmeQueueCommandsComplete : Obligations.NvmeQueueCommandsComplete := by
  unfold Obligations.NvmeQueueCommandsComplete
  intro s hrun
  refine ⟨fun hmem hd3 => ⟨fun y v => ⟨fun q hq => ?_, fun q hq => ?_⟩, fun cc hshn => ?_, fun hen hshn => ?_⟩,
    fun a sqe ranges ha hstop => ?_, fun id c q cq hc hq hcq hstage hroom hbus hst hio hop => ?_, fun q c hc hwait hdue => ?_⟩
  · rw [exec_sqDoorbell_run hrun hmem hd3]
    exact ⟨fun hv => by rw [sqDoorbell_inside hq hv], fun hv => by rw [sqDoorbell_beyond hq hv]⟩
  · rw [exec_cqDoorbell_run hrun hmem hd3]
    exact ⟨fun hv => by rw [cqDoorbell_inside hq hv], fun hv => by rw [cqDoorbell_beyond hq hv]⟩
  · refine ⟨fun hold hnew => ?_, fun hold hnew => ?_⟩
    · rw [exec_ccEnable_run hrun hmem hd3 hnew, ccWrite_enable hshn hold hnew]
    · rw [exec_controllerReset_run hrun hmem hd3 hnew, ccWrite_reset hold hnew]
  · rw [exec_shutdownNormal_run hrun hmem hd3, exec_shutdownAbrupt_run hrun hmem hd3,
      ccWrite_shutdown hen hshn (.inl rfl), ccWrite_shutdown hen hshn (.inr rfl)]
    exact ⟨rfl, rfl⟩
  · rw [exec_sqFetch_run hrun]
    refine ⟨fun hent hadm => ?_, fun q x hent hstopIo hpick hq hx hlocks => ?_⟩
    · rw [sqFetch_admin sqe ranges ha hstop hent hadm]
      rfl
    · rw [sqFetch_io sqe ranges ha hent hstop hstopIo hpick hq hx hlocks]
      rfl
  · rw [exec_completionPost_run hrun, post_readSuccess hc hq hcq hstage hroom hbus hst hio hop]
    rfl
  · rw [exec_coalescingTimeExpire_run hrun, coalesceEnd_due hc hwait hdue]

end Sys2Proof.Machine
end

section
/-! SUPPORT. A flag after a field was put. -/

namespace Sys2Proof.Machine

open Sys2Proof

/-- A one-bit field that was put to 1 reads true. -/
theorem flag_put_one (s : State) {off lo : Nat} (h : lo < 32) : (s.put ⟨off, lo, 1⟩ 1).flag ⟨off, lo, 1⟩ = true := by
  simp [State.flag, State.get_put_self s ⟨off, lo, 1⟩ h]

/-- A flag of another register reads as before. -/
theorem flag_put_ne (s : State) {f g : FRef} (h : g.off ≠ f.off) (v : Nat) : (s.put f v).flag g = s.flag g := by
  unfold State.flag
  rw [State.get_put_ne s f g h]

end Sys2Proof.Machine
end

section
/-! SUPPORT. What an event of a source does (R47 to R51): a pulse that no global counter counts, and what no pulse, level or
page counter moves. -/

namespace Sys2Proof.Machine

open Sys2Proof

/-! ### What no event moves -/

/-- The state with everything that an event may move left out: the registers, the hidden state of EVC, PCI, DMA and ESC, and
what has been sent outwards.  Two states that agree so differ in nothing else. -/
def State.eventless (s : State) : State :=
  { s with
    regs := []
    evc := State.reset.evc
    pci := State.reset.pci
    dma := []
    esc := State.reset.esc
    out := [] }

section
variable (s : State)

@[simp] theorem State.wr_eventless (off : Nat) (w : Word) : (s.wr off w).eventless = s.eventless := rfl
@[simp] theorem State.put_eventless (f : FRef) (v : Nat) : (s.put f v).eventless = s.eventless := rfl
@[simp] theorem State.wr64_eventless (off v : Nat) : (s.wr64 off v).eventless = s.eventless := rfl
@[simp] theorem State.emit_eventless (x : Out) : (s.emit x).eventless = s.eventless := rfl
@[simp] theorem State.onEvc_eventless (g : EvcSt → EvcSt) : (s.onEvc g).eventless = s.eventless := rfl
@[simp] theorem State.onPci_eventless (g : PciSt → PciSt) : (s.onPci g).eventless = s.eventless := rfl
@[simp] theorem State.onEsc_eventless (g : EscSt → EscSt) : (s.onEsc g).eventless = s.eventless := rfl
@[simp] theorem State.setDma_eventless (n : Nat) (g : DmaSt → DmaSt) : (s.setDma n g).eventless = s.eventless := rfl

/-- Steps that each keep what no event moves keep it together. -/
theorem foldl_eventless {α : Type} {f : State → α → State} (h : ∀ t x, (f t x).eventless = t.eventless) (l : List α) :
    (l.foldl f s).eventless = s.eventless := by
  induction l generalizing s with
  | nil => rfl
  | cons x l ih => rw [List.foldl_cons, ih, h]

/-- A step that depends on a condition keeps what no event moves where both of its branches do. -/
theorem ite_eventless {c : Prop} [Decidable c] {t u : State} (ht : t.eventless = s.eventless) (hu : u.eventless = s.eventless) :
    (if c then t else u).eventless = s.eventless := by
  split
  · exact ht
  · exact hu

@[simp] theorem State.addCount_eventless (off n : Nat) : (s.addCount off n).eventless = s.eventless := by
  have hcount : ∀ v, (s.wr64 off v).eventless = s.eventless := s.wr64_eventless off
  exact ite_eventless s (hcount _) ((State.put_eventless _ _ _).trans (hcount _))

@[simp] theorem State.evt_eventless (p val n : Nat) : (s.evt p val n).eventless = s.eventless := by
  refine foldl_eventless s (fun t i => ?_) _
  unfold State.evtOne
  split_ifs <;> simp

@[simp] theorem State.evtB_eventless (b val n : Nat) : (s.evtB b val n).eventless = s.eventless := by
  unfold State.evtB
  split
  · rfl
  · exact foldl_eventless s (fun t q => t.evt_eventless q val n) _

@[simp] theorem State.msix_eventless (vec : Nat) : (s.msix vec).eventless = s.eventless := by
  unfold State.msix State.sendMsix
  split <;> simp

@[simp] theorem State.intaRefresh_eventless : s.intaRefresh.eventless = s.eventless := by
  unfold State.intaRefresh
  refine ite_eventless s ?_ ?_ <;> simp

@[simp] theorem State.evcMessage_eventless (src : Nat) : (s.evcMessage src).eventless = s.eventless := by
  unfold State.evcMessage
  dsimp only
  split_ifs <;> simp

@[simp] theorem State.pulseOut_eventless (k : Nat) : (s.pulseOut k).eventless = s.eventless := by
  have htrigger : ∀ t : State, (t.dmaTriggerPulse k).eventless = t.eventless := fun t => by
    refine foldl_eventless t (fun t n => ?_) _
    split <;> simp
  unfold State.pulseOut
  rw [htrigger, State.emit_eventless]
  split <;> simp

@[simp] theorem State.pendSet_eventless (src : Nat) : (s.pendSet src).eventless = s.eventless := by
  unfold State.pendSet
  dsimp only
  split_ifs <;> simp

theorem globalCount_eventless {rec : Nat → State → State} (hrec : ∀ src t, (rec src t).eventless = t.eventless) (src k : Nat) :
    (s.globalCount rec src k).eventless = s.eventless := by
  unfold State.globalCount
  dsimp only
  split_ifs <;> simp [hrec]

theorem pulseFuel_eventless (fuel src : Nat) : (pulseFuel fuel src s).eventless = s.eventless := by
  induction fuel generalizing src s with
  | zero => rfl
  | succ fuel ih =>
    unfold pulseFuel
    rw [State.pendSet_eventless]
    exact foldl_eventless s (fun t k => globalCount_eventless t (fun src t => ih t src) src k) _

/-- A pulse moves nothing but the registers, the hidden state of EVC, PCI, DMA and ESC, and what goes outwards. -/
@[simp] theorem State.pulse_eventless (src : Nat) : (s.pulse src).eventless = s.eventless := pulseFuel_eventless s 9 src

@[simp] theorem State.setLevel_eventless (src : Nat) (on : Bool) : (s.setLevel src on).eventless = s.eventless := by
  unfold State.setLevel
  dsimp only
  split_ifs <;> simp

end

/-! ### Pulses that no global counter counts -/

section
variable {s : State}

theorem globalCount_off {rec : Nat → State → State} {src k : Nat} (h : s.flag (R.EVC_GCNT_SEL_EN k) = false) :
    s.globalCount rec src k = s :=
  if_neg fun hsel => by simp [h] at hsel

/-- A pulse that no global counter counts is the setting of the source's pending bit. -/
theorem pulse_uncounted (h : ∀ k < 8, s.flag (R.EVC_GCNT_SEL_EN k) = false) (src : Nat) : s.pulse src = s.pendSet src := by
  have hcount : ∀ rec, (List.range 8).foldl (fun t k => t.globalCount rec src k) s = s := fun rec =>
    List.foldlRecOn (motive := (· = s)) _ _ rfl fun t ht k hk => by
      rw [ht, globalCount_off (h k (List.mem_range.mp hk))]
  unfold State.pulse pulseFuel
  dsimp only
  rw [hcount]

/-- A pending bit that is 1 already merges the event (R47). -/
theorem pendSet_merged {src : Nat} (h : s.flag (pendRef src) = true) : s.pendSet src = s := if_pos h

/-- Where the route gives neither a message nor an output pulse, a pending bit sets and nothing else happens (R47). -/
theorem pendSet_silent {src : Nat} (hsrc : src < 640) (h : s.flag (pendRef src) = false) (hpulse : s.flag (R.EVC_ROUTE_PULSE_EN src) = false)
    (hvec : s.flag (R.EVC_ROUTE_VEC_EN src) = false) : s.pendSet src = s.put (pendRef src) 1 := by
  have hne : ∀ lo wd, (⟨0x3c1080 + 4 * src, lo, wd⟩ : FRef).off ≠ (pendRef src).off := fun _ _ =>
    show 0x3c1080 + 4 * src ≠ 0x3c2080 + 4 * (src / 32) by omega
  have hpulse' := (flag_put_ne s (hne 20 1) 1).trans hpulse
  have hvec' := (flag_put_ne s (hne 8 1) 1).trans hvec
  simp [State.pendSet, h, hpulse', hvec']

end

end Sys2Proof.Machine
end

section
/-! SUPPORT. What accepted writes to the EVC pages do beyond their fields (R46, R47, R51). -/

namespace Sys2Proof.Machine

open Sys2Proof

section
variable {s : State} {r : Requester} {p : PageAt} {old v : Word}

theorem evcEffect_swRaise (hp : p.page = 0) : evcEffect s r p 0x300 old v = s.pulse (512 + v.fld 0 7) := by
  simp [evcEffect, hp]

theorem evcEffect_snap (hp : p.page = 0) (hv : v.bit 0 = true) : evcEffect s r p 0x80 old v = s.snapshot := by
  simp [evcEffect, hp, hv]

theorem evcEffect_pend {w : Nat} (hp : p.page = 2) (hw : w < 20) :
    evcEffect s r p (0x80 + 4 * w) old v = (s.repend w (old &&& v)).intaRefresh := by
  have hrange : 0x80 + 4 * w < 0xD0 := by omega
  simp [evcEffect, hp, hrange]

end

/-- The index written to SW_RAISE lies in its low bits. -/
theorem fld_ofNat_low {i : Nat} (h : i < 128) : Word.fld (BitVec.ofNat 32 i) 0 7 = i := by
  rw [Word.fld, BitVec.toNat_ofNat]
  omega

/-- PEND_0 to PEND_19 lie in page 2 of EVC. -/
theorem pageOf_pend : ∀ w : Fin 20, (pageOf (R.EVC_PEND w.val)).page = 2 := by decide

end Sys2Proof.Machine
end

section
/-! The obligations of 02_register_pages.md on events. -/

namespace Sys2Proof.Machine

open Sys2Proof

/-- Settles O11: `pulse_eventless` says that a pulse keeps every hidden part but those of EVC, PCI, DMA and ESC, and
`pulse_rd_ne` that it keeps the registers outside the events' own. -/
theorem pulseFrame : Obligations.PulseFrame := by
  unfold Obligations.PulseFrame
  intro s src hsrc
  have hkeep {α : Type} (g : State → α) : g (s.pulse src).eventless = g s.eventless := congrArg g (s.pulse_eventless src)
  exact ⟨hkeep State.mem,
    ⟨hkeep State.chan, hkeep State.ftl, hkeep State.plj, hkeep State.rdp, hkeep State.done⟩,
    ⟨hkeep State.nvm, hkeep State.ist, hkeep State.tgn, hkeep State.net⟩,
    hkeep State.flt, hkeep State.pwr, hkeep State.rail, hkeep State.mcl, hkeep State.boot, hkeep State.ciph, hkeep State.dmc,
    hkeep State.sys, hkeep State.now, hkeep State.pending,
    fun _ hInt hEvc => pulse_rd_ne ⟨hInt, hEvc⟩ s hsrc⟩

/-- Settles O10: a pulse that no global counter counts is `pendSet`, which merges into a pending bit that is 1 and otherwise
sets it. -/
theorem pendingBitRules : Obligations.PendingBitRules := by
  unfold Obligations.PendingBitRules
  intro s src hsrc hcount
  rw [pulse_uncounted hcount]
  refine ⟨pendSet_merged, fun hpend hpulse hvec => ?_⟩
  rw [pendSet_silent hsrc hpend hpulse hvec]
  exact ⟨rfl, flag_put_one s (Nat.mod_lt _ (by decide))⟩

/-- Settles O9: a raised source is a pulse or a level, and each accepted write is `softWrite_accepted` with what its register
of EVC does. -/
theorem eventCommandsComplete : Obligations.EventCommandsComplete := by
  unfold Obligations.EventCommandsComplete
  intro s hrun
  have hhalt := State.running_iff.mp hrun
  refine ⟨fun src hpulse => ?_, fun src on hlevel => ?_, fun r i hacc => ?_, fun r hacc => ?_, fun r w v hacc => ?_⟩
  · rw [exec_eventRaise, execEventRaise, act_run hhalt]
    simp only [hpulse, if_true, Bool.false_eq_true, if_false]
  · rw [exec_eventRaise, execEventRaise, act_run hhalt, if_pos hlevel]
  · have hpage : (pageOf R.EVC_SW_RAISE).page = 0 := by decide
    have hoff : R.EVC_SW_RAISE % 0x1000 = 0x300 := rfl
    rw [exec_swRaise, execSwRaise, act_run hhalt, softWrite_accepted hacc, hoff, evcEffect_swRaise hpage, fld_ofNat_low i.isLt]
  · have hpage : (pageOf R.EVC_EVC_CTL).page = 0 := by decide
    have hoff : R.EVC_EVC_CTL % 0x1000 = 0x80 := rfl
    rw [exec_snap, execSnap, act_run hhalt, softWrite_accepted hacc, hoff, evcEffect_snap hpage rfl]
  · have hoff : R.EVC_PEND w.val % 0x1000 = 0x80 + 4 * w.val := by
      show (0x3c2080 + 4 * w.val) % 0x1000 = _
      omega
    rw [exec_pendClear, execPendClear, act_run hhalt, softWrite_accepted hacc, hoff, evcEffect_pend (pageOf_pend w) w.isLt]

end Sys2Proof.Machine
end

section
/-! SUPPORT. Discarded accesses (R30, R36). -/

namespace Sys2Proof.Machine

open Sys2Proof

section
variable {s : State} {c : Fin 4} {off : Nat} {v : Word} (chk : Checks) (eff : Effect)

theorem softWrite_unmapped (hp : findPage off = none) :
    State.softWrite chk eff (.core c) off v s = s.leaveDoze.deadAccess (.core c) off true 1 := by
  simp [State.softWrite, hp]

variable {p : PageAt} (hp : findPage off = some p)
include hp

theorem softWrite_ledger (hb : p.row.block = .ledger) :
    State.softWrite chk eff (.core c) off v s = s.leaveDoze.deadAccess (.core c) off true 2 := by
  simp [State.softWrite, hp, hb]

theorem softWrite_dead (hb : p.row.block ≠ .ledger) (hg : s.leaveDoze.gate p (off % 0x1000) = .dead) :
    State.softWrite chk eff (.core c) off v s = s.leaveDoze.deadAccess (.core c) off true 0 := by
  simp [State.softWrite, hp, hb, hg]

end

/-- An access is dead while the device is awake and the page's domain is off for good (R36). -/
theorem gate_dead_iff {s : State} {p : PageAt} {o : Nat} :
    s.gate p o = .dead ↔ s.cur < 2 ∧ s.domSts p.domain = false ∧ s.domOn p.domain = false := by
  unfold State.gate
  by_cases hcur : 2 ≤ s.cur
  · simp [hcur, Nat.not_lt.mpr hcur]
  · simp only [ge_iff_le, hcur, if_false]
    split_ifs <;> simp_all

section
variable (s : State)

/-- The end of DOZE changes no register but PWR.STATE. -/
theorem leaveDoze_rd_ne {o : Nat} (h : o ≠ 0x30090) : s.leaveDoze.rd o = s.rd o := by
  unfold State.leaveDoze
  exact ite_rd (State.rd_put_ne s R.PWR_STATE_CUR h 0) rfl

theorem leaveDoze_domSts (d : Nat) : s.leaveDoze.domSts d = s.domSts d := by
  unfold State.domSts State.fbit State.get
  rw [leaveDoze_rd_ne s (show 0x300b8 + 4 * (d / 32) ≠ 0x30090 by omega)]

theorem leaveDoze_domOn (d : Nat) : s.leaveDoze.domOn d = s.domOn d := by
  unfold State.domOn State.fbit State.get
  rw [leaveDoze_rd_ne s (show 0x300b0 + 4 * (d / 32) ≠ 0x30090 by omega)]

theorem leaveDoze_cur_lt (h : s.cur < 2) : s.leaveDoze.cur < 2 := by
  unfold State.leaveDoze
  split
  · rw [State.cur, State.get_put_self s _ (by decide)]
    decide
  · exact h

/-- What is dead in DOZE is dead after it. -/
theorem leaveDoze_gate_dead {p : PageAt} {o : Nat} (h : s.gate p o = .dead) : s.leaveDoze.gate p o = .dead := by
  rw [gate_dead_iff] at h ⊢
  rw [leaveDoze_domSts, leaveDoze_domOn]
  exact ⟨leaveDoze_cur_lt s h.1, h.2⟩

variable (r : Requester) (off : Nat) (write : Bool)

theorem deadAccess_kind {kind : Nat} (h : kind < 4) : (s.deadAccess r off write kind).get R.SYS_DEAD_ACC_KIND = kind := by
  unfold State.deadAccess State.bump
  rw [State.get_put_ne _ _ _ (by decide), State.get_put_self _ _ (by decide)]
  exact Nat.mod_eq_of_lt h

theorem deadAccess_offset (kind : Nat) : (s.deadAccess r off write kind).get R.SYS_DEAD_ACC_OFFSET = off % 2 ^ 26 := by
  unfold State.deadAccess State.bump
  rw [State.get_put_ne _ _ _ (by decide), get_put_disjoint _ (by decide) (by decide), get_put_disjoint _ (by decide) (by decide),
    get_put_disjoint _ (by decide) (by decide), State.get_put_self _ _ (by decide)]

theorem deadAccess_count (kind : Nat) :
    (s.deadAccess r off write kind).get R.SYS_DEAD_CNT_CNT = satAdd (2 ^ 32 - 1) (s.get R.SYS_DEAD_CNT_CNT) 1 := by
  unfold State.deadAccess State.bump
  rw [State.get_put_self _ _ (by decide), State.get_put_ne _ _ _ (by decide), State.get_put_ne _ _ _ (by decide),
    State.get_put_ne _ _ _ (by decide), State.get_put_ne _ _ _ (by decide)]
  exact Nat.mod_eq_of_lt (Nat.lt_succ_of_le (Nat.min_le_left _ _))

end

/-- A core's word write that R36 discards, as DEAD_ACCESS carries it out. -/
theorem exec_deadWordWrite {s : State} (hrun : s.running = true) {off : Nat} (c : Fin 4) (h4 : off % 4 = 0)
    (hdead : s.isDead off 4 true = true) :
    exec (.deadAccess (.core c) off 4 true) s = .next (s.softWrite regChecks regEffect (.core c) off 0) := by
  rw [exec_deadAccess, execDeadAccess, act_run (State.running_iff.mp hrun)]
  simp only [hdead, if_true]
  exact congrArg _ (bar2Write_word s (.core c) h4 0)

end Sys2Proof.Machine
end

section
/-! The obligations of 02_register_pages.md on accesses and PAGE_CTL. -/

namespace Sys2Proof.Machine

open Sys2Proof

/-- Settles O8: each of the three accesses is one that R36 discards, and `softWrite` records it with its kind. -/
theorem deadAccessesAreRecorded : Obligations.DeadAccessesAreRecorded := by
  unfold Obligations.DeadAccessesAreRecorded
  intro s off c hrun h4
  refine ⟨fun hp => ?_, fun p hp hb => ?_, fun p hp hb hg => ?_, deadAccess_kind _ _ _ _ (by decide), deadAccess_offset _ _ _ _ _,
    deadAccess_count _ _ _ _ _⟩
  · rw [exec_deadWordWrite hrun c h4 (by simp [State.isDead, hp]), softWrite_unmapped _ _ hp]
  · rw [exec_deadWordWrite hrun c h4 (by simp [State.isDead, hp, hb]), softWrite_ledger _ _ hp hb]
  · rw [exec_deadWordWrite hrun c h4 (by simp [State.isDead, hp, hb, hg]), softWrite_dead _ _ hp hb (leaveDoze_gate_dead s hg)]

/-- Settles O15: the three commands are word writes of PAGE_CTL, and an accepted one is `softWrite_accepted`. -/
theorem pageControlCommandsComplete : Obligations.PageControlCommandsComplete := by
  unfold Obligations.PageControlCommandsComplete
  intro s r page v hrun
  have hhalt := State.running_iff.mp hrun
  have hoff : (0x1000 * page.val + 4) % 0x1000 = 4 := by omega
  have hwrite : ∀ w, s.accepts regChecks r (0x1000 * page.val + 4) w = true →
      State.softWrite regChecks regEffect r (0x1000 * page.val + 4) w s
        = regEffect (s.written r (0x1000 * page.val + 4) w) r (pageOf (0x1000 * page.val + 4)) 4
          (s.wordBefore r (0x1000 * page.val + 4)) w := fun w hacc => by
    rw [softWrite_accepted hacc, hoff]
  refine ⟨fun hacc => ?_, fun hacc => ?_, fun hacc => ?_⟩
  · rw [exec_pageEnable, execPageEnable, act_run hhalt, hwrite _ hacc]
  · rw [exec_pageDisable, execPageDisable, act_run hhalt, hwrite _ hacc]
  · rw [exec_pageLock, execPageLock, act_run hhalt, hwrite _ hacc]

end Sys2Proof.Machine
end

section
/-! SUPPORT. Which codes a write fails with (R8, R9, R43, R44): the checks that give 0x06 and 0x03, and the first one's record. -/

namespace Sys2Proof.Machine

open Sys2Proof

theorem mem_failIf {j c : Nat} {b : Bool} : j ∈ failIf b c ↔ b = true ∧ j = c := by
  cases b <;> simp [failIf]

/-! ### The first failing code -/

section
variable {codes : List Nat}

/-- Code 0x06 comes before every other (R9). -/
theorem firstCode_six (h : 6 ∈ codes) : firstCode codes = some 6 :=
  firstCode_eq_some_iff.mpr ⟨[], [3, 4, 5, 2, 7, 1], rfl, h, by simp⟩

/-- Code 0x03 comes next (R9). -/
theorem firstCode_three (h6 : 6 ∉ codes) (h : 3 ∈ codes) : firstCode codes = some 3 :=
  firstCode_eq_some_iff.mpr ⟨[6], [4, 5, 2, 7, 1], rfl, h, by simpa using h6⟩

/-- A write that fails with code 0x01 has a first failing code. -/
theorem firstCode_of_one (h : 1 ∈ codes) : ∃ c, firstCode codes = some c :=
  Option.isSome_iff_exists.mp (List.find?_isSome.mpr ⟨1, by decide, by simpa using h⟩)

end

/-- A word write that its page serves and rejects answers the state with the rejection recorded (R7). -/
theorem answersWrite_rejected {s : State} (hrun : s.running = true) {r : Requester} {off : Nat} {v : Word} {p : PageAt} {c : Nat}
    (h4 : off % 4 = 0) (hp : findPage off = some p) (hs : s.serves r p (off % 0x1000) = true)
    (hc : firstCode (s.writeCodes regChecks r p (off % 0x1000) v) = some c) :
    s.answersWrite r off (leBytes 4 v.toNat) ((s.facing r p (off % 0x1000)).rejectWrite p (off % 0x1000) c) :=
  answersWrite_bar2 hrun ((bar2Write_word s r h4 v).trans (softWrite_rejected hp hs hc regEffect))

/-! ### Code 0x06 -/

/-- The checks of a header register's value give no code 0x06. -/
theorem six_notMem_headerChecks (s : State) (p : PageAt) (o : Nat) (v : Word) : 6 ∉ s.headerChecks p o v := by
  unfold State.headerChecks
  split_ifs <;> simp [mem_failIf]

/-- Nor do the checks that follow from the register table. -/
theorem six_notMem_tableChecks (p : PageAt) (o : Nat) (d : Option RegDesc) (v : Word) : 6 ∉ tableChecks p o d v := by
  simp [tableChecks, mem_failIf]

theorem six_notMem_pageChecks (s : State) (r : Requester) (p : PageAt) (o : Nat) (v : Word) : 6 ∉ pageChecks s r p o v := by
  simp [pageChecks, mem_failIf]

section
variable (s : State) (r : Requester) (p : PageAt) (o : Nat) (v : Word)

theorem six_notMem_bootChecks : 6 ∉ bootChecks s r p o v := by
  unfold bootChecks
  split_ifs <;> simp [mem_failIf]

theorem six_notMem_mclChecks : 6 ∉ mclChecks s r p o v := by
  unfold mclChecks
  dsimp only
  split_ifs <;> simp [mem_failIf]

theorem six_notMem_ciphChecks : 6 ∉ ciphChecks s r p o v := by
  unfold ciphChecks
  split_ifs <;> simp [mem_failIf]

theorem six_notMem_memChecks : 6 ∉ memChecks s r p o v := by
  unfold memChecks
  dsimp only
  split_ifs <;> simp [mem_failIf]

end

/-- The pages with HOST_WP are those of BOOT, MCL, CIPH and MEM (R29). -/
theorem hostWp_block {off : Nat} {p : PageAt} (hp : findPage off = some p) (hwp : p.row.hostWp = true) :
    p.row.block = .boot ∨ p.row.block = .mcl ∨ p.row.block = .ciph ∨ p.row.block = .mem := by
  have hrows : ∀ row ∈ pageRows, row.hostWp = true →
      row.block = .boot ∨ row.block = .mcl ∨ row.block = .ciph ∨ row.block = .mem := by decide
  exact hrows _ (findPageIn_base (by decide) hp).1 hwp

/-- The own checks of a page with HOST_WP give no code 0x06. -/
theorem six_notMem_regChecks (s : State) (r : Requester) {off : Nat} {p : PageAt} (hp : findPage off = some p)
    (hwp : p.row.hostWp = true) (o : Nat) (v : Word) : 6 ∉ regChecks s r p o v := by
  have hblock : 6 ∉ blockChecks p.row.block s r p o v := by
    rcases hostWp_block hp hwp with h | h | h | h <;> rw [h]
    · exact six_notMem_bootChecks s r p o v
    · exact six_notMem_mclChecks s r p o v
    · exact six_notMem_ciphChecks s r p o v
    · exact six_notMem_memChecks s r p o v
  exact fun h => (List.mem_append.mp h).elim hblock (six_notMem_pageChecks s r p o v)

/-- The security state keeps out no core (R44). -/
theorem six_notMem_accessChecks_core (s : State) (c : Fin 4) (p : PageAt) (o : Nat) (d : Option RegDesc) :
    6 ∉ s.accessChecks (.core c) p o d := by
  simp [State.accessChecks, mem_failIf]

/-- No write of a core to a page with HOST_WP fails with code 0x06. -/
theorem six_notMem_writeCodes_core (s : State) (c : Fin 4) {off : Nat} {p : PageAt} (hp : findPage off = some p)
    (hwp : p.row.hostWp = true) (o : Nat) (v : Word) : 6 ∉ s.writeCodes regChecks (.core c) p o v := by
  have hown : ∀ t, 6 ∉ if 0x80 ≤ o ∨ o = 4 then regChecks t (.core c) p o v else [] := fun t => by
    split
    · exact six_notMem_regChecks t _ hp hwp o v
    · simp
  unfold State.writeCodes
  simp only [List.mem_append, six_notMem_accessChecks_core, six_notMem_headerChecks, six_notMem_tableChecks, hown, or_self,
    not_false_eq_true]

/-- A code of the access checks is one of the write's (R9). -/
theorem mem_writeCodes_of_access {s : State} {chk : Checks} {r : Requester} {p : PageAt} {o j : Nat} {v : Word}
    (h : j ∈ (s.facing r p o).accessChecks r p o (p.reg o)) : j ∈ s.writeCodes chk r p o v := by
  simp [State.writeCodes, h]

/-- The access itself does not move the security state. -/
theorem facing_debugOpen (s : State) (r : Requester) {off k : Nat} {p : PageAt} (hp : findPage off = some p) :
    (s.facing r p k).debugOpen = s.debugOpen := by
  have hb := base_mod hp
  have hrd : (s.facing r p k).rd 0x80080 = s.rd 0x80080 := facing_rd_ne s hp (by decide) (by omega) (by omega)
  unfold State.debugOpen State.get
  rw [hrd]

/-- Outside debug-open a host's write to a page with HOST_WP fails with code 0x06, whatever its value (R44). -/
theorem six_mem_writeCodes_host {s : State} {chk : Checks} {off : Nat} {p : PageAt} (hp : findPage off = some p)
    (hwp : p.row.hostWp = true) (hdbg : s.debugOpen = false) (o : Nat) (v : Word) : 6 ∈ s.writeCodes chk .host p o v := by
  have hopen := (facing_debugOpen s .host (k := o) hp).trans hdbg
  exact mem_writeCodes_of_access (by simp [State.accessChecks, mem_failIf, hwp, hopen])

/-- A write that sets LOCK of a page without LOCKABLE fails with code 0x01 (R44). -/
theorem one_mem_writeCodes_lock {s : State} {chk : Checks} {r : Requester} {p : PageAt} {v : Word} (hlock : p.row.lockable = false)
    (hv : v.bit 8 = true) : 1 ∈ s.writeCodes chk r p 4 v := by
  simp [State.writeCodes, State.headerChecks, mem_failIf, hlock, hv]

/-! ### Code 0x03 -/

/-- The access itself does not move a page's LOCK. -/
theorem facing_lock (s : State) (r : Requester) {off k : Nat} {p : PageAt} (hp : findPage off = some p) :
    (s.facing r p k).rd (p.base + 4) = s.rd (p.base + 4) := by
  have hb := base_mod hp
  exact facing_rd_ne s hp (show p.base + 4 ≠ 0x30090 by omega) (by omega) (by omega)

/-- A locked page's register with a writable field of another kind than W1C is kept from every write (R43). -/
theorem three_mem_accessChecks {s : State} {r : Requester} {p : PageAt} {o : Nat} {d : RegDesc}
    (hlock : s.flag (hLOCK p.base) = true) (hd : d.onlyW1c = false) : 3 ∈ s.accessChecks r p o (some d) := by
  simp [State.accessChecks, mem_failIf, hlock, hd]

/-- The lock keeps no write from a register of which every writable field is W1C (R43). -/
theorem three_notMem_accessChecks {s : State} {r : Requester} {p : PageAt} {o : Nat} {d : RegDesc} (hd : d.onlyW1c = true) :
    3 ∉ s.accessChecks r p o (some d) := by
  simp [State.accessChecks, mem_failIf, hd]

/-- PAGE_CTL has writable fields of another kind than W1C. -/
theorem pageCtl_onlyW1c {p : PageAt} {d : RegDesc} (h : p.reg 4 = some d) : d.onlyW1c = false := by
  have hctl : ∀ d, headerRegs.find? (fun d => d.covers 4) = some d → d.onlyW1c = false := by
    rintro _ ⟨⟩
    decide
  unfold PageAt.reg at h
  split_ifs at h
  · exact hctl d h
  · omega

/-- A rejected write of PAGE_CTL leaves LOCK as it was. -/
theorem rejectWrite_lock (s : State) (r : Requester) {off c : Nat} {p : PageAt} (hp : findPage off = some p) :
    ((s.facing r p 4).rejectWrite p 4 c).flag (hLOCK p.base) = s.flag (hLOCK p.base) := by
  have hrd : ((s.facing r p 4).rejectWrite p 4 c).rd (p.base + 4) = s.rd (p.base + 4) := by
    rw [rejectWrite_rd_page _ hp (by decide) (by decide) (by decide) (by decide), enterReject_rd_ne _ _ _ _ (by omega) (by omega),
      facing_lock s r hp]
  unfold State.flag State.get hLOCK
  rw [hrd]

end Sys2Proof.Machine
end

section
/-! The obligations of 02_register_pages.md on write protection and locks. -/

namespace Sys2Proof.Machine

open Sys2Proof

/-- Settles O50: HOST_WP gives code 0x06, which comes first, to the host and to no core; LOCK without LOCKABLE gives 0x01. -/
theorem writeProtectionAndLockFlags : Obligations.WriteProtectionAndLockFlags := by
  unfold Obligations.WriteProtectionAndLockFlags
  intro s off v p hrun h4 hp
  refine ⟨fun hwp hdbg hs => ?_, fun hwp c => six_notMem_writeCodes_core s c hp hwp _ v, fun r hlock ho hv hs => ?_⟩
  · exact answersWrite_rejected hrun h4 hp hs (firstCode_six (six_mem_writeCodes_host hp hwp hdbg _ v))
  · have hone : 1 ∈ s.writeCodes regChecks r p 4 v := one_mem_writeCodes_lock hlock hv
    obtain ⟨c, hc⟩ := firstCode_of_one hone
    rw [← ho] at hs hc
    have hanswer := answersWrite_rejected hrun h4 hp hs hc
    rw [ho] at hc hanswer
    exact ⟨hone, c, hc, hanswer⟩

/-- Settles O51: the lock gives code 0x03, which only 0x06 precedes, to every register that is not W1C alone; PAGE_CTL is one. -/
theorem lockedPagesTakeOnlyClears : Obligations.LockedPagesTakeOnlyClears := by
  unfold Obligations.LockedPagesTakeOnlyClears
  intro s r off v p d hrun h4 hp hs hd hlock o t h6
  have hlock' : (s.facing r p o).flag (hLOCK p.base) = true := by
    rw [← hlock]
    unfold State.flag State.get hLOCK
    rw [facing_lock s r hp]
  have hreject (hw : d.onlyW1c = false) : s.answersWrite r off (leBytes 4 v.toNat) t := by
    have h3 : 3 ∈ (s.facing r p o).accessChecks r p o (p.reg o) := hd ▸ three_mem_accessChecks hlock' hw
    exact answersWrite_rejected hrun h4 hp hs (firstCode_three h6 (mem_writeCodes_of_access h3))
  refine ⟨hreject, fun ho => ⟨hreject (pageCtl_onlyW1c (p := p) (by rwa [← ho])), ?_⟩, three_notMem_accessChecks⟩
  show ((s.facing r p o).rejectWrite p o 3).flag (hLOCK p.base) = true
  rw [ho, rejectWrite_lock s r hp, hlock]

end Sys2Proof.Machine
end

section
/-! The obligations of 02_register_pages.md on what a cold reset leaves and on the quiet commands. -/

namespace Sys2Proof.Machine

open Sys2Proof

/-- At reset every register holds its caption's reset value (R45). -/
theorem reset_rd (off : Nat) : State.reset.rd off = resetWord off := rfl

/-- Settles O3: the hidden parts are empty by definition, and each register named reads its caption's reset value. -/
theorem resetState : Obligations.ResetState := by
  unfold Obligations.ResetState
  simp only [State.flag, State.pool, State.get, reset_rd]
  refine ⟨rfl, rfl, SMap.wf_nil _, rfl, rfl, rfl, memory_wf_reset.1, memory_wf_reset.2, ?_⟩
  decide

@[simp] theorem State.aonLevels_eventless (s : State) : s.aonLevels.eventless = s.eventless := by
  simp [State.aonLevels]

theorem State.eventless_nvm (s : State) : s.eventless.nvm = s.nvm := rfl

/-- A load of device time clears the mark that the host set it, and moves nothing else that an event does not. -/
theorem timeLoad_eventless (s : State) (t src : Nat) :
    (s.timeLoad t src).eventless = (s.onNvm fun x => { x with tsHost := false }).eventless := by
  unfold State.timeLoad
  rw [State.pulse_eventless, State.evtB_eventless, State.put_eventless, State.wr64_eventless]

/-- Device time set by firmware is no longer the time that the host set (R407). -/
theorem timeSet_tsHost (s : State) : s.timeSet.nvm.tsHost = false := by
  have htime : s.timeSet.eventless = (s.onNvm fun x => { x with tsHost := false }).eventless := by
    unfold State.timeSet
    rw [State.aonLevels_eventless, State.put_eventless, State.put_eventless, State.put_eventless, timeLoad_eventless]
  rw [← State.eventless_nvm, htime]
  rfl

/-- An accepted write that sets TIME_CTL.SET sets device time (R407). -/
theorem aonEffect_timeSet {s : State} {r : Requester} {p : PageAt} {old v : Word} (hv : v.bit 0 = true) :
    aonEffect s r p 0x90 old v = s.timeSet := by
  simp [aonEffect, hv]

/-- The device after a cold reset, but that the host has set its timestamp. -/
def hostTimed : State := State.reset.onNvm fun x => { x with tsHost := true }

/-- Refutes O55: TIME_SET is not quiet.  Where the host has set its timestamp, an accepted TIME_SET clears the mark of it in the
hidden state of the NVMe side, since device time then has another source. -/
theorem not_quietCommandsFrame : ¬ Obligations.QuietCommandsFrame := by
  unfold Obligations.QuietCommandsFrame
  intro h
  obtain ⟨-, -, -, -, ⟨t, hexec, -, -, ⟨hnvm, -⟩, -⟩, -⟩ := h hostTimed (.core 0)
  have hacc : hostTimed.accepts aonChecks (.core 0) R.AON_TIME_CTL 1 = true := by decide
  have hset : exec (.timeSet (.core 0)) hostTimed = .next (hostTimed.written (.core 0) R.AON_TIME_CTL 1).timeSet := by
    rw [exec_timeSet, execTimeSet, act_run rfl, softWrite_accepted hacc, show R.AON_TIME_CTL % 0x1000 = 0x90 from rfl,
      aonEffect_timeSet rfl]
  obtain rfl : _ = t := by simpa using hset.symm.trans hexec
  have hmark := (congrArg NvmSt.tsHost hnvm).symm.trans (timeSet_tsHost _)
  exact absurd hmark (by decide)

end Sys2Proof.Machine
end

section
/-! SUPPORT. The page that holds an offset of a row of R29, and the first failing code among the later ones of R9. -/

namespace Sys2Proof.Machine

open Sys2Proof

/-- Rows that end at or below an offset do not hold it. -/
theorem findPageIn_skip {before : List PageRow} {off : Nat} (h : ∀ r ∈ before, r.base + r.insts * r.stride ≤ off)
    (rest : List PageRow) : findPageIn (before ++ rest) off = findPageIn rest off := by
  induction before with
  | nil => rfl
  | cons r rs ih =>
    have hr := h r List.mem_cons_self
    have hat : r.at_ off = none := if_neg fun hrange => absurd hrange.2 (Nat.not_lt.mpr hr)
    rw [List.cons_append, findPageIn, hat]
    exact ih fun x hx => h x (List.mem_cons_of_mem _ hx)

/-- A row holds the offsets of its pages. -/
theorem PageRow.at_offset {r : PageRow} {i k o : Nat} (hi : i < r.insts) (hk : k < r.pages) (ho : o < 0x1000)
    (hstride : r.pages * 0x1000 ≤ r.stride) : r.at_ (r.base + (r.stride * i + (0x1000 * k + o))) = some ⟨r, i, k⟩ := by
  have hin : 0x1000 * k + o < r.pages * 0x1000 := by omega
  have hlt : 0x1000 * k + o < r.stride := by omega
  have hend : r.stride * i + (0x1000 * k + o) < r.insts * r.stride :=
    calc r.stride * i + (0x1000 * k + o) < r.stride * i + r.stride := by omega
      _ = r.stride * (i + 1) := (Nat.mul_succ _ _).symm
      _ ≤ r.stride * r.insts := Nat.mul_le_mul_left _ hi
      _ = r.insts * r.stride := Nat.mul_comm _ _
  unfold PageRow.at_
  rw [Nat.add_sub_cancel_left, Nat.mul_add_mod, Nat.mod_eq_of_lt hlt, Nat.mul_add_div (by omega), Nat.div_eq_of_lt hlt,
    if_pos ⟨Nat.le_add_right _ _, by omega⟩, if_pos hin, Nat.add_zero]
  congr 2
  omega

/-- The page at an offset of a row, where the rows before it end below. -/
theorem findPage_row {before after : List PageRow} {r : PageRow} (hrows : pageRows = before ++ r :: after)
    (hbefore : ∀ x ∈ before, x.base + x.insts * x.stride ≤ r.base) (hstride : r.pages * 0x1000 ≤ r.stride) {i k o off : Nat}
    (hi : i < r.insts) (hk : k < r.pages) (ho : o < 0x1000) (hoff : off = r.base + (r.stride * i + (0x1000 * k + o))) :
    findPage off = some ⟨r, i, k⟩ := by
  have hbelow : ∀ x ∈ before, x.base + x.insts * x.stride ≤ off := fun x hx => (hbefore x hx).trans (by omega)
  rw [findPage, hrows, findPageIn_skip hbelow, findPageIn, hoff, PageRow.at_offset hi hk ho hstride]

theorem pageOf_eq {off : Nat} {p : PageAt} (h : findPage off = some p) : pageOf off = p := by
  rw [pageOf, h, Option.getD_some]

/-- Page CHAN_n (R29). -/
def chanAt (n : Nat) : PageAt := ⟨⟨.chan, 0x11, 0x200000, 32, 0x1000, 1, true, false, false⟩, n, 0⟩

/-- The page of FTL that holds its configuration (R29). -/
def ftlAt : PageAt := ⟨⟨.ftl, 0x12, 0x240000, 1, 0x10000, 4, true, false, false⟩, 0, 0⟩

/-- The page of NVM (R29). -/
def nvmAt : PageAt := ⟨⟨.nvm, 0x10, 0x110000, 1, 0x10000, 1, true, false, false⟩, 0, 0⟩

theorem chanAt_base0 (n : Nat) : (chanAt n).base0 = chanPage n :=
  congrArg (0x200000 + ·) (Nat.mul_comm n 0x1000)

section
variable {o : Nat} (ho : o < 0x1000)
include ho

theorem findPage_chan (n : Fin 32) : findPage (chanPage n.val + o) = some (chanAt n.val) :=
  findPage_row (before := pageRows.take 16) (r := (chanAt 0).row) rfl (by decide) (by decide) n.isLt Nat.one_pos ho
    (by simp only [chanPage, chanAt]; omega)

theorem findPage_ftl : findPage (0x240000 + o) = some ftlAt :=
  findPage_row (before := pageRows.take 17) (r := ftlAt.row) (i := 0) (k := 0) rfl (by decide) (by decide) Nat.one_pos (by decide) ho
    (by simp only [ftlAt]; omega)

theorem findPage_nvm : findPage (nvmPage + o) = some nvmAt :=
  findPage_row (before := pageRows.take 15) (r := nvmAt.row) rfl (by decide) (by decide) Nat.one_pos Nat.one_pos ho
    (by simp only [nvmPage, nvmAt]; omega)

end

/-! ### Codes 0x04 and 0x05 -/

section
variable {codes : List Nat}

/-- Code 0x04 comes after 0x06 and 0x03 (R9). -/
theorem firstCode_four (h6 : 6 ∉ codes) (h3 : 3 ∉ codes) (h : 4 ∈ codes) : firstCode codes = some 4 :=
  firstCode_eq_some_iff.mpr ⟨[6, 3], [5, 2, 7, 1], rfl, h, by simp [h6, h3]⟩

/-- Code 0x05 comes next (R9). -/
theorem firstCode_five (h6 : 6 ∉ codes) (h3 : 3 ∉ codes) (h4 : 4 ∉ codes) (h : 5 ∈ codes) : firstCode codes = some 5 :=
  firstCode_eq_some_iff.mpr ⟨[6, 3, 4], [2, 7, 1], rfl, h, by simp [h6, h3, h4]⟩

end

/-- A code that a block's own checks give a register of its own is one of the write's (R9). -/
theorem mem_writeCodes_of_block {s : State} {r : Requester} {p : PageAt} {o j : Nat} {v : Word} (ho : 0x80 ≤ o)
    (h : j ∈ blockChecks p.row.block (s.facing r p o) r p o v) : j ∈ s.writeCodes regChecks r p o v := by
  simp [State.writeCodes, regChecks, ho, h]

/-- The access itself moves no page's EN. -/
theorem facing_enabled (s : State) (r : Requester) {off k b : Nat} {p : PageAt} (hp : findPage off = some p) (hb : b % 0x1000 = 0) :
    (s.facing r p k).enabled b = s.enabled b := by
  have hpage := base_mod hp
  have hrd : (s.facing r p k).rd (b + 4) = s.rd (b + 4) :=
    facing_rd_ne s hp (show b + 4 ≠ 0x30090 by omega) (by omega) (by omega)
  unfold State.enabled State.flag State.get hEN
  rw [hrd]

section
variable {s : State} (hrun : s.running = true) {r : Requester} {off : Nat} {v : Word} {p : PageAt} (hp : findPage off = some p)
  (h4 : off % 4 = 0) (ho : 0x80 ≤ off % 0x1000)
include hrun hp h4 ho

/-- A register that its block's checks keep from writes while a page is enabled: a word write then fails with code 0x04, and is
rejected with it unless 0x06 or 0x03 comes first. -/
theorem write_held_enabled {base : Nat} (hbase : base % 0x1000 = 0)
    (hcheck : ∀ t : State, t.enabled base = true → 4 ∈ blockChecks p.row.block t r p (off % 0x1000) v)
    (hen : s.enabled base = true) (hs : s.serves r (pageOf off) (off % 0x1000) = true) :
    4 ∈ s.writeCodes regChecks r (pageOf off) (off % 0x1000) v
      ∧ (6 ∉ s.writeCodes regChecks r (pageOf off) (off % 0x1000) v →
        3 ∉ s.writeCodes regChecks r (pageOf off) (off % 0x1000) v →
        s.answersWrite r off (leBytes 4 v.toNat)
          ((s.facing r (pageOf off) (off % 0x1000)).rejectWrite (pageOf off) (off % 0x1000) 4)) := by
  rw [pageOf_eq hp] at hs ⊢
  have hcode := mem_writeCodes_of_block ho (hcheck _ ((facing_enabled s r hp hbase).trans hen))
  exact ⟨hcode, fun h6 h3 => answersWrite_rejected hrun h4 hp hs (firstCode_four h6 h3 hcode)⟩

/-- A value that its block's checks find misaligned: a word write of it fails with code 0x05, and is rejected with it unless
0x06, 0x03 or 0x04 comes first. -/
theorem write_misaligned (hcheck : ∀ t : State, 5 ∈ blockChecks p.row.block t r p (off % 0x1000) v)
    (hs : s.serves r (pageOf off) (off % 0x1000) = true) :
    5 ∈ s.writeCodes regChecks r (pageOf off) (off % 0x1000) v
      ∧ (6 ∉ s.writeCodes regChecks r (pageOf off) (off % 0x1000) v →
        3 ∉ s.writeCodes regChecks r (pageOf off) (off % 0x1000) v →
        4 ∉ s.writeCodes regChecks r (pageOf off) (off % 0x1000) v →
        s.answersWrite r off (leBytes 4 v.toNat)
          ((s.facing r (pageOf off) (off % 0x1000)).rejectWrite (pageOf off) (off % 0x1000) 5)) := by
  rw [pageOf_eq hp] at hs ⊢
  have hcode := mem_writeCodes_of_block ho (hcheck (s.facing r p (off % 0x1000)))
  exact ⟨hcode, fun h6 h3 h4' => answersWrite_rejected hrun h4 hp hs (firstCode_five h6 h3 h4' hcode)⟩

end

/-! ### The checks of CHAN, FTL and NVM -/

section
variable {t : State} (r : Requester) {o : Nat} (v : Word)

/-- CFG, GEOM_REF and GEOM_BLK of an enabled channel (R78). -/
theorem four_mem_chanChecks {n : Nat} (ho : 0x80 ≤ o ∧ o < 0x8C) (hen : t.enabled (chanPage n) = true) :
    4 ∈ chanChecks t r (chanAt n) o v := by
  simp [chanChecks, mem_failIf, ho, chanAt_base0, hen]

/-- The configuration registers of an enabled FTL (R122). -/
theorem four_mem_ftlChecks (ho : o = 0x80 ∨ 0x88 ≤ o ∧ o < 0xBC ∨ o = 0xC0 ∨ o = 0xC8) (hen : t.enabled ftlAt.base0 = true) :
    4 ∈ ftlChecks t r ftlAt o v := by
  have hpage : ftlAt.page = 0 := rfl
  simp [ftlChecks, mem_failIf, hpage, hen, ho, or_assoc]

/-- A base address of FTL that is not a multiple of 64 KiB (R122). -/
theorem five_mem_ftlChecks (ho : 0x88 ≤ o ∧ o < 0xB0 ∧ o % 8 = 0) (hv : v.fld 0 16 ≠ 0) : 5 ∈ ftlChecks t r ftlAt o v := by
  have hpage : ftlAt.page = 0 := rfl
  simp [ftlChecks, mem_failIf, hpage, hv, ho]

/-- CFG of an enabled NVM (R326). -/
theorem four_mem_nvmChecks (p : PageAt) (hen : t.enabled nvmPage = true) : 4 ∈ nvmChecks t r p 0x80 v := by
  simp [nvmChecks, mem_failIf, hen]

/-- An ADM_BUF that is not a multiple of 64 bytes (R326). -/
theorem five_mem_nvmChecks (p : PageAt) (hv : v.fld 0 6 ≠ 0) : 5 ∈ nvmChecks t r p 0xE0 v := by
  simp [nvmChecks, mem_failIf, hv]

end

end Sys2Proof.Machine
end

section
/-! The obligation of 03_flash_channels.md on configuration registers. -/

namespace Sys2Proof.Machine

open Sys2Proof

/-- The registers of a CHAN page that R78 holds, as word offsets within it. -/
theorem chanHeld_range : ∀ o ∈ [0x80, 0x84, 0x88], (0x80 ≤ o ∧ o < 0x8C) ∧ o % 4 = 0 := by decide

/-- The registers of FTL that R122 holds. -/
theorem ftlHeld_range : ∀ o ∈ [0x80, 0x88, 0x8C, 0x90, 0x94, 0x98, 0x9C, 0xA0, 0xA4, 0xA8, 0xAC, 0xB0, 0xB4, 0xB8, 0xC0, 0xC8],
    (o = 0x80 ∨ 0x88 ≤ o ∧ o < 0xBC ∨ o = 0xC0 ∨ o = 0xC8) ∧ o % 4 = 0 := by decide

/-- The low words of FTL's base addresses. -/
theorem ftlBase_range : ∀ o ∈ [0x88, 0x90, 0x98, 0xA0, 0xA8], 0x88 ≤ o ∧ o < 0xB0 ∧ o % 8 = 0 := by decide

/-- Settles O52: each register lies in a page whose own checks give code 0x04 while EN is 1, or 0x05 to a misaligned address;
`write_held_enabled` and `write_misaligned` say what becomes of the write. -/
theorem configurationIsHeldWhileEnabled : Obligations.ConfigurationIsHeldWhileEnabled := by
  unfold Obligations.ConfigurationIsHeldWhileEnabled
  intro s r v hrun
  refine ⟨fun n o ho => ?_, fun o ho => ?_, ?_, fun o ho hv => ?_, fun hv => ?_⟩
  · obtain ⟨hrange, h4⟩ := chanHeld_range o ho
    have hp : findPage (0x200000 + 0x1000 * n.val + o) = some (chanAt n.val) := findPage_chan (by omega) n
    have hoff : (0x200000 + 0x1000 * n.val + o) % 0x1000 = o := by omega
    refine write_held_enabled hrun hp (by omega) (by omega) (by omega) fun t hen => ?_
    rw [hoff]
    exact four_mem_chanChecks r v hrange hen
  · obtain ⟨hreg, h4⟩ := ftlHeld_range o ho
    have hp : findPage (0x240000 + o) = some ftlAt := findPage_ftl (by omega)
    have hoff : (0x240000 + o) % 0x1000 = o := by omega
    refine write_held_enabled hrun hp (by omega) (by omega) (by decide) fun t hen => ?_
    rw [hoff]
    exact four_mem_ftlChecks r v hreg hen
  · exact write_held_enabled hrun (findPage_nvm (o := 0x80) (by decide)) (by decide) (by decide) (by decide) fun t hen =>
      four_mem_nvmChecks r v nvmAt hen
  · obtain ⟨hlo, hhi, h8⟩ := ftlBase_range o ho
    have hp : findPage (0x240000 + o) = some ftlAt := findPage_ftl (by omega)
    have hoff : (0x240000 + o) % 0x1000 = o := by omega
    refine write_misaligned hrun hp (by omega) (by omega) fun t => ?_
    rw [hoff]
    exact five_mem_ftlChecks r v ⟨hlo, hhi, h8⟩ hv
  · exact write_misaligned hrun (findPage_nvm (o := 0xE0) (by decide)) (by decide) (by decide) fun t =>
      five_mem_nvmChecks r v nvmAt hv

end Sys2Proof.Machine
end

section
/-! SUPPORT. What accepted writes to a channel's control registers do beyond their fields (R55, R66, R77). -/

namespace Sys2Proof.Machine

open Sys2Proof

section
variable {s : State} {r : Requester} {old v : Word} (n : Nat)

theorem chanEffect_discStart (hv : v.bit 0 = true) : chanEffect s r (chanAt n) 0x8C old v = s.discStart n := by
  simp [chanEffect, chanAt, hv]

theorem chanEffect_quiesce : chanEffect s r (chanAt n) 0xD8 old v = s.quiesce n (v.fld 0 2) := by
  simp [chanEffect, chanAt]

theorem chanEffect_fwGo (hv : v.bit 0 = true) : chanEffect s r (chanAt n) 0xE8 old v = s.fwGo n := by
  simp [chanEffect, chanAt, hv]

end

/-- The mode written to QUIESCE lies in its low bits. -/
theorem fld_quiesceMode (mode : BitVec 2) : Word.fld (BitVec.ofNat 32 mode.toNat) 0 2 = mode.toNat := by
  have hmode := mode.isLt
  rw [Word.fld, BitVec.toNat_ofNat]
  omega

/-- The word that FW_CTL takes has GO set, whatever the slot. -/
theorem bit_fwCtl (slot : Nat) : Word.bit (BitVec.ofNat 32 (1 + slot * 16)) 0 = true := by
  rw [Word.bit, BitVec.getLsbD_ofNat, Nat.testBit_zero]
  simp only [Nat.zero_lt_succ, decide_true, Bool.true_and, decide_eq_true_eq]
  omega

section
variable {s : State} {r : Requester} (n : Fin 32)

/-- An accepted write to a register of a channel sets its fields, and the channel acts on it. -/
theorem chanWrite_accepted {o : Nat} (ho : o < 0x1000) {v : Word} (hacc : s.accepts chanChecks r (chanPage n.val + o) v = true) :
    s.softWrite chanChecks chanEffect r (chanPage n.val + o) v
      = chanEffect (s.written r (chanPage n.val + o) v) r (chanAt n.val) o (s.wordBefore r (chanPage n.val + o)) v := by
  have hoff : (chanPage n.val + o) % 0x1000 = o := by unfold chanPage; omega
  rw [softWrite_accepted hacc, pageOf_eq (findPage_chan ho n), hoff]

theorem chanPage_add (o : Nat) : 0x200000 + o + 0x1000 * n.val = chanPage n.val + o := Nat.add_right_comm _ _ _

theorem discCtl_off : R.CHAN_DISC_CTL n.val = chanPage n.val + 0x8C := chanPage_add n 0x8C

theorem quiesce_off : R.CHAN_QUIESCE n.val = chanPage n.val + 0xD8 := chanPage_add n 0xD8

theorem fwCtl_off : R.CHAN_FW_CTL n.val = chanPage n.val + 0xE8 := chanPage_add n 0xE8

theorem discCtl_accepted (hacc : s.accepts chanChecks r (R.CHAN_DISC_CTL n.val) 1 = true) :
    s.softWrite chanChecks chanEffect r (R.CHAN_DISC_CTL n.val) 1 = (s.written r (R.CHAN_DISC_CTL n.val) 1).discStart n.val := by
  rw [discCtl_off] at hacc ⊢
  rw [chanWrite_accepted n (by decide) hacc, chanEffect_discStart n.val rfl]

theorem quiesce_accepted (mode : BitVec 2)
    (hacc : s.accepts chanChecks r (R.CHAN_QUIESCE n.val) (BitVec.ofNat 32 mode.toNat) = true) :
    s.softWrite chanChecks chanEffect r (R.CHAN_QUIESCE n.val) (BitVec.ofNat 32 mode.toNat)
      = (s.written r (R.CHAN_QUIESCE n.val) (BitVec.ofNat 32 mode.toNat)).quiesce n.val mode.toNat := by
  rw [quiesce_off] at hacc ⊢
  rw [chanWrite_accepted n (by decide) hacc, chanEffect_quiesce, fld_quiesceMode]

/-- An accepted GO enters the operation that FW_OP holds. -/
theorem fwWrite_accepted {opc slot : Nat} (hopc : s.get (R.CHAN_FW_OP_OPC n.val) = opc)
    (hacc : s.accepts chanChecks r (R.CHAN_FW_CTL n.val) (BitVec.ofNat 32 (1 + slot * 16)) = true) :
    s.fwWrite r n.val opc slot = (s.written r (R.CHAN_FW_CTL n.val) (BitVec.ofNat 32 (1 + slot * 16))).fwGo n.val := by
  rw [State.fwWrite, if_pos hopc]
  rw [fwCtl_off] at hacc ⊢
  rw [chanWrite_accepted n (by decide) hacc, chanEffect_fwGo n.val (bit_fwCtl slot)]

end

end Sys2Proof.Machine
end

section
/-! SUPPORT. Discovery (R55 to R57): what the report of a die does to the probe. -/

namespace Sys2Proof.Machine

open Sys2Proof

/-- What a channel knows of a die that passes discovery, before its first temperature sample. -/
def State.foundDie (s : State) (n : Nat) (f : DieFacts) : DieSt :=
  { DieSt.none_ with
    nosusp := !f.suspends, tempOk := f.temp.isSome, loopSet := s.flag (R.CHAN_LOOP_CFG_EN n) && f.loopOk
    tempDue := if f.temp.isSome then some s.now else none, stale := false }

/-- A die that passes discovery entered as ACTIVE. -/
def State.dieFound (s : State) (n l : Nat) (f : DieFacts) : State := (s.setDie n l 1).onDie n l fun _ => s.foundDie n f

/-- A die whose parameter page is unreadable is judged by its checks, and so is one within the LUNs that its page names. -/
theorem lun_present {f : DieFacts} {l : Nat} (h : f.crcOk = false ∨ l % 4 < f.luns) : ¬ (f.crcOk = true ∧ f.luns ≤ l % 4) := by
  rintro ⟨hcrc, hle⟩
  rcases h with hbad | hlt
  · simp [hbad] at hcrc
  · omega

section
variable {s : State} {n l : Nat} {f : DieFacts} (hprobe : (s.chanSt n).probe = some l) (hsig : f.signature = true)
include hprobe hsig

/-- A die that fails a check of R56 becomes EXCLUDED with the check as its reason. -/
theorem probeDone_excluded (hlun : f.crcOk = false ∨ l % 4 < f.luns) (hcheck : s.dieCheck n f ≠ 0) :
    s.probeDone n f
      = ((s.setDie n l 2).onDie n l fun d => { d with reason := s.dieCheck n f }).probeNext n (l + 1) := by
  simp only [State.probeDone, hprobe, hsig, Bool.not_true, Bool.false_eq_true, if_false, if_neg (lun_present hlun), if_pos hcheck]

section
variable (hlun : l % 4 < f.luns) (hcheck : s.dieCheck n f = 0)
include hlun hcheck

/-- A die that passes every check becomes ACTIVE. -/
theorem probeDone_active (htemp : f.temp = none) : s.probeDone n f = (s.dieFound n l f).probeNext n (l + 1) := by
  simp only [State.probeDone, hprobe, hsig, Bool.not_true, Bool.false_eq_true, if_false, if_neg (lun_present (.inr hlun)), hcheck,
    ne_eq, not_true_eq_false, htemp]
  rw [State.dieFound, State.foundDie, htemp]

/-- Where it reports a temperature, that is its first sample, and the next one is due at once. -/
theorem probeDone_active_temp {p : Nat} (htemp : f.temp = some p) :
    s.probeDone n f
      = (((s.dieFound n l f).tempSample n l (tempByte p ((s.dieFound n l f).get (R.CHAN_TEMP_CFG_BIAS n)))).onDie n l
          fun d => { d with tempDue := some (s.dieFound n l f).now }).probeNext n (l + 1) := by
  simp only [State.probeDone, hprobe, hsig, Bool.not_true, Bool.false_eq_true, if_false, if_neg (lun_present (.inr hlun)), hcheck,
    ne_eq, not_true_eq_false, htemp]
  rw [State.dieFound, State.foundDie, htemp]

end

end

end Sys2Proof.Machine
end

section
/-! SUPPORT. The ends of operations (R65, R66): a program or erase that its die ends, and one that overruns. -/

namespace Sys2Proof.Machine

open Sys2Proof

/-- No operation both programs and erases. -/
theorem OpReq.isErase_of_isProg {o : OpReq} (h : o.isProg = true) : o.isErase = false := by
  simp only [OpReq.isProg, OpReq.isErase, Bool.or_eq_true, Bool.or_eq_false_iff, decide_eq_true_eq, decide_eq_false_iff_not] at h ⊢
  omega

theorem OpReq.isProg_of_isErase {o : OpReq} (h : o.isErase = true) : o.isProg = false :=
  Bool.eq_false_iff.mpr fun hprog => by simp [OpReq.isErase_of_isProg hprog] at h

/-- A queued operation is not in flight. -/
theorem ChanOp.inFlight_queued {o : ChanOp} (h : o.stage = .queued) : o.inFlight = false := by simp [ChanOp.inFlight, h]

section
variable {s : State} {n id : Nat} {o : ChanOp} (ho : s.chanOp n id = some o) (hrun : o.stage = .running)
include ho hrun

theorem peEnd_program (h : o.req.isProg = true) (fail : Option Nat) : s.peEnd n id true fail = s.peDone n o fail := by
  simp [State.peEnd, ho, hrun, h, OpReq.isErase_of_isProg h]

theorem peEnd_erase (h : o.req.isErase = true) (fail : Option Nat) : s.peEnd n id false fail = s.peDone n o fail := by
  simp [State.peEnd, ho, hrun, h, OpReq.isProg_of_isErase h]

end

/-- An operation that overruns, recorded (R66). -/
def State.overrun (s : State) (n : Nat) (o : ChanOp) : State := (s.failRecord n o.req 2 o.req.planes).evtB (chanPage n) 0x18 1

/-- The timed-out operation answered, the time of its die's timeout kept, and the die reset. -/
def State.overrunReset (s : State) (n : Nat) (o : ChanOp) : State :=
  (((s.overrun n o).onDie n o.req.die fun d => { d with lastTmo := some (s.overrun n o).now }).opDone n o 2).resetLun n o.req.die
    .timeout

section
variable {s : State} {n id : Nat} {o : ChanOp} (ho : s.chanOp n id = some o) (hrun : o.stage = .running)
include ho hrun

/-- A die's first timeout resets it. -/
theorem opTimeout_first (hlast : ((s.overrun n o).dieSt n o.req.die).lastTmo = none) :
    s.opTimeout n id = (s.overrunReset n o).refill n := by
  unfold State.overrun at hlast
  simp only [State.opTimeout, ho, hrun, true_or, if_true, hlast, Bool.false_eq_true, if_false]
  rfl

/-- A second one within 1 s takes it OFFLINE. -/
theorem opTimeout_again {w : Nat} (hlast : ((s.overrun n o).dieSt n o.req.die).lastTmo = some w)
    (hsoon : (s.overrun n o).now ≤ w + 10 ^ 9) : s.opTimeout n id = (s.overrunReset n o).dieTimedOut n o.req.die := by
  unfold State.overrun at hlast hsoon
  simp only [State.opTimeout, ho, hrun, true_or, if_true, hlast, hsoon, decide_true]
  rfl

end

/-- What a channel knows of a die is apart from its operations. -/
theorem onDie_ops (s : State) (n l : Nat) (f : DieSt → DieSt) (m : Nat) :
    ((s.onDie n l f).chanSt m).ops = (s.chanSt m).ops := by
  unfold State.onDie State.onChan State.chanSt
  by_cases hm : m = n
  · subst hm
    rw [SMap.get_set_self]
  · rw [SMap.get_set_ne _ _ hm]

theorem onDie_fwOp (s : State) (n l : Nat) (f : DieSt → DieSt) (m j k : Nat) : (s.onDie n l f).fwOp m j k = s.fwOp m j k := by
  rw [State.fwOp, onDie_ops, State.fwOp]

end Sys2Proof.Machine
end

section
/-! The obligations of 03_flash_channels.md on the channels' commands, events and timeouts. -/

namespace Sys2Proof.Machine

open Sys2Proof

/-- Settles O12: `discCtl_accepted`, `quiesce_accepted` and, for each operation code, `fwWrite_accepted`. -/
theorem channelRegisterCommandsComplete : Obligations.ChannelRegisterCommandsComplete := by
  unfold Obligations.ChannelRegisterCommandsComplete
  intro s r n hrun
  have hhalt := State.running_iff.mp hrun
  refine ⟨fun hacc => ?_, fun mode hacc => ?_, fun slot hacc =>
    ⟨fun hopc => ?_, fun hopc => ?_, fun hopc => ?_, fun hopc => ?_, fun hopc => ?_, fun hopc => ?_⟩⟩
  · rw [exec_discStart, execDiscStart, actAll_run hhalt, discCtl_accepted n hacc]
  · rw [exec_quiesceWrite, execQuiesceWrite, actAll_run hhalt, quiesce_accepted n mode hacc]
  · rw [exec_fwResetLun, execFwResetLun, actAll_run hhalt, fwWrite_accepted n hopc hacc]
  · rw [exec_fwReadId, execFwReadId, actAll_run hhalt, fwWrite_accepted n hopc hacc]
  · rw [exec_fwGetFeatures, execFwGetFeatures, actAll_run hhalt, fwWrite_accepted n hopc hacc]
  · rw [exec_fwSetFeatures, execFwSetFeatures, actAll_run hhalt, fwWrite_accepted n hopc hacc]
  · rw [exec_fwReadStatus, execFwReadStatus, actAll_run hhalt, fwWrite_accepted n hopc hacc]
  · rw [exec_fwRawRead, execFwRawRead, actAll_run hhalt, fwWrite_accepted n hopc hacc]

/-- Settles O13: what a die's discovery finds is one of the three `probeDone` lemmas, a program or erase ends by `peEnd_program`
or `peEnd_erase`, and each other report is the branch of its command that its hypotheses pick. -/
theorem channelEventsComplete : Obligations.ChannelEventsComplete := by
  unfold Obligations.ChannelEventsComplete
  intro s n die hrun
  have hhalt := State.running_iff.mp hrun
  refine ⟨fun f l hprobe hsig hlun hcheck => ?_, fun f l hprobe hsig hlun hcheck => ⟨fun htemp => ?_, fun p htemp => ?_⟩,
    fun l hprobe => ?_, fun o hdie hfw => ?_, fun id o ho hstage => ?_, fun sensed hen hcur => ?_, fun p hp => ?_, fun p hp => ?_,
    fun id o data ho hstage hfw hjoin => ?_, fun id o fail ho hstage hprog => ?_, fun id o fail ho hstage herase => ?_⟩
  · rw [exec_dieProbeDone, execDieProbeDone, actAll_run hhalt, probeDone_excluded hprobe hsig hlun hcheck]
  · rw [exec_dieProbeDone, execDieProbeDone, actAll_run hhalt, probeDone_active hprobe hsig hlun hcheck htemp]
    rfl
  · rw [exec_dieProbeDone, execDieProbeDone, actAll_run hhalt, probeDone_active_temp hprobe hsig hlun hcheck htemp]
    rfl
  · rw [exec_tmoDisc, execTmoDisc, actAll_run hhalt]
    simp only [hprobe]
  · rw [exec_opEnqueue, execOpEnqueue, actAll_run hhalt, if_pos ⟨hdie, by rw [hfw]; rfl⟩]
  · rw [exec_opCancel, execOpCancel, actAll_run hhalt]
    simp only [ho, ChanOp.inFlight_queued hstage, Bool.false_eq_true, if_false]
  · rw [exec_diePick, execDiePick, actAll_run hhalt, if_pos ⟨hen, hcur⟩]
  · rw [exec_minRunReached, execMinRunReached, actAll_run hhalt]
    simp only [hp, State.suspend]
  · rw [exec_dieSuspended, execDieSuspended, actAll_run hhalt]
    simp only [hp]
  · rw [exec_readComplete, execReadComplete, actAll_run hhalt]
    simp only [ho, hstage, hfw, hjoin, reduceCtorEq, Bool.false_eq_true, if_true, if_false]
  · rw [exec_programComplete, execProgramComplete, actAll_run hhalt, peEnd_program ho hstage hprog]
  · rw [exec_eraseComplete, execEraseComplete, actAll_run hhalt, peEnd_erase ho hstage herase]

/-- Settles O14: an overrun is `opTimeout_first` or `opTimeout_again`; a reset that ends leaves the channel's operations as they
are (`onDie_fwOp`), so that no FW operation answers; the other two are the branches that their hypotheses pick. -/
theorem channelTimeoutsComplete : Obligations.ChannelTimeoutsComplete := by
  unfold Obligations.ChannelTimeoutsComplete
  intro s n die hrun
  have hhalt := State.running_iff.mp hrun
  refine ⟨fun id o ho hstage => ⟨fun hlast => ?_, fun w hlast hsoon => ?_⟩, fun loopOk hreset hfw => ?_, fun hreset hfw => ?_,
    fun t hen hok hdue ht hact hnone => ?_, fun id o p ok ho hstage hcode huse => ?_⟩
  · rw [exec_opTimeout, execOpTimeout, actAll_run hhalt, opTimeout_first ho hstage hlast]
    rfl
  · rw [exec_opTimeout, execOpTimeout, actAll_run hhalt, opTimeout_again ho hstage hlast hsoon]
    rfl
  · rw [exec_resetLunDone, execResetLunDone, actAll_run hhalt]
    simp only [hreset, if_true, onDie_fwOp, hfw]
  · rw [exec_resetLunFail, execResetLunFail, actAll_run hhalt]
    simp only [hreset, if_true, hfw]
  · rw [exec_tempDue, execTempDue, actAll_run hhalt]
    simp only [hdue, hen, hok, ht, hact, hnone, decide_true, Bool.not_false, and_self, if_true]
  · have hfw : o.req.fwOpc = some 4 := by rw [OpReq.fwOpc, huse]
    have hends : o.stage = .running ∧ 6 ≤ o.req.code ∧ o.req.fwOpc ≠ some 0 := ⟨hstage, by omega, by simp [hfw]⟩
    rw [exec_featureOpComplete, execFeatureOpComplete, actAll_run hhalt]
    simp only [ho, if_pos hends]
    simp only [hfw]

end Sys2Proof.Machine
end

section
/-! SUPPORT. FTL commands (R93): the register that takes them, and what each does. -/

namespace Sys2Proof.Machine

open Sys2Proof

/-! ### CMD -/

/-- The page of FTL that holds its commands and the superblock record (R29). -/
def ftlCmdAt : PageAt := { ftlAt with page := 2 }

theorem findPage_ftlCmd {o : Nat} (ho : o < 0x1000) : findPage (0x242000 + o) = some ftlCmdAt :=
  findPage_row (before := pageRows.take 17) (r := ftlAt.row) (i := 0) (k := 2) rfl (by decide) (by decide) Nat.one_pos (by decide) ho
    (by simp only [ftlAt]; omega)

/-- CMD of FTL. -/
def ftlCmdDesc : RegDesc := ⟨"CMD", 0x80, 1, 4, 0, [⟨"OP", 3, 0, .rw⟩, ⟨"GO", 4, 4, .w1s⟩, ⟨"CLASS", 14, 8, .rw⟩]⟩

theorem ftlCmdAt_reg : ftlCmdAt.reg 0x80 = some ftlCmdDesc := rfl

section
variable (s : State) (r : Requester) (v : Word)

/-- An accepted write sets OP and CLASS, and GO where it writes a 1. -/
theorem rd_written_ftlCmd :
    (s.written r R.FTL_CMD v).rd R.FTL_CMD
      = (((s.wordBefore r R.FTL_CMD).setFld 0 4 (v.fld 0 4)).setFld 4 1 ((s.wordBefore r R.FTL_CMD ||| v).fld 4 1)).setFld 8 7
          (v.fld 8 7) :=
  written_rd (findPage_ftlCmd (o := 0x80) (by decide)) ftlCmdAt_reg (by decide)

theorem get_op_written_ftlCmd : (s.written r R.FTL_CMD v).get R.FTL_CMD_OP = v.fld 0 4 := by
  rw [State.get, rd_written_ftlCmd, Word.fld_setFld_ne _ (by decide) (.inl (by decide)),
    Word.fld_setFld_ne _ (by decide) (.inl (by decide)), Word.fld_setFld_self _ (by decide), Nat.mod_eq_of_lt (Word.fld_lt v 0 4)]

theorem get_class_written_ftlCmd : (s.written r R.FTL_CMD v).get R.FTL_CMD_CLASS = v.fld 8 7 := by
  rw [State.get, rd_written_ftlCmd, Word.fld_setFld_self _ (by decide), Nat.mod_eq_of_lt (Word.fld_lt v 8 7)]

end

/-- The word that gives a command: OP, GO = 1 and CLASS. -/
def ftlCmdWord (op cls : Nat) : Word := BitVec.ofNat 32 (op + 16 + cls * 256)

theorem ftlEffect_cmd {s : State} {r : Requester} {old v : Word} (hv : v.bit 4 = true) :
    ftlEffect s r ftlCmdAt 0x80 old v = s.ftlCmd := by
  simp [ftlEffect, ftlCmdAt, hv]

section
variable {op cls : Nat} {v : Word} (hop : op < 16) (hv : v = ftlCmdWord op cls)
include hop hv

theorem fld_ftlCmdWord_op : v.fld 0 4 = op := by
  rw [hv, ftlCmdWord, Word.fld, BitVec.toNat_ofNat]
  omega

theorem bit_ftlCmdWord_go : v.bit 4 = true := by
  rw [hv, ftlCmdWord, Word.bit, BitVec.getLsbD_ofNat, Nat.testBit_eq_decide_div_mod_eq]
  simp only [Nat.reduceLT, decide_true, Bool.true_and, decide_eq_true_eq]
  omega

theorem fld_ftlCmdWord_class (hcls : cls < 128) : v.fld 8 7 = cls := by
  rw [hv, ftlCmdWord, Word.fld, BitVec.toNat_ofNat]
  omega

variable {s : State} {r : Requester}

/-- An accepted command runs on the registers as the write has set them. -/
theorem ftlCmdWrite_accepted (hacc : s.accepts ftlChecks r R.FTL_CMD v = true) :
    s.ftlCmdWrite r op cls = (s.written r R.FTL_CMD v).ftlCmd := by
  have hpage : pageOf R.FTL_CMD = ftlCmdAt := pageOf_eq (findPage_ftlCmd (o := 0x80) (by decide))
  have hoff : R.FTL_CMD % 0x1000 = 0x80 := rfl
  rw [State.ftlCmdWrite, ← ftlCmdWord, ← hv, softWrite_accepted hacc, hpage, hoff, ftlEffect_cmd (bit_ftlCmdWord_go hop hv)]

theorem ftlCmd_written_op : (s.written r R.FTL_CMD v).get R.FTL_CMD_OP = op := by
  rw [get_op_written_ftlCmd, fld_ftlCmdWord_op hop hv]

theorem ftlCmd_written_class (hcls : cls < 128) : (s.written r R.FTL_CMD v).get R.FTL_CMD_CLASS = cls := by
  rw [get_class_written_ftlCmd, fld_ftlCmdWord_class hop hv hcls]

end

/-! ### Commands -/

/-- A FREE superblock RETIRED (R93): its good members become donors, source 324 says so, and the life left is worked out. -/
def State.sbRetired (s : State) (k : Nat) : State :=
  ((((s.members k).filter fun m => !s.memberBad m).foldl (fun s m => s.setOwner (32 * m.1 + m.2.1) m.2.2 k 2)
    (s.sbMove k { s.sb k with state := 5, erased := false })).pulse 324).lifeUpdate

section
variable {s : State}

/-- CLASS_DROP of a content class that is not WRITABLE, while no drop runs, starts the drop (R108). -/
theorem ftlCmd_classDrop {c : Nat} (hop : s.get R.FTL_CMD_OP = 1) (hc : s.get R.FTL_CMD_CLASS = c) (hcls : c < 64)
    (hwr : s.flag (R.FTL_CLASS_CTL_WRITABLE c) = false) (hdrop : s.ftl.drop = none) :
    s.ftlCmd = ((s.put (R.FTL_CLASS_STS_DROPPING c) 1).onFtl fun x => { x with drop := some (c, none) }).dropStep := by
  have hrun : ¬ (64 ≤ c ∨ s.flag (R.FTL_CLASS_CTL_WRITABLE c) = true ∨ s.ftl.drop.isSome = true) := by simp [hwr, hdrop, hcls]
  simp only [State.ftlCmd, hop, hc, if_true, if_neg hrun]

/-- DIE_LOST of a die that is present has its map entries scanned (R117). -/
theorem ftlCmd_dieLost {d : Nat} (hop : s.get R.FTL_CMD_OP = 5) (hd : s.get R.FTL_CMD_ARG_TARGET % 1024 = d)
    (hdie : s.dieState (d / 32) (d % 32) ≠ 0) : s.ftlCmd = (s.dieLost d).ftlCmdEnd 0 := by
  simp only [State.ftlCmd, hop, hd, Nat.reduceEqDiff, if_true, if_false, if_neg hdie]

section
variable {k : Nat} (hk : s.get R.FTL_CMD_ARG_TARGET = k) (hex : s.sbExists k = true)
include hk hex

/-- SB_CLOSE pads an OPEN superblock (R100). -/
theorem ftlCmd_sbClose (hop : s.get R.FTL_CMD_OP = 2) (hst : (s.sb k).state = 1) : s.ftlCmd = (s.sbPad k).ftlCmdEnd 0 := by
  simp only [State.ftlCmd, hop, hk, hex, hst, Nat.reduceEqDiff, Bool.not_true, Bool.false_eq_true, if_true, if_false]

/-- SB_RELOCATE moves a VERIFIED superblock to RELOCATING (R93); the log's own are left alone. -/
theorem ftlCmd_sbRelocate (hop : s.get R.FTL_CMD_OP = 3) (hst : (s.sb k).state = 3) (hcls : (s.sb k).cls ≠ 66) :
    s.ftlCmd = (s.sbRelocate k).ftlCmdEnd 0 := by
  simp only [State.ftlCmd, hop, hk, hex, hst, hcls, Nat.reduceEqDiff, Bool.not_true, Bool.false_eq_true, ne_eq, not_false_eq_true,
    and_self, if_true, if_false]

/-- SB_RETIRE retires a FREE superblock (R93). -/
theorem ftlCmd_sbRetire (hop : s.get R.FTL_CMD_OP = 4) (hst : (s.sb k).state = 0) : s.ftlCmd = (s.sbRetired k).ftlCmdEnd 0 := by
  simp only [State.ftlCmd, hop, hk, hex, hst, Nat.reduceEqDiff, Bool.not_true, Bool.false_eq_true, if_true, if_false]
  rfl

end

end

end Sys2Proof.Machine
end

section
/-! SUPPORT. What the reports of the map, of placement and of superblocks do (R87, R97, R104, R113, R116). -/

namespace Sys2Proof.Machine

open Sys2Proof

/-! ### Map lookups and updates -/

section
variable {s : State} {ns iu : Nat}

/-- A lookup counts itself, and beyond the map it finds nothing (R87). -/
theorem mapLookup_outOfRange (hiu : (s.evtB 0x240000 0x17 1).mapCap ns ≤ iu) :
    s.mapLookup ns iu = (none, s.evtB 0x240000 0x17 1) := by
  simp only [State.mapLookup, if_pos hiu]

/-- Within the map it answers the entry read, once that has been judged (R87, R120). -/
theorem mapLookup_entry {e : Nat} {u : State} (hiu : iu < (s.evtB 0x240000 0x17 1).mapCap ns)
    (hread : (s.evtB 0x240000 0x17 1).mapRead ns iu = (some e, u)) :
    s.mapLookup ns iu = (some (u.entryOk ns e).1, (u.entryOk ns e).2) := by
  simp only [State.mapLookup, if_neg (Nat.not_le.mpr hiu), hread]

/-- A change is applied while the journal takes it and none waits before it. -/
theorem mapUpdate_taken {u : MapUpd} (hstall : s.jnlStall = false) (hwait : s.ftl.stalled = []) : s.mapUpdate u = s.mapApply u := by
  simp [State.mapUpdate, hstall, hwait]

end

/-- The content class of a host's request has to be WRITABLE; every other request is open to placement (R97). -/
theorem classOpen_iff {s : State} {u : PuReq} :
    s.classOpen u = true ↔ (u.host = true → u.cls < 64 ∧ s.flag (R.FTL_CLASS_CTL_WRITABLE u.cls) = true) := by
  cases hhost : u.host with
  | false => simp [State.classOpen, hhost]
  | true => simp [State.classOpen, hhost]

/-- A FREE superblock that nothing holds, repaired and not RETIRED by that, has its members erased (R113, R116). -/
theorem sbErase_starts {s : State} {k : Nat} (hex : s.sbExists k = true) (hst : (s.sb k).state = 0) (her : (s.sb k).erased = false)
    (hreads : (s.sb k).reads = 0) (hing : (s.sb k).erasing = 0) (hseq : (s.sb k).freeSeq ≤ s.rd64 R.PLJ_FLUSHED_LO)
    (hgrp : s.groupHolds k = false) (hdrop : s.ftl.drop = none) (hrep : ((s.repairAll k).sb k).state ≠ 5) :
    s.sbErase k = ((s.repairAll k).members k).foldl (fun s m => s.eraseMember k m)
      ((s.repairAll k).setSb k { (s.repairAll k).sb k with erasing := ((s.repairAll k).members k).length }) := by
  have hfree : s.sbExists k ∧ (s.sb k).state = 0 ∧ !(s.sb k).erased ∧ (s.sb k).reads = 0 ∧ (s.sb k).erasing = 0
      ∧ (s.sb k).freeSeq ≤ s.rd64 R.PLJ_FLUSHED_LO ∧ !s.groupHolds k ∧ s.ftl.drop.isNone := by
    simp [hex, hst, her, hreads, hing, hseq, hgrp, hdrop]
  simp only [State.sbErase, if_pos hfree, if_neg hrep]

/-- A CLOSING superblock VERIFIED (R104): the pass is counted, its hour noted, and parity that nothing rebuilds from is released. -/
def State.sbVerified (s : State) (k : Nat) : State :=
  (((s.sbMove k { s.sb k with state := 3, vfyFail := false }).evtB 0x240000 0x15 1).setHour k 0).lateRelease

/-- The disturb trigger that waited for a superblock's verify pass waits no more. -/
def State.heldRdDone (s : State) (k : Nat) : State := s.onRdp fun x => { x with heldRd := x.heldRd.filter (· ≠ k) }

/-- A verify pass that succeeds moves the superblock to VERIFIED and evaluates what waited for it (R104, R147). -/
theorem execVerifyPassDone_passed {s : State} {k : Nat} (hhalt : s.flt.halt = false) (hst : (s.sb k).state = 2)
    (hcalm : s.calm = true) (hbad : (s.sb k).vfyBad = false) :
    execVerifyPassDone k true s
      = .next (if (s.sbVerified k).rdp.heldRd.contains k then ((s.sbVerified k).heldRdDone k).rdTrigger k 0
          else ((s.sbVerified k).heldRdDone k).sbCheck k).settleAll := by
  have hpass : true = true ∧ (!(s.sb k).vfyBad) = true := ⟨rfl, by rw [hbad]; rfl⟩
  rw [execVerifyPassDone, actAll_run hhalt]
  refine congrArg (fun t : State => Host.Outcome.next t.settleAll) ?_
  exact (if_pos ⟨hst, hcalm⟩).trans (if_pos hpass)

end Sys2Proof.Machine
end

section
/-! The obligations of 04_placement_translation.md on the map, placement, superblocks and the FTL commands. -/

namespace Sys2Proof.Machine

open Sys2Proof

/-- Settles O17: a lookup is `mapLookup_outOfRange` or `mapLookup_entry`, an erase `sbErase_starts`, and each other report the
branch of its command that its hypotheses pick. -/
theorem mapAndPlacementCommandsComplete : Obligations.MapAndPlacementCommandsComplete := by
  unfold Obligations.MapAndPlacementCommandsComplete
  intro s hrun
  have hhalt := State.running_iff.mp hrun
  refine ⟨fun ns iu => ⟨fun hiu => ?_, fun e u hiu hread => ?_⟩, fun u hstall hwait => ?_, fun u hopen => ?_,
    fun k hst huse hcalm hidle => ?_, fun k hst hcalm => ⟨fun hbad hheld => ?_, fun hbad hheld => ?_, ?_⟩,
    fun k hcalm hex hst her hreads hing hseq hgrp hdrop hrep => ?_, ?_⟩
  · rw [exec_mapLookup, execMapLookup, act_run hhalt, mapLookup_outOfRange hiu]
  · rw [exec_mapLookup, execMapLookup, act_run hhalt, mapLookup_entry hiu hread]
  · rw [exec_mapUpdate, execMapUpdate, actAll_run hhalt, mapUpdate_taken hstall hwait]
  · rw [exec_puPlace, execPuPlace, actAll_run hhalt, if_pos (classOpen_iff.mpr hopen)]
  · rw [exec_idlePad, execIdlePad, actAll_run hhalt, if_pos ⟨hst, huse, hcalm, hidle⟩]
  · change (s.sbVerified k).rdp.heldRd.contains k = true at hheld
    rw [exec_verifyPassDone, execVerifyPassDone_passed hhalt hst hcalm hbad, if_pos hheld]
    rfl
  · change (s.sbVerified k).rdp.heldRd.contains k = false at hheld
    rw [exec_verifyPassDone, execVerifyPassDone_passed hhalt hst hcalm hbad, if_neg (Bool.eq_false_iff.mp hheld)]
    rfl
  · rw [exec_verifyPassDone, execVerifyPassDone, actAll_run hhalt]
    simp only [hst, hcalm, Bool.false_eq_true, false_and, and_self, if_true, if_false]
  · rw [exec_sbEraseStart, execSbEraseStart, actAll_run hhalt, if_pos hcalm,
      sbErase_starts hex hst her hreads hing hseq hgrp hdrop hrep]
  · rw [exec_gcScoreUpdate, execGcScoreUpdate, act_run hhalt, State.onFtl]

/-- Settles O18: an accepted command runs as `ftlCmdWrite_accepted` says, by the lemma of its OP; a read of SB_REC_0 is a served
read; garbage collection, relocation, wear levelling and the scan of a die are the branches that their hypotheses pick. -/
theorem relocationAndFtlCommandsComplete : Obligations.RelocationAndFtlCommandsComplete := by
  unfold Obligations.RelocationAndFtlCommandsComplete
  intro s hrun
  have hhalt := State.running_iff.mp hrun
  refine ⟨fun hcalm hact hvic => ⟨fun e hfail => ?_, fun k hfail hbest => ?_⟩, fun k p ns ius data hst hp hcls hcalm => ?_,
    fun k hcalm hen hfree hspread hwl hlow => ?_, fun r cls hacc hcls hwr hdrop => ?_,
    fun r => ⟨fun hacc hex hst => ?_, fun hacc hex hst hcls => ?_, fun hacc hex hst => ?_, fun hacc hdie x => ?_, fun hread => ?_⟩,
    fun d hoff => ?_⟩
  · rw [exec_gcVictimSelect, execGcVictimSelect, actAll_run hhalt]
    simp only [hcalm, hact, hvic, hfail, Option.isNone_none, and_self, if_true]
  · rw [exec_gcVictimSelect, execGcVictimSelect, actAll_run hhalt]
    simp only [hcalm, hact, hvic, hfail, hbest, List.head?_nil, Option.isNone_none, and_self, if_true]
  · rw [exec_relocateIu, execRelocateIu, actAll_run hhalt, if_pos ⟨hst, hp, hcls, hcalm⟩]
  · rw [exec_wearLevelRelocate, execWearLevelRelocate, actAll_run hhalt]
    simp only [hcalm, hen, hfree, hspread, hwl, hlow, Option.isNone_none, and_self, if_true]
  · have hv : BitVec.ofNat 32 (17 + cls.toNat * 256) = ftlCmdWord 1 cls.toNat := rfl
    rw [exec_classDrop, execClassDrop, actAll_run hhalt, ftlCmdWrite_accepted (by decide) hv hacc,
      ftlCmd_classDrop (ftlCmd_written_op (by decide) hv) (ftlCmd_written_class (by decide) hv cls.isLt) hcls hwr hdrop]
  · have hv : (18 : Word) = ftlCmdWord 2 0 := rfl
    rw [exec_sbClose, execSbClose, actAll_run hhalt, ftlCmdWrite_accepted (by decide) hv hacc,
      ftlCmd_sbClose rfl hex (ftlCmd_written_op (by decide) hv) hst]
  · have hv : (19 : Word) = ftlCmdWord 3 0 := rfl
    rw [exec_sbRelocate, execSbRelocate, actAll_run hhalt, ftlCmdWrite_accepted (by decide) hv hacc,
      ftlCmd_sbRelocate rfl hex (ftlCmd_written_op (by decide) hv) hst hcls]
  · have hv : (20 : Word) = ftlCmdWord 4 0 := rfl
    rw [exec_sbRetire, execSbRetire, actAll_run hhalt, ftlCmdWrite_accepted (by decide) hv hacc,
      ftlCmd_sbRetire rfl hex (ftlCmd_written_op (by decide) hv) hst]
    rfl
  · have hv : (21 : Word) = ftlCmdWord 5 0 := rfl
    rw [exec_dieLost, execDieLost, actAll_run hhalt]
    simp only [ftlCmdWrite_accepted (by decide) hv hacc, ftlCmd_dieLost (ftlCmd_written_op (by decide) hv) rfl hdie]
  · rw [exec_sbRecSnapshot, execSbRecSnapshot, act_run hhalt, softRead_served hread]
  · rw [exec_dieLost, execDieLost, actAll_run hhalt]
    simp only [hoff, if_true]

end Sys2Proof.Machine
end

section
/-! SUPPORT. The read path (chapter 05): what a codeword, a ladder's step, a rebuild, a disturb check and patrol's step do in the
cases of R126, R136, R139, R146 and R147. -/

namespace Sys2Proof.Machine

open Sys2Proof

/-! ### Codewords (R126) -/

/-- The codeword at an index has left its decoder, the hard or the soft one, which counts it. -/
def State.codewordTaken (s : State) (soft : Bool) (i : Nat) : State :=
  (s.onRdp fun x => { x with cws := x.cws.eraseIdx i }).evtB 0x280000 (if soft then 0x11 else 0x10) 1

section
variable {s : State} {psa i : Nat} {c : CwRead}
  (hcw : (s.rdp.cws.zipIdx.find? fun c => decide (c.1.psa = psa)) = some (c, i)) (hfirst : c.ladder = none)
include hcw hfirst

/-- Outside a ladder, a zero syndrome with the CRC of the data and PSA counts as a success of step 1 and is delivered. -/
theorem codeword_decoded (soft : Bool) {data : Bytes} {crc : Nat} (bits unsat : Nat)
    (hcrc : crc = crc32c (data ++ leBytes 8 psa)) :
    s.codeword psa soft true data crc bits unsat
      = ((((s.codewordTaken soft i).countSuccess c.entry 0).stepCount 1).judge c.who (min 4095 bits) 1).deliver c.who psa
          (some data) := by
  have hok : (true && decide (crc = crc32c (data ++ leBytes 8 psa))) = true := by rw [Bool.true_and, decide_eq_true hcrc]
  simp only [State.codeword, hcw, hfirst, Option.bind_none, hok, if_true, State.codewordTaken]

/-- Outside a ladder, a codeword of an NVMe read that fails the syndrome or the CRC enters a ladder. -/
theorem codeword_failed (soft : Bool) {syn : Bool} {data : Bytes} {crc h : Nat} (bits unsat : Nat) (hwho : c.who = .nvm h)
    (hfail : syn = false ∨ crc ≠ crc32c (data ++ leBytes 8 psa)) :
    s.codeword psa soft syn data crc bits unsat = (s.codewordTaken soft i).ladderEnter c unsat := by
  have hok : (syn && decide (crc = crc32c (data ++ leBytes 8 psa))) = false := by
    rcases hfail with hsyn | hcrc
    · rw [hsyn, Bool.false_and]
    · rw [decide_eq_false hcrc, Bool.and_false]
  simp only [State.codeword, hcw, hfirst, Option.bind_none, hok, hwho, Bool.false_eq_true, if_false, State.codewordTaken]

end

/-! ### The ladder and rebuilds (R136, R139) -/

/-- A ladder whose last read has ended enters the next re-read of step 2 while MAX_RETRY leaves one. -/
theorem ladderStep_retry {s : State} {l : Ladder} (hidle : l.busy = false) (hstep : l.step ≤ 2)
    (hsub : l.sub < s.get R.RDP_CFG_MAX_RETRY) :
    s.ladderStep l
      = (s.setLadder { l with step := 2, sub := l.sub + 1, tried := l.tried ||| 2, busy := true }).issueRead
          (l.who.headD .firmware) (some l.id) l.psa 1 (l.sub + 1) 0 := by
  have hready : ¬ l.busy = true := Bool.eq_false_iff.mp hidle
  exact (if_neg hready).trans (if_pos ⟨hstep, hsub⟩)

section
variable {s : State} {psa : BitVec 37} (data : Bytes) (hhalt : s.flt.halt = false)
include hhalt

/-- The end of a rebuild that a ladder waits for at step 4 resolves the ladder, or leaves it there for its next step. -/
theorem execParityRebuildDone_ladder {l : Ladder} (ok : Bool)
    (hl : (s.rdp.ladders.find? fun l => decide (l.psa = psa.toNat) && decide (l.step = 4) && l.busy) = some l) :
    execParityRebuildDone psa ok data s
      = .next (if ok then (s.ladderOk l 4 0 ((data.drop (4096 * (psa.toNat % 16))).take 4096)).rebuiltWrite
            (s.sbOf psa.toNat) (s.posOf psa.toNat) data
          else s.setLadder { l with busy := false }).settleAll := by
  rw [execParityRebuildDone, actAll_run hhalt]
  simp only [hl]

/-- The end of a rebuild owed to a failed program takes it off those owed, and writes it back or loses its entries. -/
theorem execParityRebuildDone_repair (ok : Bool)
    (hl : (s.rdp.ladders.find? fun l => decide (l.psa = psa.toNat) && decide (l.step = 4) && l.busy) = none)
    (howed : s.ftl.repairs.contains (s.sbOf psa.toNat, s.posOf psa.toNat) = true) :
    let t := s.onFtl fun x => { x with repairs := x.repairs.filter (· ≠ (s.sbOf psa.toNat, s.posOf psa.toNat)) }
    execParityRebuildDone psa ok data s
      = .next (if ok then t.rebuiltWrite (s.sbOf psa.toNat) (s.posOf psa.toNat) data
          else t.loseP (s.sbOf psa.toNat) (s.posOf psa.toNat)).settleAll := by
  rw [execParityRebuildDone, actAll_run hhalt]
  simp only [hl, howed, if_true]

end

/-! ### Disturb checks and patrol (R146, R147) -/

/-- The oldest check owed, counted, with those behind it. -/
def State.checkTaken (s : State) (cs : List (Nat × Nat × Nat)) : State :=
  (s.onRdp fun x => { x with checks := cs }).evtB 0x280000 0x18 1

/-- A check of a block whose read count has reached the limit triggers on its superblock without reads. -/
theorem rdCheck_limit {s : State} {d b c : Nat} {cs : List (Nat × Nat × Nat)} (howed : s.rdp.checks = (d, b, c) :: cs)
    (hlimit : 1024 * (s.checkTaken cs).get R.RDP_RD_CFG_LIMIT ≤ c) :
    s.rdCheck = (s.checkTaken cs).rdTrigger ((s.checkTaken cs).owner d b % 2 ^ 20) 0 := by
  rw [State.checkTaken] at hlimit
  simp only [State.rdCheck, howed, if_pos hlimit, State.checkTaken]

/-- How many units patrol's next read takes: those left in its position, as far as the window's rate lets it. -/
def State.patrolUnits (s : State) : Nat :=
  min (16 - s.rdp.patPos % 16) ((s.get R.RDP_PAT_CFG_RATE * 6400 - s.rdp.patBytes) / 4096)

/-- In a VERIFIED superblock that it has not read to its end, patrol reads the next units. -/
theorem patrol_reads {s : State} {k : Nat} (hk : s.get R.RDP_PAT_STS_SBID = k) (hen : s.flag R.RDP_PAT_CFG_EN = true)
    (hcalm : s.calm = true) (hact : s.flag R.RDP_PAT_STS_ACTIVE = true) (hst : (s.sb k).state = 3)
    (hpos : s.rdp.patPos < 16 * (s.sb k).wptr) (hn : s.patrolUnits ≠ 0) :
    let t := s.onRdp fun x =>
      { x with patPos := s.rdp.patPos + s.patrolUnits, patBytes := x.patBytes + 4096 * s.patrolUnits }
    s.patrol = (t.evtB 0x280000 0x17 s.patrolUnits).issueRead (.patrol k) none
      (t.posPsa k (s.rdp.patPos / 16) + s.rdp.patPos % 16) s.patrolUnits 0 0 := by
  rw [State.patrolUnits] at hn
  simp only [State.patrol, hk, hen, hcalm, hact, hst, hpos, hn, Bool.not_true, Bool.false_eq_true, ne_eq, not_true_eq_false,
    or_self, if_true, if_false, State.patrolUnits]

end Sys2Proof.Machine
end

section
/-! The obligation of 05_read_path_ecc.md on codewords, ladders, rebuilds, disturb checks and patrol. -/

namespace Sys2Proof.Machine

open Sys2Proof

/-- Settles O19: `codeword_decoded` or `codeword_failed`, `ladderStep_retry`, the two ends of a rebuild, `rdCheck_limit` and
`patrol_reads`; the reads of WEAK and of the UNC record are served reads. -/
theorem readPathCommandsComplete : Obligations.ReadPathCommandsComplete := by
  unfold Obligations.ReadPathCommandsComplete
  intro s hrun
  have hhalt := State.running_iff.mp hrun
  refine ⟨fun psa soft syn data crc bits unsat i c hcw hfirst => ⟨fun hsyn hcrc => ?_, fun h hwho hfail => ?_⟩,
    fun psa l hl hidle hstep hsub => ?_, fun psa data l hl => ⟨?_, ?_⟩, fun psa data hl howed => ⟨?_, ?_⟩,
    fun d b c cs hcalm howed hlimit => ?_, fun hen hcalm hact hst hpos hn => ?_, fun r hread => ?_, fun r w hread => ?_⟩
  · rw [exec_codewordDecode, execCodewordDecode, actAll_run hhalt, hsyn, codeword_decoded hcw hfirst soft bits unsat hcrc]
    rfl
  · rw [exec_codewordDecode, execCodewordDecode, actAll_run hhalt, codeword_failed hcw hfirst soft bits unsat hwho hfail]
    rfl
  · rw [exec_ladderStep, execLadderStep, actAll_run hhalt]
    simp only [hl, ladderStep_retry hidle hstep hsub]
  · rw [exec_parityRebuildDone, execParityRebuildDone_ladder data hhalt true hl, if_pos rfl]
  · rw [exec_parityRebuildDone, execParityRebuildDone_ladder data hhalt false hl, if_neg Bool.false_ne_true]
  · rw [exec_parityRebuildDone, execParityRebuildDone_repair data hhalt true hl howed, if_pos rfl]
  · rw [exec_parityRebuildDone, execParityRebuildDone_repair data hhalt false hl howed, if_neg Bool.false_ne_true]
  · rw [exec_readDisturbCheck, execReadDisturbCheck, actAll_run hhalt, if_pos hcalm, rdCheck_limit howed hlimit]
    rfl
  · rw [exec_patrolRead, execPatrolRead, actAll_run hhalt, patrol_reads rfl hen hcalm hact hst hpos hn]
    rfl
  · rw [exec_weakPop, execWeakPop, act_run hhalt, softRead_served hread]
  · rw [exec_uncRecordRead, execUncRecordRead, act_run hhalt, softRead_served hread]

end Sys2Proof.Machine
end

section
/-! SUPPORT. PLJ (chapter 06): its page, and what the journal's and the brace's reports do in the cases that R158 to R168 and
R166 to R176 tell apart. -/

namespace Sys2Proof.Machine

open Sys2Proof

/-! ### Registers -/

/-- The page of PLJ (R29). -/
def pljAt : PageAt := ⟨⟨.plj, 0x14, 0x2C0000, 1, 0x10000, 1, true, false, false⟩, 0, 0⟩

theorem findPage_plj {o : Nat} (ho : o < 0x1000) : findPage (pljPage + o) = some pljAt :=
  findPage_row (before := pageRows.take 19) (r := pljAt.row) (i := 0) (k := 0) rfl (by decide) (by decide) Nat.one_pos (by decide) ho
    (by simp only [pljPage, pljAt]; omega)

section
variable {s : State} {r : Requester}

/-- An accepted write to a register of PLJ sets its fields, and PLJ acts on it. -/
theorem pljWrite_accepted {o : Nat} (ho : o < 0x1000) {v : Word} (hacc : s.accepts pljChecks r (pljPage + o) v = true) :
    s.softWrite pljChecks pljEffect r (pljPage + o) v
      = pljEffect (s.written r (pljPage + o) v) r pljAt o (s.wordBefore r (pljPage + o)) v := by
  have hoff : (pljPage + o) % 0x1000 = o := by unfold pljPage; omega
  rw [softWrite_accepted hacc, pageOf_eq (findPage_plj ho), hoff]

/-- A write of 1 to PF_STS.SEEN does no more than clear it (R174). -/
theorem seenWrite_accepted (hacc : s.accepts pljChecks r R.PLJ_PF_STS 2 = true) :
    s.softWrite pljChecks pljEffect r R.PLJ_PF_STS 2 = s.written r R.PLJ_PF_STS 2 :=
  (pljWrite_accepted (o := 0xC4) (by decide) hacc).trans ((if_neg (by decide)).trans (if_neg (by decide)))

theorem readmitWrite_accepted (hacc : s.accepts pljChecks r R.PLJ_PF_CTL 1 = true) :
    s.softWrite pljChecks pljEffect r R.PLJ_PF_CTL 1 = (s.written r R.PLJ_PF_CTL 1).readmit :=
  (pljWrite_accepted (o := 0xCC) (by decide) hacc).trans (if_pos ⟨rfl, rfl⟩)

theorem recStartWrite_accepted (hacc : s.accepts pljChecks r R.PLJ_REC_CTL 1 = true) :
    s.softWrite pljChecks pljEffect r R.PLJ_REC_CTL 1 = (s.written r R.PLJ_REC_CTL 1).recStart :=
  (pljWrite_accepted (o := 0xD0) (by decide) hacc).trans ((if_neg (by decide)).trans (if_pos ⟨rfl, rfl⟩))

end

/-! ### The journal -/

section
variable {s : State}

/-- A chunk of the journal programmed without failure (R158): its superblock notes the last sequence number, and its entries
count as flushed. -/
def State.chunkFlushed (s : State) (c : ChunkJob) (k : Nat) : State :=
  ((((s.setChunks false (s.plj.chunks.filter fun x => x.no ≠ c.no)).sbHidden k fun r =>
    { r with lastSeq := c.ents.foldl (fun a e => max a e.seq) r.lastSeq }).entsFlushed c.ents).evtB pljPage 0x11 1).stallRefresh

/-- A chunk of the journal that waits for its next page again. -/
def State.chunkBack (s : State) (c : ChunkJob) : State := s.updChunk false c.no fun x => { x with pos := none, result := none }

section
variable {c : ChunkJob} (hfirst : (s.plj.chunks.find? fun c => c.result.isSome) = some c)
include hfirst

/-- Once a chunk is flushed, the map changes that it held back go on, and the next flush is looked for. -/
theorem chunkDone_flushed (hok : c.result = some true) (hpos : c.pos = none) :
    s.chunkDone = ((s.chunkFlushed c 0).unstall (s.chunkFlushed c 0).ftl.stalled.length).flush := by
  simp only [State.chunkDone, hfirst, hok, hpos, if_true, State.chunkFlushed]

/-- After a failed program the OPEN journal superblock closes early, and the chunk is programmed elsewhere. -/
theorem chunkDone_failed (hfail : c.result = some false) {k p : Nat} (hpos : c.pos = some (k, p))
    (hopen : ((s.chunkBack c).sb k).state = 1) :
    s.chunkDone = (((s.chunkBack c).sbClose k true).setLogPage false 0).chunkRetry false := by
  rw [State.chunkBack] at hopen
  simp only [State.chunkDone, hfirst, hfail, hpos, hopen, Option.some.injEq, Bool.false_eq_true, if_true, if_false,
    State.chunkBack]

end

/-- The PU of a write-back of segments read from DRAM (R161). -/
def segPu (ds : List (DirtySeg × Bytes)) : PuReq :=
  ⟨7, 0, 65, [], false, [], none, false, [], ds.map (·.1.seg) ++ ds.map (·.1.seq), ds.flatMap (·.2) ++ mapTrailer ds, .nobody⟩

/-- Due segments leave the dirty ones and go to a PU, which repeats the last of fewer than three. -/
theorem writeBack3_due {ds : List DirtySeg} {rs : List (DirtySeg × Bytes)} {x : DirtySeg × Bytes} {u : State}
    (hdue : s.wbDue.take 3 = ds) (hne : ds ≠ []) (hload : State.segLoad ds s = (some rs, u)) (hlast : rs.getLast? = some x) :
    s.writeBack3 = ((u.onPlj fun y => { y with dirty := y.dirty.drop ds.length }).evtB pljPage 0x12 ds.length).place
      (segPu ((rs ++ [x, x]).take 3)) := by
  cases ds with
  | nil => exact absurd rfl hne
  | cons d ds => simp only [State.writeBack3, hdue, hload, hlast, segPu]

end

/-! ### PFAIL_N -/

section
variable {s : State}

/-- PFAIL_N asserted (R166): SEEN and PFAIL are set, and source 352 says so. -/
def State.pfSeen (s : State) : State := ((s.put R.PLJ_PF_STS_SEEN 1).put R.PLJ_PF_STS_PFAIL 1).pulse 352

theorem pfAssert_bracing (hbrace : s.pfSeen.get R.PLJ_PF_STS_STATE = 1) : s.pfAssert = s.pfSeen := if_pos hbrace

theorem pfAssert_starts (hbrace : s.pfSeen.get R.PLJ_PF_STS_STATE ≠ 1) : s.pfAssert = s.pfSeen.braceStart true := if_neg hbrace

/-- PFAIL_N deasserted (R172): PFAIL is clear, and the dead time starts. -/
def State.pfGone (s : State) : State := (s.put R.PLJ_PF_STS_PFAIL 0).deadStart

section
variable (hpf : s.flag R.PLJ_PF_STS_PFAIL = true)
include hpf

theorem pfDeassert_eq : s.pfDeassert = if s.pfGone.get R.PLJ_PF_STS_STATE = 2 then s.pfGone.srExit.pulse 354 else s.pfGone := by
  have hset : ¬ (!s.flag R.PLJ_PF_STS_PFAIL) = true := by simp [hpf]
  exact if_neg hset

/-- In BRACED a deassertion ends the DRAM's self-refresh too, and source 354 says so (R176, R501). -/
theorem pfDeassert_braced (hbraced : s.pfGone.get R.PLJ_PF_STS_STATE = 2) : s.pfDeassert = s.pfGone.srExit.pulse 354 :=
  (pfDeassert_eq hpf).trans (if_pos hbraced)

theorem pfDeassert_other (hbraced : s.pfGone.get R.PLJ_PF_STS_STATE ≠ 2) : s.pfDeassert = s.pfGone :=
  (pfDeassert_eq hpf).trans (if_neg hbraced)

end

end

/-! ### The steps of a brace -/

/-- The tails of a brace written (R167): its chunks are counted. -/
def State.tailsCounted (s : State) : State := s.evtB pljPage 0x11 s.plj.chunks.length

/-- All chunks of a brace count as flushed, up to their last entry. -/
def State.tailsFlushed (s : State) : State :=
  (s.tailsCounted.wr64 R.PLJ_FLUSHED_LO
    ((s.plj.chunks.flatMap (·.ents)).foldl (fun a e => max a e.seq) (s.rd64 R.PLJ_FLUSHED_LO))).onPlj fun x =>
      { x with chunks := [], ichunks := [] }

/-- The last chunk of a brace of a kind. -/
def State.endChunk (s : State) (kind : Nat) : ChunkJob :=
  ⟨s.plj.chunkNo, [], [], none, if kind = 2 then 7 else 5, s.devTime, none, none⟩

/-- A brace's last page is out (R167): the channels' other operations are cancelled, and the rail steps begin. -/
def State.tailsEnd (s : State) (b : BraceJob) : State :=
  s.cancelAll.onPlj fun x => { x with brace := some { b with ended := true, rails := true } }

section
variable {s : State} {b : BraceJob} (hb : s.plj.brace = some b)
include hb

section
variable (hended : b.ended = false) (hrails : b.rails = false) (htails : s.plj.waitTails = 0)
include hended hrails htails

/-- Without a reserve the brace goes on to its rail steps at once. -/
theorem tailsWritten_noReserve (hres : s.tailsCounted.plj.reserve = none) :
    s.tailsWritten = s.tailsCounted.tailsEnd b := by
  rw [State.tailsCounted] at hres
  simp only [State.tailsWritten, hb, hended, hrails, htails, hres, Bool.false_eq_true, ne_eq, not_true_eq_false, or_self, if_false,
    State.tailsEnd, State.tailsCounted]

/-- With a reserve the END chunk is written there first. -/
theorem tailsWritten_reserve {k : Nat} {bs : Bytes} {w : State} (hres : s.tailsCounted.plj.reserve = some k)
    (hdata : s.tailsFlushed.chunkData (s.tailsFlushed.endChunk b.kind) = (bs, w)) :
    s.tailsWritten
      = (((w.onPlj fun x => { x with chunkNo := x.chunkNo + 1 }).bracePage k 5 s.tailsFlushed.plj.chunkNo bs).evtB pljPage 0x11
          1).tailsEnd b := by
  simp only [State.tailsFlushed, State.tailsCounted, State.endChunk] at hres hdata
  simp only [State.tailsWritten, hb, hended, hrails, htails, hres, hdata, Bool.false_eq_true, ne_eq, not_true_eq_false, or_self,
    if_false, State.tailsEnd, State.tailsFlushed, State.tailsCounted]

end

/-- A brace at its rail steps, its tails written, switches the first driven group off (R420). -/
theorem railStep_brace {g : Nat} (hrails : b.rails = true) (htails : s.plj.waitTails = 0)
    (hdue : s.rail.lastDrop = 0 ∨ s.rail.lastDrop + 100000 ≤ s.now) (hg : ((List.range 8).find? fun g => s.railDriven g) = some g) :
    s.railStep = (s.railDrop g).onRail fun x => { x with lastDrop := s.now } := by
  simp only [State.railStep, hb, hrails, htails, hdue, hg, decide_true, Bool.and_self, Bool.or_true, and_self, if_true]

end

/-- A brace that ends in time, outside sleep, lets the shutdown, the resets and the reboot that waited for it go on (R175). -/
theorem execBraced_inTime {s : State} (hhalt : s.flt.halt = false) (hnow : s.bracedNow = true)
    (hlate : s.braced.flag R.PLJ_BRACE_REC_LATE = false) (hcur : s.braced.cur < 2) :
    execBraced s = .next s.braced.shutdownStep.fnResetWaiting.rebootWaiting := by
  have hend : ¬ (!s.bracedNow) = true := by simp [hnow]
  have hawake : ¬ 2 ≤ s.braced.cur := Nat.not_le.mpr hcur
  rw [execBraced, act_run hhalt, if_neg hend]
  simp only [hlate, hawake, Bool.false_eq_true, if_false]

end Sys2Proof.Machine
end

section
/-! The obligations of 06_brace_and_journal.md on the journal and the brace. -/

namespace Sys2Proof.Machine

open Sys2Proof

/-- Settles O20: a chunk's result is `chunkDone_flushed` or `chunkDone_failed`, a write-back `writeBack3_due`, an accepted START
`recStartWrite_accepted`; each other report is the branch of its command that its hypothesis picks. -/
theorem journalCommandsComplete : Obligations.JournalCommandsComplete := by
  unfold Obligations.JournalCommandsComplete
  intro s hrun
  have hhalt := State.running_iff.mp hrun
  refine ⟨fun hdue => ?_, fun c hfirst hok hpos => ?_, fun c k p hfirst hfail hpos => ?_,
    fun ds x rs u hcalm hen hdue hne hload hlast => ?_, fun hdue => ?_, fun r hacc => ?_,
    fun f hrec => ⟨fun hunclean => ?_, fun hclean => ?_⟩⟩
  · rw [exec_journalFlush, execJournalFlush, actAll_run hhalt, State.flush, if_pos hdue]
  · rw [exec_journalChunkDone, execJournalChunkDone, actAll_run hhalt, chunkDone_flushed hfirst hok hpos]
    rfl
  · intro t hopen
    rw [exec_journalChunkDone, execJournalChunkDone, actAll_run hhalt, chunkDone_failed hfirst hfail hpos hopen]
    rfl
  · have hmay : (s.calm && s.enabled pljPage) = true := by rw [hcalm, hen, Bool.and_self]
    rw [exec_segmentWriteback, execSegmentWriteback, actAll_run hhalt, if_pos hmay, writeBack3_due hdue hne hload hlast]
    rfl
  · rw [exec_reserveDesignate, execReserveDesignate, actAll_run hhalt, if_pos hdue]
  · rw [exec_recStart, execRecStart, actAll_run hhalt, recStartWrite_accepted hacc]
    rfl
  · rw [exec_recoveryDone, execRecoveryDone, actAll_run hhalt, if_pos ⟨hrec, hunclean⟩]
  · rw [exec_recoveryDone, execRecoveryDone, actAll_run hhalt, if_neg fun h => Bool.eq_false_iff.mp hclean h.2]

/-- Settles O21: PFAIL_N is `pfAssert_bracing` or `pfAssert_starts`, and `pfDeassert_braced` or
`pfDeassert_other`; the tails of a brace are `tailsWritten_noReserve` or `tailsWritten_reserve`, a rail
step is `railStep_brace`, the end `execBraced_inTime`; accepted writes of SEEN and READMIT are PLJ's own. -/
theorem braceCommandsComplete : Obligations.BraceCommandsComplete := by
  unfold Obligations.BraceCommandsComplete
  intro s hrun
  have hhalt := State.running_iff.mp hrun
  refine ⟨fun hpf => ⟨fun hbrace => ?_, fun hbrace => ?_⟩, fun hpf => ⟨fun hbraced => ?_, fun hbraced => ?_⟩,
    fun b hb hended hrails htails => ?_, fun b k bs w hb hended hrails htails => ?_, fun b g hb hrails htails hdue hg => ?_,
    fun hnow => ?_, fun t hdead hdue => ?_, fun r hacc => ?_, fun r hacc => ?_⟩
  · rw [exec_pfAssert, execPfAssert, actAll_run hhalt, if_neg (Bool.eq_false_iff.mp hpf), pfAssert_bracing hbrace]
    rfl
  · rw [exec_pfAssert, execPfAssert, actAll_run hhalt, if_neg (Bool.eq_false_iff.mp hpf), pfAssert_starts hbrace]
    rfl
  · rw [exec_pfDeassert, execPfDeassert, actAll_run hhalt, pfDeassert_braced hpf hbraced]
    rfl
  · rw [exec_pfDeassert, execPfDeassert, actAll_run hhalt, pfDeassert_other hpf hbraced]
    rfl
  · intro t hres
    rw [exec_braceTailsWritten, execBraceTailsWritten, actAll_run hhalt, tailsWritten_noReserve hb hended hrails htails hres]
    rfl
  · intro t top v c hres hdata
    rw [exec_braceTailsWritten, execBraceTailsWritten, actAll_run hhalt, tailsWritten_reserve hb hended hrails htails hres hdata]
    rfl
  · rw [exec_braceRailStep, execBraceRailStep, railStep_brace hb hrails htails hdue hg]
  · intro t hlate hcur
    rw [exec_braced, execBraced_inTime hhalt hnow hlate hcur]
  · rw [exec_deadTimeEnd, execDeadTimeEnd, act_run hhalt]
    simp only [hdead, if_pos hdue]
  · rw [exec_seenClear, execSeenClear, act_run hhalt, seenWrite_accepted hacc]
  · rw [exec_readmit, execReadmit, actAll_run hhalt, readmitWrite_accepted hacc]

end Sys2Proof.Machine
end

section
/-! SUPPORT. Messages of the segment service (R192 to R195): what the row of a frame says of its message, and what an
authenticated message of a client or of a member does, case by case. -/

namespace Sys2Proof.Machine

open Sys2Proof

/-! ### Rows -/

/-- What a row of the command table asks of a message's OP and flags (R194). -/
def Msg.inRow (m : Msg) : Nat → Prop
  | 1 => m.op = 1
  | 2 => m.op = 2
  | 3 => m.op = 3 ∧ m.data = false
  | 4 => m.op = 3 ∧ m.data = true
  | 5 => m.op = 4
  | 6 => m.op = 5
  | 7 => m.op = 6
  | 8 => m.op = 7 ∧ m.resp = false ∧ m.data = false
  | 9 => m.op = 7 ∧ (m.resp = true ∨ m.data = true)
  | 10 => m.op = 8 ∧ m.resp = false
  | 11 => m.op = 8 ∧ m.resp = true
  | 12 => m.op = 11 ∧ m.resp = false
  | 13 => m.op = 11 ∧ m.resp = true
  | 14 => m.op = 12
  | 15 => m.op = 14
  | _ => True

/-- The row that a message belongs to holds it. -/
theorem Msg.inRow_row (m : Msg) : m.inRow m.row := by
  unfold Msg.row
  split
  case h_3 | h_7 | h_8 | h_9 => split <;> simp_all [Msg.inRow]
  case h_12 => trivial
  all_goals assumption

/-- The message of a frame is one of the frame's row. -/
theorem Frame.inRow {f : Frame} {k : Nat} (hrow : f.row = k) : (Msg.ofBytes f.data).inRow k := by
  rw [← hrow, Frame.row]
  split
  · trivial
  · exact Msg.inRow_row _

section
variable {s t : State} {f : Frame} {r : Rights} (hrun : s.running = true) (hhears : s.hears f r t) {k : Nat} (hrow : f.row = k)
  (c : Bool)
include hrun hhears hrow

/-- A heard frame of a client carries out its message. -/
theorem actAll_clientMsg (hpeer : (Msg.ofBytes f.data).peer = false) :
    (actAll s fun s => s.receiveRow k f c)
      = .next (t.clientMsg f.from_ (s.heardBy f) (Msg.ofBytes f.data) f.payload r).settleAll := by
  rw [actAll_run (State.running_iff.mp hrun), receiveRow_heard hhears hrow, if_neg (Bool.eq_false_iff.mp hpeer)]

/-- A heard frame of a member carries out its message. -/
theorem actAll_peerMsg (hpeer : (Msg.ofBytes f.data).peer = true) :
    (actAll s fun s => s.receiveRow k f c)
      = .next (t.peerMsg f.from_ (s.heardBy f) (Msg.ofBytes f.data) f.payload c).settleAll := by
  rw [actAll_run (State.running_iff.mp hrun), receiveRow_heard hhears hrow, if_pos hpeer]

end

/-! ### Messages of clients -/

section
variable {t : State} {m : Msg} (a : NetAddr) (e : Nat) (d : Bytes) (r : Rights)

section
variable {i : Nat} {x : Flow}

theorem clientMsg_ack (hop : m.op = 5) (hnamed : t.flowNamed m = some (i, x)) : t.clientMsg a e m d r = t.takeAck i x m := by
  simp only [State.clientMsg, hop, hnamed, true_or, if_true]

theorem clientMsg_credit (hop : m.op = 6) (hnamed : t.flowNamed m = some (i, x)) :
    t.clientMsg a e m d r = t.takeCredit i x m := by
  simp only [State.clientMsg, hop, hnamed, Nat.reduceEqDiff, false_or, if_true, if_false]

/-- Data of a PUT go to the flow that they name (R233). -/
theorem clientMsg_putData (hop : m.op = 3) (hdata : m.data = true) (hflow : t.flowOf m = some (i, x)) (hput : x.kind = .put) :
    t.clientMsg a e m d r = t.takeData i x m a.port d := by
  simp only [State.clientMsg, hop, hdata, hflow, hput, Nat.reduceEqDiff, or_self, and_self, if_true, if_false]

end

/-- The right that a client's request asks for: WRITE of a PUT, READ of every other one (R195). -/
def Rights.allows (r : Rights) (m : Msg) : Prop := if m.op = 3 then r.write = true else r.read = true

/-- A client's request with its right and without a live flow of its own, while IST is ready and not busy, is served (R195). -/
theorem clientMsg_request (hop : 1 ≤ m.op ∧ m.op ≤ 4) (hready : t.flag R.IST_STS_READY = true) (hbusy : t.busyNow m = false)
    (hresp : m.resp = false) (hdata : m.data = false) (hdup : t.dupFlow m = none) (hright : r.allows m) :
    t.clientMsg a e m d r
      = if m.op = 3 then t.servePut a e m else if m.op = 4 then t.serveStat a e m else t.serveGet a e m r.cap := by
  have hnamed : ¬ (m.op = 5 ∨ m.op = 6) := by omega
  have hrights : ¬ (m.op = 3 ∧ (!r.write) = true ∨ (m.op = 1 ∨ m.op = 2 ∨ m.op = 4) ∧ (!r.read) = true) := by
    unfold Rights.allows at hright
    split at hright
    · next h3 => simp [h3, hright]
    · next h3 => simp [h3, hright]
  have hform : ¬ (m.op = 0 ∨ 4 < m.op) := by omega
  simp only [State.clientMsg, if_neg hnamed, hready, hbusy, hresp, hdata, hdup, if_neg hrights, if_neg hform, Bool.not_true,
    Bool.false_eq_true, and_false, false_or, if_false]

end

/-! ### Messages of members -/

section
variable {t : State} {m : Msg} (a : NetAddr) (e : Nat) (d : Bytes) (c : Bool)

section
variable {i : Nat} {x : Flow}

theorem peerMsg_ack (hop : m.op = 5) (hnamed : t.flowNamed m = some (i, x)) : t.peerMsg a e m d c = t.takeAck i x m := by
  simp only [State.peerMsg, hop, hnamed, true_or, if_true]

theorem peerMsg_credit (hop : m.op = 6) (hnamed : t.flowNamed m = some (i, x)) : t.peerMsg a e m d c = t.takeCredit i x m := by
  simp only [State.peerMsg, hop, hnamed, Nat.reduceEqDiff, false_or, if_true, if_false]

/-- What a holder answers to a GET_SHARD goes to the flow that asked (R250). -/
theorem peerMsg_shardData (hop : m.op = 7) (hresp : m.resp = true ∨ m.data = true) (hasked : t.flowAsked m = some (i, x)) :
    t.peerMsg a e m d c = t.shardData i x m a.port d c := by
  simp only [State.peerMsg, hop, hresp, hasked, Nat.reduceEqDiff, or_self, and_self, if_true, if_false]

/-- So does what it answers to a PUT_SHARD (R252). -/
theorem peerMsg_shareAnswer (hop : m.op = 8) (hresp : m.resp = true) (hasked : t.flowAsked m = some (i, x)) :
    t.peerMsg a e m d c = t.shareAnswer i x m := by
  simp only [State.peerMsg, hop, hresp, hasked, Nat.reduceEqDiff, or_self, false_and, and_self, if_true, if_false]

end

section
variable (hbusy : t.busyNow m = false) (htgn : t.tgnRuns = true) (hresp : m.resp = false) (hdata : m.data = false)
  (hdup : t.dupFlow m = none)
include hbusy htgn hresp hdata hdup

theorem peerMsg_getShard (hop : m.op = 7) : t.peerMsg a e m d c = t.getShard a e m := by
  simp only [State.peerMsg, hop, hbusy, htgn, hresp, hdata, hdup, Nat.reduceEqDiff, Bool.not_true, Bool.false_eq_true, or_self,
    or_true, or_false, and_false, if_true, if_false]

theorem peerMsg_putShard (hop : m.op = 8) : t.peerMsg a e m d c = t.putShard a e m := by
  simp only [State.peerMsg, hop, hbusy, htgn, hresp, hdata, hdup, Nat.reduceEqDiff, Bool.not_true, Bool.false_eq_true, or_self,
    or_true, and_false, if_true, if_false]

end

section
variable (hawake : t.pwr.step = .awake) (htgn : t.tgnRuns = true)
include hawake htgn

theorem peerMsg_hello (hop : m.op = 11) (hresp : m.resp = false) : t.peerMsg a e m d c = t.helloAsk a m d := by
  simp only [State.peerMsg, hop, hawake, htgn, hresp, Nat.reduceEqDiff, ne_eq, not_true_eq_false, decide_false, Bool.not_true,
    Bool.false_eq_true, or_self, true_or, if_true, if_false]

theorem peerMsg_helloResponse (hop : m.op = 11) (hresp : m.resp = true) {h : Hello} (hasked : t.tgn.hellos.find m.reqId = some h) :
    t.peerMsg a e m d c = t.helloAnswer m.reqId h m := by
  simp only [State.peerMsg, hop, hawake, htgn, hresp, hasked, Nat.reduceEqDiff, ne_eq, not_true_eq_false, decide_false,
    Bool.not_true, Bool.false_eq_true, or_self, true_or, if_true, if_false]

theorem peerMsg_epoch (hop : m.op = 12) : t.peerMsg a e m d c = t.epochTake a m d := by
  simp only [State.peerMsg, hop, hawake, htgn, Nat.reduceEqDiff, ne_eq, not_true_eq_false, decide_false, Bool.not_true,
    Bool.false_eq_true, or_self, or_true, if_true, if_false]

end

end

end Sys2Proof.Machine
end

section
/-! The obligations of 07_segment_service.md on the messages of clients and of members. -/

namespace Sys2Proof.Machine

open Sys2Proof

/-- Settles O23: a heard frame is its message (`actAll_clientMsg`), its row gives OP and flags (`Frame.inRow`), and the message is a
request, data of a PUT, an ACK or a CREDIT. -/
theorem clientMessagesComplete : Obligations.ClientMessagesComplete := by
  unfold Obligations.ClientMessagesComplete
  intro s t f r hrun hhears m e hpeer
  refine ⟨fun _ hready hbusy hresp hdata hdup => ?_, fun i x hrow hflow hput => ?_, fun i x hnamed => ⟨fun hrow => ?_, fun hrow => ?_⟩⟩
  · have hrequest (hop : 1 ≤ m.op ∧ m.op ≤ 4) (hright : r.allows m) :=
      clientMsg_request f.from_ e f.payload r hop hready hbusy hresp hdata hdup hright
    refine ⟨fun hrow hright => ?_, fun hrow hright => ?_, fun hrow hright => ?_, fun hrow hright => ?_⟩
    · have hop : m.op = 1 := Frame.inRow hrow
      rw [exec_get, execGet, actAll_clientMsg hrun hhears hrow true hpeer, hrequest (by omega) (by simp [Rights.allows, hop, hright])]
      simp only [hop, Nat.reduceEqDiff, if_false]
    · have hop : m.op = 2 := Frame.inRow hrow
      rw [exec_getRange, execGetRange, actAll_clientMsg hrun hhears hrow true hpeer,
        hrequest (by omega) (by simp [Rights.allows, hop, hright])]
      simp only [hop, Nat.reduceEqDiff, if_false]
    · obtain ⟨hop, -⟩ : m.op = 3 ∧ _ := Frame.inRow hrow
      rw [exec_put, execPut, actAll_clientMsg hrun hhears hrow true hpeer, hrequest (by omega) (by simp [Rights.allows, hop, hright]),
        if_pos hop]
    · have hop : m.op = 4 := Frame.inRow hrow
      rw [exec_stat, execStat, actAll_clientMsg hrun hhears hrow true hpeer, hrequest (by omega) (by simp [Rights.allows, hop, hright])]
      simp only [hop, Nat.reduceEqDiff, if_false, if_true]
  · obtain ⟨hop, hdata⟩ : m.op = 3 ∧ m.data = true := Frame.inRow hrow
    rw [exec_putData, execPutData, actAll_clientMsg hrun hhears hrow true hpeer, clientMsg_putData _ _ _ _ hop hdata hflow hput]
    rfl
  · rw [exec_ack, execAck, actAll_clientMsg hrun hhears hrow true hpeer, clientMsg_ack _ _ _ _ (Frame.inRow hrow) hnamed]
  · rw [exec_credit, execCredit, actAll_clientMsg hrun hhears hrow true hpeer, clientMsg_credit _ _ _ _ (Frame.inRow hrow) hnamed]

/-- Settles O24: a heard frame is its message (`actAll_peerMsg`), its row gives OP and flags (`Frame.inRow`), and each message is the
lemma of its kind. -/
theorem peerMessagesComplete : Obligations.PeerMessagesComplete := by
  unfold Obligations.PeerMessagesComplete
  intro s t f r hrun hhears m e hpeer
  refine ⟨fun hbusy htgn hdup => ⟨fun hrow => ?_, fun hrow hdata => ?_⟩, fun i x hasked => ⟨fun c hrow => ?_, fun hrow => ?_⟩,
    fun hawake htgn => ⟨fun hrow => ?_, fun h hrow hasked => ?_, fun hrow => ?_⟩, fun i x hnamed => ⟨fun hrow => ?_, fun hrow => ?_⟩⟩
  · obtain ⟨hop, hresp, hdata⟩ : m.op = 7 ∧ m.resp = false ∧ m.data = false := Frame.inRow hrow
    rw [exec_getShard, execGetShard, actAll_peerMsg hrun hhears hrow true hpeer,
      peerMsg_getShard _ _ _ _ hbusy htgn hresp hdata hdup hop]
  · obtain ⟨hop, hresp⟩ : m.op = 8 ∧ m.resp = false := Frame.inRow hrow
    rw [exec_putShard, execPutShard, actAll_peerMsg hrun hhears hrow true hpeer,
      peerMsg_putShard _ _ _ _ hbusy htgn hresp hdata hdup hop]
  · obtain ⟨hop, hresp⟩ : m.op = 7 ∧ (m.resp = true ∨ m.data = true) := Frame.inRow hrow
    rw [exec_shardResponse, execShardResponse, actAll_peerMsg hrun hhears hrow c hpeer, peerMsg_shardData _ _ _ _ hop hresp hasked]
    rfl
  · obtain ⟨hop, hresp⟩ : m.op = 8 ∧ m.resp = true := Frame.inRow hrow
    rw [exec_putShardResponse, execPutShardResponse, actAll_peerMsg hrun hhears hrow true hpeer,
      peerMsg_shareAnswer _ _ _ _ hop hresp hasked]
  · obtain ⟨hop, hresp⟩ : m.op = 11 ∧ m.resp = false := Frame.inRow hrow
    rw [exec_hello, execHello, actAll_peerMsg hrun hhears hrow true hpeer, peerMsg_hello _ _ _ _ hawake htgn hop hresp]
  · obtain ⟨hop, hresp⟩ : m.op = 11 ∧ m.resp = true := Frame.inRow hrow
    rw [exec_helloResponse, execHelloResponse, actAll_peerMsg hrun hhears hrow true hpeer,
      peerMsg_helloResponse _ _ _ _ hawake htgn hop hresp hasked]
  · rw [exec_epoch, execEpoch, actAll_peerMsg hrun hhears hrow true hpeer, peerMsg_epoch _ _ _ _ hawake htgn (Frame.inRow hrow)]
  · rw [exec_ack, execAck, actAll_peerMsg hrun hhears hrow true hpeer, peerMsg_ack _ _ _ _ (Frame.inRow hrow) hnamed]
  · rw [exec_credit, execCredit, actAll_peerMsg hrun hhears hrow true hpeer, peerMsg_credit _ _ _ _ (Frame.inRow hrow) hnamed]

end Sys2Proof.Machine
end

section
/-! SUPPORT. The commands of the IST page (R212 to R215): an accepted word write of CMD runs the command that it gives. -/

namespace Sys2Proof.Machine

open Sys2Proof

/-! ### Accepted writes -/

/-- Where no code is the first, none of R9 fails. -/
theorem notMem_of_firstCode_none {codes : List Nat} (h : firstCode codes = none) {c : Nat} (hc : c ∈ [6, 3, 4, 5, 2, 7, 1]) :
    c ∉ codes := by
  have hnot := List.find?_eq_none.mp h c hc
  simpa using hnot

/-- An accepted write fails none of R9's checks. -/
theorem notMem_writeCodes_of_accepts {s : State} {chk : Checks} {r : Requester} {off : Nat} {v : Word} {p : PageAt}
    (hp : findPage off = some p) (hacc : s.accepts chk r off v = true) {c : Nat} (hc : c ∈ [6, 3, 4, 5, 2, 7, 1]) :
    c ∉ s.writeCodes chk r p (off % 0x1000) v := by
  unfold State.accepts at hacc
  simp only [hp, Bool.and_eq_true, Option.isNone_iff_eq_none] at hacc
  obtain ⟨⟨⟨-, hcodes⟩, -⟩, -⟩ := hacc
  exact notMem_of_firstCode_none hcodes hc

/-! ### CMD -/

/-- The page of IST that holds its commands (R29). -/
def istCmdAt : PageAt := ⟨⟨.ist, 0x16, 0x310000, 1, 0x10000, 2, true, false, false⟩, 0, 1⟩

theorem findPage_istCmd : findPage R.IST_CMD = some istCmdAt :=
  findPage_row (before := pageRows.take 21) (r := istCmdAt.row) (i := 0) (k := 1) (o := 0x80) rfl (by decide) (by decide)
    Nat.one_pos (by decide) (by decide) rfl

/-- CMD of IST. -/
def istCmdDesc : RegDesc := ⟨"CMD", 0x80, 1, 4, 0, [⟨"OP", 3, 0, .rw⟩, ⟨"GO", 4, 4, .w1s⟩, ⟨"CLASS", 13, 8, .rw⟩]⟩

theorem istCmdAt_reg : istCmdAt.reg 0x80 = some istCmdDesc := rfl

section
variable (s : State) (r : Requester) (v : Word)

/-- An accepted write sets OP and CLASS, and GO where it writes a 1. -/
theorem rd_written_istCmd :
    (s.written r R.IST_CMD v).rd R.IST_CMD
      = (((s.wordBefore r R.IST_CMD).setFld 0 4 (v.fld 0 4)).setFld 4 1 ((s.wordBefore r R.IST_CMD ||| v).fld 4 1)).setFld 8 6
          (v.fld 8 6) :=
  written_rd findPage_istCmd istCmdAt_reg (by decide)

theorem get_op_written_istCmd : (s.written r R.IST_CMD v).get R.IST_CMD_OP = v.fld 0 4 := by
  rw [State.get, rd_written_istCmd, Word.fld_setFld_ne _ (by decide) (.inl (by decide)),
    Word.fld_setFld_ne _ (by decide) (.inl (by decide)), Word.fld_setFld_self _ (by decide), Nat.mod_eq_of_lt (Word.fld_lt v 0 4)]

theorem get_class_written_istCmd : (s.written r R.IST_CMD v).get R.IST_CMD_CLASS = v.fld 8 6 := by
  rw [State.get, rd_written_istCmd, Word.fld_setFld_self _ (by decide), Nat.mod_eq_of_lt (Word.fld_lt v 8 6)]

end

section
variable {s : State} {r : Requester} {v : Word} (hgo : v.bit 4 = true) (hacc : s.accepts istChecks r R.IST_CMD v = true)
include hgo hacc

/-- No command runs when a write of GO is accepted: it would fail with code 0x04. -/
theorem istGo_clear_of_accepts : (s.wordBefore r R.IST_CMD).bit 4 = false := by
  have hcode : 4 ∉ s.writeCodes istChecks r istCmdAt 0x80 v := notMem_writeCodes_of_accepts findPage_istCmd hacc (by decide)
  by_contra hset
  have hbit : ((s.facing r istCmdAt 0x80).rd R.IST_CMD).bit 4 = true := by
    have hoff : R.IST_CMD % 0x1000 = 0x80 := rfl
    simpa [State.wordBefore, findPage_istCmd, hoff] using hset
  have hrunning : (s.facing r istCmdAt 0x80).flag R.IST_CMD_GO = true := by
    rw [State.flag, State.get, Word.fld_one, hbit]
    rfl
  have hpage : istCmdAt.page = 1 := rfl
  exact hcode (by simp [State.writeCodes, istChecks, mem_failIf, hpage, hgo, hrunning])

/-- An accepted write of GO runs the command on the registers as the write has set them. -/
theorem istCmdWrite_accepted (segs : List (Nat × Nat × Bytes)) (lost : List Nat) :
    s.softWrite istChecks (istEffectWith segs lost) r R.IST_CMD v = (s.written r R.IST_CMD v).istCmd segs lost := by
  have hidle := istGo_clear_of_accepts hgo hacc
  rw [softWrite_accepted hacc, pageOf_eq findPage_istCmd, istEffectWith, hidle]
  exact if_pos ⟨rfl, rfl, hgo, rfl⟩

end

section
variable {s : State} {r : Requester} {op cls : Nat} {v : Word} (hop : op < 16) (hv : v = ftlCmdWord op cls)
include hop hv

/-- An accepted row of the table runs its command: the word that gives it is laid out as FTL's (R93, R214). -/
theorem istRow_accepted (hacc : s.accepts istChecks r R.IST_CMD v = true) (segs : List (Nat × Nat × Bytes)) (lost : List Nat) :
    s.istRow r op cls segs lost = (s.written r R.IST_CMD v).istCmd segs lost := by
  have hgo : v.bit 4 = true := bit_ftlCmdWord_go hop hv
  change s.softWrite istChecks (istEffectWith segs lost) r R.IST_CMD (ftlCmdWord op cls) = _
  rw [← hv, istCmdWrite_accepted hgo hacc]

theorem get_op_written_istRow : (s.written r R.IST_CMD v).get R.IST_CMD_OP = op := by
  rw [get_op_written_istCmd, fld_ftlCmdWord_op hop hv]

theorem get_class_written_istRow (hcls : cls < 64) : (s.written r R.IST_CMD v).get R.IST_CMD_CLASS = cls := by
  rw [get_class_written_istCmd, hv, ftlCmdWord, Word.fld, BitVec.toNat_ofNat]
  omega

end

/-! ### Commands -/

section
variable {t : State} {segs : List (Nat × Nat × Bytes)} {lost : List Nat}

theorem istCmd_purge {c : Nat} (hop : t.get R.IST_CMD_OP = 1) (hc : t.get R.IST_CMD_CLASS = c) :
    t.istCmd segs lost = t.istPurge c := by
  simp only [State.istCmd, hop, hc]

theorem istCmd_reopen {c : Nat} (hop : t.get R.IST_CMD_OP = 2) (hc : t.get R.IST_CMD_CLASS = c) :
    t.istCmd segs lost = (t.putBit ⟨R.IST_PURGED (c / 32), 0, 32⟩ (c % 32) false).istEnd 0 := by
  simp only [State.istCmd, hop, hc]

theorem istCmd_insert (hop : t.get R.IST_CMD_OP = 3) : t.istCmd segs lost = t.istInsert := by
  simp only [State.istCmd, hop]

theorem istCmd_remove (hop : t.get R.IST_CMD_OP = 4) : t.istCmd segs lost = t.istRemove := by
  simp only [State.istCmd, hop]

theorem istCmd_idxLoad (hop : t.get R.IST_CMD_OP = 5) : t.istCmd segs lost = t.idxLoad segs lost := by
  simp only [State.istCmd, hop]

end

/-- The entry that INSERT writes: the image in ENT, VALID (R215). -/
def State.entImage (t : State) : IdxEnt := { IdxEnt.ofBytes t.entBytes with state := 1 }

/-- INSERT of a key that the index does not hold writes its entry at the free slot (R215). -/
theorem istInsert_new {t u : State} {n : Nat} (hnew : ∀ m x, (t.idxLook t.entImage.key).1 ≠ .found m x)
    (hslot : (t.idxLook t.entImage.key).2.idxSlot t.entImage.key = (some n, u)) :
    t.istInsert = (u.idxWrite n t.entImage).istEnd 0 := by
  unfold State.entImage at hnew hslot ⊢
  cases hlook : t.idxLook { IdxEnt.ofBytes t.entBytes with state := 1 }.key with
  | mk look v =>
    rw [hlook] at hnew hslot
    cases look with
    | found m x => exact absurd rfl (hnew m x)
    | miss => simp only [State.istInsert, hlook, hslot]
    | failed => simp only [State.istInsert, hlook, hslot]

/-- REMOVE of an entry whose object lies in no extent makes it TOMB (R215). -/
theorem istRemove_noExtent {t u : State} {n : Nat} {e : IdxEnt}
    (hlook : t.idxLook (IdxEnt.ofBytes t.entBytes).key = (.found n e, u))
    (hext : (u.idxWrite n { e with state := 3 }).extOf e.iu = none) :
    t.istRemove = (u.idxWrite n { e with state := 3 }).istEnd 0 := by
  simp only [State.istRemove, hlook, hext, Option.isSome_none, Bool.false_eq_true, if_false]

end Sys2Proof.Machine
end

section
/-! SUPPORT. Port slots and eviction (R224, R226): what a pacer slot sends, and which slot is freed. -/

namespace Sys2Proof.Machine

open Sys2Proof

/-- The flows of a port that have one retransmitted. -/
def State.retransmit (s : State) (p : Nat) : State :=
  (s.ist.flows.filter fun e => decide (e.2.addr.port = p)).foldl (fun s e => s.sendRetx e.1) s

/-- A slot of a port that sends: retransmissions, then messages without data, then due flows (R226). -/
theorem pacerSlot_sends {s : State} {p : Nat} (htx : s.netTx p = true) (hpaced : s.paced = true) :
    s.pacerSlot p
      = State.sendDue p 1024 (State.sendCtrl p ((s.retransmit p).netSt p).ctrl ((s.retransmit p).onNet p fun x =>
          { x with ctrl := [] })) := by
  have hopen : ¬ ((!s.netTx p) = true ∨ (!s.paced) = true) := by simp [htx, hpaced]
  exact if_neg hopen

/-- The slot of unit `u` of flow `i` evicted and counted (R224). -/
def State.evictUnit (s : State) (i u : Nat) (f : Flow) : State :=
  ((((s.freeSlot ((f.snd.slots.find u).getD 0)).setFlow i { f with snd := { f.snd with slots := f.snd.slots.del u } }).addCount
    R.IST_EVICTED_LO 1).evtB 0x310000 0x14 1)

/-- Below LOW_WATER the slot of the oldest data sent is evicted, and eviction goes on. -/
theorem evict_oldest {s : State} {i u a : Nat} {f : Flow} (fuel : Nat)
    (hlow : 16384 - s.stgUsed < s.get R.IST_STAGE_CFG_LOW_WATER) (hold : s.evictable = some (i, u, a))
    (hf : s.ist.flows.find i = some f) : State.evict (fuel + 1) s = State.evict fuel (s.evictUnit i u f) := by
  rw [State.evict, if_neg (Nat.not_le.mpr hlow)]
  simp only [hold, hf, State.evictUnit]

end Sys2Proof.Machine
end

section
/-! The obligation of 07_segment_service.md on the pacer, staging and the commands of the IST page. -/

namespace Sys2Proof.Machine

open Sys2Proof

/-- Settles O26: a slot is `pacerSlot_sends`, eviction `evict_oldest`, and an accepted command runs as `istRow_accepted` says, by the
lemma of its OP. -/
theorem pacerStagingAndIndexCommandsComplete : Obligations.PacerStagingAndIndexCommandsComplete := by
  unfold Obligations.PacerStagingAndIndexCommandsComplete
  intro s hrun
  have hhalt := State.running_iff.mp hrun
  refine ⟨fun p htx hpaced => ?_, fun i u a f hlow hold hf => ?_, fun hen hcalm hlimp => ?_, fun r cls => ⟨?_, ?_⟩, fun r hacc => ?_,
    fun r hacc => ?_, fun r segs lost hacc => ?_⟩
  · rw [exec_pacerSlot, execPacerSlot, actAll_run hhalt, pacerSlot_sends htx hpaced]
    rfl
  · rw [exec_stagingEvict, execStagingEvict, actAll_run hhalt, evict_oldest 16383 hlow hold hf]
    rfl
  · rw [exec_indexSegWriteback, execIndexSegWriteback, actAll_run hhalt, if_pos ⟨hen, hcalm, by rw [hlimp]; rfl⟩]
  · intro v t hacc hclosed
    have hv : v = ftlCmdWord 1 cls.toNat := rfl
    rw [exec_purge, execPurge, actAll_run hhalt, istRow_accepted (by decide) hv hacc,
      istCmd_purge (get_op_written_istRow (by decide) hv) (get_class_written_istRow (by decide) hv cls.isLt)]
  · intro v t hacc
    have hv : v = ftlCmdWord 2 cls.toNat := rfl
    rw [exec_reopen, execReopen, actAll_run hhalt, istRow_accepted (by decide) hv hacc,
      istCmd_reopen (get_op_written_istRow (by decide) hv) (get_class_written_istRow (by decide) hv cls.isLt)]
  · intro t e n u hnew hslot
    have hv : (19 : Word) = ftlCmdWord 3 0 := rfl
    rw [exec_insert, execInsert, actAll_run hhalt, istRow_accepted (by decide) hv hacc,
      istCmd_insert (get_op_written_istRow (by decide) hv), istInsert_new hnew hslot]
    rfl
  · intro t n e u hlook hext
    have hv : (20 : Word) = ftlCmdWord 4 0 := rfl
    rw [exec_remove, execRemove, actAll_run hhalt, istRow_accepted (by decide) hv hacc,
      istCmd_remove (get_op_written_istRow (by decide) hv), istRemove_noExtent hlook hext]
  · intro t hstep
    have hv : (21 : Word) = ftlCmdWord 5 0 := rfl
    rw [exec_idxLoad, execIdxLoad, actAll_run hhalt, istRow_accepted (by decide) hv hacc,
      istCmd_idxLoad (get_op_written_istRow (by decide) hv)]

end Sys2Proof.Machine
end

section
/-! SUPPORT. Reports of flows (R217 to R235): one that names a live flow acts on it. -/

namespace Sys2Proof.Machine

open Sys2Proof

theorem onFlow_find {s : State} {i : Nat} {f : Flow} (hf : s.ist.flows.find i = some f) (g : Flow → State) :
    s.onFlow i g = g f := by
  simp only [State.onFlow, hf]

/-- A flow may issue its next read: it serves data, and pacing, staging and contexts allow it (R217, R223). -/
def State.readsNext (s : State) (f : Flow) : Prop :=
  f.snd.nextUnits ≠ [] ∧ f.serves = true ∧ s.paced = true ∧ s.mayRead f.snd f.snd.nextUnits = true
    ∧ (f.ctx = true ∨ s.get R.IST_CTX_CFG_CTX_RSV < s.ctxFree)

section
variable {s : State} {i : Nat} {f : Flow} (hrun : s.running = true) (hf : s.ist.flows.find i = some f)
include hrun hf

/-- A report of a live flow acts on the flow. -/
theorem actAll_onFlow (g : State → Flow → State) : (actAll s fun s => s.onFlow i (g s)) = .next (g s f).settleAll := by
  rw [actAll_run (State.running_iff.mp hrun), onFlow_find hf]

theorem flowReadIssue_reads (hread : s.readsNext f) :
    exec (.flowReadIssue i) s
      = .next (s.readIu i { f with
          ctx := true
          snd := { f.snd with next := max f.snd.next (f.snd.nextUnits.foldl max 0 + 1) } } f.snd.nextUnits).settleAll := by
  obtain ⟨hunits, hserves, hpaced, hmay, hctx⟩ := hread
  have hgo : ¬ (f.snd.nextUnits.isEmpty = true ∨ (!f.serves) = true ∨ (!s.paced) = true
      ∨ (!s.mayRead f.snd f.snd.nextUnits) = true ∨ (!f.ctx) = true ∧ s.ctxFree ≤ s.get R.IST_CTX_CFG_CTX_RSV) := by
    have hroom : ¬ ((!f.ctx) = true ∧ s.ctxFree ≤ s.get R.IST_CTX_CFG_CTX_RSV) := by
      rintro ⟨hnone, hfew⟩
      rcases hctx with hctx | hfree
      · simp [hctx] at hnone
      · omega
    simp only [List.isEmpty_iff, hunits, hserves, hpaced, hmay, Bool.not_true, Bool.false_eq_true, false_or]
    exact hroom
  rw [exec_flowReadIssue, execFlowReadIssue, actAll_onFlow hrun hf, if_neg hgo]

/-- The last packet of a flow whose unit cannot be read goes out once every byte before the unit is sent (R220). -/
theorem unreadableEnd_reports (hbad : f.snd.bad.isSome = true) (hended : f.snd.ended = false) (hoff : f.snd.off = f.snd.end_)
    (hserves : f.serves = true) (hpaced : s.paced = true) :
    exec (.unreadableEnd i) s
      = .next ((s.setFlow i { f with
          ctx := false
          snd := { f.snd with
            ended := true
            psn := f.snd.psn + 1
            pkts := f.snd.pkts.put f.snd.psn ⟨f.snd.off, 0, s.now, 1, false, false⟩ } }).sendMsg f.addr
          { f.msg i f.op 5 with status := 4, off := f.snd.start + f.snd.off, seq := f.snd.psn } f.peer).settleAll := by
  have hnone : f.snd.bad.isNone = false := Option.isNone_eq_false_iff.mpr hbad
  have hgo : ¬ (f.snd.bad.isNone = true ∨ f.snd.ended = true ∨ f.snd.off ≠ f.snd.end_ ∨ (!f.serves) = true
      ∨ (!s.paced) = true) := by
    simp [hnone, hended, hoff, hserves, hpaced]
  rw [exec_unreadableEnd, execUnreadableEnd, actAll_onFlow hrun hf, if_neg hgo]

section
variable (hpaced : s.paced = true)
include hpaced

/-- A retransmission timer with a packet not acknowledged aborts at RETX_MAX, and retransmits below it (R222, R225). -/
theorem rtoExpire_open (hopen : (f.snd.pkts.all fun p => p.2.acked) = false) :
    exec (.rtoExpire i) s
      = .next (if s.get R.IST_RTO_CFG_RETX_MAX ≤ f.snd.expiries + 1 then s.abortAny i else s.rtoFlow i f).settleAll := by
  have hgo : ¬ ((!s.paced) = true ∨ (f.snd.pkts.all fun p => p.2.acked) = true) := by simp only [hpaced, hopen]; decide
  rw [exec_rtoExpire, execRtoExpire, actAll_onFlow hrun hf, if_neg hgo]

/-- A serving flow held at rate or window 0 is aborted (R225). -/
theorem flowIdleExpire_aborts (hserves : f.serves = true) (hidle : f.snd.adv = 0 ∨ f.snd.win = 0) :
    exec (.flowIdleExpire i) s = .next (s.abortAny i).settleAll := by
  rw [exec_flowIdleExpire, execFlowIdleExpire, actAll_onFlow hrun hf]
  simp only [hserves, hpaced, hidle, Bool.true_or, and_self, if_true]

/-- A PUT that has waited PUT_TMO for data is aborted (R235). -/
theorem putTmoExpire_aborts {p : PutSt} (hput : f.put = some p) (hvalid : p.valid = false)
    (hdue : f.rcv.last + 10 ^ 6 * s.get R.IST_PUT_CFG_PUT_TMO ≤ s.now) :
    exec (.putTmoExpire i) s = .next (s.putAbort i f).settleAll := by
  rw [exec_putTmoExpire, execPutTmoExpire, actAll_onFlow hrun hf]
  simp only [hput, hvalid, hpaced, hdue, Bool.not_false, and_self, if_true]

end

end

/-- A PUT whose VALID entry is on flash ends with success (R234). -/
theorem putFinal_clean {s : State} {i : Nat} {f : Flow} {p : PutSt} (hf : s.ist.flows.find i = some f) (hput : f.put = some p)
    (hvalid : p.valid = true) (hclean : s.segClean (p.ent / 2048) = true) : s.putFinal i = s.endFlow i 0 := by
  simp only [State.putFinal, hf, hput, hvalid, hclean, and_self, if_true]

end Sys2Proof.Machine
end

section
/-! The obligation of 07_segment_service.md on the reads, timers and ends of flows. -/

namespace Sys2Proof.Machine

open Sys2Proof

/-- Settles O25: each report acts on its live flow (`actAll_onFlow`), by the lemma of the branch that its hypotheses pick. -/
theorem flowCommandsComplete : Obligations.FlowCommandsComplete := by
  unfold Obligations.FlowCommandsComplete
  intro s i f hrun hf
  refine ⟨fun hunits hserves hpaced hmay hctx => flowReadIssue_reads hrun hf ⟨hunits, hserves, hpaced, hmay, hctx⟩, fun g => ?_,
    unreadableEnd_reports hrun hf, fun hpaced hopen => ⟨fun hless => ?_, fun hmax => ?_⟩,
    fun hserves hpaced => flowIdleExpire_aborts hrun hf hpaced hserves, fun p hput => ⟨fun hvalid hpaced =>
      putTmoExpire_aborts hrun hf hpaced hput hvalid, fun hvalid hclean => ?_⟩⟩
  · intro mine t hg hwhy hstaged
    rw [exec_flowDataStaged, execFlowDataStaged, actAll_onFlow hrun hf]
    exact congrArg (fun x : State => Host.Outcome.next x.settleAll) ((onFlow_find hg _).trans (if_pos ⟨hwhy, hstaged⟩))
  · rw [rtoExpire_open hrun hf hpaced hopen, if_neg (Nat.not_le.mpr hless)]
  · rw [rtoExpire_open hrun hf hpaced hopen, if_pos hmax]
  · rw [exec_putFinalResponse, execPutFinalResponse, actAll_run (State.running_iff.mp hrun), putFinal_clean hf hput hvalid hclean]

end Sys2Proof.Machine
end

section
/-! SUPPORT. Links, neighbours and frames at the network ports (R187 to R190, R237). -/

namespace Sys2Proof.Machine

open Sys2Proof

section
variable {s : State} {f : Frame}

/-- A WAKE frame that matches wakes the part (R237). -/
theorem wakeFrame_wakes (hwake : s.wakeMatches f = true) :
    s.wakeFrame f = (s.pulse (netSrc f.port.val + 4)).wake (2 ^ (4 + f.port.val)) :=
  if_pos hwake

/-- A frame that wakes nothing is received as any other (R237). -/
theorem wakeFrame_receives (hwake : s.wakeMatches f = false) : s.wakeFrame f = s.receive f true :=
  if_neg (Bool.eq_false_iff.mp hwake)

/-- A bad FCS is the first reason to drop a frame (R190). -/
theorem frameReason_badFcs (hfcs : f.fcs = false) : s.frameReason f = some 1 := by
  unfold State.frameReason
  exact if_pos (by rw [hfcs]; rfl)

/-- A received frame with a reason against it is counted and dropped for it (R190). -/
theorem receive_dropped {k : Nat} (hrx : s.netRx f.port.val = true) (hreason : (s.frameCount f).frameReason f = some k) (c : Bool) :
    s.receive f c = (s.frameCount f).netDrop f.port.val k := by
  simp only [State.receive, hrx, hreason, Bool.not_true, Bool.false_eq_true, if_false]

end

section
variable {s : State} {n : Nat}

/-- A port that sends asks for the gateways of both families (R189). -/
theorem gatewayAsk_sends (htx : s.netTx n = true) : s.gatewayAsk n = (s.neighAsk n false).neighAsk n true := if_pos htx

/-- A link that was up goes down (R239). -/
theorem netDown_up {sig : Nat} (hup : s.flag (R.NET_LINK_STS_UP n) = true) :
    s.netDown n sig
      = (((((s.put (R.NET_LINK_STS_UP n) 0).put (R.NET_LINK_STS_FEC_LOCK n) 0).put (R.NET_LINK_STS_SIG n) sig).bump
          (R.NET_LINK_CNT_DOWN n) 1).pulse (netSrc n + 1)) :=
  if_pos hup

end

end Sys2Proof.Machine
end

section
/-! The obligation of 07_segment_service.md on the network ports. -/

namespace Sys2Proof.Machine

open Sys2Proof

/-- Settles O22: a frame is `wakeFrame_wakes` or `wakeFrame_receives` with `receive_dropped`, a refresh `gatewayAsk_sends`, a link
down `netDown_up`; each other report is the branch that its hypotheses pick. -/
theorem netPortCommandsComplete : Obligations.NetPortCommandsComplete := by
  unfold Obligations.NetPortCommandsComplete
  intro s n hrun
  have hhalt := State.running_iff.mp hrun
  refine ⟨fun v6 target ip mac hrx htx hon htarget => ?_, fun ip mac hrx hip => ?_, fun ip mac hrx hip => ?_, fun htx => ?_,
    fun sig hruns hdown => ?_, fun sig hup => ?_, fun hup => ?_, fun f hwake => ⟨?_, fun hrow => ?_⟩, fun f hwake hrx hfcs => ?_⟩
  · rw [exec_arpRequest, execArpRequest, act_run hhalt, if_pos ⟨hrx, htx, hon, htarget⟩]
  · intro t hnew
    rw [exec_gatewayReply, execGatewayReply, act_run hhalt, if_pos ⟨hrx, hip⟩]
    exact congrArg Host.Outcome.next (if_neg hnew)
  · intro t hknown
    rw [exec_gatewayReply, execGatewayReply, act_run hhalt, if_pos ⟨hrx, hip⟩]
    exact congrArg Host.Outcome.next (if_pos hknown)
  · rw [exec_neighRefresh, execNeighRefresh, act_run hhalt, gatewayAsk_sends htx]
  · rw [exec_netLinkUp, execNetLinkUp, act_run hhalt, if_pos ⟨hruns, by rw [hdown]; rfl⟩]
  · rw [exec_netLinkDown, execNetLinkDown, act_run hhalt, netDown_up hup]
  · rw [exec_fecUncorrectableCodeword, execFecUncorrectableCodeword, act_run hhalt, if_pos hup]
  · rw [exec_frameReceive, execFrameReceive, actAll_run hhalt, wakeFrame_wakes hwake]
  · rw [exec_wake, execWake, actAll_run hhalt, if_pos hrow, wakeFrame_wakes hwake]
  · rw [exec_frameReceive, execFrameReceive, actAll_run hhalt, wakeFrame_receives hwake,
      receive_dropped hrx (frameReason_badFcs hfcs)]

end Sys2Proof.Machine
end

section
/-! SUPPORT. The registers of Tarragon that start something (R243, R260, R271 to R280): their pages, what an accepted word write
does beyond the fields, and which command a write of CMD runs. -/

namespace Sys2Proof.Machine

open Sys2Proof

/-! ### The pages -/

/-- Page `k` of TGN (R29). -/
def tgnAt (k : Nat) : PageAt := ⟨⟨.tgn, 0x18, 0x380000, 1, 0x10000, 4, true, false, false⟩, 0, k⟩

theorem findPage_tgn {k o off : Nat} (hk : k < 4) (ho : o < 0x1000) (hoff : off = 0x380000 + (0x1000 * k + o)) :
    findPage off = some (tgnAt k) :=
  findPage_row (before := pageRows.take 23) (r := (tgnAt 0).row) (i := 0) rfl (by decide) (by decide) Nat.one_pos hk ho
    (by simp only [tgnAt]; omega)

theorem findPage_tgnCmd : findPage R.TGN_CMD = some (tgnAt 3) := findPage_tgn (o := 0x90) (by decide) (by decide) rfl

/-- An accepted write to page `k` acts on the registers as the write has set them. -/
theorem tgnWrite_accepted {s : State} {r : Requester} {k o off : Nat} {v : Word} (hk : k < 4) (ho : o < 0x1000)
    (hoff : off = 0x380000 + (0x1000 * k + o)) (hacc : s.accepts tgnChecks r off v = true) (eff : Effect) :
    s.softWrite tgnChecks eff r off v = eff (s.written r off v) r (tgnAt k) o (s.wordBefore r off) v := by
  have ho' : off % 0x1000 = o := by omega
  rw [softWrite_accepted hacc, pageOf_eq (findPage_tgn hk ho hoff), ho']

/-! ### What a write does beyond the fields -/

section
variable {s : State} {r : Requester} {old v : Word}

/-- SET_n.CFG brings the set's state up to date (R246). -/
theorem tgnEffect_setCfg (n : Fin 16) :
    tgnEffect s r (tgnAt 1) (0x84 + 0x20 * n.val) old v = (s.setRefresh n.val).resyncCheck := by
  have hin : (tgnAt 1).page = 1 ∧ 0x80 ≤ 0x84 + 0x20 * n.val ∧ 0x84 + 0x20 * n.val < 0x280
      ∧ (0x84 + 0x20 * n.val - 0x80) % 0x20 = 4 := ⟨rfl, by omega, by omega, by omega⟩
  have hset : (0x84 + 0x20 * n.val - 0x80) / 0x20 = n.val := by omega
  rw [tgnEffect, tgnEffectWith, if_pos hin, hset]

/-- JOIN that is set alone starts joining (R273). -/
theorem tgnEffect_join (hjoin : v.bit 0 = true) (hleave : v.bit 1 = false) (hold : old.bit 0 = false) :
    tgnEffect s r (tgnAt 3) 0x88 old v = s.joinStart := by
  simp [tgnEffect, tgnEffectWith, tgnAt, hjoin, hleave, hold]

/-- LEAVE that is set alone starts leaving (R271). -/
theorem tgnEffect_leave (hjoin : v.bit 0 = false) (hleave : v.bit 1 = true) (hold : old.bit 1 = false) :
    tgnEffect s r (tgnAt 3) 0x88 old v = s.leaveStart := by
  simp [tgnEffect, tgnEffectWith, tgnAt, hjoin, hleave, hold]

/-- GO that is set runs the command. -/
theorem tgnEffect_go (hws : List (Nat × Nat)) (ints : List IntentRec) (recNo : Nat) (hgo : v.bit 4 = true)
    (hold : old.bit 4 = false) : tgnEffectWith hws ints recNo s r (tgnAt 3) 0x90 old v = s.tgnCmd hws ints recNo := by
  simp [tgnEffectWith, tgnAt, hgo, hold]

end

/-! ### CMD -/

/-- CMD of TGN. -/
def tgnCmdDesc : RegDesc := ⟨"CMD", 0x90, 1, 4, 0, [⟨"OP", 3, 0, .rw⟩, ⟨"GO", 4, 4, .w1s⟩, ⟨"SET", 11, 8, .rw⟩]⟩

theorem tgnCmdAt_reg : (tgnAt 3).reg 0x90 = some tgnCmdDesc := rfl

section
variable (s : State) (r : Requester) (v : Word)

/-- An accepted write sets OP and SET, and GO where it writes a 1. -/
theorem rd_written_tgnCmd :
    (s.written r R.TGN_CMD v).rd R.TGN_CMD
      = (((s.wordBefore r R.TGN_CMD).setFld 0 4 (v.fld 0 4)).setFld 4 1 ((s.wordBefore r R.TGN_CMD ||| v).fld 4 1)).setFld 8 4
          (v.fld 8 4) :=
  written_rd findPage_tgnCmd tgnCmdAt_reg (by decide)

theorem get_op_written_tgnCmd : (s.written r R.TGN_CMD v).get R.TGN_CMD_OP = v.fld 0 4 := by
  rw [State.get, rd_written_tgnCmd, Word.fld_setFld_ne _ (by decide) (.inl (by decide)),
    Word.fld_setFld_ne _ (by decide) (.inl (by decide)), Word.fld_setFld_self _ (by decide), Nat.mod_eq_of_lt (Word.fld_lt v 0 4)]

theorem get_set_written_tgnCmd : (s.written r R.TGN_CMD v).get R.TGN_CMD_SET = v.fld 8 4 := by
  rw [State.get, rd_written_tgnCmd, Word.fld_setFld_self _ (by decide), Nat.mod_eq_of_lt (Word.fld_lt v 8 4)]

end

/-- No command runs when a write of GO is accepted: it would fail with code 0x04. -/
theorem tgnGo_clear_of_accepts {s : State} {r : Requester} {v : Word} (hgo : v.bit 4 = true)
    (hacc : s.accepts tgnChecks r R.TGN_CMD v = true) : (s.wordBefore r R.TGN_CMD).bit 4 = false := by
  by_contra hset
  have hbit : ((s.facing r (tgnAt 3) 0x90).rd R.TGN_CMD).bit 4 = true := by
    have hoff : R.TGN_CMD % 0x1000 = 0x90 := rfl
    simpa [State.wordBefore, findPage_tgnCmd, hoff] using hset
  have hrunning : (s.facing r (tgnAt 3) 0x90).flag R.TGN_CMD_GO = true := by
    rw [State.flag, State.get, Word.fld_one, hbit]
    rfl
  have hpage : (tgnAt 3).page = 3 := rfl
  have hcode : 4 ∉ s.writeCodes tgnChecks r (tgnAt 3) 0x90 v := notMem_writeCodes_of_accepts findPage_tgnCmd hacc (by decide)
  exact hcode (by simp [State.writeCodes, tgnChecks, mem_failIf, hpage, hgo, hrunning])

section
variable {s : State} {r : Requester} {op n : Nat} {v : Word} (hop : op < 16) (hv : v = ftlCmdWord op n)
include hop hv

/-- An accepted row of the table runs its command: the word that gives it is laid out as FTL's, with SET for CLASS (R93, R278). -/
theorem tgnRow_accepted (hacc : s.accepts tgnChecks r R.TGN_CMD v = true) (hws : List (Nat × Nat)) (ints : List IntentRec)
    (recNo : Nat) : s.tgnRow r op n hws ints recNo = (s.written r R.TGN_CMD v).tgnCmd hws ints recNo := by
  have hgo : v.bit 4 = true := bit_ftlCmdWord_go hop hv
  change s.softWrite tgnChecks (tgnEffectWith hws ints recNo) r R.TGN_CMD (ftlCmdWord op n) = _
  rw [← hv, tgnWrite_accepted (k := 3) (o := 0x90) (by decide) (by decide) rfl hacc,
    tgnEffect_go hws ints recNo hgo (tgnGo_clear_of_accepts hgo hacc)]

theorem get_op_written_tgnRow : (s.written r R.TGN_CMD v).get R.TGN_CMD_OP = op := by
  rw [get_op_written_tgnCmd, fld_ftlCmdWord_op hop hv]

theorem get_set_written_tgnRow (hn : n < 16) : (s.written r R.TGN_CMD v).get R.TGN_CMD_SET = n := by
  rw [get_set_written_tgnCmd, hv, ftlCmdWord, Word.fld, BitVec.toNat_ofNat]
  omega

end

/-! ### Commands -/

section
variable {t : State} {hws : List (Nat × Nat)} {ints : List IntentRec} {recNo : Nat}

theorem tgnCmd_load (hop : t.get R.TGN_CMD_OP = 1) : t.tgnCmd hws ints recNo = t.tgnLoad hws ints recNo := by
  rw [State.tgnCmd, if_pos hop]

end

/-- What an OP of REPAIR (2), LOSS_SCAN (3) or BACKFILL (4) does to a set (R276, R278). -/
def State.setCmd (t : State) (op n : Nat) : State :=
  if op = 2 then t.tgnRepair n
  else if op = 3 then ((t.put R.TGN_CMD_STS_PROGRESS (t.idxNb / 2 ^ 16)).lossScan n).tgnEnd 0
  else if op = 4 then t.tgnBackfill n
  else t

section
variable (t : State) (n : Nat)

theorem setCmd_repair : t.setCmd 2 n = t.tgnRepair n := if_pos rfl

theorem setCmd_lossScan :
    t.setCmd 3 n = ((t.put R.TGN_CMD_STS_PROGRESS (t.idxNb / 2 ^ 16)).lossScan n).tgnEnd 0 := by
  rw [State.setCmd, if_neg (by decide), if_pos rfl]

theorem setCmd_backfill : t.setCmd 4 n = t.tgnBackfill n := by
  rw [State.setCmd, if_neg (by decide), if_neg (by decide), if_pos rfl]

end

/-- A command on a set runs where the set is enabled and LOAD has been done (R278). -/
theorem tgnCmd_onSet {t : State} {op n : Nat} (hop : t.get R.TGN_CMD_OP = op) (hne : op ≠ 1) (hn : t.get R.TGN_CMD_SET = n)
    (hon : t.setOn n = true) (hloaded : t.flag R.TGN_STS_LOADED = true) (hws : List (Nat × Nat)) (ints : List IntentRec)
    (recNo : Nat) : t.tgnCmd hws ints recNo = t.setCmd op n := by
  simp only [State.tgnCmd, hop, if_neg hne, hn, hon, hloaded, Bool.not_true, Bool.false_eq_true, if_false, State.setCmd]

/-- So does an accepted row that gives it. -/
theorem tgnRow_onSet {s : State} {r : Requester} {op n : Nat} {v : Word} (hv : v = ftlCmdWord op n) (hop : op < 16) (hne : op ≠ 1)
    (hn : n < 16) (hacc : s.accepts tgnChecks r R.TGN_CMD v = true) (hon : (s.written r R.TGN_CMD v).setOn n = true)
    (hloaded : (s.written r R.TGN_CMD v).flag R.TGN_STS_LOADED = true) :
    s.tgnRow r op n [] [] 0 = (s.written r R.TGN_CMD v).setCmd op n := by
  rw [tgnRow_accepted hop hv hacc, tgnCmd_onSet (get_op_written_tgnRow hop hv) hne (get_set_written_tgnRow hop hv hn) hon hloaded]

end Sys2Proof.Machine
end

section
/-! The obligation of 08_peer_redundancy.md on the register commands of Tarragon. -/

namespace Sys2Proof.Machine

open Sys2Proof

/-- Settles O29: an accepted write does what the `tgnEffect_` lemma of its register says, an accepted command runs as
`tgnRow_accepted` says, and a read of a LOSS register is a served one. -/
theorem tarragonCommandsComplete : Obligations.TarragonCommandsComplete := by
  unfold Obligations.TarragonCommandsComplete
  intro s r hrun
  have hhalt := State.running_iff.mp hrun
  refine ⟨fun hacc hold => ?_, fun hacc hold => ?_, fun n v hacc => ?_, fun hws ints recNo hacc _ => ?_, fun set => ?_, fun hi => ?_⟩
  · rw [exec_join, execJoin, actAll_run hhalt, tgnWrite_accepted (k := 3) (o := 0x88) (by decide) (by decide) rfl hacc,
      tgnEffect_join rfl rfl hold]
  · rw [exec_leave, execLeave, actAll_run hhalt, tgnWrite_accepted (k := 3) (o := 0x88) (by decide) (by decide) rfl hacc,
      tgnEffect_leave rfl rfl hold]
  · have hoff : R.TGN_SET_CFG n.val = 0x380000 + (0x1000 * 1 + (0x84 + 0x20 * n.val)) := by
      simp only [R.TGN_SET_CFG]
      omega
    rw [exec_setEnable, execSetEnable, actAll_run hhalt, tgnWrite_accepted (by decide) (by omega) hoff hacc, tgnEffect_setCfg]
  · have hv : (17 : Word) = ftlCmdWord 1 0 := rfl
    rw [exec_load, execLoad, actAll_run hhalt, tgnRow_accepted (by decide) hv hacc,
      tgnCmd_load (get_op_written_tgnRow (by decide) hv)]
  · intro v t
    have hv (op : Nat) : v op = ftlCmdWord op set.val := rfl
    refine ⟨fun hacc hon hloaded => ?_, fun hacc hon hloaded => ?_, fun hacc hon hloaded => ?_⟩
    · rw [exec_repair, execRepair, actAll_run hhalt, tgnRow_onSet (hv 2) (by decide) (by decide) set.isLt hacc hon hloaded,
        setCmd_repair]
    · rw [exec_lossScan, execLossScan, actAll_run hhalt, tgnRow_onSet (hv 3) (by decide) (by decide) set.isLt hacc hon hloaded,
        setCmd_lossScan]
    · rw [exec_backfill, execBackfill, actAll_run hhalt, tgnRow_onSet (hv 4) (by decide) (by decide) set.isLt hacc hon hloaded,
        setCmd_backfill]
  · intro off hread
    rw [exec_lossEntryRead, execLossEntryRead, actAll_run hhalt, softRead_served hread]

end Sys2Proof.Machine
end

section
/-! SUPPORT. Shares, parity IUs, intents and reconstructs (R251 to R264): what each report does where its moment has come. -/

namespace Sys2Proof.Machine

open Sys2Proof

/-! ### The contributor -/

/-- A share of copy `c` may go to a holder: Tarragon and the set run, the copy has met R19, its intent `z` is on flash, nothing sent
to the holder is unanswered, the holder is not lost, records have room, and no back-off runs (R251). -/
def State.mayShare (s : State) (n cls slot : Nat) (q : Bool) (c : ShareCopy) (z : OpenInt) : Prop :=
  s.tgnRuns = true ∧ s.setOn n = true ∧ c.met = true ∧ s.intOf n cls (c.seq / 16) = some z ∧ s.recDurable z.no = true
    ∧ (s.tgn.jobs.any fun j => decide (j.2.set = n) && decide (j.2.cls = cls) && decide (j.2.slot = slot) && decide (j.2.q = q)) = false
    ∧ s.slotLost n slot = false ∧ s.recsFull = false ∧ (s.tgn.holdoff.find (holdKey n cls slot q)).getD 0 ≤ s.now

/-- What a PUT_SHARD of copies carries: each IU times the factor that its parity gives the position (R247). -/
def State.shareData (s : State) (q : Bool) (c : ShareCopy) (run : List ShareCopy) : Bytes :=
  run.flatMap fun x => gfScale (if q then gfPow (s.copyPlace c q).2.1 else 1) x.data

/-- The PUT_SHARD of copies `run`, the first of them `c`, asked of member `m`. -/
def State.shareAsk (s : State) (n cls m : Nat) (q : Bool) (c : ShareCopy) (run : List ShareCopy) : Option (Nat × State) :=
  let d := s.shareData q c run
  s.askFlow m 8 (s.shardKey n cls (s.copyPlace c q).2.1 (if q then 2 else 1) (s.copyPlace c q).1 (c.seq % 16) (run.length - 1))
    d.length (.shareOut 0) cls { s.newSnd d 0 0 d.length 0 0 0 with win := 0, why := 3 } Rcv.none_

/-- Copies `run`, the first of them `c`, are on their way in flow `i`. -/
def State.sharesSent (u : State) (i n cls slot : Nat) (q : Bool) (c : ShareCopy) (run : List ShareCopy) : State :=
  ((u.onTgn fun y => { y with
    jobs := y.jobs.put i ⟨n, cls, q, slot, c.seq, run.length, u.now⟩
    copies := y.copies.map fun z => if run.contains z then z.put q 1 else z }).addCount R.TGN_SHARE_TX_LO run.length).evtB
      tgnPage 0x10 run.length

/-- The next IUs owed to a holder go out in one PUT_SHARD (R251). -/
theorem shareSend_sends {s u : State} {n cls slot m i : Nat} {q : Bool} {c : ShareCopy} {cs : List ShareCopy} {z : OpenInt}
    (hrun : chunkRun (s.owed n cls slot q) = c :: cs) (hm : s.slotMember n slot = some m) (hmay : s.mayShare n cls slot q c z)
    (hask : s.shareAsk n cls m q c (c :: cs) = some (i, u)) :
    s.shareSend n cls slot q = u.sharesSent i n cls slot q c (c :: cs) := by
  obtain ⟨hruns, hon, hmet, hint, hdurable, hidle, hholder, hroom, hnow⟩ := hmay
  have hgo : ¬ ((!s.tgnRuns) = true ∨ (!s.setOn n) = true ∨ (!c.met) = true ∨ (!s.recDurable z.no) = true
      ∨ (s.tgn.jobs.any fun j => decide (j.2.set = n) && decide (j.2.cls = cls) && decide (j.2.slot = slot) && decide (j.2.q = q)) = true
      ∨ s.slotLost n slot = true ∨ s.recsFull = true ∨ s.now < (s.tgn.holdoff.find (holdKey n cls slot q)).getD 0) := by
    rw [hruns, hon, hmet, hdurable, hidle, hholder, hroom]
    simpa using hnow
  simp only [State.shareAsk, State.shareData] at hask
  simp only [State.shareSend, hrun, hm, hint, if_neg hgo, hask, State.sharesSent]

/-! ### Parity IUs, intents and reconstructs -/

section
variable {s : State}

/-- A parity IU that is not being read or written and has shares goes to the FTL in its at-rest form (R253). -/
theorem parWrite_places {iu : Nat} {p : ParIu} {d : Bytes} {u : State} (hbase : p.base = none) (hgoing : p.going = none)
    (hshares : p.shares ≠ []) (hseal : s.sealIu iu p.data = (some d, u)) :
    s.parWrite iu p
      = (u.setPar iu { p with shares := [], going := some p.shares }).place
          ⟨1, 0, p.cls, [some iu], false, [], none, false, [], [], d, .share iu⟩ := by
  have hgo : ¬ (p.base.isSome = true ∨ p.going.isSome = true ∨ p.shares.isEmpty = true) := by simp [hbase, hgoing, hshares]
  simp only [State.parWrite, if_neg hgo, hseal]

/-- Records that have waited FLUSH_US go into a chunk (R259). -/
theorem intentFlush_due (hrecs : s.plj.recs ≠ []) (hdue : s.plj.recSince + 1000 * s.get R.TGN_INT_CFG_FLUSH_US ≤ s.now) :
    s.intentFlush = (s.intentStart 0).chunkRetry true :=
  if_pos ⟨by simp [hrecs], .inl hdue⟩

/-- A dirty region is closed with its CLEAN record (R257). -/
theorem intClose_dirty {z : OpenInt} (hdirty : z.dirty = true) (hroom : s.recsFull = false) :
    s.intClose z
      = ((s.record 5 z.set z.cls 0 0 0 0 z.at_).2.onTgn fun y => { y with
          ints := y.ints.filter fun w => decide (w ≠ z) }).openCount z.set := by
  simp only [State.intClose, hroom, hdirty, Bool.false_eq_true, if_false, if_true]

/-- The timer of an outstanding read that has run out fires the hedge (R261, R264). -/
theorem hedgeExpire_due {i pos m t : Nat} {r : Recon} {x : PeerRead} (hr : s.tgn.recons.find i = some r)
    (hread : r.reads.find? (fun x => decide (x.pos = pos) && decide (x.st = 0) && !x.seen) = some x) (hsent : x.sent = some t)
    (hm : s.slotMember r.set x.slot = some m) (hdue : t + 1000 * s.hedgeTime r.set m ≤ s.now) :
    s.hedgeExpire i pos = s.reconHedge i := by
  simp only [State.hedgeExpire, hr, hread, hsent, hm, if_pos hdue]

end

end Sys2Proof.Machine
end

section
/-! The obligation of 08_peer_redundancy.md on shares, parity IUs, intents and reconstructs. -/

namespace Sys2Proof.Machine

open Sys2Proof

/-- Settles O27: a share is `shareSend_sends`, a parity IU is written by `parWrite_places`, records go out by `intentFlush_due`, a
region is closed by `intClose_dirty`, a hedge fires by `hedgeExpire_due`; each other report acts once its time has run. -/
theorem sharesAndReconstructsComplete : Obligations.SharesAndReconstructsComplete := by
  unfold Obligations.SharesAndReconstructsComplete
  intro s hrun
  have hhalt := State.running_iff.mp hrun
  refine ⟨fun n cls slot q c cs m z i u howed hm hruns hon hmet hint hdurable hidle hholder hroom hnow => ?_,
    fun iu p hp => ⟨fun d u hdue hbase hgoing hshares hseal => ?_, fun e hnews hroom => ?_⟩, fun i j hj hdue => ?_,
    fun hrecs hdue => ?_, fun n cls region z hz hno hidle hresync hroom hdue => ?_,
    fun i r hr => ⟨fun pos x t m hread hsent hm hdue => ?_, fun hdue => ?_⟩⟩
  · intro run d hask
    have hmay : s.mayShare n cls slot q c z := ⟨hruns, hon, hmet, hint, hdurable, hidle, hholder, hroom, hnow⟩
    rw [exec_shareSend, execShareSend, actAll_run hhalt, shareSend_sends howed hm hmay hask]
    rfl
  · rw [exec_shareHoldExpire, execShareHoldExpire, actAll_run hhalt]
    simp only [hp, if_pos hdue, parWrite_places hbase hgoing hshares hseal]
  · rw [exec_parityIuWritten, execParityIuWritten, actAll_run hhalt]
    simp only [hp, hnews, hroom, Bool.false_eq_true, if_false]
  · rw [exec_shareResend, execShareResend, actAll_run hhalt]
    simp only [hj, if_pos hdue]
  · rw [exec_intentFlush, execIntentFlush, actAll_run hhalt, intentFlush_due hrecs hdue]
  · have hdirty : z.dirty = true := by
      have hfound := List.find?_some hz
      simp only [Bool.and_eq_true] at hfound
      exact hfound.1.1.1
    have hgo : z.no ≠ 0 ∧ (!s.intBusy z) = true ∧ (!s.tgn.resync.contains z.set) = true
        ∧ z.busy + 10 ^ 7 * s.get R.TGN_INT_CFG_REGION_IDLE ≤ s.now := ⟨hno, by simp [hidle], by simpa using hresync, hdue⟩
    rw [exec_regionClean, execRegionClean, actAll_run hhalt]
    simp only [hz, if_pos hgo, intClose_dirty hdirty hroom]
  · rw [exec_hedgeExpire, execHedgeExpire, actAll_run hhalt, hedgeExpire_due hr hread hsent hm hdue]
  · rw [exec_reconTmoExpire, execReconTmoExpire, actAll_run hhalt]
    simp only [hr, if_pos hdue]

end Sys2Proof.Machine
end

section
/-! SUPPORT. Membership (R267 to R273): what the acting root, its members and a joiner do when their moments come. -/

namespace Sys2Proof.Machine

open Sys2Proof

variable {s : State}

/-! ### The acting root -/

/-- The changes that the acting root has queued, the joins as UP (R268). -/
def State.queuedChanges (s : State) : List Change := s.tgn.queue ++ s.tgn.joins.map fun m => ⟨m, 1, 0, 0, 0⟩

/-- The first 16 of them are taken for an epoch. -/
def State.changesTaken (s : State) : State :=
  s.onTgn fun x => { x with
    queue := x.queue.drop 16, joins := x.joins.drop (16 - min 16 x.queue.length), lastIssue := s.now }

/-- Changes applied here as the next epoch, which goes to the children (R267, R268). -/
def State.epochIssued (t : State) (cs : List Change) : State :=
  (t.epochApply (t.epoch + 1) cs).epochForward (t.children t.member) (t.epoch + 1) t.devTime cs

section
variable (hruns : s.tgnRuns = true) (hroot : s.isRoot = true)
include hruns hroot

theorem epochBeat_root : s.epochBeat = s.epochForward (s.children s.member) s.epoch s.devTime [] := if_pos ⟨hruns, hroot⟩

/-- Queued changes become an epoch once GAP has passed since the last one (R268). -/
theorem epochIssue_due (hsome : s.queuedChanges ≠ []) (hgap : s.tgn.lastIssue + 1000 * s.get R.TGN_EPOCH_CFG_GAP ≤ s.now) :
    s.epochIssue = s.changesTaken.epochIssued (s.queuedChanges.take 16) := by
  have hgo : ¬ ((!s.tgnRuns) = true ∨ (!s.isRoot) = true ∨ s.queuedChanges.isEmpty = true
      ∨ s.now < s.tgn.lastIssue + 1000 * s.get R.TGN_EPOCH_CFG_GAP) := by
    simpa [hruns, hroot, hsome] using hgap
  exact if_neg hgo

end

/-- The end of a HELLO leaves the peer table. -/
theorem helloDrop_peerEntry (no m : Nat) : (s.helloDrop no).peerEntry m = s.peerEntry m := by
  have hbase : (s.helloDrop no).peerBase = s.peerBase := rfl
  have hmem : (s.helloDrop no).mem = s.mem := rfl
  rw [State.peerEntry, State.peerAt, hbase, hmem]
  rfl

/-- So it leaves what is known of the members. -/
theorem helloDrop_memberState (no m : Nat) : (s.helloDrop no).memberState m = s.memberState m := by
  have hmember : (s.helloDrop no).member = s.member := rfl
  have hown : (s.helloDrop no).tgn.own = s.tgn.own := rfl
  rw [State.memberState, hmember, hown, helloDrop_peerEntry]
  rfl

section
variable {m : Nat}

/-- A suspect that does not answer is made DOWN, and is asked again (R269). -/
theorem suspectExpire_down {h : Nat × Hello} (hroot : s.isRoot = true)
    (hasked : s.tgn.hellos.find? (fun h => decide (h.2.why = .check) && decide (h.2.member = m) && decide (h.2.sent + s.seedTmo ≤ s.now))
      = some h) (hlive : s.memberState m < 2) :
    s.suspectExpire m = ((s.helloDrop h.1).queueChange m 2).hello .check m h.2.addr := by
  have hstays : ¬ 2 ≤ (s.helloDrop h.1).memberState m := by
    rw [helloDrop_memberState]
    omega
  simp only [State.suspectExpire, hasked, hroot, Bool.not_true, Bool.false_eq_true, if_false, if_neg hstays]

/-- A member that has been DOWN for DELAY is made REMOVED (R269). -/
theorem removeDue_removes {t : Nat} (hroot : s.isRoot = true) (hdown : s.tgn.down.find m = some t)
    (hdue : t + s.get R.TGN_REB_CFG_DELAY * 10 ^ 9 ≤ s.now) :
    s.removeDue m = (s.onTgn fun x => { x with down := x.down.del m }).queueChange m 3 := by
  simp only [State.removeDue, hdown, if_pos (And.intro hroot hdue)]

end

/-! ### Silence -/

section
variable (hruns : s.tgnRuns = true) (hup : s.tgn.own = 2)
include hruns hup

section
variable (hroot : s.isRoot = false)
include hroot

/-- Only a member that is UP and does not act as root minds silence (R268). -/
theorem parentSilent_minded : ¬ ((!s.tgnRuns) = true ∨ s.tgn.own ≠ 2 ∨ s.isRoot = true) := by
  simp [hruns, hup, hroot]

theorem parentSilent_parent {p : Nat} (hparent : treeParent s.member = some p)
    (hsilent : s.tgn.heardParent + s.missTime ≤ s.now) : s.parentSilent false = s.report p := by
  rw [State.parentSilent, if_neg (parentSilent_minded hruns hup hroot), if_neg (by decide)]
  simp only [hparent, if_neg (Nat.not_lt.mpr hsilent)]

theorem parentSilent_root (hsilent : s.tgn.heardRoot + s.missTime ≤ s.now)
    (hnone : (s.tgn.hellos.any fun h => decide (h.2.why = .probe)) = false) :
    s.parentSilent true = s.helloTo .probe s.rootId := by
  have hprobe : ¬ (s.now < s.tgn.heardRoot + s.missTime ∨ (s.tgn.hellos.any fun h => decide (h.2.why = .probe)) = true) := by
    rw [hnone]
    simpa using hsilent
  rw [State.parentSilent, if_neg (parentSilent_minded hruns hup hroot), if_pos rfl, if_neg hprobe]

end

/-- The lowest live member of 0 to 16 acts as root where the root has not answered its probe (R268). -/
theorem rootTakeover_lowest {h : Nat × Hello}
    (hasked : s.tgn.hellos.find? (fun h => decide (h.2.why = .probe) && decide (h.2.sent + s.seedTmo ≤ s.now)) = some h)
    (hfew : s.member ≤ 16)
    (hlowest : ((List.range s.member).any fun m => decide (m ≠ s.rootId) && decide (s.memberState m = 1)) = false) :
    s.rootTakeover = (((s.helloDrop h.1).put R.TGN_STS_ROOT 1).put R.TGN_ROOT_ID_ROOT s.member).pulse 474 := by
  have hgo : (s.helloDrop h.1).member ≤ 16 ∧ (!false) = true ∧ (s.helloDrop h.1).tgn.own = 2 ∧ (s.helloDrop h.1).tgnRuns = true :=
    ⟨hfew, rfl, hup, hruns⟩
  simp only [State.rootTakeover, hasked, hlowest, if_pos hgo]
  rfl

end

/-! ### Joining, and requests without an answer -/

section
variable {h : Nat × Hello}

/-- A seed that does not answer leaves the turn to the next one (R273). -/
theorem seedExpire_next
    (hasked : s.tgn.hellos.find? (fun h => decide (h.2.why = .seed) && decide (h.2.sent + s.seedTmo ≤ s.now)) = some h)
    (hstate : s.get R.TGN_JOIN_STS_STATE = 2) : s.seedExpire = (s.helloDrop h.1).seedNext := by
  simp only [State.seedExpire, hasked, if_pos hstate]

/-- The one request under way, put off by BUSY, is repeated to the acting root (R269, R271, R273). -/
theorem retryAfter_only {t : Nat} (honly : s.tgn.hellos = [h]) (hretry : h.2.retry = some t) (hdue : t ≤ s.now) :
    s.retryAfter = (s.helloDrop h.1).helloTo h.2.why s.rootId := by
  simp only [State.retryAfter, honly, List.filter_cons, hretry, hdue, decide_true, if_true, List.filter_nil, List.foldl_cons,
    List.foldl_nil]

/-- A peer that does not answer a QUERY is recorded DOWN (R267). -/
theorem queryExpire_down {m : Nat}
    (hasked : s.tgn.hellos.find? (fun h => decide (h.2.why = .query) && decide (h.2.member = m) && decide (h.2.sent + s.seedTmo ≤ s.now))
      = some h) :
    s.queryExpire m = (List.range 16).foldl State.setRefresh ((s.helloDrop h.1).setMember m 2 s.epoch) := by
  simp only [State.queryExpire, hasked]

end

end Sys2Proof.Machine
end

section
/-! The obligation of 08_peer_redundancy.md on membership. -/

namespace Sys2Proof.Machine

open Sys2Proof

/-- Settles O28: each report is the lemma of the operation that it names, in the case that its hypotheses pick. -/
theorem membershipEventsComplete : Obligations.MembershipEventsComplete := by
  unfold Obligations.MembershipEventsComplete
  intro s hrun
  have hhalt := State.running_iff.mp hrun
  refine ⟨fun hruns => ⟨fun hroot => ⟨?_, ?_⟩, fun hup hroot => ⟨fun p hparent hsilent => ?_, fun hsilent hnone => ?_⟩,
    fun h hasked hfew hlowest hup => ?_⟩, fun m h hroot hasked hlive => ?_, fun m t hdown hroot hdue => ?_, fun hstate hdue => ?_,
    fun h hasked hstate => ?_, fun h t honly hretry hdue => ?_, fun m h hasked => ?_⟩
  · rw [exec_epochBeat, execEpochBeat, actAll_run hhalt, epochBeat_root hruns hroot]
  · intro q hsome hgap t u
    rw [exec_epochIssue, execEpochIssue, actAll_run hhalt, epochIssue_due hruns hroot hsome hgap]
    rfl
  · rw [exec_parentSilent, execParentSilent, actAll_run hhalt, parentSilent_parent hruns hup hroot hparent hsilent]
  · rw [exec_parentSilent, execParentSilent, actAll_run hhalt, parentSilent_root hruns hup hroot hsilent hnone]
  · rw [exec_rootTakeover, execRootTakeover, actAll_run hhalt, rootTakeover_lowest hruns hup hasked hfew hlowest]
  · rw [exec_suspectProbeExpire, execSuspectProbeExpire, actAll_run hhalt, suspectExpire_down hroot hasked hlive]
  · rw [exec_memberRemoveDue, execMemberRemoveDue, actAll_run hhalt, removeDue_removes hroot hdown hdue]
  · rw [exec_joinBackoffEnd, execJoinBackoffEnd, actAll_run hhalt, State.backOffEnd, if_pos ⟨hstate, hdue⟩]
  · rw [exec_seedTmoExpire, execSeedTmoExpire, actAll_run hhalt, seedExpire_next hasked hstate]
  · rw [exec_retryAfterExpire, execRetryAfterExpire, actAll_run hhalt, retryAfter_only honly hretry hdue]
  · rw [exec_queryTmoExpire, execQueryTmoExpire, actAll_run hhalt, queryExpire_down hasked]

end Sys2Proof.Machine
end

section
/-! SUPPORT. The starts of the I/O commands (R288, R289, R294, R296): what a Flush, Read, Write or Dataset Management whose range
locks are active does, case by case. -/

namespace Sys2Proof.Machine

open Sys2Proof

section
variable {s : State} (hrun : s.running = true) {id op : Nat} {c : NvmCmd}
include hrun

/-- A row of an I/O command carried out for the command that it names. -/
theorem actAll_ioRun (hcmd : s.runs id op = some c) (f : State → NvmCmd → State) :
    actAll s (fun s => s.ioRun id op f) = .next (f s c).settleAll := by
  simp only [actAll_run (State.running_iff.mp hrun), State.ioRun, hcmd]

theorem exec_nvmFlush_run (hcmd : s.runs id 0 = some c) (hformat : s.flag R.NVM_STS_FORMAT = false)
    (hprp : c.dw 0 / 2 ^ 14 % 4 = 0) : exec (.nvmFlush id) s = .next (s.finish id 0 0).settleAll := by
  have hlegal : ¬ c.dw 0 / 2 ^ 14 % 4 ≠ 0 := by omega
  rw [exec_nvmFlush, execNvmFlush, actAll_ioRun hrun hcmd, hformat, if_neg Bool.false_ne_true, if_neg hlegal]

theorem exec_nvmRead_run (hcmd : s.runs id 2 = some c) (list : List Nat) (err : Bool) :
    exec (.nvmRead id list err) s = .next (s.nvmRead id c list err).settleAll := by
  rw [exec_nvmRead, execNvmRead, actAll_ioRun hrun hcmd]

theorem exec_nvmWrite_run (hcmd : s.runs id 1 = some c) (list : List Nat) (data : Bytes) (poison : Option Nat) (err : Bool) :
    exec (.nvmWrite id list data poison err) s = .next (s.nvmWrite id c list data poison err).settleAll := by
  rw [exec_nvmWrite, execNvmWrite, actAll_ioRun hrun hcmd]

theorem exec_datasetManagement_run (hcmd : s.runs id 9 = some c) (err : Bool) :
    exec (.datasetManagement id err) s = .next (s.nvmDsm id c err).settleAll := by
  rw [exec_datasetManagement, execDatasetManagement, actAll_ioRun hrun hcmd]

end

section
variable {s : State} {id : Nat} {c : NvmCmd} {list : List Nat}

/-! ### Read and Write -/

/-- The IUs of the LBAs that a command names. -/
def NvmCmd.ius (c : NvmCmd) : List Nat :=
  (List.range (cdiv (c.slba + c.nlb) (iuUnits c.ns) - c.slba / iuUnits c.ns)).map (c.slba / iuUnits c.ns + ·)

/-! The host pages that a command is given leave its entry alone. -/

theorem NvmCmd.dw_withPrps (c : NvmCmd) (p : List Nat) (w : Nat) : NvmCmd.dw { c with prps := p } w = c.dw w := rfl

theorem NvmCmd.ns_withPrps (c : NvmCmd) (p : List Nat) : NvmCmd.ns { c with prps := p } = c.ns := by
  simp only [NvmCmd.ns, NvmCmd.nsid, NvmCmd.dw_withPrps]

theorem NvmCmd.slba_withPrps (c : NvmCmd) (p : List Nat) : NvmCmd.slba { c with prps := p } = c.slba := by
  simp only [NvmCmd.slba, NvmCmd.dw_withPrps]

theorem NvmCmd.nlb_withPrps (c : NvmCmd) (p : List Nat) : NvmCmd.nlb { c with prps := p } = c.nlb := by
  simp only [NvmCmd.nlb, NvmCmd.dw_withPrps]

/-- The reads of the IUs of a Read into its host pages: what is unmapped is sent to the host as zeros. -/
def State.readIus (s : State) (id : Nat) (c : NvmCmd) (prps : List Nat) : State :=
  c.ius.foldl (fun s iu =>
    match s.nvmReadIu id c.ns iu (c.dw 12 / 2 ^ 31) with
    | (s, zeros) => zeros.foldl (fun s l => s.lbaToHost { c with prps := prps } l []) s) s

/-- A Read that passes its checks reads its IUs (R289). -/
theorem nvmRead_passes (hchk : s.rwCheck c (s.prps c (4096 * c.nlb) list) = none) :
    s.nvmRead id c list false
      = ((s.onCmd id fun x => { x with stage := 1, prps := s.prps c (4096 * c.nlb) list }).readIus id c
          (s.prps c (4096 * c.nlb) list)).readDone id := by
  simp only [State.nvmRead, hchk, Bool.false_eq_true, if_false, NvmCmd.ns_withPrps, NvmCmd.slba_withPrps, NvmCmd.nlb_withPrps,
    NvmCmd.dw_withPrps]
  rfl

/-- A Read that fails a check finishes with that check's status. -/
theorem nvmRead_fails {st : Nat} (hchk : s.rwCheck c (s.prps c (4096 * c.nlb) list) = some st) (err : Bool) :
    s.nvmRead id c list err = s.finish id st 0 := by
  simp only [State.nvmRead, hchk]

/-- A Write that fails a check finishes with that check's status. -/
theorem nvmWrite_fails {st : Nat} (hchk : s.rwCheck c (s.prps c (4096 * c.nlb) list) = some st) (data : Bytes)
    (poison : Option Nat) (err : Bool) : s.nvmWrite id c list data poison err = s.finish id st 0 := by
  simp only [State.nvmWrite, hchk]

/-- The units of a Write: each LBA with its 4 KiB of the host's data. -/
def NvmCmd.units (c : NvmCmd) (data : Bytes) : List (Nat × Bytes) :=
  (List.range c.nlb).map fun i => (c.slba + i, fit 4096 ((data.drop (4096 * i)).take 4096))

/-- A Write counted: its units, their event and the bytes for SMART. -/
def State.writeCounted (s : State) (nlb : Nat) : State :=
  ((s.addCount R.NVM_WR_UNITS_LO nlb).evtB nvmPage 0x13 nlb).addSmart 48 (4096 * nlb)

/-- On NSID 2 an IU is one unit, so a Write has no IU that it fills in part, and room for its LBAs is enough (R289, R294). -/
theorem nvmWrite_block {data : Bytes} (hchk : s.rwCheck c (s.prps c (4096 * c.nlb) list) = none) (hns : c.ns = 1)
    (hroom : c.nlb ≤ 16384 - s.stgUsed) :
    s.nvmWrite id c list data none false
      = ((((State.stageUnits id (c.units data)
          (s.onCmd id fun x => { x with stage := 1, prps := s.prps c (4096 * c.nlb) list, cut := none })).writeCounted
          c.nlb).writeGo id).writeDone id) := by
  have hfits : ¬ 16384 - s.stgUsed
      < cdiv (c.slba + c.nlb) (iuUnits c.ns) * iuUnits c.ns - c.slba / iuUnits c.ns * iuUnits c.ns := by
    rw [hns]
    simp only [iuUnits, cdiv, Nat.one_ne_zero, if_false, Nat.div_one, Nat.mul_one]
    omega
  unfold State.nvmWrite
  extract_lets prps n lo hi cut begun staged counted part filled
  have hpart : part = [] := if_neg (by omega)
  have hfilled : filled = counted := by
    change List.foldl _ counted part = counted
    rw [hpart, List.foldl_nil]
  rw [show s.rwCheck c prps = none from hchk]
  change (if false = true then _ else if 16384 - s.stgUsed < hi - lo then s else (filled.writeGo id).writeDone id) = _
  rw [if_neg Bool.false_ne_true, if_neg hfits, hfilled]
  rfl

/-! ### Dataset Management -/

/-- The ranges of NSID 2 deallocated: counted, and each that holds an LBA a logged map update (R296). -/
def State.blockTrims (s : State) (ranges : List (Nat × Nat)) : State :=
  ranges.foldl (fun s r => if r.1 < r.1 + r.2 then s.mapUpdate (.trim 1 r.1 (r.1 + r.2 - r.1)) else s)
    (s.evtB nvmPage 0x15 ranges.length)

section
variable (hlimp : s.limp = false) (hformat : s.flag R.NVM_STS_FORMAT = false) (hprp : c.dw 0 / 2 ^ 14 % 4 = 0)
  (hnsid : c.nsid = 2)
include hlimp hformat hprp hnsid

/-- Without AD a Dataset Management has nothing to do. -/
theorem nvmDsm_noDeallocate (had : c.dw 11 / 4 % 2 = 0) : s.nvmDsm id c false = s.finish id 0 0 := by
  have hlegal : ¬ c.dw 0 / 2 ^ 14 % 4 ≠ 0 := by omega
  rw [State.nvmDsm, hlimp, hformat, hnsid, had, if_neg hlegal]
  rfl

/-- With AD, and every range inside NSID 2, the ranges are deallocated. -/
theorem nvmDsm_deallocates (had : c.dw 11 / 4 % 2 = 1) (hin : ∀ r ∈ c.ranges, r.1 + r.2 ≤ s.nsze 1) :
    s.nvmDsm id c false = (s.blockTrims c.ranges).onCmd id fun x => { x with stage := 1 } := by
  have hns : c.ns = 1 := by rw [NvmCmd.ns, hnsid]
  have hinside : (c.ranges.any fun r => decide (s.nsze 1 < r.1 + r.2)) = false := by
    simpa only [List.any_eq_false, decide_eq_true_eq, Nat.not_lt] using hin
  have hlegal : ¬ c.dw 0 / 2 ^ 14 % 4 ≠ 0 := by omega
  simp only [State.nvmDsm, State.blockTrims, hlimp, hformat, if_neg hlegal, hnsid, had, hns, hinside]
  rfl

end

end

end Sys2Proof.Machine
end

section
/-! The obligation of 09_nvme_command_engine.md on I/O commands. -/

namespace Sys2Proof.Machine

open Sys2Proof

/-- Settles O31: each row runs its command, and a Read, a Write and a Dataset Management do what their checks let them. -/
theorem nvmeIoCommandsComplete : Obligations.NvmeIoCommandsComplete := by
  unfold Obligations.NvmeIoCommandsComplete
  intro s id c hrun
  refine ⟨fun hcmd hformat hprp => exec_nvmFlush_run hrun hcmd hformat hprp, fun list hcmd => ⟨fun hchk => ?_, fun st err hchk => ?_⟩,
    fun list data hcmd => ⟨fun hchk hns hroom => ?_, fun st poison err hchk => ?_⟩,
    fun hcmd hlimp hformat hprp hnsid => ⟨fun had => ?_, fun had hin => ?_⟩⟩
  · rw [exec_nvmRead_run hrun hcmd, nvmRead_passes hchk]
    rfl
  · rw [exec_nvmRead_run hrun hcmd, nvmRead_fails hchk]
  · rw [exec_nvmWrite_run hrun hcmd, nvmWrite_block hchk hns hroom]
    rfl
  · rw [exec_nvmWrite_run hrun hcmd, nvmWrite_fails hchk]
  · rw [exec_datasetManagement_run hrun hcmd, nvmDsm_noDeallocate hlimp hformat hprp hnsid had]
  · rw [exec_datasetManagement_run hrun hcmd, nvmDsm_deallocates hlimp hformat hprp hnsid had hin]
    rfl

end Sys2Proof.Machine
end

section
/-! SUPPORT. Rows of admin commands (R325): the command that a row applies to, and what a row that applies does. -/

namespace Sys2Proof.Machine

open Sys2Proof

section
variable {s : State} (hrun : s.running = true) {id : Nat} {c : NvmCmd}
include hrun

section
variable {p : NvmCmd → Bool} (f : State → Nat → NvmCmd → State)

/-- A row of the engine's own execution is carried out for the oldest such command. -/
theorem act_admRun_own (hown : s.admOwn p = some (id, c)) : act s (fun s => s.admRun false p f) = .next (f s id c) := by
  simp only [act_run (State.running_iff.mp hrun), State.admRun, Bool.false_eq_true, if_false, hown]

/-- A row of firmware is carried out for the command in the mailbox. -/
theorem act_admRun_box (hbox : s.admBox p = some (id, c)) : act s (fun s => s.admRun true p f) = .next (f s id c) := by
  simp only [act_run (State.running_iff.mp hrun), State.admRun, if_true, hbox]

end

section
variable {fid : Nat} {f : State → NvmCmd → Nat × Nat × State}

/-- A Set Features that asks to save is refused, whatever its feature: none is saveable (R308). -/
theorem act_setFeature_save (hown : s.admOwn (fun c => decide (c.op = 0x09) && decide (c.fid = fid)) = some (id, c))
    (hsave : (c.dw 10).testBit 31 = true) : act s (fun s => s.setFeature false fid f) = .next (s.admEnd id 0x10D 0) := by
  unfold State.setFeature
  rw [act_admRun_own hrun _ hown, if_pos hsave]

section
variable (hsave : (c.dw 10).testBit 31 = false) {t : State} {st v : Nat} (hset : f s c = (st, v, t))
include hsave hset

/-- A Set Features of the engine completes with the status and the value that setting it gives. -/
theorem act_setFeature_own (hown : s.admOwn (fun c => decide (c.op = 0x09) && decide (c.fid = fid)) = some (id, c)) :
    act s (fun s => s.setFeature false fid f) = .next (t.admEnd id st v) := by
  unfold State.setFeature
  rw [act_admRun_own hrun _ hown, if_neg (by simp only [hsave, Bool.false_eq_true, not_false_eq_true]), hset]

/-- A Set Features of firmware completes with the status and the value that setting it gives. -/
theorem act_setFeature_box (hbox : s.admBox (fun c => decide (c.op = 0x09) && decide (c.fid = fid)) = some (id, c)) :
    act s (fun s => s.setFeature true fid f) = .next (t.admEnd id st v) := by
  unfold State.setFeature
  rw [act_admRun_box hrun _ hbox, if_neg (by simp only [hsave, Bool.false_eq_true, not_false_eq_true]), hset]

end

end

end

/-- A legal value of a feature that is kept as it is given is set, and Set Features succeeds. -/
theorem keepFeature_legal (s : State) (fid sel v : Nat) {ok : Bool} (hok : ok = true) :
    s.keepFeature fid sel v ok = (0, 0, s.setFeat fid sel v) := if_pos hok

end Sys2Proof.Machine
end

section
/-! SUPPORT. Admin commands of queues, data, Abort and asynchronous events (R285, R299, R302, R307, R314, R315). -/

namespace Sys2Proof.Machine

open Sys2Proof

section
variable {s : State} (hrun : s.running = true) {id : Nat} {c : NvmCmd}
include hrun

/-! ### Queues -/

section
variable {q hi : Nat} (hq : c.dw 10 % 2 ^ 16 = q) (hq0 : q ≠ 0)
include hq hq0

/-- A Create I/O CQ is legal with PC = 1, an identifier that is allocated and free, and a vector that exists. -/
theorem exec_createIoCq_legal (hown : s.admOwn (fun c => decide (c.op = 0x05)) = some (id, c)) (hpc : c.dw 11 % 2 = 1)
    (halloc : q ≤ s.cqAlloc) (hfree : s.nvm.cqs.find q = none) (hhi : c.dw 11 / 2 ^ 16 = hi) (hiv : hi ≤ 255) :
    exec .createIoCq s
      = .next ((s.setCq q ⟨c.dw 10 / 2 ^ 16 + 1, c.prp1, hi, decide (c.dw 11 / 2 % 2 = 1), 0, 0, true, 0, 0⟩).finish id 0 0) := by
  have hnoPc : ¬ c.dw 11 % 2 = 0 := by omega
  have hbadId : ¬ (q = 0 ∨ s.cqAlloc < q ∨ (s.nvm.cqs.find q).isSome = true) := by simp [hq0, halloc, hfree]
  rw [exec_createIoCq, execCreateIoCq, act_admRun_own hrun _ hown]
  simp only [hq, hhi, if_neg hnoPc, if_neg hbadId, if_neg (Nat.not_lt.mpr hiv)]

/-- A Create I/O SQ is legal with PC = 1, an identifier that is allocated and free, and an I/O completion queue that exists. -/
theorem exec_createIoSq_legal (hown : s.admOwn (fun c => decide (c.op = 0x01)) = some (id, c)) (hpc : c.dw 11 % 2 = 1)
    (halloc : q ≤ s.sqAlloc) (hfree : s.nvm.sqs.find q = none) (hhi : c.dw 11 / 2 ^ 16 = hi) (hhi0 : hi ≠ 0)
    (hcq : (s.nvm.cqs.find hi).isSome = true) :
    exec .createIoSq s = .next ((s.setSq q ⟨c.dw 10 / 2 ^ 16 + 1, c.prp1, hi, 0, 0⟩).finish id 0 0) := by
  have hnoPc : ¬ c.dw 11 % 2 = 0 := by omega
  have hbadId : ¬ (q = 0 ∨ s.sqAlloc < q ∨ (s.nvm.sqs.find q).isSome = true) := by simp [hq0, halloc, hfree]
  have hbadCq : ¬ (hi = 0 ∨ (s.nvm.cqs.find hi).isNone = true) := by
    simpa [hhi0, Option.isSome_iff_ne_none] using hcq
  rw [exec_createIoSq, execCreateIoSq, act_admRun_own hrun _ hown]
  simp only [hq, hhi, if_neg hnoPc, if_neg hbadId, if_neg hbadCq]

/-- A Delete I/O CQ is legal once no I/O submission queue uses the queue. -/
theorem exec_deleteIoCq_legal (hown : s.admOwn (fun c => decide (c.op = 0x04)) = some (id, c))
    (hcq : (s.nvm.cqs.find q).isSome = true) (hunused : (s.nvm.sqs.any fun x => decide (x.2.cqid = q) && decide (x.1 ≠ 0)) = false) :
    exec .deleteIoCq s = .next (((s.onNvm fun x => { x with cqs := x.cqs.del q }).intaRefresh).finish id 0 0) := by
  have hbadId : ¬ (q = 0 ∨ (s.nvm.cqs.find q).isNone = true) := by simpa [hq0, Option.isSome_iff_ne_none] using hcq
  rw [exec_deleteIoCq, execDeleteIoCq, act_admRun_own hrun _ hown]
  simp only [hq, if_neg hbadId, hunused, Bool.false_eq_true, if_false]

/-- A Delete I/O SQ drops the queue's entries and ends its commands with Command Aborted due to SQ Deletion. -/
theorem exec_deleteIoSq_legal {x : Sq} (hown : s.admOwn (fun c => decide (c.op = 0x00)) = some (id, c))
    (hsq : s.nvm.sqs.find q = some x) {t : State}
    (ht : (s.setSq q { x with tail := x.head }).onCmd id (fun c => { c with stage := 1 }) = t) :
    exec .deleteIoSq s
      = .next ((((t.nvm.cmds.filter fun c => decide (c.2.sq = q)).map (·.1)).foldl (fun s k => s.finish k 0x08 0) t).sqDelete
          id q) := by
  rw [exec_deleteIoSq, execDeleteIoSq, act_admRun_own hrun _ hown]
  simp only [hq, hsq, if_neg hq0, ht]

end

/-! ### Abort and Asynchronous Event Requests -/

theorem exec_abort_own (hown : s.admOwn (fun c => decide (c.op = 0x08)) = some (id, c)) :
    exec .abort s = .next (s.finish id 0 1) := by
  rw [exec_abort, execAbort, act_admRun_own hrun _ hown]

/-- An Asynchronous Event Request is held while fewer than 4 are. -/
theorem exec_asyncEventRequest_held (hown : s.admOwn (fun c => decide (c.op = 0x0C)) = some (id, c))
    (hroom : s.nvm.aers.length < 4) :
    exec .asyncEventRequest s
      = .next (((s.onCmd id fun c => { c with stage := 1 }).onNvm fun x => { x with aers := x.aers ++ [id] }).aerAll) := by
  rw [exec_asyncEventRequest, execAsyncEventRequest, act_admRun_own hrun _ hown, if_neg (Nat.not_le.mpr hroom)]

/-! ### Data -/

section
variable (list : List Nat) (hbox : s.admBox (fun c => decide (c.op = 0x06)) = some (id, c))
include hbox

theorem exec_identify_data {b : Bytes} (hdata : s.identify (c.dw 10 % 256) c.nsid = some b) :
    exec (.identify list) s = .next (s.admData id c list b 0) := by
  rw [exec_identify, execIdentify, act_admRun_box hrun _ hbox, hdata]

/-- A CNS that Identify does not know is an Invalid Field. -/
theorem exec_identify_unknown (hdata : s.identify (c.dw 10 % 256) c.nsid = none) (h0 : c.dw 10 % 256 ≠ 0) (h3 : c.dw 10 % 256 ≠ 3) :
    exec (.identify list) s = .next (s.admEnd id 0x02 0) := by
  rw [exec_identify, execIdentify, act_admRun_box hrun _ hbox, hdata, if_neg (not_or.mpr ⟨h0, h3⟩)]

end

/-- A log page for NSID 0, other than SMART, is returned from the offset and with the length asked for. -/
theorem exec_getLogPage_data (list : List Nat) {b : Bytes} (hbox : s.admBox (fun c => decide (c.op = 0x02)) = some (id, c))
    (hnsid : c.nsid = 0) (hlid : c.dw 10 % 256 ≠ 2) (hdata : s.logPage_ (c.dw 10 % 256) = some b) :
    exec (.getLogPage list) s
      = .next (s.admData id c list (fit (4 * (c.dw 10 / 2 ^ 16 + c.dw 11 % 2 ^ 16 * 2 ^ 16 + 1)) (b.drop (c.dw 12 + c.dw 13 * 2 ^ 32)))
          0) := by
  have hknown : ¬ (c.nsid ≠ 0 ∧ c.nsid ≠ 1 ∧ c.nsid ≠ 2 ∧ c.nsid ≠ 0xFFFFFFFF) := fun h => h.1 hnsid
  have hsmart : ¬ (c.dw 10 % 256 = 2 ∧ (!(c.dw 10).testBit 15) = true) := fun h => hlid h.1
  rw [exec_getLogPage, execGetLogPage, act_admRun_box hrun _ hbox]
  simp only [if_neg hknown, hdata, if_neg hsmart]

/-- Get Features returns the current value (SEL = 0) of a feature without data in Dword 0, as the engine's own command or, where
none waits, as firmware's. -/
theorem exec_getFeatures_value (list : List Nat) {v : Nat} (hsel : c.dw 10 / 2 ^ 8 % 8 = 0)
    (hval : s.featGet c false = some (v, []))
    (hfor : s.admOwn (fun c => decide (c.op = 0x0A)) = some (id, c)
      ∨ s.admOwn (fun c => decide (c.op = 0x0A)) = none ∧ s.admBox (fun c => decide (c.op = 0x0A)) = some (id, c)) :
    exec (.getFeatures list) s = .next (s.admEnd id 0 v) := by
  have hcurrent : decide ((0 : Nat) ≠ 0) = false := rfl
  rw [exec_getFeatures, execGetFeatures, act_run (State.running_iff.mp hrun)]
  obtain hown | ⟨hnone, hbox⟩ := hfor
  · simp only [State.admRun, hown, Option.isNone_some, Bool.false_eq_true, if_false, hsel, hcurrent, hval, Nat.not_lt_zero,
      List.isEmpty_nil, if_true, OfNat.zero_ne_ofNat]
  · simp only [State.admRun, hnone, hbox, Option.isNone_none, if_true, hsel, hcurrent, hval, Nat.not_lt_zero, if_false,
      List.isEmpty_nil, OfNat.zero_ne_ofNat]

end

end Sys2Proof.Machine
end

section
/-! The obligation of 09_nvme_command_engine.md on admin commands of queues, data, Abort and asynchronous events. -/

namespace Sys2Proof.Machine

open Sys2Proof

/-- Settles O32: each row's lemma, in the case that the hypotheses pick. -/
theorem adminQueueCommandsComplete : Obligations.AdminQueueCommandsComplete := by
  unfold Obligations.AdminQueueCommandsComplete
  intro s id c hrun own box q hi
  refine ⟨fun hown hpc hq0 halloc hfree hiv => exec_createIoCq_legal hrun rfl hq0 hown hpc halloc hfree rfl hiv,
    fun hown hpc hq0 halloc hfree hhi0 hcq => exec_createIoSq_legal hrun rfl hq0 hown hpc halloc hfree rfl hhi0 hcq,
    fun hown hq0 hcq hunused => exec_deleteIoCq_legal hrun rfl hq0 hown hcq hunused,
    fun x hown hq0 hsq => exec_deleteIoSq_legal hrun rfl hq0 hown hsq rfl,
    fun hown => exec_abort_own hrun hown, fun hown hroom => exec_asyncEventRequest_held hrun hown hroom,
    fun list hbox => ⟨fun b hdata => exec_identify_data hrun list hbox hdata,
      fun hdata h0 h3 => exec_identify_unknown hrun list hbox hdata h0 h3⟩,
    fun list b hbox hnsid hlid hdata => exec_getLogPage_data hrun list hbox hnsid hlid hdata,
    fun list v hsel hval => ⟨fun hown => exec_getFeatures_value hrun list hsel hval (.inl hown),
      fun hnone hbox => exec_getFeatures_value hrun list hsel hval (.inr ⟨hnone, hbox⟩)⟩, ?_⟩
  rw [exec_asyncEventReport, execAsyncEventReport, act_run (State.running_iff.mp hrun)]

end Sys2Proof.Machine
end

section
/-! SUPPORT. Set Features (R307 to R310, R318, R319): what the features that are not kept as they are given do with a legal
value. -/

namespace Sys2Proof.Machine

open Sys2Proof

section
variable {s : State} (hrun : s.running = true) {id : Nat} {c : NvmCmd}
include hrun

/-- A power state is entered once the completion is posted (R318). -/
theorem exec_setPowerManagement_box (hbox : s.admBox (fun c => decide (c.op = 0x09) && decide (c.fid = 2)) = some (id, c))
    (tck : Bool) :
    exec (.setPowerManagement tck) s
      = .next (if (c.dw 10).testBit 31 then s.admEnd id 0x10D 0
          else if 4 < c.dw 11 % 32 then s.admEnd id 0x02 0 else (s.admEnd id 0 0).psEnter (c.dw 11 % 32) tck) := by
  rw [exec_setPowerManagement, execSetPowerManagement, act_admRun_box hrun _ hbox]

section
variable (hsave : (c.dw 10).testBit 31 = false)
include hsave

/-- The queue counts are set before any I/O queue exists, each to at most 127 (R307). -/
theorem exec_setNumberOfQueues_early (hown : s.admOwn (fun c => decide (c.op = 0x09) && decide (c.fid = 7)) = some (id, c))
    (hsqs : (s.nvm.sqs.any fun q => decide (q.1 ≠ 0)) = false) (hcqs : (s.nvm.cqs.any fun q => decide (q.1 ≠ 0)) = false) {v : Nat}
    (hv : min 127 (c.dw 11 % 2 ^ 16) + min 127 (c.dw 11 / 2 ^ 16) * 2 ^ 16 = v) :
    exec .setNumberOfQueues s = .next ((s.setFeat 7 0 v).admEnd id 0 v) := by
  rw [exec_setNumberOfQueues, execSetNumberOfQueues]
  exact act_setFeature_own hrun hsave (by simp only [hsqs, hcqs, hv, Bool.false_eq_true, or_self, if_false]) hown

/-- An APST table whose entries R319 takes is kept, and idleness is counted from now. -/
theorem exec_setApst_legal {b : Bytes} (hbox : s.admBox (fun c => decide (c.op = 0x09) && decide (c.fid = 0x0C)) = some (id, c))
    (hok : ((List.range 32).all fun k => apstOk b k) = true) :
    exec (.setApst (some b)) s
      = .next (((s.onNvm fun x => { x with apst := apstOf b, idle := s.now }).setFeat 0x0C 0 (c.dw 11 % 2)).admEnd id 0 0) := by
  rw [exec_setApst, execSetApst]
  exact act_setFeature_box hrun hsave (by simp only [hok, if_true]) hbox

/-- A queue's class is set through FTL.QCLASS (R310). -/
theorem exec_setQueueClass_legal (hbox : s.admBox (fun c => decide (c.op = 0x09) && decide (c.fid = 0xC0)) = some (id, c))
    {q cls : Nat} (hq : c.dw 11 % 256 = q) (hcls : c.dw 11 / 2 ^ 8 % 128 = cls) (hq0 : q ≠ 0) (hq128 : q ≤ 128) (hcls63 : cls ≤ 63) :
    exec .setQueueClass s
      = .next ((s.softWrite ftlChecks ftlEffect (.core 0) (R.FTL_QCLASS_CLASS0 ((q - 1) / 4)).off
          ((s.rd (R.FTL_QCLASS_CLASS0 ((q - 1) / 4)).off).setFld (8 * ((q - 1) % 4)) 6 cls)).admEnd id 0 0) := by
  have hlegal : ¬ (q = 0 ∨ 128 < q ∨ 63 < cls) := by omega
  rw [exec_setQueueClass, execSetQueueClass]
  exact act_setFeature_box hrun hsave (by simp only [hq, hcls, if_neg hlegal]) hbox

/-- A class's expiry and then its control are set; bit 2 of the control may be set in content mode only (R310). -/
theorem exec_setClassControl_legal (hbox : s.admBox (fun c => decide (c.op = 0x09) && decide (c.fid = 0xC1)) = some (id, c))
    {cls ctl : Nat} (hcls : c.dw 11 % 128 = cls) (hctl : c.dw 11 / 2 ^ 8 % 8 = ctl) (hcls63 : cls ≤ 63)
    (hmode : s.boot.content = true ∨ ctl < 4) :
    exec .setClassControl s
      = .next (((s.softWrite ftlChecks ftlEffect (.core 0) (R.FTL_CLASS_EXP_EXPIRE cls).off (BitVec.ofNat 32 (c.dw 12))).softWrite
          ftlChecks ftlEffect (.core 0) (R.FTL_CLASS_CTL_WRITABLE cls).off (BitVec.ofNat 32 ctl)).admEnd id 0 0) := by
  have hlegal : ¬ (63 < cls ∨ (!s.boot.content) = true ∧ 4 ≤ ctl) := by
    rintro (hbig | ⟨hblock, hhigh⟩)
    · omega
    · rcases hmode with hcontent | hlow
      · simp [hcontent] at hblock
      · omega
  rw [exec_setClassControl, execSetClassControl]
  exact act_setFeature_box hrun hsave (by simp only [hcls, hctl, if_neg hlegal]) hbox

end

end

end Sys2Proof.Machine
end

section
/-! The obligation of 09_nvme_command_engine.md on Set Features. -/

namespace Sys2Proof.Machine

open Sys2Proof

/-- Settles O33: a feature that is kept as it is given is `keepFeature_legal`, each other one its own lemma, and one that asks to save
is refused before its value is looked at. -/
theorem setFeaturesComplete : Obligations.SetFeaturesComplete := by
  unfold Obligations.SetFeaturesComplete
  intro s id c hrun own box d
  refine ⟨fun hsave => ⟨fun hown => ?_, fun tck hbox => ?_⟩, fun hsave => ⟨fun hown => ?arbitration, fun tck hbox hps => ?power,
    fun hbox hsel hkind => ?temperature, fun hown hsqs hcqs => exec_setNumberOfQueues_early hrun hsave hown hsqs hcqs rfl,
    fun hown => ?coalescing, fun hown hvec => ?vector, fun hbox => ?atomicity, fun hown hbits => ?asyncEvents,
    fun b hbox hok => exec_setApst_legal hrun hsave hbox hok, fun b hbox => ?timestamp,
    fun hbox hq0 hq128 hcls => exec_setQueueClass_legal hrun hsave hbox rfl rfl hq0 hq128 hcls,
    fun hbox hcls hmode => exec_setClassControl_legal hrun hsave hbox rfl rfl hcls hmode, fun hbox hpos hmax => ?blockSize,
    fun hbox => ?powerCap⟩⟩
  · exact act_setFeature_save hrun hown hsave
  · rw [exec_setPowerManagement_box hrun hbox, if_pos hsave]
  case arbitration => exact act_setFeature_own hrun hsave (keepFeature_legal s _ _ _ rfl) hown
  case power =>
    rw [exec_setPowerManagement_box hrun hbox, hsave, if_neg Bool.false_ne_true, if_neg (Nat.not_lt.mpr hps)]
  case temperature =>
    exact act_setFeature_box hrun hsave
      (keepFeature_legal s _ _ _ (by rw [decide_eq_true hsel, decide_eq_true hkind, Bool.and_self])) hbox
  case coalescing => exact act_setFeature_own hrun hsave (keepFeature_legal s _ _ _ rfl) hown
  case vector => exact act_setFeature_own hrun hsave (keepFeature_legal s _ _ _ (decide_eq_true hvec)) hown
  case atomicity => exact act_setFeature_box hrun hsave (keepFeature_legal s _ _ _ rfl) hbox
  case asyncEvents => exact act_setFeature_own hrun hsave (keepFeature_legal s _ _ _ (decide_eq_true hbits)) hown
  case timestamp => exact act_setFeature_box hrun hsave rfl hbox
  case blockSize =>
    exact act_setFeature_box hrun hsave
      (keepFeature_legal s _ _ _ (by rw [decide_eq_true hpos, decide_eq_true hmax, Bool.and_self])) hbox
  case powerCap => exact act_setFeature_box hrun hsave rfl hbox

end Sys2Proof.Machine
end

section
/-! SUPPORT. ADM_CTL (R325): what an accepted write of it moves between the host and ADM_BUF, and the completion that it posts. -/

namespace Sys2Proof.Machine

open Sys2Proof

/-- The word of ADM_CTL that asks for a transfer of `words` dwords. -/
def admXferWord (words : BitVec 16) : Word := BitVec.ofNat 32 (2 ^ 12 + words.toNat * 2 ^ 16)

/-- The word of ADM_CTL that ends the command in the mailbox. -/
def admDoneWord (status : BitVec 11) (dnr : Bool) : Word := BitVec.ofNat 32 (2 ^ 13 + status.toNat + b2n dnr * 2 ^ 11)

/-- A bit of a word given as a number. -/
theorem bit_ofNat_eq (n : Nat) {i : Nat} (hi : i < 32) : Word.bit (BitVec.ofNat 32 n) i = decide (n / 2 ^ i % 2 = 1) := by
  rw [Word.bit, BitVec.getLsbD_ofNat, decide_eq_true hi, Bool.true_and, Nat.testBit_eq_decide_div_mod_eq]

section
variable (words : BitVec 16)

theorem bit_admXferWord_xfer : (admXferWord words).bit 12 = true := by
  rw [admXferWord, bit_ofNat_eq _ (by decide), decide_eq_true_eq]
  omega

theorem bit_admXferWord_done : (admXferWord words).bit 13 = false := by
  rw [admXferWord, bit_ofNat_eq _ (by decide), decide_eq_false_iff_not]
  omega

theorem fld_admXferWord_words : (admXferWord words).fld 16 16 = words.toNat := by
  rw [admXferWord, Word.fld, BitVec.toNat_ofNat]
  omega

end

section
variable (status : BitVec 11) (dnr : Bool)

theorem b2n_lt_two : b2n dnr < 2 := by cases dnr <;> decide

theorem bit_admDoneWord_xfer : (admDoneWord status dnr).bit 12 = false := by
  have hdnr := b2n_lt_two dnr
  rw [admDoneWord, bit_ofNat_eq _ (by decide), decide_eq_false_iff_not]
  omega

theorem bit_admDoneWord_done : (admDoneWord status dnr).bit 13 = true := by
  have hdnr := b2n_lt_two dnr
  rw [admDoneWord, bit_ofNat_eq _ (by decide), decide_eq_true_eq]
  omega

theorem fld_admDoneWord_status : (admDoneWord status dnr).fld 0 11 = status.toNat := by
  rw [admDoneWord, Word.fld, BitVec.toNat_ofNat]
  omega

theorem fld_admDoneWord_dnr : (admDoneWord status dnr).fld 11 1 = b2n dnr := by
  have hdnr := b2n_lt_two dnr
  rw [admDoneWord, Word.fld, BitVec.toNat_ofNat]
  omega

end

/-- The state once an accepted write of ADM_CTL has set its fields: XFER and DONE read 0. -/
def State.admCtl (s : State) (r : Requester) (v : Word) : State :=
  ((s.written r R.NVM_ADM_CTL v).put R.NVM_ADM_CTL_XFER 0).put R.NVM_ADM_CTL_DONE 0

theorem admCtl_off : R.NVM_ADM_CTL % 0x1000 = 0xEC := rfl

/-- The address in DRAM that ADM_BUF holds. -/
def State.admBuf (s : State) : Nat := s.rd64 R.NVM_ADM_BUF_LO % 2 ^ 37

section
variable {s : State} (hrun : s.running = true) {r : Requester}
include hrun

section
variable {words : BitVec 16} (hacc : s.accepts nvmChecks r R.NVM_ADM_CTL (admXferWord words) = true) (list : List Nat)
include hacc

/-- An accepted transfer is the effect of ADM_CTL on the state that the write leaves. -/
theorem exec_adminXfer_accepted (data : Option Bytes) :
    exec (.adminXfer r words list data) s
      = .next (nvmEffectWith list data (s.written r R.NVM_ADM_CTL (admXferWord words)) r (pageOf R.NVM_ADM_CTL) 0xEC
          (s.wordBefore r R.NVM_ADM_CTL) (admXferWord words)) := by
  rw [exec_adminXfer, execAdminXfer, act_run (State.running_iff.mp hrun), ← admXferWord, softWrite_accepted hacc, admCtl_off]

variable {c : NvmCmd} {t : State} (ht : s.admCtl r (admXferWord words) = t) (hcmd : t.nvm.mbox.bind t.nvm.cmds.find = some c)
include ht hcmd

/-- A transfer that meets a PCIe error is noted in ADM_STS. -/
theorem exec_adminXfer_error : exec (.adminXfer r words list none) s = .next (t.put R.NVM_ADM_STS_XFER_ERR 1) := by
  rw [State.admCtl] at ht
  rw [exec_adminXfer_accepted hrun hacc]
  simp only [nvmEffectWith, ht, hcmd, bit_admXferWord_xfer, bit_admXferWord_done, Nat.reduceEqDiff,
    Bool.false_eq_true, ↓reduceIte]

variable (hopen : t.dramOpen = true) (b : Bytes)
include hopen

/-- A command whose opcode says host to controller has the host's bytes stored at ADM_BUF. -/
theorem exec_adminXfer_fromHost (hop : c.op % 4 = 1) :
    exec (.adminXfer r words list (some b)) s = .next (t.dramStore 6 t.admBuf (fit (4 * words.toNat) b) false).2 := by
  rw [State.admCtl] at ht
  rw [exec_adminXfer_accepted hrun hacc]
  simp only [nvmEffectWith, ht, hcmd, bit_admXferWord_xfer, bit_admXferWord_done, fld_admXferWord_words, hop, hopen,
    State.admBuf, Nat.reduceEqDiff, Bool.false_eq_true, ↓reduceIte]

/-- A command whose opcode says controller to host has the bytes at ADM_BUF sent to its host pages. -/
theorem exec_adminXfer_toHost (hop : c.op % 4 = 2) {d : Bytes × Bool} {u : State}
    (hload : t.dramLoad 6 t.admBuf (4 * words.toNat) = (some d, u)) :
    exec (.adminXfer r words list (some b)) s = .next (u.toHost (u.prps c (4 * words.toNat) list) 0 d.1 d.2) := by
  rw [State.admBuf] at hload
  rw [State.admCtl] at ht
  rw [exec_adminXfer_accepted hrun hacc]
  simp only [nvmEffectWith, ht, hcmd, bit_admXferWord_xfer, bit_admXferWord_done, fld_admXferWord_words, hop, hopen,
    hload, Nat.reduceEqDiff, Bool.false_eq_true, ↓reduceIte]

end

/-- ADMIN_DONE posts the completion with the status and ADM_CPL's Dword 0. -/
theorem exec_adminDone_accepted {status : BitVec 11} {dnr : Bool}
    (hacc : s.accepts nvmChecks r R.NVM_ADM_CTL (admDoneWord status dnr) = true) {t : State}
    (ht : s.admCtl r (admDoneWord status dnr) = t) :
    exec (.adminDone r status dnr) s
      = .next (t.adminDone (status.toNat + b2n dnr * 2 ^ 14) (t.rd R.NVM_ADM_CPL).toNat) := by
  rw [State.admCtl] at ht
  rw [exec_adminDone, execAdminDone, act_run (State.running_iff.mp hrun), ← admDoneWord, softWrite_accepted hacc, admCtl_off,
    nvmEffect]
  simp only [nvmEffectWith, ht, bit_admDoneWord_xfer, bit_admDoneWord_done, fld_admDoneWord_status, fld_admDoneWord_dnr,
    Nat.reduceEqDiff, Bool.false_eq_true, ↓reduceIte]
  cases t.nvm.mbox.bind t.nvm.cmds.find <;> rfl

end

end Sys2Proof.Machine
end

section
/-! SUPPORT. Firmware update, Format NVM and the vendor commands (R311 to R313, R316, R459), the power states (R319) and the basic
management read (R324). -/

namespace Sys2Proof.Machine

open Sys2Proof

section
variable {s : State} (hrun : s.running = true) {id : Nat} {c : NvmCmd}
include hrun

/-! ### Firmware update -/

/-- A piece of whole 64 KiB that starts on 64 KiB, lies within 32 MiB and overlaps no other piece is stored. -/
theorem exec_firmwareImageDownload_stored {b : Bytes} {n off : Nat}
    (hbox : s.admBox (fun c => decide (c.op = 0x11)) = some (id, c)) (hn : 4 * (c.dw 10 + 1) = n) (hoff : 4 * c.dw 11 = off)
    (halign : off % 65536 = 0) (hend : off + n ≤ 2 ^ 25) (hwhole : n % 65536 = 0)
    (hapart : (s.nvm.fw.any fun p => decide (off < p.1 + p.2.length) && decide (p.1 < off + n)) = false) :
    exec (.firmwareImageDownload (some b)) s
      = .next ((s.onNvm fun x => { x with fw := x.fw ++ [(off, fit n b)] }).admEnd id 0 0) := by
  have hlegal (last : Nat) : ¬ (off % 65536 ≠ 0 ∨ 2 ^ 25 < off + n ∨ n % 65536 ≠ 0 ∧ off < last) := by omega
  rw [exec_firmwareImageDownload, execFirmwareImageDownload, act_admRun_box hrun _ hbox]
  simp only [hn, hoff, if_neg (hlegal _), hapart, Bool.false_eq_true, if_false]

/-- CA = 2 verifies the slot and names it, with nothing stored (R459). -/
theorem exec_firmwareCommit_activate {slot : Nat} (hbox : s.admBox (fun c => decide (c.op = 0x10)) = some (id, c))
    (hca : c.dw 10 / 8 % 8 = 2) (hfs : c.dw 10 % 8 ≤ 2) (hslot : (if c.dw 10 % 8 = 0 then 3 - s.bootRec.1 else c.dw 10 % 8) = slot)
    (other own : NorFact) : exec (.firmwareCommit other own) s = .next (s.commitSlot id 2 slot own) := by
  rw [exec_firmwareCommit, execFirmwareCommit, act_admRun_box hrun _ hbox]
  extract_lets ca fs running named
  rw [show ca = 2 from hca, show named = slot from hslot, if_neg (by decide), if_neg (Nat.not_lt.mpr hfs), if_pos rfl]

/-! ### Format NVM and the vendor commands -/

/-- Format NVM with LBAF, MSET, PI and SES 0 starts, unless a joined member or a Format under way keeps it. -/
theorem exec_formatNvm_starts (hbox : s.admBox (fun c => decide (c.op = 0x80)) = some (id, c)) (hd : c.dw 10 = 0)
    (hjoined : (s.boot.content && s.flag R.TGN_STS_JOINED) = false) (hformat : s.flag R.NVM_STS_FORMAT = false) :
    exec .formatNvm s = .next s.format := by
  have hapart : ¬ (s.boot.content = true ∧ s.flag R.TGN_STS_JOINED = true) := by simpa using hjoined
  have hfields : ¬ (c.dw 10 % 16 ≠ 0 ∨ c.dw 10 / 16 % 2 ≠ 0 ∨ c.dw 10 / 32 % 8 ≠ 0 ∨ 1 < c.dw 10 / 2 ^ 9 % 8) := by omega
  rw [exec_formatNvm, execFormatNvm, act_admRun_box hrun _ hbox]
  simp only [if_neg hfields, if_neg hapart, hformat, Bool.false_eq_true, if_false]

/-- A class drop of a content class that is not WRITABLE starts. -/
theorem exec_classDropAdmin_starts (hbox : s.admBox (fun c => decide (c.op = 0xC4)) = some (id, c)) (hdrop : s.nvm.drop = none)
    (hcls : c.dw 10 ≤ 63) (hwr : s.flag (R.FTL_CLASS_CTL_WRITABLE (c.dw 10)) = false) :
    exec .classDropAdmin s = .next (s.onNvm fun x => { x with drop := some (c.dw 10, 0) }).dropAdmin := by
  rw [exec_classDropAdmin, execClassDropAdmin, act_admRun_box hrun _ hbox]
  simp only [hdrop, Option.isSome_none, Bool.false_eq_true, if_false, if_neg (Nat.not_lt.mpr hcls), hwr]

section
variable (hidle : s.flag R.IST_CMD_GO = false) (hready : s.flag R.IST_STS_READY = true) (b : Bytes)
include hidle hready

/-- Index Insert of an entry whose first and last IU lie in no extent ends with the status of IST's INSERT. -/
theorem exec_indexInsert_run (hbox : s.admBox (fun c => decide (c.op = 0xC5)) = some (id, c))
    (hlo : s.extOf (IdxEnt.ofBytes (fit 32 b)).iu = none)
    (hhi : s.extOf ((IdxEnt.ofBytes (fit 32 b)).iu + (IdxEnt.ofBytes (fit 32 b)).ius - 1) = none) {x : Nat × State}
    (hx : s.istAdmin 3 (fit 32 b) = x) :
    exec (.indexInsert (some b)) s
      = .next (x.2.admEnd id (if x.1 = 0 then 0 else if x.1 = 3 then 0x1C0 else if x.1 = 4 then 0x1C1 else 0x0C) 0) := by
  rw [exec_indexInsert, execIndexInsert, act_admRun_box hrun _ hbox]
  simp only [hidle, hready, hlo, hhi, hx, Option.isSome_none, Bool.false_eq_true, Bool.not_true, or_self, if_false]

/-- Index Remove ends with the status of IST's REMOVE. -/
theorem exec_indexRemove_run (hbox : s.admBox (fun c => decide (c.op = 0xC9)) = some (id, c)) {x : Nat × State}
    (hx : s.istAdmin 4 (fit 32 (fit 16 b)) = x) :
    exec (.indexRemove (some b)) s = .next (x.2.admEnd id (if x.1 = 0 then 0 else 0x1C2) 0) := by
  rw [exec_indexRemove, execIndexRemove, act_admRun_box hrun _ hbox]
  simp only [hidle, hready, hx, Bool.false_eq_true, Bool.not_true, if_false]

end

/-! ### Power states and the basic management read -/

/-- With APST on and no flow open, ITPT of idleness moves the controller to the ITPS of its power state. -/
theorem exec_apstTransition_due {e : Nat × Nat} (he : s.nvm.apst.getD (s.feat 2 0) (0, 0) = e) (hon : s.feat 0x0C 0 = 1)
    (hitpt : e.1 ≠ 0) (hquiet : s.nvmQuiet = true) (hdue : s.nvm.idle + e.1 * 10 ^ 6 ≤ s.now) (hflows : s.ist.flows = [])
    (tck : Bool) : exec (.apstTransition tck) s = .next (s.psEnter e.2 tck) := by
  rw [exec_apstTransition, execApstTransition, act_run (State.running_iff.mp hrun)]
  simp only [he, hflows, List.isEmpty_nil, or_true, and_true]
  rw [if_pos ⟨hon, hitpt, hquiet, hdue⟩]

section
variable (hawake : s.pwr.step = .awake)
include hawake

/-- Without MI_EN the basic management read is not acknowledged. -/
theorem exec_miBasicRead_off (hmi : s.flag R.NVM_CFG_MI_EN = false) (code : Byte) :
    exec (.miBasicRead code) s = .next (s.emit (.smbus false [])) := by
  rw [exec_miBasicRead, execMiBasicRead, act_run (State.running_iff.mp hrun), State.smbus, if_pos hawake, hmi]
  rfl

variable (hmi : s.flag R.NVM_CFG_MI_EN = true)
include hmi

/-- Code 8 answers the vendor and the serial number, with their PEC. -/
theorem exec_miBasicRead_vendor {d : Bytes} (hd : leBytes 2 0x1FE4 ++ s.serial = d) :
    exec (.miBasicRead 8) s = .next ((s.pulse 167).emit (.smbus true (d ++ [pec ([0xD4, 8, 0xD5] ++ d)]))) := by
  have h8 : ¬ (8 : Byte) = 0 := by decide
  rw [exec_miBasicRead, execMiBasicRead, act_run (State.running_iff.mp hrun), State.smbus, if_pos hawake]
  simp only [hmi, Bool.not_true, Bool.false_eq_true, if_false, if_neg h8, if_true, or_true, hd]

/-- Another code answers one byte of ones. -/
theorem exec_miBasicRead_other {code : Byte} (h0 : code ≠ 0) (h8 : code ≠ 8) :
    exec (.miBasicRead code) s = .next ((s.pulse 167).emit (.smbus true [0xFF])) := by
  rw [exec_miBasicRead, execMiBasicRead, act_run (State.running_iff.mp hrun), State.smbus, if_pos hawake]
  simp only [hmi, Bool.not_true, Bool.false_eq_true, if_false, h0, h8, or_self]

end

end

end Sys2Proof.Machine
end

section
/-! The obligation of 09_nvme_command_engine.md on the admin commands of firmware. -/

namespace Sys2Proof.Machine

open Sys2Proof

/-- Settles O34: each row's lemma, in the case that the hypotheses pick. -/
theorem firmwareAdminCommandsComplete : Obligations.FirmwareAdminCommandsComplete := by
  unfold Obligations.FirmwareAdminCommandsComplete
  intro s id c hrun box
  exact ⟨fun b hbox => exec_firmwareImageDownload_stored hrun hbox rfl rfl,
    fun other own hbox hca hfs => exec_firmwareCommit_activate hrun hbox hca hfs rfl other own,
    fun hbox => exec_formatNvm_starts hrun hbox, fun hbox => exec_classDropAdmin_starts hrun hbox,
    fun b hidle hready => ⟨fun hbox hlo hhi => exec_indexInsert_run hrun hidle hready b hbox hlo hhi rfl,
      fun hbox => exec_indexRemove_run hrun hidle hready b hbox rfl⟩,
    fun r words list b hacc hcmd => ⟨exec_adminXfer_error hrun hacc list rfl hcmd,
      fun hopen => ⟨exec_adminXfer_fromHost hrun hacc list rfl hcmd hopen b,
        fun d u hop hload => exec_adminXfer_toHost hrun hacc list rfl hcmd hopen b hop hload⟩⟩,
    fun r status dnr hacc => exec_adminDone_accepted hrun hacc rfl,
    fun tck hon hitpt hquiet hdue hflows => exec_apstTransition_due hrun rfl hon hitpt hquiet hdue hflows tck,
    fun hawake => ⟨fun hmi code => exec_miBasicRead_off hrun hawake hmi code,
      fun hmi => ⟨exec_miBasicRead_vendor hrun hawake hmi rfl, exec_miBasicRead_other hrun hawake hmi (by decide) (by decide)⟩⟩⟩

end Sys2Proof.Machine
end

section
/-! SUPPORT. Reports on the PCI Express link (R330, R333, R337, R355, R357, R441): what each does where its condition holds. -/

namespace Sys2Proof.Machine

open Sys2Proof

section
variable {s : State} (hrun : s.running = true)
include hrun

/-! ### The link while it is down -/

/-- A link that may train, is down and not in L2 comes up with a speed that the partner offers. -/
theorem exec_linkUp_trained {v : BitVec 3} (hmay : s.linkMayTrain = true) (hdown : s.flag R.PCI_LINK_STS_UP = false)
    (hl2 : s.get R.PCI_LINK_STS_LTSSM ≠ 8) (hlo : 1 ≤ v.toNat) (hhi : v.toNat ≤ 6) (w : BitVec 2) (flit : Bool) :
    exec (.linkUp v w flit) s = .next (((s.put R.PCI_LINK_STS_UP 1).pulse 144).linkTrained v.toNat w.toNat flit) := by
  have hcond : s.linkMayTrain ∧ !s.flag R.PCI_LINK_STS_UP ∧ s.get R.PCI_LINK_STS_LTSSM ≠ 8 ∧ 1 ≤ v.toNat ∧ v.toNat ≤ 6 :=
    ⟨hmay, by rw [hdown]; rfl, hl2, hlo, hhi⟩
  rw [exec_linkUp, execLinkUp, act_run (State.running_iff.mp hrun), if_pos hcond]

/-- PERST_N's assertion drops a link that is up, ends the reads unrecorded, ends the rail sequence and asks for a reboot. -/
theorem exec_perstNAssert_released (hperst : s.pci.perst = false) {t : State}
    (ht : s.onPci (fun x => { x with perst := true }) = t) :
    exec .perstNAssert s
      = .next (((((if s.flag R.PCI_LINK_STS_UP then t.linkDrop else t).readsEnd false).onRail fun x =>
          { x with seq := [] }).rebootAsk 4).wake 1) := by
  have hup : t.flag R.PCI_LINK_STS_UP = s.flag R.PCI_LINK_STS_UP := ht ▸ rfl
  rw [exec_perstNAssert, execPerstNAssert, act_run (State.running_iff.mp hrun), if_neg (ne_true_of_eq_false hperst), ht]
  simp only [hup]

/-- PERST_N's release lets an idle link that may train begin at 2.5 GT/s. -/
theorem exec_perstNRelease_trains {t : State} (ht : s.onPci (fun x => { x with perst := false }) = t)
    (hmay : t.linkMayTrain = true) (hidle : t.get R.PCI_LINK_STS_LTSSM = 0) :
    exec .perstNRelease s = .next ((t.put R.PCI_LINK_STS_SPEED 1).put R.PCI_LINK_STS_LTSSM 1) := by
  rw [exec_perstNRelease, execPerstNRelease, act_run (State.running_iff.mp hrun), ht]
  exact congrArg Host.Outcome.next (if_pos ⟨hmay, hidle⟩)

/-- Configuration access opens 1.0 s after L0 was first reached. -/
theorem exec_cfgOpenTimeout_due {t : Nat} (hl0 : s.pci.firstL0 = some t) (hdue : t + 10 ^ 9 ≤ s.now) :
    exec .cfgOpenTimeout s = .next (s.put R.PCI_LINK_STS_CFG_OPEN 1) := by
  rw [exec_cfgOpenTimeout, execCfgOpenTimeout, act_run (State.running_iff.mp hrun)]
  simp only [hl0, if_pos hdue]

/-! ### The link while it is up -/

section
variable (hup : s.flag R.PCI_LINK_STS_UP = true)
include hup

/-- The link goes down: its reads end recorded, and the function is reset. -/
theorem exec_linkDown_up : exec .linkDown s = .next ((s.linkDrop.readsEnd true).fnResetAsk 3) := by
  rw [exec_linkDown, execLinkDown, act_run (State.running_iff.mp hrun), if_pos hup]

/-- A hot reset is a link down that source 147 reports as well. -/
theorem exec_hotReset_up : exec .hotReset s = .next (((s.pulse 147).linkDrop.readsEnd true).fnResetAsk 1) := by
  rw [exec_hotReset, execHotReset, act_run (State.running_iff.mp hrun), if_pos hup]

/-- L0p, which needs Flit Mode and the host's enable, changes the width within the trained one: the host to any, the controller to
the next narrower or to all of it. -/
theorem exec_l0pWidthChange_up {byHost : Bool} {w : BitVec 2} (hflit : s.flag R.PCI_LINK_STS_FLIT = true)
    (hen : (s.cfgRd 0x268).bit 3 = true) (hw : w.toNat ≤ s.get R.PCI_LINK_STS_WIDTH)
    (hask : byHost = true ∨ (s.flag R.PCI_LINK_CFG_L0P_EN = true
      ∧ (w.toNat + 1 = s.get R.PCI_LINK_STS_L0P_WIDTH ∨ w.toNat = s.get R.PCI_LINK_STS_WIDTH))) :
    exec (.l0pWidthChange byHost w) s = .next (s.put R.PCI_LINK_STS_L0P_WIDTH w.toNat) := by
  rw [exec_l0pWidthChange, execL0pWidthChange, act_run (State.running_iff.mp hrun)]
  exact congrArg Host.Outcome.next (if_pos ⟨hup, hflit, hen, hw, by simpa using hask⟩)

section
variable (hreads : s.pci.reads = [])
include hreads

/-- In L0 with ASPM L1 on, the link enters the L1 state `sub`, a substate only with the host's enable. -/
theorem exec_aspmL1Entry_idle (hl0 : s.get R.PCI_LINK_STS_LTSSM = 3) (haspm : (s.cfgRd 0x70).bit 1 = true) {sub : Fin 3}
    (hsub : sub.val = 0 ∨ sub.val = 1 ∧ (s.cfgRd 0x248).bit 3 = true ∨ sub.val = 2 ∧ (s.cfgRd 0x248).bit 2 = true) :
    exec (.aspmL1Entry sub) s = .next (s.put R.PCI_LINK_STS_LTSSM (5 + sub.val)) := by
  rw [exec_aspmL1Entry, execAspmL1Entry, act_run (State.running_iff.mp hrun)]
  exact congrArg Host.Outcome.next (if_pos ⟨hup, hl0, haspm, by rw [hreads]; rfl, by simpa [or_assoc] using hsub⟩)

/-- The link enters L2. -/
theorem exec_l2Entry_idle : exec .l2Entry s = .next (((s.put R.PCI_LINK_STS_UP 0).put R.PCI_LINK_STS_LTSSM 8).pulse 145) := by
  rw [exec_l2Entry, execL2Entry, act_run (State.running_iff.mp hrun), if_pos ⟨hup, by rw [hreads]; rfl⟩]

end

end

end

end Sys2Proof.Machine
end

section
/-! SUPPORT. Host reads that end and errors of the link (R339, R342, R346 to R348, R354): what each report does where its condition
holds. -/

namespace Sys2Proof.Machine

open Sys2Proof

section
variable {s : State} (hrun : s.running = true)
include hrun

/-- A read that has waited for the completion timeout, which the host has not disabled, ends in a bus error, and its tag stays out. -/
theorem exec_completionTimeout_due {tag : BitVec 14} {r : HostRead} (hread : s.pci.reads.find tag.toNat = some r)
    (hen : (s.cfgRd 0x88).bit 4 = false) (hdue : r.at_ + s.cplTimeout ≤ s.now) {p : List Word × State}
    (hp : ((s.readBusError 1 tag.toNat r true).pulse 152).freeHeader = p) :
    exec (.completionTimeout tag) s = .next ((p.2.aerUnc 14 p.1).dmaGoOn.tagRefresh) := by
  rw [exec_completionTimeout, execCompletionTimeout, act_run (State.running_iff.mp hrun)]
  simp only [hread, hp, if_pos (show !(s.cfgRd 0x88).bit 4 ∧ r.at_ + s.cplTimeout ≤ s.now from ⟨by rw [hen]; rfl, hdue⟩)]

/-- A held tag returns to the pool when it is due. -/
theorem exec_tagHoldEnd_due {tag : BitVec 14} {t : Nat} (hheld : s.pci.tagHold.find tag.toNat = some t) (hdue : t ≤ s.now) :
    exec (.tagHoldEnd tag) s = .next (s.onPci fun x => { x with tagHold := x.tagHold.del tag.toNat }).dmaGoOn := by
  rw [exec_tagHoldEnd, execTagHoldEnd, act_run (State.running_iff.mp hrun)]
  simp only [hheld, if_pos hdue]

/-- A correctable error of the link other than Replay Timer Timeout is recorded in AER. -/
theorem exec_linkLayerError_correctable {bit : Fin 32} (hbit : bit.val ∈ [0, 6, 7, 8]) (h0 h1 h2 h3 : Word) :
    exec (.linkLayerError true bit h0 h1 h2 h3) s = .next (s.aerCorr bit.val) := by
  have hknown : [0, 6, 7, 8, 12].contains bit.val = true := List.elem_iff.mpr (List.mem_append_left [12] hbit)
  have hreplay : bit.val ≠ 12 := by
    intro h
    rw [h] at hbit
    exact absurd hbit (by decide)
  rw [exec_linkLayerError, execLinkLayerError, act_run (State.running_iff.mp hrun), if_pos rfl, if_pos hknown]
  simp only [if_neg hreplay]

/-- An uncorrectable error of the link is recorded in AER with its header. -/
theorem exec_linkLayerError_uncorrectable {bit : Fin 32} (hbit : bit.val ∈ [4, 13, 17, 18]) (h0 h1 h2 h3 : Word) :
    exec (.linkLayerError false bit h0 h1 h2 h3) s = .next (s.aerUnc bit.val [h0, h1, h2, h3]) := by
  rw [exec_linkLayerError, execLinkLayerError, act_run (State.running_iff.mp hrun), if_neg Bool.false_ne_true,
    if_pos (List.elem_iff.mpr hbit)]

section
variable (hup : s.flag R.PCI_LINK_STS_UP = true)
include hup

section
variable {tag : BitVec 14} {data : Bytes} {r : HostRead} {t : State}
  (ht : ((s.linkActive).evtB pciPage 0x10 1).evtB pciPage 0x13 1 = t) (hread : t.pci.reads.find tag.toNat = some r)
include ht hread

/-- A completion for an outstanding read brings its data, or ends it in a bus error when its status is not 0. -/
theorem exec_readCompletion_outstanding (status : BitVec 3) :
    exec (.readCompletion tag status data) s
      = .next (if status.toNat = 0 then t.readData tag.toNat data false
          else (t.readBusError 2 tag.toNat r false).dmaGoOn.tagRefresh) := by
  rw [exec_readCompletion, execReadCompletion, act_run (State.running_iff.mp hrun)]
  simp only [hup, ht, hread, Bool.not_true, Bool.false_eq_true, if_false]

theorem exec_readCompletion_data :
    exec (.readCompletion tag 0 data) s = .next (t.readData tag.toNat data false) :=
  (exec_readCompletion_outstanding hrun hup ht hread 0).trans (congrArg Host.Outcome.next (if_pos rfl))

theorem exec_readCompletion_status {status : BitVec 3} (hstatus : status ≠ 0) :
    exec (.readCompletion tag status data) s = .next (t.readBusError 2 tag.toNat r false).dmaGoOn.tagRefresh := by
  have hnat : status.toNat ≠ 0 := fun h => hstatus (BitVec.eq_of_toNat_eq h)
  rw [exec_readCompletion_outstanding hrun hup ht hread, if_neg hnat]

end

/-- A request that hits nothing is recorded in AER with its header. -/
theorem exec_unsupportedRequest_up (h0 h1 h2 h3 : Word) :
    exec (.unsupportedRequest h0 h1 h2 h3) s = .next (s.linkActive.aerUnc 20 [h0, h1, h2, h3]) := by
  rw [exec_unsupportedRequest, execUnsupportedRequest, act_run (State.running_iff.mp hrun), if_pos hup]

section
variable {p : List Word × State} (hp : (((s.linkActive).bump R.PCI_POISON_CNT_IN 1).pulse 150).freeHeader = p) (data : Bytes)
include hp

/-- A poisoned posted write is counted, reported, recorded in AER and discarded. -/
theorem exec_poisonedTlp_write : exec (.poisonedTlp none data) s = .next (p.2.aerUnc 12 p.1) := by
  rw [exec_poisonedTlp, execPoisonedTlp, act_run (State.running_iff.mp hrun)]
  simp only [hup, hp, Bool.not_true, Bool.false_eq_true, if_false]

/-- A poisoned completion is so too, and its data arrive with the poison mark. -/
theorem exec_poisonedTlp_completion (tag : BitVec 14) :
    exec (.poisonedTlp (some tag) data) s = .next ((p.2.aerUnc 12 p.1).readData tag.toNat data true) := by
  rw [exec_poisonedTlp, execPoisonedTlp, act_run (State.running_iff.mp hrun)]
  simp only [hup, hp, Bool.not_true, Bool.false_eq_true, if_false]

end

end

end

end Sys2Proof.Machine
end

section
/-! SUPPORT. Configuration requests (R337), and what accepted writes of CTL do beyond its fields (R332, R337). -/

namespace Sys2Proof.Machine

open Sys2Proof

/-! ### Configuration requests -/

section
variable {s : State} (hrun : s.running = true) (hup : s.linkActive.flag R.PCI_LINK_STS_UP = true)
  (hopen : s.linkActive.flag R.PCI_LINK_STS_CFG_OPEN = true)

section
include hup hopen

/-- With the link up and configuration access open, a configuration write takes effect and completes. -/
theorem cfgHost_open (o : Nat) (v : Word) (be : BitVec 4) :
    s.cfgHost o v be = (s.linkActive.cfgWrite o v be).emit (.config false 0) := by
  simp only [State.cfgHost, hup, hopen, Bool.not_true, Bool.false_eq_true, if_false]

end

include hrun hup hopen

/-- So does a command that is one configuration write, with a dword made from the state's own. -/
theorem act_cfgHost_open (o : Nat) (v : State → Word) (be : BitVec 4) :
    act s (fun s => s.cfgHost o (v s) be) = .next ((s.linkActive.cfgWrite o (v s) be).emit (.config false 0)) := by
  rw [act_run (State.running_iff.mp hrun), cfgHost_open hup hopen]

theorem exec_configRequest_write (o : BitVec 10) (v : Word) (be : BitVec 4) :
    exec (.configRequest true o be v) s = .next ((s.linkActive.cfgWrite (4 * o.toNat) v be).emit (.config false 0)) :=
  act_cfgHost_open hrun hup hopen (4 * o.toNat) (fun _ => v) be

theorem exec_configRequest_read (o : BitVec 10) (v : Word) (be : BitVec 4) :
    exec (.configRequest false o be v) s
      = .next (s.linkActive.emit (.config false (s.linkActive.cfgShow (4 * o.toNat)).toNat)) := by
  rw [exec_configRequest, execConfigRequest, act_run (State.running_iff.mp hrun)]
  simp only [hup, hopen, Bool.not_true, Bool.false_eq_true, if_false]

end

/-- With Memory Space Enable and in D0, a vector is unmasked by a write to its dword of the MSI-X table in BAR4. -/
theorem exec_msixVectorUnmask_table {s : State} (hrun : s.running = true) (hmem : s.memEn = true) (hd0 : s.pci.d3 = false)
    (vec : BitVec 8) : exec (.msixVectorUnmask (some vec)) s = .next (s.bar4Write (16 * vec.toNat + 12) 0) := by
  have hbar : s.memEn ∧ !s.pci.d3 := ⟨hmem, by rw [hd0]; rfl⟩
  rw [exec_msixVectorUnmask, execMsixVectorUnmask, act_run (State.running_iff.mp hrun)]
  exact congrArg Host.Outcome.next (if_pos hbar)

/-! ### CTL -/

section
variable {s : State} {r : Requester} {p : PageAt} {old v : Word} (offer : Nat × Nat × Bool)

/-- CFG_READY that goes to 1 opens configuration access. -/
theorem pciEffectWith_ready (hready : v.bit 0 = true) (hretrain : v.bit 1 = false) (hold : old.bit 0 = false) :
    pciEffectWith offer s r p 0x90 old v = s.put R.PCI_LINK_STS_CFG_OPEN 1 := by
  simp [pciEffectWith, hready, hretrain, hold]

/-- RETRAIN that is set trains the link to the partner's offer; CFG_READY that was 1 already opens nothing. -/
theorem pciEffectWith_retrain (hretrain : v.bit 1 = true) (hold : old.bit 0 = true) :
    pciEffectWith offer s r p 0x90 old v = s.linkTrained offer.1 offer.2.1 offer.2.2 := by
  simp [pciEffectWith, hretrain, hold]

end

section
variable {s : State} (hrun : s.running = true) {r : Requester}

/-- An accepted write of CTL sets its fields, and the endpoint acts on it. -/
theorem pciCtl_accepted {v : Word} (hacc : s.accepts pciChecks r R.PCI_CTL v = true) (eff : Effect) :
    s.softWrite pciChecks eff r R.PCI_CTL v
      = eff (s.written r R.PCI_CTL v) r (pageOf R.PCI_CTL) 0x90 (s.wordBefore r R.PCI_CTL) v := by
  have hoff : R.PCI_CTL % 0x1000 = 0x90 := rfl
  rw [softWrite_accepted hacc, hoff]

include hrun

theorem exec_cfgReady_accepted (hacc : s.accepts pciChecks r R.PCI_CTL 1 = true)
    (hold : (s.wordBefore r R.PCI_CTL).bit 0 = false) :
    exec (.cfgReady r) s = .next ((s.written r R.PCI_CTL 1).put R.PCI_LINK_STS_CFG_OPEN 1) := by
  rw [exec_cfgReady, execCfgReady, act_run (State.running_iff.mp hrun), pciCtl_accepted hacc, pciEffect,
    pciEffectWith_ready _ rfl rfl hold]

theorem exec_retrain_accepted {ctl : Word} (hctl : (s.rd R.PCI_CTL).setFld 1 1 1 = ctl)
    (hacc : s.accepts pciChecks r R.PCI_CTL ctl = true) (hretrain : ctl.bit 1 = true)
    (hold : (s.wordBefore r R.PCI_CTL).bit 0 = true) (v : BitVec 3) (w : BitVec 2) (flit : Bool) :
    exec (.retrain r v w flit) s
      = .next ((s.written r R.PCI_CTL ctl).linkTrained (max 1 (min 6 v.toNat)) w.toNat flit) := by
  rw [exec_retrain, execRetrain, act_run (State.running_iff.mp hrun), hctl, pciCtl_accepted hacc,
    pciEffectWith_retrain _ hretrain hold]

end

end Sys2Proof.Machine
end

section
/-! The obligations of 10_pcie_endpoint.md, from one lemma per row. -/

namespace Sys2Proof.Machine

open Sys2Proof

/-- Settles O36: a command that writes configuration space is `act_cfgHost_open`, an accepted write of CTL what the
`pciEffectWith_` lemma of its bit says. -/
theorem configCommandsComplete : Obligations.ConfigCommandsComplete := by
  unfold Obligations.ConfigCommandsComplete
  intro s hrun
  refine ⟨fun hup hopen => ?_, fun vec hmem hd0 => exec_msixVectorUnmask_table hrun hmem hd0 vec,
    fun r hacc hold => exec_cfgReady_accepted hrun hacc hold,
    fun r v w flit hacc hretrain hold => exec_retrain_accepted hrun rfl hacc hretrain hold v w flit⟩
  intro wrote
  refine ⟨fun o be v => ⟨exec_configRequest_write hrun hup hopen o v be, exec_configRequest_read hrun hup hopen o v be⟩,
    ?_, ?_, ?_, ?_, ?_, ?_, ?_⟩
  · rw [exec_functionLevelReset, execFunctionLevelReset, act_cfgHost_open hrun hup hopen]
  · rw [exec_busMasterClear, execBusMasterClear, act_cfgHost_open hrun hup hopen]
  · rw [exec_msixEnable, execMsixEnable, act_cfgHost_open hrun hup hopen]
  · rw [exec_msixVectorUnmask, execMsixVectorUnmask, act_cfgHost_open hrun hup hopen]
  · rw [exec_interruptDisable, execInterruptDisable, act_cfgHost_open hrun hup hopen]
  · rw [exec_d3hotEntry, execD3hotEntry, act_cfgHost_open hrun hup hopen]
  · rw [exec_d0Return, execD0Return, act_cfgHost_open hrun hup hopen]

/-- Settles O35: each row's lemma, in the case that the hypotheses pick. -/
theorem pcieLinkCommandsComplete : Obligations.PcieLinkCommandsComplete := by
  unfold Obligations.PcieLinkCommandsComplete
  intro s hrun
  refine ⟨fun v w flit hmay hdown hl2 hlo hhi => exec_linkUp_trained hrun hmay hdown hl2 hlo hhi w flit,
    fun hperst => exec_perstNAssert_released hrun hperst rfl,
    exec_perstNRelease_trains hrun rfl,
    fun t => exec_cfgOpenTimeout_due hrun,
    fun tag r hread hen hdue => exec_completionTimeout_due hrun hread hen hdue rfl,
    fun tag t => exec_tagHoldEnd_due hrun,
    fun bit h0 h1 h2 h3 => ⟨fun hbit => exec_linkLayerError_correctable hrun hbit h0 h1 h2 h3,
      fun hbit => exec_linkLayerError_uncorrectable hrun hbit h0 h1 h2 h3⟩,
    fun hup => ⟨exec_linkDown_up hrun hup, exec_hotReset_up hrun hup,
      fun byHost w => exec_l0pWidthChange_up hrun hup,
      fun hreads => ⟨fun hl0 haspm => ?_, exec_l2Entry_idle hrun hup hreads⟩,
      fun tag status data r hread => ⟨?_, exec_readCompletion_status hrun hup rfl hread⟩,
      exec_unsupportedRequest_up hrun hup,
      fun tag data => ⟨exec_poisonedTlp_write hrun hup rfl data, exec_poisonedTlp_completion hrun hup rfl data tag⟩⟩⟩
  · have hentry (sub : Fin 3) := exec_aspmL1Entry_idle hrun hup hreads hl0 haspm (sub := sub)
    exact ⟨hentry 0 (.inl rfl), fun hen => hentry 1 (.inr (.inl ⟨rfl, hen⟩)), fun hen => hentry 2 (.inr (.inr ⟨rfl, hen⟩))⟩
  · rintro rfl
    exact exec_readCompletion_data hrun hup rfl hread

end Sys2Proof.Machine
end

section
/-! SUPPORT. How commands are carried out: all but those that act in HALT are stopped by it, and each answers a next state. -/

namespace Sys2Proof.Machine

open Sys2Proof

/-- HALT stops every command but the supplies, the next step of the rail switch-off and the TAP (R565, R566). -/
theorem exec_stoppedByHalt (s : State) {c : Instr} (h : actsInHalt c = false) :
    ∃ t, exec c s = .next (if s.flt.halt then s else t) := by
  cases c with
  | coldReset | brownout | braceRailStep | tapExtest | tapSamplePreload | tapIdcode | tapChallenge | tapUnlock | tapDebug
  | tapBypass | tapReset => cases h
  | _ => exact ⟨_, rfl⟩

/-- What acts in HALT answers a next state. -/
theorem exec_next_of_actsInHalt (s : State) {c : Instr} (h : actsInHalt c = true) : ∃ t, exec c s = .next t := by
  cases c with
  | coldReset | brownout | braceRailStep | tapExtest | tapSamplePreload | tapIdcode | tapChallenge | tapUnlock | tapDebug
  | tapBypass | tapReset => exact ⟨_, rfl⟩
  | _ => cases h

/-- In HALT a command that does not act there leaves the state as it is. -/
theorem exec_halted {s : State} (hhalt : s.flt.halt = true) {c : Instr} (hc : actsInHalt c = false) : exec c s = .next s := by
  obtain ⟨t, ht⟩ := exec_stoppedByHalt s hc
  rw [ht, if_pos hhalt]

end Sys2Proof.Machine
end

section
/-! SUPPORT. What HALT keeps (R565, R566): a cycle of ck_ref, the rail switch-off and the TAP move time, the power state, the
rails, BOOT and what any event moves. -/

namespace Sys2Proof.Machine

open Sys2Proof

/-- The state with everything left out that may move in HALT: what events move, the model's clock, and the hidden state of
PWR, RAIL and BOOT.  Two states that agree so differ in nothing else. -/
def State.haltKept (s : State) : State :=
  { s.eventless with now := 0, pwr := PwrSt.reset, rail := RailSt.reset, boot := BootSt.reset }

/-- What moves no more than events do keeps what HALT keeps. -/
theorem haltKept_of_eventless {s t : State} (h : t.eventless = s.eventless) : t.haltKept = s.haltKept := by
  unfold State.haltKept
  rw [h]

section
variable (s : State)

@[simp] theorem State.onPwr_haltKept (g : PwrSt → PwrSt) : (s.onPwr g).haltKept = s.haltKept := (rfl)
@[simp] theorem State.onRail_haltKept (g : RailSt → RailSt) : (s.onRail g).haltKept = s.haltKept := (rfl)
@[simp] theorem State.onBoot_haltKept (g : BootSt → BootSt) : (s.onBoot g).haltKept = s.haltKept := (rfl)

/-- A step that depends on a condition keeps what HALT keeps where both of its branches do. -/
theorem ite_haltKept {c : Prop} [Decidable c] {t u : State} (ht : t.haltKept = s.haltKept) (hu : u.haltKept = s.haltKept) :
    (if c then t else u).haltKept = s.haltKept := by
  split
  · exact ht
  · exact hu

@[simp] theorem State.wr_haltKept (off : Nat) (w : Word) : (s.wr off w).haltKept = s.haltKept :=
  haltKept_of_eventless (s.wr_eventless off w)
@[simp] theorem State.put_haltKept (f : FRef) (v : Nat) : (s.put f v).haltKept = s.haltKept :=
  haltKept_of_eventless (s.put_eventless f v)
@[simp] theorem State.wr64_haltKept (off v : Nat) : (s.wr64 off v).haltKept = s.haltKept :=
  haltKept_of_eventless (s.wr64_eventless off v)
@[simp] theorem State.emit_haltKept (x : Out) : (s.emit x).haltKept = s.haltKept :=
  haltKept_of_eventless (s.emit_eventless x)
@[simp] theorem State.evtB_haltKept (b val n : Nat) : (s.evtB b val n).haltKept = s.haltKept :=
  haltKept_of_eventless (s.evtB_eventless b val n)
@[simp] theorem State.aonLevels_haltKept : s.aonLevels.haltKept = s.haltKept := haltKept_of_eventless s.aonLevels_eventless

/-! ### A cycle of ck_ref -/

@[simp] theorem State.timeRestart_haltKept : s.timeRestart.haltKept = s.haltKept := by
  unfold State.timeRestart
  split <;> simp

@[simp] theorem State.hsEdge_haltKept : s.hsEdge.haltKept = s.haltKept := by
  unfold State.hsEdge
  refine ite_haltKept s ?_ ?_ <;> simp

@[simp] theorem State.hsCycle_haltKept : s.hsCycle.haltKept = s.haltKept := by
  unfold State.hsCycle
  refine ite_haltKept s ?_ ?_ <;> simp

@[simp] theorem State.timeCycle_haltKept : s.timeCycle.haltKept = s.haltKept := by
  unfold State.timeCycle
  refine ite_haltKept s ?_ ?_ <;> simp

theorem now_haltKept (n : Nat) : ({ s with now := n } : State).haltKept = s.haltKept := rfl

theorem haltKept_halt : s.haltKept.flt.halt = s.flt.halt := rfl

/-- In HALT time alone goes on (R565). -/
theorem tick_haltKept (hhalt : s.flt.halt = true) : s.tick.haltKept = s.haltKept := by
  have htime : ({ s with now := s.now + 40 } : State).hsCycle.timeCycle.haltKept = s.haltKept := by
    rw [State.timeCycle_haltKept, State.hsCycle_haltKept, now_haltKept]
  have hstill : ({ s with now := s.now + 40 } : State).hsCycle.timeCycle.flt.halt = true := by
    rw [← haltKept_halt, htime, haltKept_halt, hhalt]
  unfold State.tick
  dsimp only
  rw [if_pos hstill, htime]

/-! ### The rail switch-off and the TAP -/

@[simp] theorem State.railDrop_haltKept (g : Nat) : (s.railDrop g).haltKept = s.haltKept := by
  simp [State.railDrop, State.gateLow, State.setLimit, State.setRail]

theorem railStep_haltKept : s.railStep.haltKept = s.haltKept := by
  unfold State.railStep
  refine ite_haltKept s ?_ rfl
  split <;> simp

end

/-- What acts in HALT and does not leave it keeps what HALT keeps. -/
theorem exec_haltKept {s t : State} {c : Instr} (hhalt : s.flt.halt = true) (hacts : actsInHalt c = true)
    (hstays : leavesHalt c = false) (h : exec c s = .next t) : t.haltKept = s.haltKept := by
  cases c with
  | coldReset | brownout => cases hstays
  | braceRailStep =>
    cases h
    exact railStep_haltKept s
  | tapExtest nor =>
    cases h
    cases nor <;> rfl
  | tapUnlock tok =>
    rw [exec_tapUnlock, execTapUnlock.eq_def, if_pos hhalt] at h
    cases h
    rfl
  | tapDebug =>
    rw [exec_tapDebug, execTapDebug, if_pos (Or.inl hhalt)] at h
    cases h
    rfl
  | tapSamplePreload | tapIdcode | tapChallenge | tapBypass | tapReset =>
    cases h
    rfl
  | _ => cases hacts

/-- One step in HALT, with nothing waiting that leaves it, keeps what HALT keeps, and the rest of the queue waits. -/
theorem step_halted {s t : State} (h : s.halted = true) (hstep : step s = .next t) :
    t.haltKept = (s.withRest s.pending.tail).haltKept := by
  obtain ⟨hhalt, hqueue⟩ := Bool.and_eq_true_iff.mp h
  unfold step at hstep
  split at hstep
  next hempty =>
    obtain rfl : s.tick = t := by injection hstep
    have hrest : s.withRest s.pending.tail = s := by
      unfold State.withRest
      rw [hempty, List.tail_nil, ← hempty]
    rw [hrest, tick_haltKept s hhalt]
  next c rest hcons =>
    rw [hcons] at hqueue ⊢
    have hstays : leavesHalt c = false := by simpa using (List.all_eq_true.mp hqueue) c List.mem_cons_self
    cases hacts : actsInHalt c with
    | true => exact exec_haltKept (s := s.withRest rest) hhalt hacts hstays hstep
    | false =>
      rw [exec_halted (s := s.withRest rest) hhalt hacts] at hstep
      obtain rfl : s.withRest rest = t := by injection hstep
      rfl

end Sys2Proof.Machine
end

section
/-! The obligations of 19_fault_handling.md on HALT, and those on steps and commands in general. -/

namespace Sys2Proof.Machine

open Sys2Proof

/-- Settles O5: by `step_halted` a step keeps every part but those that time, the rails, BOOT and events move, and the queue
only gets shorter. -/
theorem haltIsKept : Obligations.HaltIsKept := by
  unfold Obligations.HaltIsKept
  intro s t h hstep
  have hkept := step_halted h hstep
  have hkeep {α : Type} (g : State → α) : g t.haltKept = g (s.withRest s.pending.tail).haltKept := congrArg g hkept
  obtain ⟨hhalt, hqueue⟩ := Bool.and_eq_true_iff.mp h
  have hpending : t.pending = s.pending.tail := hkeep State.pending
  have hflt : t.flt = s.flt := hkeep State.flt
  refine ⟨?_, hflt, hkeep State.mem, ⟨hkeep State.chan, hkeep State.ftl, hkeep State.plj, hkeep State.rdp, hkeep State.done⟩,
    ⟨hkeep State.nvm, hkeep State.ist, hkeep State.tgn, hkeep State.net⟩, hkeep State.ciph, hkeep State.dmc, hkeep State.mcl,
    hkeep State.sys⟩
  unfold State.halted
  rw [hflt, hhalt, hpending, Bool.true_and, List.all_eq_true]
  exact fun c hc => List.all_eq_true.mp hqueue c (List.mem_of_mem_tail hc)

/-- Settles O4: `exec_halted`. -/
theorem haltStopsCommands : Obligations.HaltStopsCommands := by
  unfold Obligations.HaltStopsCommands
  intro s c hrun hc
  exact exec_halted (by simpa [State.running] using hrun) hc

/-- Settles O1: by the definition of `step`. -/
theorem stepRunsFrontCommand : Obligations.StepRunsFrontCommand := by
  unfold Obligations.StepRunsFrontCommand
  intro s c rest hqueue
  unfold step
  rw [hqueue]

/-- Settles O2: by the definition of `step`. -/
theorem emptyQueueIsOneCycle : Obligations.EmptyQueueIsOneCycle := by
  unfold Obligations.EmptyQueueIsOneCycle
  intro s hqueue
  unfold step
  rw [hqueue]

/-- Settles O54: what HALT stops is `exec_stoppedByHalt`, and what acts in it `exec_next_of_actsInHalt`. -/
theorem everyCommandGoesOn : Obligations.EveryCommandGoesOn := by
  unfold Obligations.EveryCommandGoesOn
  intro s c
  cases hacts : actsInHalt c with
  | true => exact exec_next_of_actsInHalt s hacts
  | false =>
    obtain ⟨t, ht⟩ := exec_stoppedByHalt s hacts
    exact ⟨_, ht⟩

end Sys2Proof.Machine
end

section
/-! SUPPORT. Clock requests and the end of a start-up (R37, R390, R394, R584), case by case. -/

namespace Sys2Proof.Machine

open Sys2Proof

section
variable {s : State} {p : PageAt}

theorem leaveDoze_awake (h : s.cur ≠ 1) : s.leaveDoze = s := if_neg h

theorem leaveDoze_doze (h : s.cur = 1) : s.leaveDoze = s.put R.PWR_STATE_CUR 0 := if_pos h

/-- A page whose domain is on and whose PLL is locked has its clock opened, and counts the grant (R390). -/
theorem clockGrant_opens {d : Nat} (hclock : p.clock = some d) (hcur : s.cur < 2) (hdom : s.domSts p.domain = true)
    (hreq : s.get (hCKREQ p.base0) ≠ 2) (hclosed : s.flag (hCLK_ON p.base0) = false)
    (hpll : ((clockPll d).any fun k => s.pwr.unlocked.contains k) = false) :
    s.clockGrant p = ((s.put (hCLK_ON p.base0) 1).touch p 0x80).evtB clkPage 0x10 1 := by
  simp only [State.clockGrant, hclock]
  rw [if_neg (by simp [Nat.not_le.mpr hcur, hdom, hreq]), if_neg (by simp [hclosed]), if_neg (Bool.eq_false_iff.mp hpll)]

/-- The page's engines start at word 1 when its start-up ends (R584). -/
def State.engsStart (s : State) (p : PageAt) : State :=
  p.engines.foldl (fun s e =>
    s.setEng e.1 e.2 { s.engSt e.1 e.2 with pc := 1, stack := [], vec := none, clocks := 0 }) s

theorem engsStart_chan (hb : p.row.block = .chan) :
    s.engsStart p = s.setEng 1 p.inst { s.engSt 1 p.inst with pc := 1, stack := [], vec := none, clocks := 0 } := by
  simp [State.engsStart, PageAt.engines, hb]

section
variable (hrun : s.running = true) {page : Fin 16384} (hp : pageNo page = some p)
include hrun hp

theorem exec_clockRequest_run : exec (.clockRequest page) s = .next (s.leaveDoze.clockGrant p) := by
  rw [exec_clockRequest, execClockRequest, act_run (State.running_iff.mp hrun)]
  simp only [hp]

theorem exec_idleClockRelease_run (hclock : p.clock.isSome = true) (hon : s.flag (hCLK_ON p.base0) = true)
    (hreq : s.get (hCKREQ p.base0) = 0) (hidle : s.blockBusy p = false)
    (hlong : (s.pwr.lastWork.find p.base0).getD 0 + 1000 * 2 ^ s.get (hIDLE_HOLD p.base0) ≤ s.now) :
    exec (.idleClockRelease page) s = .next (s.put (hCLK_ON p.base0) 0) := by
  rw [exec_idleClockRelease, execIdleClockRelease, act_run (State.running_iff.mp hrun)]
  simp only [hp]
  rw [if_pos ⟨hclock, hon, hreq, by simp [hidle], hlong⟩]

theorem exec_blockStartupEnd_run (halways : p.row.always = false) (hen : s.enabled p.base0 = true)
    (hnot : s.flag (hRUNNING p.base0) = false) (hdom : s.domSts p.domain = true) (hcur : s.cur < 2) (hover : s.startupOver p = true) :
    exec (.blockStartupEnd page) s
      = .next ((if p.row.block = .chan then (s.engsStart p).lunResets p.inst else s.engsStart p).put (hRUNNING p.base0) 1) := by
  rw [exec_blockStartupEnd, execBlockStartupEnd, act_run (State.running_iff.mp hrun)]
  simp only [hp]
  rw [if_neg (by simp [halways, hen, hnot, hdom, hover, Nat.not_le.mpr hcur])]
  rfl

end

theorem exec_heldAccessServed_run (hrun : s.running = true) {a : Access} (ha : s.sys.held.find? s.heldReady = some a) :
    exec .heldAccessServed s = .next ((s.leaveDoze.onSys fun x => { x with held := x.held.erase a }).serveHeld a) := by
  rw [exec_heldAccessServed, execHeldAccessServed, act_run (State.running_iff.mp hrun)]
  simp only [ha]

end

end Sys2Proof.Machine
end

section
/-! The obligation of 02_register_pages.md and 12_clocks_power_time.md on clocks and start-up. -/

namespace Sys2Proof.Machine

open Sys2Proof

/-- Settles O16: a request is `clockGrant` after `leaveDoze`, a release and the end of a start-up need what their rows test, and
a held access is the first that can be served. -/
theorem clockAndStartUpComplete : Obligations.ClockAndStartUpComplete := by
  unfold Obligations.ClockAndStartUpComplete
  intro s page p hrun hp
  refine ⟨fun d hclock hcur hdom hreq hclosed hpll => ?_, fun _ hdoze => ?_, exec_idleClockRelease_run hrun hp,
    fun halways hen hnot hdom hcur hover hblock => ?_, fun halways hen hnot hdom hcur hover hblock => ?_,
    fun a ha => exec_heldAccessServed_run hrun ha⟩
  · rw [exec_clockRequest_run hrun hp, leaveDoze_awake (by omega),
      clockGrant_opens hclock (by omega) hdom hreq hclosed hpll]
  · rw [exec_clockRequest_run hrun hp, leaveDoze_doze hdoze]
  · rw [exec_blockStartupEnd_run hrun hp halways hen hnot hdom hcur hover, if_neg hblock]
    rfl
  · rw [exec_blockStartupEnd_run hrun hp halways hen hnot hdom hcur hover, if_pos hblock, engsStart_chan hblock]

end Sys2Proof.Machine
end

section
/-! SUPPORT. The governor's window, the writes that run it and arm its trace, and the board's transfers (R365, R378 to R385). -/

namespace Sys2Proof.Machine

open Sys2Proof

section
variable {s : State} {r : Requester} {p : PageAt} {old v : Word}

/-- A write of CTL that does not turn RUN on does no more than set its fields (R382). -/
theorem escEffect_ctl_still (h : v.bit 0 = true → old.bit 0 = true) (hp : p.page = 0) : escEffect s r p 0x80 old v = s := by
  unfold escEffect
  rw [if_pos ⟨hp, rfl⟩]
  exact if_neg fun ⟨hv, hold⟩ => by simp [h hv] at hold

/-- RUN going to 1 starts the warm-up (R382). -/
theorem escEffect_ctl_starts (hv : v.bit 0 = true) (hold : old.bit 0 = false) (hp : p.page = 0) :
    escEffect s r p 0x80 old v = s.onEsc fun x => { x with warm := v.fld 8 8, fresh := true } := by
  simp [escEffect, hp, hv, hold]

/-- ARM going to 1 clears and arms the trace (R385). -/
theorem escEffect_trace_arms (hv : v.bit 0 = true) (hold : old.bit 0 = false) (hp : p.page = 3) :
    escEffect s r p 0x80 old v
      = ((((s.put R.ESC_TRC_CTL_TRIG_NOW 0).put R.ESC_TRC_STS_ARMED 1).put R.ESC_TRC_STS_TRIGGERED 0).put
          R.ESC_TRC_STS_WR_IDX 0).onEsc fun x => { x with trace := [], decim := 0, trig := false, post := none } := by
  simp [escEffect, hp, hv, hold]

/-- A write of TRC_CTL without ARM does no more than set its fields (R385). -/
theorem escEffect_trace_still (hv : v.bit 0 = false) (hp : p.page = 3) : escEffect s r p 0x80 old v = s := by
  simp [escEffect, hp, hv]

end

/-- CTL lies in page 0 of ESC, TRC_CTL in page 3. -/
theorem pageOf_escCtl : (pageOf R.ESC_CTL).page = 0 ∧ (pageOf R.ESC_TRC_CTL).page = 3 := by decide

section
variable {s : State}

/-- A transfer of the board while the device is awake is served at once (R405). -/
theorem smbus_awake (h : s.pwr.step = .awake) (f : State → State) : s.smbus f = f s := if_pos h

section
variable (hawake : s.pwr.step = .awake) (hbmc : s.flag R.ESC_CTL_BMC_EN = true)
include hawake hbmc

theorem bmcWrite_cap (w : BitVec 16) :
    s.bmcWrite 0x40 w (pec ([0xD6, 0x40] ++ leBytes 2 w.toNat))
      = ((s.put R.ESC_BMC_CAP_CAP w.toNat).pulse 47).emit (.smbus true []) := by
  rw [State.bmcWrite, smbus_awake hawake]
  exact if_pos ⟨hbmc, rfl⟩

theorem bmcWrite_inlet (w : BitVec 16) :
    s.bmcWrite 0x41 w (pec ([0xD6, 0x41] ++ leBytes 2 w.toNat))
      = (s.wrQ R.ESC_T_AMB (w.toInt * 256)).emit (.smbus true []) := by
  rw [State.bmcWrite, smbus_awake hawake]
  exact if_pos ⟨hbmc, rfl⟩

theorem bmcRead_answers (code v : Nat) :
    s.bmcRead code v
      = s.emit (.smbus true (leBytes 2 v ++ [pec ([0xD6, BitVec.ofNat 8 code, 0xD7] ++ leBytes 2 v)])) := by
  rw [State.bmcRead, smbus_awake hawake]
  exact if_pos hbmc

end

/-- A window boundary with the clocks on refills, and then samples or leaves the governor still (R365). -/
theorem exec_windowBoundary_run (hrun : s.running = true) (hcur : s.cur < 2) (y0 : Word) (age : Nat) (pkg iflash : Word) :
    exec (.windowBoundary y0 age pkg iflash) s
      = .next (if s.windowRefill.flag R.ESC_CTL_RUN ∧ s.windowRefill.flag (hRUNNING escPage) ∧ s.windowRefill.pwr.step ≠ .settle then
          s.windowRefill.escSample y0.toInt age pkg.toInt iflash.toInt
        else (s.windowRefill.put R.ESC_STS_RUNNING 0).put R.ESC_STS_WARMING 0) := by
  rw [exec_windowBoundary, execWindowBoundary, act_run (State.running_iff.mp hrun), if_neg (Nat.not_le.mpr hcur)]

/-- An accepted write of a register at page offset 0x80 of ESC. -/
theorem escWrite_accepted {r : Requester} {off : Nat} {v : Word} (h : s.accepts escChecks r off v = true) (hoff : off % 0x1000 = 0x80) :
    State.softWrite escChecks escEffect r off v s
      = escEffect (s.written r off v) r (pageOf off) 0x80 (s.wordBefore r off) v := by
  rw [softWrite_accepted h, hoff]

end

end Sys2Proof.Machine
end

section
/-! The obligation of 11_escapement_governor.md. -/

namespace Sys2Proof.Machine

open Sys2Proof

/-- Settles O37: the boundary is `exec_windowBoundary_run`, each accepted write does what the lemma of its case of `escEffect`
says, and the board's transfers are `bmcWrite` and `bmcRead`. -/
theorem governorCommandsComplete : Obligations.GovernorCommandsComplete := by
  unfold Obligations.GovernorCommandsComplete
  intro s hrun
  have hhalt := State.running_iff.mp hrun
  obtain ⟨hctl, htrc⟩ := pageOf_escCtl
  refine ⟨fun y0 age pkg iflash hcur => ⟨fun hgov => ?_, fun hgov => ?_⟩, fun r run hacc => ⟨fun hstill => ?_, fun hv hold => ?_⟩,
    fun r mode hacc hstill => ?_, fun r v hacc hv hold => ?_, fun r hacc hv => ?_,
    fun hawake hbmc => ⟨fun w => ⟨?_, ?_⟩, ?_, ?_⟩⟩
  · rw [exec_windowBoundary_run hrun hcur, if_pos hgov]
  · rw [exec_windowBoundary_run hrun hcur, if_neg (by simp [hgov])]
  · rw [exec_governorRun, execGovernorRun, act_run hhalt, escWrite_accepted hacc rfl, escEffect_ctl_still hstill hctl]
  · rw [exec_governorRun, execGovernorRun, act_run hhalt, escWrite_accepted hacc rfl, escEffect_ctl_starts hv hold hctl]
  · rw [exec_governorMode, execGovernorMode, act_run hhalt, escWrite_accepted hacc rfl, escEffect_ctl_still hstill hctl]
  · rw [exec_traceArm, execTraceArm, act_run hhalt, escWrite_accepted hacc rfl, escEffect_trace_arms hv hold htrc]
  · rw [exec_traceTrigger, execTraceTrigger, act_run hhalt, escWrite_accepted hacc rfl, escEffect_trace_still hv htrc]
  · dsimp only
    rw [exec_bmcSetCap, execBmcSetCap, act_run hhalt, bmcWrite_cap hawake hbmc]
  · dsimp only
    rw [exec_bmcSetInlet, execBmcSetInlet, act_run hhalt, bmcWrite_inlet hawake hbmc]
  · dsimp only
    rw [exec_bmcReadBoardPower, execBmcReadBoardPower, act_run hhalt, bmcRead_answers hawake hbmc]
    rfl
  · dsimp only
    rw [exec_bmcReadPkgPower, execBmcReadPkgPower, act_run hhalt, bmcRead_answers hawake hbmc]
    rfl

end Sys2Proof.Machine
end

section
/-! SUPPORT. The AON page (R404 to R411): what accepted writes do beyond their fields, and the Hairspring's match. -/

namespace Sys2Proof.Machine

open Sys2Proof

section
variable {s : State} {r : Requester} {p : PageAt} {old v : Word}

/-- HS_CTL has no effect beyond its fields. -/
theorem aonEffect_hsCtl : aonEffect s r p 0xB0 old v = s := rfl

/-- A write of 1 to STBY_CLR clears the standby record's cause and HALTED (R404). -/
theorem aonEffect_stbyClr (hv : v.bit 0 = true) :
    aonEffect s r p 0xC4 old v = ((s.put R.AON_STBY_REC_CAUSE 0).put R.AON_STBY_REC_HALTED 0).aonLevels := by
  simp [aonEffect, hv]

end

section
variable {s : State} {r : Requester}

/-- The word that an accepted write of 1 leaves in HS_CTL has ARM set. -/
theorem hsCtl_written_arm : (s.written r R.AON_HS_CTL 1).flag R.AON_HS_CTL_ARM = true := by
  have hrd : (s.written r R.AON_HS_CTL 1).rd R.AON_HS_CTL
      = RegDesc.apply ⟨"HS_CTL", 0xb0, 1, 4, 0, [⟨"ARM", 0, 0, .rwh⟩, ⟨"MATCH", 1, 1, .w1c⟩]⟩ (s.wordBefore r R.AON_HS_CTL) 1 :=
    written_rd (p := pageOf R.AON_HS_CTL) (by decide) (by decide) (by decide)
  have harm : Word.fld ((s.written r R.AON_HS_CTL 1).rd R.AON_HS_CTL) 0 1 = 1 := by
    rw [hrd, RegDesc.apply, List.foldl_cons, List.foldl_cons, List.foldl_nil, Word.fld_setFld_ne _ (by decide) (by decide)]
    exact Word.fld_setFld_self _ (by decide) _
  unfold State.flag State.get
  rw [harm]
  rfl

section
variable (hrun : s.running = true)
include hrun

theorem exec_hsArm_accepted (h : s.accepts aonChecks r R.AON_HS_CTL 1 = true) :
    exec (.hsArm r) s = .next (s.written r R.AON_HS_CTL 1) := by
  rw [exec_hsArm, execHsArm, act_run (State.running_iff.mp hrun), softWrite_accepted h]
  rfl

/-- The armed match at its count (R410). -/
theorem exec_hsMatch_fires (harm : s.flag R.AON_HS_CTL_ARM = true) (hcount : s.count R.AON_HS_CMP_LO ≤ s.hs) :
    exec .hsMatch s = .next ((((s.put R.AON_HS_CTL_ARM 0).put R.AON_HS_CTL_MATCH 1).pulse 0).wake (2 ^ 8)) := by
  rw [exec_hsMatch, execHsMatch, act_run (State.running_iff.mp hrun), if_pos ⟨harm, hcount⟩]

theorem exec_hsMatch_unarmed (harm : s.flag R.AON_HS_CTL_ARM = false) : exec .hsMatch s = .next s := by
  rw [exec_hsMatch, execHsMatch, act_run (State.running_iff.mp hrun), if_neg (by simp [harm])]

end

/-- The pulse of the match leaves HS_CTL as it was. -/
theorem hsMatch_pulse_get (t : State) (lo wd : Nat) : (t.pulse 0).get ⟨0x200b0, lo, wd⟩ = t.get ⟨0x200b0, lo, wd⟩ := by
  have hout : outsideEvents 0x200b0 := ⟨by decide, by decide⟩
  unfold State.get
  rw [pulse_rd_ne hout t (by decide)]

theorem hsMatch_clears_arm (t : State) :
    (((t.put R.AON_HS_CTL_ARM 0).put R.AON_HS_CTL_MATCH 1).pulse 0).flag R.AON_HS_CTL_ARM = false := by
  simp only [State.flag]
  rw [hsMatch_pulse_get, get_put_disjoint _ (by decide) (by decide), State.get_put_self _ _ (by decide)]
  decide

theorem hsMatch_sets_match (t : State) :
    (((t.put R.AON_HS_CTL_ARM 0).put R.AON_HS_CTL_MATCH 1).pulse 0).flag R.AON_HS_CTL_MATCH = true := by
  simp only [State.flag]
  rw [hsMatch_pulse_get, State.get_put_self _ _ (by decide)]
  decide

/-- A code of a block's own checks is one of the write's (R9). -/
theorem mem_writeCodes_of_chk {chk : Checks} {p : PageAt} {o j : Nat} {v : Word} (ho : 0x80 ≤ o)
    (h : j ∈ chk (s.facing r p o) r p o v) : j ∈ s.writeCodes chk r p o v := by
  simp [State.writeCodes, ho, h]

/-- HS_CMP lies in AON's page. -/
theorem pageOf_hsCmp : ∀ o ∈ [0xA8, 0xAC], findPage (0x20000 + o) = some (pageOf (0x20000 + o))
    ∧ (pageOf (0x20000 + o)).base = 0x20000 := by decide

/-- The access itself does not disarm the match. -/
theorem facing_hsArm {p : PageAt} {off k : Nat} (hp : findPage off = some p) (hbase : p.base = 0x20000) :
    (s.facing r p k).flag R.AON_HS_CTL_ARM = s.flag R.AON_HS_CTL_ARM := by
  have hrd : (s.facing r p k).rd 0x200b0 = s.rd 0x200b0 :=
    facing_rd_ne s hp (by decide) (by omega) (by omega)
  unfold State.flag State.get
  rw [hrd]

/-- ARM set with HS_CMP not above the count fails with code 0x01 (R410). -/
theorem one_mem_aonChecks {p : PageAt} {v : Word} (hv : v.bit 0 = true) (hcount : s.count R.AON_HS_CMP_LO ≤ s.hs) :
    1 ∈ aonChecks s r p 0xB0 v := by
  simp [aonChecks, mem_failIf, hv, hcount]

/-- A write to HS_CMP while ARM is 1 fails with code 0x04 (R410). -/
theorem four_mem_aonChecks {p : PageAt} {o : Nat} {v : Word} (ho : o = 0xA8 ∨ o = 0xAC) (harm : s.flag R.AON_HS_CTL_ARM = true) :
    4 ∈ aonChecks s r p o v := by
  simp [aonChecks, mem_failIf, ho, harm]

end

end Sys2Proof.Machine
end

section
/-! The obligation of 12_clocks_power_time.md on the Hairspring's match. -/

namespace Sys2Proof.Machine

open Sys2Proof

/-- Settles O53: an accepted write leaves ARM set, the armed match fires at its count and its pulse keeps HS_CTL, and AON's own
checks give the two codes. -/
theorem hairspringMatchRules : Obligations.HairspringMatchRules := by
  unfold Obligations.HairspringMatchRules
  intro s hrun
  refine ⟨fun r hacc => ⟨_, exec_hsArm_accepted hrun hacc, hsCtl_written_arm⟩,
    fun harm hcount => ⟨exec_hsMatch_fires hrun harm hcount, hsMatch_clears_arm s, hsMatch_sets_match s⟩,
    exec_hsMatch_unarmed hrun, fun r v => ⟨fun hv hcount => ?_, fun o ho harm => ?_⟩⟩
  · exact mem_writeCodes_of_chk (by decide) (one_mem_aonChecks hv hcount)
  · obtain ⟨hp, hbase⟩ := pageOf_hsCmp o ho
    have hrange : o = 0xA8 ∨ o = 0xAC := by simpa using ho
    exact mem_writeCodes_of_chk (by omega) (four_mem_aonChecks hrange ((facing_hsArm hp hbase).trans harm))

end Sys2Proof.Machine
end

section
/-! SUPPORT. Sleep (R394 to R399): what accepted writes to PWR do beyond their fields, requests of the NVMe engine, and a wake
source that acts on a sleeping device. -/

namespace Sys2Proof.Machine

open Sys2Proof

section
variable {s : State} {r : Requester} {p : PageAt} {old v : Word}

/-- GO going to 1 begins entry (R395, R397). -/
theorem pwrEffect_cmdGo {tck mapOk up : Bool} (hv : v.bit 2 = true) (hold : old.bit 2 = false) :
    pwrEffectWith tck mapOk up s r p 0x80 old v = s.sleepGo (v.fld 0 2) false tck := by
  simp [pwrEffectWith, hv, hold]

/-- PARK has no effect beyond its fields. -/
theorem pwrEffect_park : pwrEffect s r p 0x94 old v = s := rfl

end

section
variable {s : State} {target : Nat} {tck : Bool}

theorem sleepAsk_free (h : s.sleepBlocked = none) : s.sleepAsk target tck = s.sleepGo target true tck := by
  simp only [State.sleepAsk, h]

/-- A request that cannot start waits, and source 10 pulses once (R395). -/
theorem sleepAsk_waits {k : Nat} (h : s.sleepBlocked = some k) (hnew : s.flag R.PWR_STATE_PENDING = false) :
    s.sleepAsk target tck
      = (((s.put R.PWR_STATE_PENDING 1).put R.PWR_STATE_PEND_TGT target).put R.PWR_STATE_REFUSE k).pulse 10 := by
  simp only [State.sleepAsk, h, hnew]
  rfl

end

/-! ### Wake -/

section
variable (s : State) (f : FRef) (i : Nat) (b : Bool)

/-- A bit put moves the registers alone. -/
theorem putBit_other {α : Type} (g : State → α) (hg : ∀ (t : State) (off : Nat) (w : Word), g (t.wr off w) = g t) :
    g (s.putBit f i b) = g s := by
  unfold State.putBit
  split
  · rfl
  · exact hg _ _ _

@[simp] theorem State.putBit_pwr : (s.putBit f i b).pwr = s.pwr := putBit_other s f i b State.pwr fun _ _ _ => rfl
@[simp] theorem State.putBit_pci : (s.putBit f i b).pci = s.pci := putBit_other s f i b State.pci fun _ _ _ => rfl

end

/-- The record of a wake by source `c` alone out of a sleep state (R399). -/
def State.wakeRecorded (s : State) (c : Nat) : State :=
  ((((s.putBit R.PWR_WAKE_ALL_SEEN c true).put R.PWR_WAKE_REC_SRC c).put R.PWR_WAKE_REC_ENTRY 0).put R.PWR_WAKE_REC_DEEP
    (b2n (decide (s.pwr.target = 2)))).put R.PWR_WAKE_REC_EXTRA 0

/-- The one source that acts on a sleeping device is recorded, and exit begins (R398, R399). -/
theorem wake_exits {s : State} {srcs c : Nat} (hone : ((List.range 12).filter fun c => srcs.testBit c && s.wakeOk c) = [c])
    (hasleep : s.pwr.step = .asleep) (hfirst : s.pwr.wakeLatched = false) (hd3 : s.pci.d3 = false) :
    s.wake srcs = (s.wakeRecorded c).exitBegin := by
  unfold State.wake
  rw [hone]
  simp [hasleep, hfirst, hd3, State.wakeRecorded, b2n]

/-! ### Commands -/

section
variable {s : State} (hrun : s.running = true)
include hrun

theorem exec_sleepRequest_accepted {r : Requester} {target : BitVec 2} {tck : Bool}
    (h : s.accepts pwrChecks r R.PWR_CMD (BitVec.ofNat 32 (target.toNat + 4)) = true)
    (hv : Word.bit (BitVec.ofNat 32 (target.toNat + 4)) 2 = true) (hold : (s.wordBefore r R.PWR_CMD).bit 2 = false) :
    exec (.sleepRequest (some r) target tck) s
      = .next ((s.written r R.PWR_CMD (BitVec.ofNat 32 (target.toNat + 4))).sleepGo
          (Word.fld (BitVec.ofNat 32 (target.toNat + 4)) 0 2) false tck) := by
  rw [exec_sleepRequest, execSleepRequest, act_run (State.running_iff.mp hrun)]
  dsimp only
  rw [softWrite_accepted h, show R.PWR_CMD % 0x1000 = 0x80 from rfl, pwrEffect_cmdGo hv hold]

/-- The NVMe engine asks for the sleep state of its power state (R395). -/
theorem exec_sleepRequest_engine {target : BitVec 2} {tck : Bool} (hps : 3 ≤ s.feat 2 0 % 32)
    (htarget : s.feat 2 0 % 32 - 2 = target.toNat) (hcur : s.cur < 2) (hnot : s.flag R.PWR_STATE_ENTERING = false) :
    exec (.sleepRequest none target tck) s = .next (s.sleepAsk target.toNat tck) := by
  rw [exec_sleepRequest, execSleepRequest, act_run (State.running_iff.mp hrun)]
  dsimp only
  rw [if_pos ⟨hps, htarget, hcur, by simp [hnot]⟩]

theorem exec_sleepRetry_free {tck : Bool} (hpend : s.flag R.PWR_STATE_PENDING = true) (hfree : s.sleepBlocked = none) :
    exec (.sleepRetry tck) s = .next (s.sleepGo (s.get R.PWR_STATE_PEND_TGT) true tck) := by
  rw [exec_sleepRetry, execSleepRetry, act_run (State.running_iff.mp hrun), if_pos ⟨hpend, hfree⟩]

theorem exec_drainTimeout_due (hstep : s.pwr.step = .drain) (hdue : s.pwr.drainAt ≤ s.now) :
    exec .drainTimeout s = .next ((s.ist.flows.map (·.1)).foldl (fun s i => s.abortAny i) s).sleepStep := by
  rw [exec_drainTimeout, execDrainTimeout, act_run (State.running_iff.mp hrun), if_pos ⟨hstep, hdue⟩]

theorem exec_corePark_accepted {c : Fin 4} (h : s.accepts pwrChecks (.core c) R.PWR_PARK ((s.rd R.PWR_PARK).setBit c.val) = true) :
    exec (.corePark c) s
      = .next ((s.written (.core c) R.PWR_PARK ((s.rd R.PWR_PARK).setBit c.val)).onPwr fun x =>
          { x with coreWait := x.coreWait ||| 2 ^ c.val }).sleepStep := by
  rw [exec_corePark, execCorePark, act_run (State.running_iff.mp hrun), softWrite_accepted h]
  rfl

theorem exec_parkTimeout_due (hstep : s.pwr.step = .park) (hdue : s.pwr.parkAt ≤ s.now) :
    exec .parkTimeout s = .next s.sleepGiveUp := by
  rw [exec_parkTimeout, execParkTimeout, act_run (State.running_iff.mp hrun), if_pos ⟨hstep, hdue⟩]

theorem exec_sleepStateReached_settled (hstep : s.pwr.step = .settle) : exec .sleepStateReached s = .next s.sleepReached := by
  rw [exec_sleepStateReached, execSleepStateReached, act_run (State.running_iff.mp hrun), if_pos hstep]

theorem exec_exitComplete_exiting (hstep : s.pwr.step = .exit) : exec .exitComplete s = .next s.exitDone := by
  rw [exec_exitComplete, execExitComplete, act_run (State.running_iff.mp hrun), if_pos hstep]

theorem exec_dozeEnter_idle (hcur : s.cur = 0) (hstep : s.pwr.step = .awake)
    (hidle : (ledgerPages.any fun p => s.flag (hCLK_ON p.base0) && decide (s.get (hCKREQ p.base0) = 0)) = false) :
    exec .dozeEnter s = .next ((s.put R.PWR_STATE_CUR 1).onPwr fun x => { x with coreWait := 15 }) := by
  rw [exec_dozeEnter, execDozeEnter, act_run (State.running_iff.mp hrun), if_pos ⟨hcur, hstep, by rw [hidle]; rfl⟩]

theorem exec_dozeExit_doze (hcur : s.cur = 1) :
    exec .dozeExit s = .next ((s.put R.PWR_STATE_CUR 0).onPwr fun x => { x with coreWait := 0 }) := by
  rw [exec_dozeExit, execDozeExit, act_run (State.running_iff.mp hrun), if_pos hcur]

theorem exec_wakeRecognised_run (srcs : BitVec 12) : exec (.wakeRecognised srcs) s = .next (s.wake srcs.toNat) := by
  rw [exec_wakeRecognised, execWakeRecognised, act_run (State.running_iff.mp hrun)]

end

end Sys2Proof.Machine
end

section
/-! The obligation of 12_clocks_power_time.md on sleep. -/

namespace Sys2Proof.Machine

open Sys2Proof

/-- Settles O38: each report is the lemma of its row; a request of the engine is `sleepAsk_free` or `sleepAsk_waits`, and a wake
`wake_exits`. -/
theorem sleepCommandsComplete : Obligations.SleepCommandsComplete := by
  unfold Obligations.SleepCommandsComplete
  intro s hrun
  refine ⟨fun r target tck hacc hv hold => exec_sleepRequest_accepted hrun hacc hv hold,
    fun target tck hps htarget hcur hnot => ⟨fun hfree => ?_, fun k hblocked hnew => ?_⟩,
    fun tck hpend hfree => exec_sleepRetry_free hrun hpend hfree, exec_drainTimeout_due hrun,
    fun c hacc => exec_corePark_accepted hrun hacc, exec_parkTimeout_due hrun, exec_sleepStateReached_settled hrun,
    fun srcs c hone hasleep hfirst hd3 => ?_, exec_exitComplete_exiting hrun, exec_dozeEnter_idle hrun, exec_dozeExit_doze hrun⟩
  · rw [exec_sleepRequest_engine hrun hps htarget hcur hnot, sleepAsk_free hfree]
  · rw [exec_sleepRequest_engine hrun hps htarget hcur hnot, sleepAsk_waits hblocked hnew]
  · rw [exec_wakeRecognised_run hrun, wake_exits hone hasleep hfirst hd3]
    rfl

end Sys2Proof.Machine
end

section
/-! SUPPORT. Domains, PLLs and the pins of AON (R391 to R410), case by case. -/

namespace Sys2Proof.Machine

open Sys2Proof

section
variable {s : State} {r : Requester} {p : PageAt} {old v : Word}

/-- The domains of word `w` of DOM_ON that changed go up or down (R393). -/
def State.domsFollow (s : State) (w : Nat) (mapOk up : Bool) (old : Word) : State :=
  ((List.range 34).filter fun d => decide (d / 32 = w)).foldl (fun s d =>
    if old.bit (d % 32) ∧ !s.domOn d then s.domDown d
    else if !old.bit (d % 32) ∧ s.domOn d then s.domUp d mapOk up
    else s) s

/-- The domains that stay on are on in word 0 of DOM_ON whatever is written (R393). -/
def State.domsKept (s : State) (w : Nat) (v : Word) : State :=
  if w = 0 then s.wr R.PWR_DOM_ON_0 (((v.setBit 0).setBit 1).setBit 6) else s

theorem pwrEffect_domOn {tck mapOk up : Bool} {w : Nat} (hw : w < 2) :
    pwrEffectWith tck mapOk up s r p (0xB0 + 4 * w) old v = (s.domsKept w v).domsFollow w mapOk up old := by
  have hoff : 0xB0 + 4 * w = 0xB0 ∨ 0xB0 + 4 * w = 0xB4 := by omega
  have hcmd : 0xB0 + 4 * w ≠ 0x80 := by omega
  have hwake : 0xB0 + 4 * w ≠ 0x8C := by omega
  have hword : (0xB0 + 4 * w - 0xB0) / 4 = w := by omega
  rw [pwrEffectWith, if_neg hcmd, if_neg hwake, if_pos hoff]
  dsimp only
  rw [hword]
  rfl

/-- The word of DOM_ON that holds a domain's bit. -/
theorem domOn_offset (d : Fin 34) : (R.PWR_DOM_ON_0 + 4 * (d.val / 32)) % 0x1000 = 0xB0 + 4 * (d.val / 32) := by
  have hd := d.isLt
  show (0x300b0 + 4 * (d.val / 32)) % 0x1000 = _
  omega

/-- A write of 1 to TIME_CTL.SET sets device time (R407). -/
theorem exec_timeSet_accepted (hrun : s.running = true) (h : s.accepts aonChecks r R.AON_TIME_CTL 1 = true) :
    exec (.timeSet r) s = .next (s.written r R.AON_TIME_CTL 1).timeSet := by
  rw [exec_timeSet, execTimeSet, act_run (State.running_iff.mp hrun), softWrite_accepted h,
    show R.AON_TIME_CTL % 0x1000 = 0x90 from rfl, aonEffect_timeSet rfl]

theorem exec_stbyClr_accepted (hrun : s.running = true) (h : s.accepts aonChecks r R.AON_STBY_CLR 1 = true) :
    exec (.stbyClr r) s
      = .next (((s.written r R.AON_STBY_CLR 1).put R.AON_STBY_REC_CAUSE 0).put R.AON_STBY_REC_HALTED 0).aonLevels := by
  rw [exec_stbyClr, execStbyClr, act_run (State.running_iff.mp hrun), softWrite_accepted h,
    show R.AON_STBY_CLR % 0x1000 = 0xC4 from rfl, aonEffect_stbyClr rfl]

end

section
variable {s : State} (hrun : s.running = true)
include hrun

theorem exec_domainSwitchOn_accepted {r : Requester} {d : Fin 34} {mapOk up : Bool}
    (h : s.accepts pwrChecks r (R.PWR_DOM_ON_0 + 4 * (d.val / 32)) (s.domWord d.val true) = true) :
    exec (.domainSwitchOn r d mapOk up) s
      = .next (((s.written r (R.PWR_DOM_ON_0 + 4 * (d.val / 32)) (s.domWord d.val true)).domsKept (d.val / 32)
          (s.domWord d.val true)).domsFollow (d.val / 32) mapOk up (s.wordBefore r (R.PWR_DOM_ON_0 + 4 * (d.val / 32)))) := by
  rw [exec_domainSwitchOn, execDomainSwitchOn, act_run (State.running_iff.mp hrun), softWrite_accepted h, domOn_offset d,
    pwrEffect_domOn (by omega)]

theorem exec_domainSwitchOff_accepted {r : Requester} {d : Fin 34}
    (h : s.accepts pwrChecks r (R.PWR_DOM_ON_0 + 4 * (d.val / 32)) (s.domWord d.val false) = true) :
    exec (.domainSwitchOff r d) s
      = .next (((s.written r (R.PWR_DOM_ON_0 + 4 * (d.val / 32)) (s.domWord d.val false)).domsKept (d.val / 32)
          (s.domWord d.val false)).domsFollow (d.val / 32) true true (s.wordBefore r (R.PWR_DOM_ON_0 + 4 * (d.val / 32)))) := by
  rw [exec_domainSwitchOff, execDomainSwitchOff, act_run (State.running_iff.mp hrun), softWrite_accepted h, domOn_offset d, pwrEffect,
    pwrEffect_domOn (by omega)]

theorem exec_domainOnTimeout_due {d : Fin 34} {t : Nat} (hrise : s.pwr.rising.find d.val = some t) (hdue : t + 200000 ≤ s.now) :
    exec (.domainOnTimeout d) s
      = .next (((s.onPwr fun x => { x with rising := x.rising.del d.val }).pulse 14).raise .pwr 0 0x09 .u d.val) := by
  rw [exec_domainOnTimeout, execDomainOnTimeout, act_run (State.running_iff.mp hrun)]
  simp only [hrise, if_pos hdue]

/-- A locked PLL loses lock (R391). -/
theorem exec_pllUnlock_locked {p : Fin 8} (hon : s.pllOn p.val = true) (hlocked : s.pwr.unlocked.contains p.val = false) :
    exec (.pllUnlock p) s
      = .next ((((((s.clocked p.val).foldl (fun s b => s.put (hCLK_ON b) 0) s).onPwr fun x =>
          { x with unlocked := insertNat p.val x.unlocked, clkWait := x.clkWait ++ s.clocked p.val }).putBit R.CLK_UNLOCK_SEEN
            p.val true).bump R.CLK_UNLOCK_CNT 1).pulse 13 |>.raise .clk 0 0x08 .u p.val) := by
  rw [exec_pllUnlock, execPllUnlock, act_run (State.running_iff.mp hrun), if_pos ⟨hon, by rw [hlocked]; rfl⟩]

/-- A PLL that had lost lock locks again (R391). -/
theorem exec_pllRelock_unlocked {p : Fin 8} (hlost : s.pwr.unlocked.contains p.val = true) :
    exec (.pllRelock p) s
      = .next (((s.pwr.clkWait.filter fun b => (findPage b).any fun q => decide (q.clock.bind clockPll = some p.val)).foldl
          (fun s b => s.put (hCLK_ON b) 1) s).onPwr fun x =>
            { x with
              unlocked := x.unlocked.filter (· ≠ p.val)
              clkWait := x.clkWait.filter fun b =>
                !(s.pwr.clkWait.filter fun b => (findPage b).any fun q => decide (q.clock.bind clockPll = some p.val)).contains b }) := by
  rw [exec_pllRelock, execPllRelock, act_run (State.running_iff.mp hrun), if_pos hlost]

theorem exec_refClockLoss_awake (h : s.cur ≠ 3) :
    exec .refClockLoss s = .next ((s.onPwr fun x => { x with refLost := true }).fatal .clk 0 0x08 0xF) := by
  rw [exec_refClockLoss, execRefClockLoss, act_run (State.running_iff.mp hrun), if_neg h]

/-! ### GPIO and the regulator -/

/-- A pin's new level is shown; an edge that its input selects is an event and may wake (R405). -/
theorem exec_gpioEdge_run (k : Fin 2) (level : Bool) :
    exec (.gpioEdge k level) s
      = .next (if (s.rd R.AON_GPIO_CFG).fld (8 * k.val) 4 % 4 = 0 ∧ s.fbit R.AON_GPIO_STS_IN k.val ≠ level
            ∧ ((s.rd R.AON_GPIO_CFG).fld (8 * k.val) 4 / 4).testBit (if level then 0 else 1) = true then
          ((((s.putBit R.AON_GPIO_STS_IN k.val level).gpioDrive).putBit R.AON_GPIO_STS_EDGE k.val true).pulse (4 + k.val)).wake
            (2 ^ (9 + k.val))
        else (s.putBit R.AON_GPIO_STS_IN k.val level).gpioDrive) := by
  rw [exec_gpioEdge, execGpioEdge, act_run (State.running_iff.mp hrun)]

/-- In low-power mode the regulator's peak is kept, and the guard wakes over its threshold (R403). -/
theorem exec_regulatorGuard_lowPower (load : Nat) (hlp : s.flag R.AON_REG_STS_LP = true) {t : State}
    (ht : s.put R.AON_REG_STS_PEAK (max (s.get R.AON_REG_STS_PEAK) (min 255 (load / 100))) = t) :
    exec (.regulatorGuard load) s
      = .next (if t.flag R.PWR_DEEP_CFG_GUARD_EN ∧ t.get R.PWR_DEEP_CFG_GUARD_MA * 100 < load then t.wake (2 ^ 11) else t) := by
  subst ht
  rw [exec_regulatorGuard, execRegulatorGuard, act_run (State.running_iff.mp hrun), if_pos hlp]

end

end Sys2Proof.Machine
end

section
/-! The obligation of 12_clocks_power_time.md on domains, clocks and time. -/

namespace Sys2Proof.Machine

open Sys2Proof

/-- Settles O39: each report is the lemma of its row in the case that the hypotheses pick, and an accepted write of DOM_ON moves
the domains of its word (`pwrEffect_domOn`). -/
theorem domainClockAndTimeCommandsComplete : Obligations.DomainClockAndTimeCommandsComplete := by
  unfold Obligations.DomainClockAndTimeCommandsComplete
  intro s hrun
  refine ⟨fun r d => ⟨fun mapOk up hacc => exec_domainSwitchOn_accepted hrun hacc, fun hacc => exec_domainSwitchOff_accepted hrun hacc⟩,
    fun d t hrise hdue => exec_domainOnTimeout_due hrun hrise hdue,
    fun p => ⟨fun hon hlocked => exec_pllUnlock_locked hrun hon hlocked, fun hlost => exec_pllRelock_unlocked hrun hlost⟩,
    exec_refClockLoss_awake hrun,
    fun r => ⟨exec_timeSet_accepted hrun, exec_hsArm_accepted hrun, exec_stbyClr_accepted hrun⟩, exec_hsMatch_fires hrun,
    fun k level => ⟨fun hedge => ?_, fun hnone => ?_⟩, fun load hlp => ⟨fun hen hover => ?_, fun hoff => ?_⟩⟩
  · rw [exec_gpioEdge_run hrun, if_pos hedge]
  · rw [exec_gpioEdge_run hrun, if_neg]
    rintro ⟨hinput, hmoved, hsel⟩
    rcases hnone with h | h | h
    · exact h hinput
    · exact hmoved h
    · exact Bool.false_ne_true (h.symm.trans hsel)
  · rw [exec_regulatorGuard_lowPower hrun load hlp rfl, if_pos ⟨hen, hover⟩]
  · rw [exec_regulatorGuard_lowPower hrun load hlp rfl, if_neg fun h => Bool.eq_false_iff.mp hoff h.1]

end Sys2Proof.Machine
end

section
/-! SUPPORT. BOOT (chapter 14): what accepted writes to CMD, SPI_CMD and CTL do, and a command that CMD takes. -/

namespace Sys2Proof.Machine

open Sys2Proof

section
variable {s : State} {r : Requester} {p : PageAt} {old v : Word}

/-- GO makes a command busy (R447). -/
theorem bootBase_cmd (hv : v.bit 4 = true) : bootBase s r p 0xC0 old v = s.put R.BOOT_CMD_STS_BUSY 1 := by
  simp [bootBase, hv]

/-- SPI_CMD has no effect beyond its fields. -/
theorem bootBase_spi : bootBase s r p 0x200 old v = s := by
  simp [bootBase]

/-- BOOT_OK stops the watchdog and clears the try count (R456). -/
theorem bootBase_bootOk : bootBase s r p 0x84 old 1
    = ((s.put R.BOOT_STS_BOOT_OK 1).put R.BOOT_WDT_RUNNING 0).put R.BOOT_TRY_CNT 0 := rfl

theorem bootBase_seal : bootBase s r p 0x84 old 2 = s.put R.BOOT_STS_SEALED 1 := rfl

/-- A write of CTL without BOOT_OK and SEAL sets its fields alone. -/
theorem bootBase_ctl (h0 : v.bit 0 = false) (h1 : v.bit 1 = false) : bootBase s r p 0x84 old v = s := by
  simp [bootBase, h0, h1]

/-- FAIL_SLOT notes the running slot to skip, and asks for the reset (R457). -/
theorem bootEffect_failSlot (hslot : s.get R.BOOT_STS_SLOT ≠ 0) :
    bootEffect s r p 0x84 old 4
      = ((s.put R.BOOT_TRY_LAST 2).putBit R.BOOT_TRY_SKIP (s.get R.BOOT_STS_SLOT - 1) true).rebootAsk 6 := by
  have hbase : bootBase s r p 0x84 old 4 = s := bootBase_ctl rfl rfl
  have hfail : (0x84 = 0x84 ∧ Word.bit 4 2 = true) := ⟨rfl, rfl⟩
  unfold bootEffect
  rw [hbase, if_pos hfail]
  dsimp only
  rw [if_neg hslot]

end

/-- CORE_REL lies above BOOT_OK and SEAL in CTL. -/
theorem coreRel_bits : ∀ cores : BitVec 3,
    Word.bit (BitVec.ofNat 32 (cores.toNat * 16)) 0 = false ∧ Word.bit (BitVec.ofNat 32 (cores.toNat * 16)) 1 = false := by decide

section
variable {s : State} {r : Requester}

/-- A command that CMD takes is busy and then runs (R447). -/
theorem bootCmd_taken {op kind sel : Nat} {w : Word} (hw : BitVec.ofNat 32 (op + 16 + kind * 256 + sel * 4096) = w)
    (hfree : s.flag R.BOOT_CMD_GO = false)
    (h : s.accepts bootChecks r R.BOOT_CMD w = true ∧ w.bit 4 = true
      ∧ ((s.written r R.BOOT_CMD w).put R.BOOT_CMD_STS_BUSY 1).rd R.BOOT_CMD = w) (run : State → State) :
    s.bootCmd r op kind sel run = run ((s.written r R.BOOT_CMD w).put R.BOOT_CMD_STS_BUSY 1) := by
  obtain ⟨hacc, hgo, hholds⟩ := h
  have htook : State.softWrite bootChecks bootBase r R.BOOT_CMD w s = (s.written r R.BOOT_CMD w).put R.BOOT_CMD_STS_BUSY 1 := by
    rw [softWrite_accepted hacc, show R.BOOT_CMD % 0x1000 = 0xC0 from rfl, bootBase_cmd hgo]
  unfold State.bootCmd
  dsimp only
  rw [hw, if_neg (Bool.eq_false_iff.mp hfree), htook, if_pos hholds]

/-- A command that SPI_CMD takes runs (R460). -/
theorem spiCmd_taken {op : Nat} (hfree : s.flag R.BOOT_SPI_CMD_GO = false)
    (h : s.accepts bootChecks r R.BOOT_SPI_CMD (BitVec.ofNat 32 (op + 4)) = true
      ∧ (s.written r R.BOOT_SPI_CMD (BitVec.ofNat 32 (op + 4))).flag R.BOOT_SPI_CMD_GO = true
      ∧ (s.written r R.BOOT_SPI_CMD (BitVec.ofNat 32 (op + 4))).get R.BOOT_SPI_CMD_OP = op) (err : Option Nat) :
    s.spiCmd r op err = (s.written r R.BOOT_SPI_CMD (BitVec.ofNat 32 (op + 4))).spiRun op err := by
  obtain ⟨hacc, hgo, hop⟩ := h
  have htook : State.softWrite bootChecks bootBase r R.BOOT_SPI_CMD (BitVec.ofNat 32 (op + 4)) s
      = s.written r R.BOOT_SPI_CMD (BitVec.ofNat 32 (op + 4)) := by
    rw [softWrite_accepted hacc, show R.BOOT_SPI_CMD % 0x1000 = 0x200 from rfl, bootBase_spi]
  unfold State.spiCmd
  dsimp only
  rw [if_neg (Bool.eq_false_iff.mp hfree), htook, if_pos ⟨hgo, hop⟩]

/-- A write of CTL that is accepted (R456 to R458). -/
theorem bootCtl_accepted {v : Word} (h : s.accepts bootChecks r R.BOOT_CTL v = true) (eff : Effect) :
    State.softWrite bootChecks eff r R.BOOT_CTL v s
      = eff (s.written r R.BOOT_CTL v) r (pageOf R.BOOT_CTL) 0x84 (s.wordBefore r R.BOOT_CTL) v := by
  rw [softWrite_accepted h, show R.BOOT_CTL % 0x1000 = 0x84 from rfl]

/-- An owner hash that is not set takes the token buffer's first 48 bytes (R448). -/
theorem provision_owner {k : Nat} (hk : k ≤ 1) (hsel : s.get R.BOOT_CMD_SEL = k) (hopen : s.debugOpen = false)
    (hunset : hashSet (s.boot.fuses.owner k) = false) :
    s.provision = (s.onBoot fun x => { x with fuses :=
      if k = 0 then { s.boot.fuses with owner0 := s.tokBytes.take 48 } else { s.boot.fuses with owner1 := s.tokBytes.take 48 } }).bootEnd
        0 := by
  unfold State.provision
  dsimp only
  rw [hsel, if_neg (by simp [hopen, hunset])]
  have hone : k ≠ 0 → k = 1 := by omega
  by_cases h0 : k = 0
  · rw [if_pos h0, if_pos h0]
  · rw [if_neg h0, if_neg h0, if_pos (hone h0)]

/-- A newer SVN that runs is blown into the fuses once BOOT_OK is set (R449). -/
theorem advanceSvn_newer (hok : s.flag R.BOOT_STS_BOOT_OK = true) (hnew : s.get R.BOOT_SVN_FUSED < s.get R.BOOT_SVN_ACTIVE) :
    s.advanceSvn
      = ((s.onBoot fun x => { x with
          fuses := { x.fuses with svn := x.fuses.svn ||| (2 ^ s.get R.BOOT_SVN_ACTIVE - 2 ^ s.get R.BOOT_SVN_FUSED) }
          sensed := { x.sensed with svn := x.sensed.svn ||| (2 ^ s.get R.BOOT_SVN_ACTIVE - 2 ^ s.get R.BOOT_SVN_FUSED) } }).put
            R.BOOT_SVN_FUSED (s.get R.BOOT_SVN_ACTIVE)).bootEnd 0 := by
  unfold State.advanceSvn
  rw [if_neg (by simp [hok])]
  dsimp only
  rw [if_neg (Nat.not_le.mpr hnew)]

end

end Sys2Proof.Machine
end

section
/-! The obligation of 14_boot_and_update.md on the commands of BOOT. -/

namespace Sys2Proof.Machine

open Sys2Proof

/-- Settles O41: a command that CMD or SPI_CMD takes runs (`bootCmd_taken`, `spiCmd_taken`), and an accepted write of CTL does
what the lemma of its case of `bootBase` says. -/
theorem bootCommandsComplete : Obligations.BootCommandsComplete := by
  unfold Obligations.BootCommandsComplete
  intro s r hrun
  have hhalt := State.running_iff.mp hrun
  refine ⟨fun hfree => ⟨fun kind f => ⟨fun h => ?_, fun h => ?_, fun h => ?_⟩, fun h _ => ?_,
      fun sel h hopen => ⟨fun hsel hsame hunset => ?_, fun _ => ?_⟩, fun h hok hnew => ?_⟩,
    fun hfree err => ⟨fun h => ?_, fun h => ?_, fun h => ?_⟩, fun hacc => ?_, fun hacc => ?_, fun cores hacc => ?_⟩
  · rw [exec_loadImage, execLoadImage, act_run hhalt, bootCmd_taken rfl hfree h]
  · rw [exec_check, execCheck, act_run hhalt, bootCmd_taken rfl hfree h]
  · rw [exec_verify, execVerify, act_run hhalt, bootCmd_taken rfl hfree h]
  · rw [exec_token, execToken, act_run hhalt, bootCmd_taken rfl hfree h]
  · rw [exec_provision, execProvision, act_run hhalt, bootCmd_taken rfl hfree h, provision_owner hsel hsame hopen hunset]
  · rw [exec_provision, execProvision, act_run hhalt, bootCmd_taken rfl hfree h]
  · rw [exec_advanceSvn, execAdvanceSvn, act_run hhalt, bootCmd_taken rfl hfree h, advanceSvn_newer hok hnew]
  · rw [exec_spiErase, execSpiErase, act_run hhalt, spiCmd_taken hfree h]
  · rw [exec_spiProgram, execSpiProgram, act_run hhalt, spiCmd_taken hfree h]
  · rw [exec_spiRead, execSpiRead, act_run hhalt, spiCmd_taken hfree h]
  · rw [exec_bootOk, execBootOk, act_run hhalt, bootCtl_accepted hacc, bootBase_bootOk]
  · rw [exec_ctlSeal, execCtlSeal, act_run hhalt, bootCtl_accepted hacc, bootBase_seal]
  · obtain ⟨h0, h1⟩ := coreRel_bits cores
    rw [exec_coreRelease, execCoreRelease, act_run hhalt, bootCtl_accepted hacc, bootBase_ctl h0 h1]

end Sys2Proof.Machine
end

section
/-! SUPPORT. The boot watchdog, the debug window and the TAP (R441, R450, R453, R456), case by case. -/

namespace Sys2Proof.Machine

open Sys2Proof

section
variable {s : State} (hrun : s.running = true)
include hrun

theorem exec_reboot_due (norMode : Fin 3) (maps : BitVec 34) (facts : List NorFact) (hdue : s.boot.due = true) :
    exec (.reboot norMode maps facts) s
      = .next ((((List.range 34).filter fun d => s.domSts d).foldl (fun s d => s.repair d (!maps.toNat.testBit d)) s).bootRom
          norMode.val facts) := by
  rw [exec_reboot, execReboot, act_run (State.running_iff.mp hrun), if_neg (by simp [hdue])]

theorem exec_failSlot_accepted {r : Requester} (h : s.accepts bootChecks r R.BOOT_CTL 4 = true)
    (hslot : (s.written r R.BOOT_CTL 4).get R.BOOT_STS_SLOT ≠ 0) :
    exec (.failSlot r) s
      = .next ((((s.written r R.BOOT_CTL 4).put R.BOOT_TRY_LAST 2).putBit R.BOOT_TRY_SKIP
          ((s.written r R.BOOT_CTL 4).get R.BOOT_STS_SLOT - 1) true).rebootAsk 6) := by
  rw [exec_failSlot, execFailSlot, act_run (State.running_iff.mp hrun), bootCtl_accepted h, bootEffect_failSlot hslot]

theorem exec_wdtHalf_due (hpast : s.wdtPast 2 = true) (hnew : s.boot.wdtHalf = false) :
    exec .wdtHalf s = .next ((s.onBoot fun x => { x with wdtHalf := true }).pulse 51) := by
  rw [exec_wdtHalf, execWdtHalf, act_run (State.running_iff.mp hrun), if_pos ⟨hpast, by simp [hnew]⟩]

theorem exec_wdtExpire_due (hpast : s.wdtPast 1 = true) :
    exec .wdtExpire s = .next (((s.put R.BOOT_WDT_RUNNING 0).put R.BOOT_TRY_LAST 1).rebootAsk 5) := by
  rw [exec_wdtExpire, execWdtExpire, act_run (State.running_iff.mp hrun), if_pos hpast]

theorem exec_debugOpenExpire_due {t : Nat} (hend : s.boot.debugEnd = some t) (hopen : s.debugOpen = true) (hdue : t ≤ s.hsCount) :
    exec .debugOpenExpire s = .next (((s.put R.BOOT_STS_SEC_STATE 1).onBoot fun x => { x with debugEnd := none }).pulse 49) := by
  rw [exec_debugOpenExpire, execDebugOpenExpire, act_run (State.running_iff.mp hrun)]
  simp only [hend, if_pos (And.intro hopen hdue)]

/-- Outside HALT UNLOCK shifts into the token buffer, and a token shifted in is checked at once (R452, R453). -/
theorem exec_tapUnlock_shift : exec (.tapUnlock none) s = .next ((s.tap 0x11).onBoot fun x => { x with tapShift := true }) := by
  rw [exec_tapUnlock, execTapUnlock.eq_def, if_neg (Bool.eq_false_iff.mp (State.running_iff.mp hrun))]

theorem exec_tapUnlock_token (t : BitVec 1856) :
    exec (.tapUnlock (some t)) s
      = .next (((List.range 58).foldl (fun s w => s.wr (R.BOOT_TOK w) (BitVec.ofNat 32 (t.toNat / 2 ^ (32 * w)))) (s.tap 0x11)).put
          R.BOOT_CMD_OP 4).tokenCmd := by
  rw [exec_tapUnlock, execTapUnlock.eq_def, if_neg (Bool.eq_false_iff.mp (State.running_iff.mp hrun))]

theorem exec_tapDebug_open (h : s.get R.BOOT_STS_SEC_STATE ≠ 1) : exec .tapDebug s = .next (s.tap 0x20) := by
  rw [exec_tapDebug, execTapDebug, if_neg (by simp [State.running_iff.mp hrun, h])]

end

end Sys2Proof.Machine
end

section
/-! The obligation of 14_boot_and_update.md on resets and the TAP. -/

namespace Sys2Proof.Machine

open Sys2Proof

/-- Settles O42: each report is the lemma of its row; resets and the other TAP instructions are so by definition. -/
theorem resetAndTapCommandsComplete : Obligations.ResetAndTapCommandsComplete := by
  unfold Obligations.ResetAndTapCommandsComplete
  intro s hrun
  exact ⟨exec_reboot_due hrun, fun r hacc hslot => exec_failSlot_accepted hrun hacc hslot, exec_wdtHalf_due hrun,
    exec_wdtExpire_due hrun, fun t hend hopen hdue => exec_debugOpenExpire_due hrun hend hopen hdue, rfl, rfl, rfl, rfl,
    fun a d => rfl, rfl, rfl, rfl, exec_tapUnlock_shift hrun, exec_tapUnlock_token hrun, exec_tapDebug_open hrun, rfl, rfl⟩

end Sys2Proof.Machine
end

section
/-! SUPPORT. The rail groups (chapter 13): what accepted writes to CTL do, and each report in the state that it speaks of. -/

namespace Sys2Proof.Machine

open Sys2Proof

section
variable {s : State} {r : Requester} {p : PageAt} {old v : Word}

/-- The groups whose OFF bit is written go off (R420). -/
def State.railsOff (s : State) (v : Word) : State :=
  (List.range 8).foldl (fun s g => if v.bit (8 + g) then s.railOff g else s) s

/-- A write that sets no OFF bit switches nothing off. -/
theorem railsOff_none (h : ∀ g < 8, v.bit (8 + g) = false) : s.railsOff v = s :=
  List.foldlRecOn (motive := (· = s)) _ _ rfl fun t ht g hg => by
    rw [ht, if_neg (by simp [h g (List.mem_range.mp hg)])]

/-- SEQ alone starts a sequence (R419). -/
theorem railEffect_seq : railEffect s r p 0x90 old 1 = s.railSeq := by
  have hseq : Word.bit 1 0 = true := rfl
  have hoff : ∀ g < 8, Word.bit 1 (8 + g) = false := by decide
  rw [railEffect, if_pos rfl, if_pos hseq]
  exact railsOff_none hoff

/-- A write of CTL without SEQ pulls the chosen gates low (R420). -/
theorem railEffect_off (hv : v.bit 0 = false) : railEffect s r p 0x90 old v = s.railsOff v := by
  rw [railEffect, if_pos rfl, if_neg (Bool.eq_false_iff.mp hv)]
  rfl

end

section
variable {s : State} {g : Nat}

theorem slotJudge_settled (hramp : s.railState g = 1 ∨ s.railState g = 2) (peak : Nat) :
    s.slotJudge g true peak = ((s.setLimit g false).setRail g 3).pulse (16 + g) := by
  rw [State.slotJudge, if_pos hramp, if_pos rfl]

theorem slotJudge_unsettled (hramp : s.railState g = 1 ∨ s.railState g = 2) (peak : Nat) :
    s.slotJudge g false peak = s.lockOff g 5 peak false := by
  rw [State.slotJudge, if_pos hramp, if_neg Bool.false_ne_true]

/-- The sequence goes on when the slot of its group ends (R419). -/
theorem slotEnd_sequence {t : Nat} (hslot : s.rail.slot = some (g, t)) (hdue : t ≤ s.now) (settled : Bool) (peak : Nat) :
    s.slotEnd g settled peak = State.seqLoop (s.slotJudge g settled peak).rail.seq (s.slotJudge g settled peak) := by
  simp [State.slotEnd, hslot, hdue]

/-- A group whose cool-down is over is ramped once more, when nothing of R418 makes it wait. -/
theorem railRetry_due {t : Nat} (hcool : s.railState g = 6) (hend : s.rail.cool.find g = some t) (hdue : t ≤ s.now)
    (hslot : s.rail.slot = none) (hretry : s.rail.retry = none) (hramps : s.anyRail (fun x => decide (x = 1)) = false)
    (hpf : s.get R.PLJ_PF_STS_STATE = 0) (hcur : s.cur < 2) :
    s.railRetry g
      = (((s.onRail fun x => { x with cool := x.cool.del g, retry := some (g, s.slotEndAt) }).putBit R.RAIL_FLT_RETRY_USED g
          true).rampStart g).pulse (16 + g) := by
  unfold State.railRetry
  dsimp only
  rw [hend, if_pos ⟨hcool, by simp [hdue], by simp [hslot], by simp [hretry], by rw [hramps]; rfl, hpf, hcur⟩]

end

/-! ### Commands -/

section
variable {s : State} (hrun : s.running = true)
include hrun

theorem exec_railSequence_accepted {r : Requester} (h : s.accepts railChecks r R.RAIL_CTL 1 = true) :
    exec (.railSequence r) s = .next (s.written r R.RAIL_CTL 1).railSeq := by
  rw [exec_railSequence, execRailSequence, act_run (State.running_iff.mp hrun), softWrite_accepted h,
    show R.RAIL_CTL % 0x1000 = 0x90 from rfl, railEffect_seq]

theorem exec_railOff_accepted {r : Requester} {mask : Byte}
    (h : s.accepts railChecks r R.RAIL_CTL (BitVec.ofNat 32 (mask.toNat * 256)) = true)
    (hv : Word.bit (BitVec.ofNat 32 (mask.toNat * 256)) 0 = false) :
    exec (.railOff r mask) s
      = .next ((s.written r R.RAIL_CTL (BitVec.ofNat 32 (mask.toNat * 256))).railsOff (BitVec.ofNat 32 (mask.toNat * 256))) := by
  rw [exec_railOff, execRailOff, act_run (State.running_iff.mp hrun), softWrite_accepted h,
    show R.RAIL_CTL % 0x1000 = 0x90 from rfl, railEffect_off hv]

section
variable {g : Fin 8} {peak : BitVec 16}

theorem exec_railSlotEnd_run (settled : Bool) :
    exec (.railSlotEnd g settled peak) s = .next (s.slotEnd g.val settled peak.toNat) := by
  rw [exec_railSlotEnd, execRailSlotEnd, act_run (State.running_iff.mp hrun)]

theorem exec_railRampDone_ramping (hramp : s.railState g.val = 1) (hfree : g.val ∉ s.rail.limit) :
    exec (.railRampDone g) s = .next (s.setRail g.val 2) := by
  rw [exec_railRampDone, execRailRampDone, act_run (State.running_iff.mp hrun), if_pos ⟨hramp, by simp [hfree]⟩]

theorem exec_railLimiterChange_on (hramp : s.railState g.val = 1) :
    exec (.railLimiterChange g true) s = .next (s.setLimit g.val true) := by
  rw [exec_railLimiterChange, execRailLimiterChange, act_run (State.running_iff.mp hrun), if_pos (.inl hramp)]

theorem exec_railLimiterChange_off : exec (.railLimiterChange g false) s = .next (s.setLimit g.val false) := by
  rw [exec_railLimiterChange, execRailLimiterChange, act_run (State.running_iff.mp hrun), if_pos (.inr rfl)]

theorem exec_railShort_half (hramp : s.railState g.val = 1) :
    exec (.railShort g false peak) s = .next (s.lockOff g.val 1 peak.toNat false) := by
  rw [exec_railShort, execRailShort, act_run (State.running_iff.mp hrun), if_pos ⟨hramp, .inl rfl⟩]
  rfl

theorem exec_railShort_sat (hramp : s.railState g.val = 1) (hlimit : g.val ∈ s.rail.limit) :
    exec (.railShort g true peak) s = .next (s.lockOff g.val 2 peak.toNat false) := by
  rw [exec_railShort, execRailShort, act_run (State.running_iff.mp hrun), if_pos ⟨hramp, .inr (by simp [hlimit])⟩]
  rfl

theorem exec_railOvercurrent_on (hon : s.railState g.val = 3) :
    exec (.railOvercurrent g peak) s = .next (s.lockOff g.val 3 peak.toNat false) := by
  rw [exec_railOvercurrent, execRailOvercurrent, act_run (State.running_iff.mp hrun), if_pos hon]

theorem exec_railUndervoltage_on (hon : s.railState g.val = 3) (hpf : s.get R.PLJ_PF_STS_STATE = 0) :
    exec (.railUndervoltage g peak) s = .next (s.lockOff g.val 4 peak.toNat false) := by
  rw [exec_railUndervoltage, execRailUndervoltage, act_run (State.running_iff.mp hrun), if_pos ⟨hon, hpf⟩]

theorem exec_railSleepUv_on (hon : s.railState g.val = 3) (hcur : 2 ≤ s.cur) :
    exec (.railSleepUv g peak) s = .next (s.lockOff g.val 4 peak.toNat true) := by
  rw [exec_railSleepUv, execRailSleepUv, act_run (State.running_iff.mp hrun), if_pos ⟨hon, hcur⟩]

theorem exec_railOffDone_falling (hfall : s.railState g.val = 4) :
    exec (.railOffDone g) s
      = .next (((s.setRail g.val 0).putBit R.RAIL_CTL_OFF g.val false).onRail fun x => { x with offAt := x.offAt.del g.val }) := by
  rw [exec_railOffDone, execRailOffDone, act_run (State.running_iff.mp hrun), if_pos hfall]

theorem exec_railStuck_due {t : Nat} (hfall : s.railState g.val = 4) (hsince : s.rail.offAt.find g.val = some t)
    (hdue : t + 10 ^ 8 ≤ s.now) : exec (.railStuck g peak) s = .next (s.lockOff g.val 6 peak.toNat false) := by
  rw [exec_railStuck, execRailStuck, act_run (State.running_iff.mp hrun)]
  dsimp only
  rw [hsince, if_pos ⟨hfall, decide_eq_true hdue⟩]

theorem exec_railRetry_run : exec (.railRetry g) s = .next (s.railRetry g.val) := by
  rw [exec_railRetry, execRailRetry, act_run (State.running_iff.mp hrun)]

end

end

end Sys2Proof.Machine
end

section
/-! The obligation of 13_rails_pins_electrical.md. -/

namespace Sys2Proof.Machine

open Sys2Proof

/-- Settles O40: each report is the lemma of its row, a slot that ends `slotEnd_sequence` with `slotJudge`, and a retry
`railRetry_due`. -/
theorem railCommandsComplete : Obligations.RailCommandsComplete := by
  unfold Obligations.RailCommandsComplete
  intro s hrun
  refine ⟨fun r => exec_railSequence_accepted hrun, fun r mask => exec_railOff_accepted hrun,
    fun g peak t hslot hdue hramp => ⟨?_, ?_⟩,
    fun g peak => ⟨fun hramp => ⟨exec_railRampDone_ramping hrun hramp, exec_railLimiterChange_on hrun hramp,
        exec_railShort_half hrun hramp, exec_railShort_sat hrun hramp⟩,
      exec_railLimiterChange_off hrun,
      fun hon => ⟨exec_railOvercurrent_on hrun hon, exec_railUndervoltage_on hrun hon, exec_railSleepUv_on hrun hon⟩,
      fun hfall => ⟨exec_railOffDone_falling hrun hfall, fun t => exec_railStuck_due hrun hfall⟩⟩,
    fun g t hcool hend hdue hslot hretry hramps hpf hcur => ?_⟩
  · rw [exec_railSlotEnd_run hrun, slotEnd_sequence hslot hdue, slotJudge_settled hramp]
  · rw [exec_railSlotEnd_run hrun, slotEnd_sequence hslot hdue, slotJudge_unsettled hramp]
  · rw [exec_railRetry_run hrun, railRetry_due hcool hend hdue hslot hretry hramps hpf hcur]

end Sys2Proof.Machine
end

section
/-! SUPPORT. Microcode and its engines (chapter 15): what an accepted command of MCL starts, how an engine stops on each class,
and the reports of the engines. -/

namespace Sys2Proof.Machine

open Sys2Proof

section
variable {s : State} {r : Requester} {old v : Word}

theorem mclEffect_load (hgo : v.bit 4 = true) (hop : v.fld 0 4 = 1) :
    mclEffect s r (pageOf R.MCL_CMD) 0x80 old v = s.mclLoad := by
  rw [mclEffect, if_pos ⟨rfl, rfl, hgo⟩]
  exact if_pos hop

theorem mclEffect_verify (hgo : v.bit 4 = true) (hop : v.fld 0 4 = 2) :
    mclEffect s r (pageOf R.MCL_CMD) 0x80 old v = s.mclVerify := by
  rw [mclEffect, if_pos ⟨rfl, rfl, hgo⟩]
  dsimp only
  rw [hop, if_neg (by decide), if_pos rfl]

theorem mclEffect_patch (hgo : v.bit 4 = true) (hop : v.fld 0 4 = 3) :
    mclEffect s r (pageOf R.MCL_CMD) 0x80 old v = s.mclPatch := by
  rw [mclEffect, if_pos ⟨rfl, rfl, hgo⟩]
  dsimp only
  rw [hop, if_neg (by decide), if_neg (by decide)]

end

section
variable {s : State} {i cause addr : Nat} {more : Bool}

/-- A sequencer that stops also ends its channel's operations (R471). -/
theorem engineFault_seq (h : s.engRuns 1 i = true) :
    s.engineFault 1 i cause addr more = (s.stopReport 1 i cause addr more).seqStopped i := by
  rw [State.engineFault, State.engStop, if_pos h]
  dsimp only
  rw [if_pos rfl, if_neg (by decide)]

theorem engineFault_par (h : s.engRuns 2 i = true) :
    s.engineFault 2 i cause addr more = s.stopReport 2 i cause addr more := by
  rw [State.engineFault, State.engStop, if_pos h]
  dsimp only
  rw [if_neg (by decide), if_neg (by decide)]

/-- The flows of a Chervil engine end when it stops (R205). -/
theorem engineFault_chv (h : s.engRuns 3 i = true) :
    s.engineFault 3 i cause addr more = (s.stopReport 3 i cause addr more).chvEnd i := by
  rw [State.engineFault, State.engStop, if_pos h]
  dsimp only
  rw [if_pos rfl, if_neg (by decide)]

end

/-! ### Commands -/

section
variable {s : State} (hrun : s.running = true)
include hrun

theorem exec_mclLoad_accepted {r : Requester} {c : BitVec 3}
    (h : s.accepts mclChecks r R.MCL_CMD (BitVec.ofNat 32 (1 + 16 + c.toNat * 32)) = true) :
    exec (.mclLoad r c) s = .next (s.written r R.MCL_CMD (BitVec.ofNat 32 (1 + 16 + c.toNat * 32))).mclLoad := by
  have hword : ∀ c : BitVec 3, Word.bit (BitVec.ofNat 32 (1 + 16 + c.toNat * 32)) 4 = true
      ∧ Word.fld (BitVec.ofNat 32 (1 + 16 + c.toNat * 32)) 0 4 = 1 := by decide
  rw [exec_mclLoad, execMclLoad, act_run (State.running_iff.mp hrun), softWrite_accepted h,
    show R.MCL_CMD % 0x1000 = 0x80 from rfl, mclEffect_load (hword c).1 (hword c).2]

theorem exec_mclVerify_accepted {r : Requester} {c : BitVec 3}
    (h : s.accepts mclChecks r R.MCL_CMD (BitVec.ofNat 32 (2 + 16 + c.toNat * 32)) = true) :
    exec (.mclVerify r c) s = .next (s.written r R.MCL_CMD (BitVec.ofNat 32 (2 + 16 + c.toNat * 32))).mclVerify := by
  have hword : ∀ c : BitVec 3, Word.bit (BitVec.ofNat 32 (2 + 16 + c.toNat * 32)) 4 = true
      ∧ Word.fld (BitVec.ofNat 32 (2 + 16 + c.toNat * 32)) 0 4 = 2 := by decide
  rw [exec_mclVerify, execMclVerify, act_run (State.running_iff.mp hrun), softWrite_accepted h,
    show R.MCL_CMD % 0x1000 = 0x80 from rfl, mclEffect_verify (hword c).1 (hword c).2]

theorem exec_mclPatch_accepted {r : Requester} (h : s.accepts mclChecks r R.MCL_CMD 19 = true) :
    exec (.mclPatch r) s = .next (s.written r R.MCL_CMD 19).mclPatch := by
  rw [exec_mclPatch, execMclPatch, act_run (State.running_iff.mp hrun), softWrite_accepted h,
    show R.MCL_CMD % 0x1000 = 0x80 from rfl, mclEffect_patch rfl rfl]

section
variable {c : Fin 4} {i : Fin 32} (hexists : engExists c.val i.val = true) (hruns : s.engRuns c.val i.val = true)
include hexists hruns

theorem exec_engineInterrupt_running (inputs : BitVec 5) (facts : List WordFact) {t : State}
    (ht : State.runWords c.val i.val facts
      (s.setEng c.val i.val { s.engSt c.val i.val with pend := (s.engSt c.val i.val).pend ||| inputs.toNat }) = t) :
    exec (.engineInterrupt c i inputs facts) s
      = .next (if c.val = 3 ∧ (!t.engRuns 3 i.val) = true then t.chvEnd i.val else t).settleAll := by
  rw [exec_engineInterrupt, execEngineInterrupt, actAll_run (State.running_iff.mp hrun), if_pos ⟨hexists, hruns⟩]
  dsimp only
  rw [ht]

/-- A cause of R470; cause 4 is a Chervil engine's. -/
theorem exec_engineStop_running {cause : Fin 5} (hcause : 1 ≤ cause.val) (hfour : cause.val ≠ 4 ∨ c.val = 3) (addr : BitVec 14)
    (more : Bool) :
    exec (.engineStop c i cause addr more) s = .next (s.engineFault c.val i.val cause.val addr.toNat more).settleAll := by
  rw [exec_engineStop, execEngineStop, actAll_run (State.running_iff.mp hrun), if_pos ⟨hexists, hruns, hcause, hfour⟩]

theorem exec_engineStopRequest_disabled (hen : s.enabled (engPage c.val i.val) = false) :
    exec (.engineStopRequest c i) s = .next (s.engHalt c.val i.val).settleAll := by
  rw [exec_engineStopRequest, execEngineStopRequest, actAll_run (State.running_iff.mp hrun),
    if_pos ⟨hexists, hruns, by simp [hen]⟩]

end

end

end Sys2Proof.Machine
end

section
/-! The obligation of 15_microcode_engines.md. -/

namespace Sys2Proof.Machine

open Sys2Proof

/-- Settles O43: the lemmas of the rows, and `engineFault` of each class for a stop. -/
theorem microcodeCommandsComplete : Obligations.MicrocodeCommandsComplete := by
  unfold Obligations.MicrocodeCommandsComplete
  intro s hrun
  refine ⟨fun r c => ⟨exec_mclLoad_accepted hrun, exec_mclVerify_accepted hrun⟩, fun r => exec_mclPatch_accepted hrun,
    fun c i hexists hruns => ⟨fun inputs facts => ⟨fun hgoes => ?_, fun hc hstops => ?_⟩,
      fun cause addr more hcause => ⟨fun hc hfour => ?_, fun hc hfour => ?_, fun hc => ?_⟩,
      exec_engineStopRequest_disabled hrun hexists hruns⟩⟩
  · rw [exec_engineInterrupt_running hrun hexists hruns inputs facts rfl, if_neg]
    rintro ⟨hc, hstops⟩
    exact hgoes.elim (· hc) fun hgoes => by simp [hgoes] at hstops
  · rw [exec_engineInterrupt_running hrun hexists hruns inputs facts rfl, if_pos ⟨hc, by simp [hstops]⟩]
  · rw [exec_engineStop_running hrun hexists hruns hcause (.inl hfour), hc, engineFault_seq (hc ▸ hruns)]
  · rw [exec_engineStop_running hrun hexists hruns hcause (.inl hfour), hc, engineFault_par (hc ▸ hruns)]
  · rw [exec_engineStop_running hrun hexists hruns hcause (.inr hc), hc, engineFault_chv (hc ▸ hruns)]

end Sys2Proof.Machine
end

section
/-! SUPPORT. The DRAM controller (chapter 16): what accepted writes do to a channel, mode-register and training operations, and
the channel's own reports. -/

namespace Sys2Proof.Machine

open Sys2Proof

section
variable {s : State} {r : Requester} {p : PageAt} {old v : Word} {n : Nat}

theorem dmcEffect_fill (hv : v.bit 0 = true) :
    dmcEffect s r p 0x14C old v = s.wr64 R.DMC_FILL_PTR_LO (s.rd64 R.DMC_FILL_BASE_LO) := by
  rw [dmcEffect]
  dsimp only
  rw [if_neg (by decide), if_pos ⟨rfl, hv⟩]

theorem dmcEffect_live (hp : p.inst = n) (hv : v.bit 0 = true) :
    dmcEffect s r p 0x180 old v = (s.put (R.DMC_STS_STATE n) 3).onDmc n fun d => { d with trained := d.dly } := by
  rw [dmcEffect]
  dsimp only
  rw [if_neg (by decide), if_neg (by simp), if_pos ⟨rfl, hv⟩, hp]

/-- A write of GO makes a mode-register or training operation busy (R504). -/
theorem dmcEffect_operation {o : Nat} (hp : p.inst = n) (ho : (o = 0x198 ∧ v.bit 11 = true) ∨ (o = 0x1A0 ∧ v.bit 4 = true)) :
    dmcEffect s r p o old v = s.put (R.DMC_STS_OP_BUSY n) 1 := by
  have hother : o ≠ 4 ∧ o ≠ 0x14C ∧ o ≠ 0x180 := by omega
  obtain ⟨hctl, hfill, hlive⟩ := hother
  rw [dmcEffect]
  dsimp only
  rw [if_neg hctl, if_neg (by simp [hfill]), if_neg (by simp [hlive]), if_pos ho, hp]

end

/-- Each register of channel `n` lies in the page numbered `n`. -/
theorem inst_dmc (n : Fin 2) : (pageOf (R.DMC_CTL n.val)).inst = n.val ∧ (pageOf (R.DMC_MR_CMD n.val)).inst = n.val
    ∧ (pageOf (R.DMC_TRAIN_CTL n.val)).inst = n.val := by
  revert n
  decide

theorem offset_dmc (n : Fin 2) : R.DMC_CTL n.val % 0x1000 = 0x180 ∧ R.DMC_MR_CMD n.val % 0x1000 = 0x198
    ∧ R.DMC_TRAIN_CTL n.val % 0x1000 = 0x1A0 := by
  revert n
  decide

section
variable {s : State} {r : Requester} {n : Fin 2} {w : Word}

theorem softWrite_mrCmd (h : s.accepts dmcChecks r (R.DMC_MR_CMD n.val) w = true) (hgo : w.bit 11 = true) :
    s.softWrite dmcChecks dmcEffect r (R.DMC_MR_CMD n.val) w
      = (s.written r (R.DMC_MR_CMD n.val) w).put (R.DMC_STS_OP_BUSY n.val) 1 := by
  rw [softWrite_accepted h, dmcEffect_operation (inst_dmc n).2.1 (.inl ⟨(offset_dmc n).2.1, hgo⟩)]

theorem softWrite_trainCtl (h : s.accepts dmcChecks r (R.DMC_TRAIN_CTL n.val) w = true) (hgo : w.bit 4 = true) :
    s.softWrite dmcChecks dmcEffect r (R.DMC_TRAIN_CTL n.val) w
      = (s.written r (R.DMC_TRAIN_CTL n.val) w).put (R.DMC_STS_OP_BUSY n.val) 1 := by
  rw [softWrite_accepted h, dmcEffect_operation (inst_dmc n).2.2 (.inr ⟨(offset_dmc n).2.2, hgo⟩)]

/-- The word of MR_CMD that starts a mode-register command. -/
def mrWord (mr rank sub : Nat) (write : Bool) : Word :=
  BitVec.ofNat 32 (mr + b2n write * 2 ^ 8 + rank * 2 ^ 9 + sub * 2 ^ 10 + 2 ^ 11)

/-- A mode-register command that is taken runs and completes (R504, R505). -/
theorem mrRun_taken {mr rank sub : Nat} {write : Bool} {t : State} (done : State → State)
    (hidle : s.flag (R.DMC_MR_CMD_GO n.val) = false)
    (htook : s.softWrite dmcChecks dmcEffect r (R.DMC_MR_CMD n.val) (mrWord mr rank sub write) = t)
    (hheld : t.rd (R.DMC_MR_CMD n.val) = mrWord mr rank sub write) :
    s.mrRun r n.val mr rank sub write done = (done (t.put (R.DMC_MR_CMD_GO n.val) 0)).dmcOpDone n.val := by
  rw [mrWord] at htook hheld
  rw [State.mrRun]
  rw [if_neg (Bool.eq_false_iff.mp hidle), htook, if_pos hheld]

/-- The word of TRAIN_CTL that starts a training operation. -/
def trainWord (opc rank sub rep : Nat) : Word :=
  BitVec.ofNat 32 (opc + 2 ^ 4 + rank * 2 ^ 5 + sub * 2 ^ 6 + rep * 2 ^ 8)

/-- A training operation that is taken runs and leaves its pass map and error count (R497, R505). -/
theorem train_taken {opc rank sub rep pass errs : Nat} {t : State} (hopc : opc ≠ 7)
    (hidle : s.flag (R.DMC_TRAIN_CTL_GO n.val) = false)
    (htook : s.softWrite dmcChecks dmcEffect r (R.DMC_TRAIN_CTL n.val) (trainWord opc rank sub rep) = t)
    (hheld : t.rd (R.DMC_TRAIN_CTL n.val) = trainWord opc rank sub rep) :
    s.train opc r n.val rank sub rep pass errs
      = (((t.put (R.DMC_TRAIN_CTL_GO n.val) 0).wr (R.DMC_TRAIN_RES_0 n.val) (BitVec.ofNat 32 pass)).wr
          (R.DMC_TRAIN_RES_1 n.val) (BitVec.ofNat 32 (pass / 2 ^ 32 % 256 + min 65535 errs * 2 ^ 16))).dmcOpDone n.val := by
  rw [trainWord] at htook hheld
  rw [State.train]
  dsimp only
  rw [if_neg (Bool.eq_false_iff.mp hidle), htook, if_pos hheld, if_neg hopc]

/-- ZQ has no per-lane result. -/
theorem train_zq {rank sub rep : Nat} {t : State} (hidle : s.flag (R.DMC_TRAIN_CTL_GO n.val) = false)
    (htook : s.softWrite dmcChecks dmcEffect r (R.DMC_TRAIN_CTL n.val) (trainWord 7 rank sub rep) = t)
    (hheld : t.rd (R.DMC_TRAIN_CTL n.val) = trainWord 7 rank sub rep) :
    s.train 7 r n.val rank sub rep 0 0 = (t.put (R.DMC_TRAIN_CTL_GO n.val) 0).dmcOpDone n.val := by
  rw [trainWord] at htook hheld
  rw [State.train]
  dsimp only
  rw [if_neg (Bool.eq_false_iff.mp hidle), htook, if_pos hheld, if_pos rfl]

end

/-! ### Accesses, alerts and self-refresh -/

theorem dramAccess_waits {s : State} {a : DramAcc} (h : s.dramOpen = true ∨ s.dramSr = true) :
    s.dramAccess a = (s.onMem fun x => { x with wait := x.wait ++ [a] }).admitAll := by
  rw [State.dramAccess, if_pos (by simpa using h)]

theorem dramAccess_closed {s : State} {a : DramAcc} (hopen : s.dramOpen = false) (hsr : s.dramSr = false) :
    s.dramAccess a = s.emit (.dramError a.port a.addr) := by
  rw [State.dramAccess, if_neg (by simp [hopen, hsr])]

theorem srExit_both {s : State} (h0 : s.dmcState 0 = 4) (h1 : (s.put (R.DMC_STS_STATE 0) 3).dmcState 1 = 4) :
    s.srExit = ((s.put (R.DMC_STS_STATE 0) 3).put (R.DMC_STS_STATE 1) 3).admitAll := by
  rw [State.srExit, show List.range 2 = [0, 1] from rfl, List.foldl_cons, if_pos h0, List.foldl_cons, if_pos h1, List.foldl_nil]

/-! ### Commands -/

section
variable {s : State} (hrun : s.running = true)
include hrun

theorem exec_dmcInitDone_init {n : Fin 2} (hinit : s.dmcState n.val = 1) :
    exec (.dmcInitDone n) s
      = .next ((s.put (R.DMC_STS_STATE n.val) 2).put (hRUNNING (0xE0000 + 0x1000 * n.val)) 1) := by
  rw [exec_dmcInitDone, execDmcInitDone, act_run (State.running_iff.mp hrun), if_pos hinit]

theorem exec_dmcLive_accepted {r : Requester} {n : Fin 2} (h : s.accepts dmcChecks r (R.DMC_CTL n.val) 1 = true) :
    exec (.dmcLive r n) s
      = .next (((s.written r (R.DMC_CTL n.val) 1).put (R.DMC_STS_STATE n.val) 3).onDmc n.val fun d =>
          { d with trained := d.dly }) := by
  rw [exec_dmcLive, execDmcLive, act_run (State.running_iff.mp hrun), softWrite_accepted h, (offset_dmc n).1,
    dmcEffect_live (inst_dmc n).1 rfl]

/-- The six training operations with per-lane results, once their write of TRAIN_CTL is taken. -/
theorem act_train_taken {r : Requester} {n : Fin 2} {opc rank sub rep pass errs : Nat} (hopc : opc ≠ 7)
    (hidle : s.flag (R.DMC_TRAIN_CTL_GO n.val) = false)
    (h : s.accepts dmcChecks r (R.DMC_TRAIN_CTL n.val) (trainWord opc rank sub rep) = true
      ∧ Word.bit (trainWord opc rank sub rep) 4 = true
      ∧ ((s.written r (R.DMC_TRAIN_CTL n.val) (trainWord opc rank sub rep)).put (R.DMC_STS_OP_BUSY n.val) 1).rd
          (R.DMC_TRAIN_CTL n.val) = trainWord opc rank sub rep) :
    (act s fun s => s.train opc r n.val rank sub rep pass errs)
      = .next ((((((s.written r (R.DMC_TRAIN_CTL n.val) (trainWord opc rank sub rep)).put (R.DMC_STS_OP_BUSY n.val) 1).put
          (R.DMC_TRAIN_CTL_GO n.val) 0).wr (R.DMC_TRAIN_RES_0 n.val) (BitVec.ofNat 32 pass)).wr
          (R.DMC_TRAIN_RES_1 n.val) (BitVec.ofNat 32 (pass / 2 ^ 32 % 256 + min 65535 errs * 2 ^ 16))).dmcOpDone n.val) := by
  obtain ⟨hacc, hgo, hheld⟩ := h
  rw [act_run (State.running_iff.mp hrun), train_taken hopc hidle (softWrite_trainCtl hacc hgo) hheld]

theorem exec_dramFill_accepted {r : Requester} (h : s.accepts dmcChecks r R.DMC_FILL_CTL 1 = true) :
    exec (.dramFill r) s
      = .next ((s.written r R.DMC_FILL_CTL 1).wr64 R.DMC_FILL_PTR_LO ((s.written r R.DMC_FILL_CTL 1).rd64 R.DMC_FILL_BASE_LO)) := by
  rw [exec_dramFill, execDramFill, act_run (State.running_iff.mp hrun), softWrite_accepted h,
    show R.DMC_FILL_CTL % 0x1000 = 0x14C from rfl, dmcEffect_fill rfl]

theorem exec_dramRefresh_live {n rank sub : Fin 2} (hlive : s.dmcState n.val = 3) (hen : s.flag (R.DMC_REF_EN n.val) = true) :
    exec (.dramRefresh n rank sub) s
      = .next (let k := rank.val * 2 + sub.val
        let owed := ((s.dmcSt n.val).owed.find k).getD 0 + 1
        let busy := s.mem.wait.any fun a => s.chOf (a.addr / 64) = n.val && s.rankSubOf (a.addr / 64) = k
        if (busy && decide (owed ≤ s.get (R.DMC_REF_POST n.val))) = true then
          s.onDmc n.val fun d => { d with owed := d.owed.put k owed }
        else ((s.onDmc n.val fun d => { d with owed := d.owed.del k }).addCount (R.DMC_REFRESH_LO n.val) owed).evtB
          (0xE0000 + 0x1000 * n.val) 0x13 owed) := by
  rw [exec_dramRefresh, execDramRefresh, act_run (State.running_iff.mp hrun), if_pos ⟨hlive, hen⟩]

theorem exec_mr4Poll_live {n : Fin 2} {hot : BitVec 2} (hlive : s.dmcState n.val = 3)
    (hen : s.flag (R.DMC_REF_TEMP_EN n.val) = true) :
    exec (.mr4Poll n hot) s
      = .next (((s.onDmc n.val fun d => { d with hot := (List.range 2).filter fun k => hot.getLsbD k }).put (R.DMC_STS_REF_2X n.val)
          (b2n (decide (hot ≠ 0)))).setLevel (137 + 4 * n.val) (decide (hot ≠ 0))) := by
  rw [exec_mr4Poll, execMr4Poll, act_run (State.running_iff.mp hrun), if_pos ⟨hlive, hen⟩]

section
variable {n : Fin 2} {lane : Fin 62} {rank sub : Fin 2} {v : BitVec 10} {k t : Nat} (hlive : s.dmcState n.val = 3)
  (hk : lane.val + rank.val * 2 ^ 6 + sub.val * 2 ^ 7 = k) (ht : ((s.dmcSt n.val).trained.find k).getD 0 = t)
include hlive hk ht

theorem exec_writeTracking_near (habove : v.toNat ≤ t + 16) (hbelow : t ≤ v.toNat + 16) :
    exec (.writeTracking n lane rank sub v) s = .next (s.onDmc n.val fun d => { d with dly := d.dly.put k v.toNat }) := by
  rw [exec_writeTracking, execWriteTracking, act_run (State.running_iff.mp hrun), if_pos hlive]
  dsimp only
  rw [hk, ht, if_pos ⟨habove, hbelow⟩]

theorem exec_writeTracking_far (hfar : t + 16 < v.toNat ∨ v.toNat + 16 < t) :
    exec (.writeTracking n lane rank sub v) s
      = .next (((s.onDmc n.val fun d => { d with dly := d.dly.put k t }).put (R.DMC_STS_DRIFT n.val) 1).raise .dmc n.val 0x0D .c
          n.val) := by
  rw [exec_writeTracking, execWriteTracking, act_run (State.running_iff.mp hrun), if_pos hlive]
  dsimp only
  rw [hk, ht, if_neg (by omega)]

end

/-- With fewer than two assertions kept there is no third one within 1 ms. -/
theorem exec_alertNAssert_early {n : Fin 2} (hfew : (s.dmcSt n.val).alerts.length < 2) :
    exec (.alertNAssert n) s
      = .next (((s.onDmc n.val fun d => { d with alert := true, alerts := (s.now :: d.alerts).take 3 }).bump
          (R.DMC_ALERT_CNT_CNT n.val) 1).pulse (138 + 4 * n.val)) := by
  rw [exec_alertNAssert, execAlertNAssert, act_run (State.running_iff.mp hrun)]
  dsimp only
  match halerts : (s.dmcSt n.val).alerts, hfew with
  | [], _ => rw [if_neg Bool.false_ne_true]
  | [_], _ => rw [if_neg Bool.false_ne_true]

theorem exec_alertNDeassert_held {n : Fin 2} (halert : (s.dmcSt n.val).alert = true) :
    exec (.alertNDeassert n) s
      = .next (let d := s.dmcSt n.val
        let k := (d.recent.filter fun x => decide (d.alerts.headD 0 ≤ x + 80)).length
        (((s.onDmc n.val fun d => { d with alert := false }).addCount (R.DMC_ACT_LO n.val) k).evtB
          (0xE0000 + 0x1000 * n.val) 0x12 k).admitAll) := by
  rw [exec_alertNDeassert, execAlertNDeassert, act_run (State.running_iff.mp hrun), if_pos halert]

end

end Sys2Proof.Machine
end

section
/-! The obligations of 16_dram_controller.md. -/

namespace Sys2Proof.Machine

open Sys2Proof

/-- Settles O44: `mrRun_taken` and `train_taken` say what an operation that is taken leaves; the rest are the lemmas of the
rows. -/
theorem dramControllerCommandsComplete : Obligations.DramControllerCommandsComplete := by
  unfold Obligations.DramControllerCommandsComplete
  intro s n hrun
  have hact := State.running_iff.mp hrun
  refine ⟨exec_dmcInitDone_init hrun, fun r => exec_dmcLive_accepted hrun, fun r mr rank sub hidle => ⟨?_, ?_⟩,
    fun r rank sub rep pass errs hidle => ⟨?_, ?_, ?_, ?_, ?_, ?_, ?_⟩, fun r => exec_dramFill_accepted hrun, fun _ _ => ?_⟩
  · rintro devs ⟨hacc, hgo, hheld⟩
    rw [exec_mrRead, execMrRead, act_run hact, mrRun_taken _ hidle (softWrite_mrCmd hacc hgo) hheld]
    rfl
  · rintro ⟨hacc, hgo, hheld⟩
    rw [exec_mrWrite, execMrWrite, act_run hact, mrRun_taken _ hidle (softWrite_mrCmd hacc hgo) hheld]
    rfl
  · exact fun h => (exec_csTrain ..).trans (act_train_taken hrun (by decide) hidle h)
  · exact fun h => (exec_caTrain ..).trans (act_train_taken hrun (by decide) hidle h)
  · exact fun h => (exec_wlev ..).trans (act_train_taken hrun (by decide) hidle h)
  · exact fun h => (exec_rdGate ..).trans (act_train_taken hrun (by decide) hidle h)
  · exact fun h => (exec_rdDq ..).trans (act_train_taken hrun (by decide) hidle h)
  · exact fun h => (exec_wrDq ..).trans (act_train_taken hrun (by decide) hidle h)
  · rintro ⟨hacc, hgo, hheld⟩
    rw [exec_zq, execZq, act_run hact, train_zq hidle (softWrite_trainCtl hacc hgo) hheld]
    rfl
  · rw [exec_dramFillDone, execDramFillDone, act_run hact]

/-- Settles O45: an access by whether the front end serves it, a refresh by whether it may be postponed, and the lemmas of the
rows. -/
theorem dramAccessCommandsComplete : Obligations.DramAccessCommandsComplete := by
  unfold Obligations.DramAccessCommandsComplete
  intro s hrun
  have hact := State.running_iff.mp hrun
  refine ⟨fun port addr len data poison => ⟨fun hserved => ?_, fun hopen hsr => ?_⟩, ?_,
    fun n rank sub hlive hen => ⟨fun hbusy hpost => ?_, fun hissued => ?_⟩,
    fun n hot => exec_mr4Poll_live hrun,
    fun n lane rank sub v hlive => ⟨exec_writeTracking_near hrun hlive rfl rfl, exec_writeTracking_far hrun hlive rfl rfl⟩,
    fun n => exec_alertNAssert_early hrun, fun n => exec_alertNDeassert_held hrun, fun _ _ => ?_, fun h0 _ h1 => ?_⟩
  · rw [exec_dramAccess, execDramAccess, act_run hact, dramAccess_waits hserved]
  · rw [exec_dramAccess, execDramAccess, act_run hact, dramAccess_closed hopen hsr]
  · rw [exec_bucketRefill, execBucketRefill, act_run hact]
  · rw [exec_dramRefresh_live hrun hlive hen]
    dsimp only
    rw [if_pos (by rw [hbusy, decide_eq_true hpost]; rfl)]
  · rw [exec_dramRefresh_live hrun hlive hen]
    dsimp only
    rw [if_neg]
    rw [Bool.and_eq_true, decide_eq_true_eq]
    rintro ⟨hbusy, hpost⟩
    exact hissued.elim (fun h => by simp [h] at hbusy) hpost.not_gt
  · rw [exec_selfRefreshEntry, execSelfRefreshEntry, act_run hact]
  · rw [exec_selfRefreshExit, execSelfRefreshExit, act_run hact, srExit_both h0 h1]

end Sys2Proof.Machine
end

section
/-! SUPPORT. The DMA channels (chapter 17): what accepted writes of TAIL and CTL do, when a channel takes a descriptor, and how
one ends. -/

namespace Sys2Proof.Machine

open Sys2Proof

section
variable {s : State} {r : Requester} {p : PageAt} {old v : Word} {n : Nat}

theorem dmaEffect_tail (hp : p.inst = n) :
    dmaEffect s r p 0x94 old v = (s.put (R.DMA_STS_OWN_WAIT n) 0).trigPending n := by
  rw [dmaEffect]
  dsimp only
  rw [if_neg (by simp), if_pos rfl, hp]

/-- START alone releases the descriptors up to TAIL (R516). -/
theorem dmaEffect_start (hp : p.inst = n) :
    dmaEffect s r p 0x98 old 1
      = (s.setDma n fun d => { d with
          released := s.ringDist n (s.dmaSt n).next (s.get (R.DMA_TAIL_IDX n)) }).put (R.DMA_CTL_START n) 0 := by
  rw [dmaEffect]
  dsimp only
  rw [if_neg (by simp), if_neg (by decide), if_pos rfl, if_neg (by decide), if_pos (by decide), hp]

/-- ABORT alone ends what is in progress (R517). -/
theorem dmaEffect_abort (hp : p.inst = n) : dmaEffect s r p 0x98 old 2 = s.dmaAbort n := by
  rw [dmaEffect]
  dsimp only
  rw [if_neg (by simp), if_neg (by decide), if_pos rfl, if_pos (by decide), if_neg (by decide), hp]

end

/-- Each register of channel `n` lies in the page numbered `n`. -/
theorem inst_dma (n : Fin 32) : (pageOf (R.DMA_TAIL n.val)).inst = n.val ∧ (pageOf (R.DMA_CTL n.val)).inst = n.val := by
  revert n
  decide

theorem offset_dma (n : Fin 32) : R.DMA_TAIL n.val % 0x1000 = 0x94 ∧ R.DMA_CTL n.val % 0x1000 = 0x98 := by
  revert n
  decide

/-! ### Commands -/

section
variable {s : State} {n : Fin 32} (hrun : s.running = true)
include hrun

theorem exec_dmaTailWrite_accepted {r : Requester} {idx : BitVec 16}
    (h : s.accepts dmaChecks r (R.DMA_TAIL n.val) (BitVec.ofNat 32 idx.toNat) = true) :
    exec (.dmaTailWrite r n idx) s
      = .next (((s.written r (R.DMA_TAIL n.val) (BitVec.ofNat 32 idx.toNat)).put (R.DMA_STS_OWN_WAIT n.val) 0).trigPending
          n.val) := by
  rw [exec_dmaTailWrite, execDmaTailWrite, act_run (State.running_iff.mp hrun), softWrite_accepted h, (offset_dma n).1,
    dmaEffect_tail (inst_dma n).1]

theorem exec_dmaStart_accepted {r : Requester} {t : State} (ht : s.written r (R.DMA_CTL n.val) 1 = t)
    (h : s.accepts dmaChecks r (R.DMA_CTL n.val) 1 = true) :
    exec (.dmaStart r n) s
      = .next ((t.setDma n.val fun d => { d with
          released := t.ringDist n.val (t.dmaSt n.val).next (t.get (R.DMA_TAIL_IDX n.val)) }).put (R.DMA_CTL_START n.val) 0) := by
  rw [exec_dmaStart, execDmaStart, act_run (State.running_iff.mp hrun), softWrite_accepted h, (offset_dma n).2,
    dmaEffect_start (inst_dma n).2, ht]

theorem exec_dmaAbort_accepted {r : Requester} (h : s.accepts dmaChecks r (R.DMA_CTL n.val) 2 = true) :
    exec (.dmaAbort r n) s = .next ((s.written r (R.DMA_CTL n.val) 2).dmaAbort n.val) := by
  rw [exec_dmaAbort, execDmaAbort, act_run (State.running_iff.mp hrun), softWrite_accepted h, (offset_dma n).2,
    dmaEffect_abort (inst_dma n).2]

/-- A pulse of a channel that takes triggers releases a descriptor, or is counted (R516). -/
theorem exec_dmaTrigger_taken (hpulse : (s.dmaSt n.val).trig ≠ 0) (hnvm : s.dmaNvm n.val = false) (hmode : s.dmaMode n.val ≠ 0)
    (hen : s.flag (R.DMA_CFG_TRIG_EN n.val) = true) {t : State}
    (ht : s.setDma n.val (fun d => { d with trig := d.trig - 1 }) = t) :
    exec (.dmaTrigger n) s
      = .next (if (s.dmaSt n.val).released < t.ringDist n.val (s.dmaSt n.val).next (t.get (R.DMA_TAIL_IDX n.val)) then
          t.setDma n.val fun d => { d with released := d.released + 1 }
        else t.bump (R.DMA_STS_TRIG_PEND n.val) 1) := by
  rw [exec_dmaTrigger, execDmaTrigger, act_run (State.running_iff.mp hrun)]
  dsimp only
  rw [if_neg (by simp [hpulse, hnvm, hmode, hen]), ht]

section
variable (hready : s.dmaReady n.val = true)
include hready

/-- A ready channel of the NVMe engine takes the engine's next job (R507, R511). -/
theorem exec_descriptorStart_nvm {d : Desc} {ds : List Desc} (hnvm : s.dmaNvm n.val = true)
    (hjobs : (s.dmaSt n.val).jobs = d :: ds) (hwaits : s.descWaits n.val d = false) (hbme : s.bmeWaits n.val d = false) :
    exec (.descriptorStart n) s
      = .next (((s.put (R.DMA_STS_BME_WAIT n.val) 0).setDma n.val fun x => { x with jobs := ds }).descTake n.val d 0) := by
  rw [exec_descriptorStart, execDescriptorStart, act_run (State.running_iff.mp hrun)]
  dsimp only
  rw [if_neg (by simp [hready]), if_pos hnvm, hjobs]
  dsimp only
  rw [if_neg (Bool.eq_false_iff.mp hwaits), if_neg (Bool.eq_false_iff.mp hbme)]

/-- A ready channel of the firmware takes the next entry of its ring (R510, R511). -/
theorem exec_descriptorStart_ring {b : Bytes} {t : State} (hnvm : s.dmaNvm n.val = false)
    (havail : if s.dmaMode n.val = 0 then
        (s.dmaSt n.val).next ≠ s.get (R.DMA_TAIL_IDX n.val) ∧ s.flag (R.DMA_STS_OWN_WAIT n.val) = false
      else (s.dmaSt n.val).released ≠ 0)
    (hentry : s.ringEntry n.val (s.dmaSt n.val).next = (some b, t))
    (hown : (Desc.ofBytes b).own = true ∨ s.dmaMode n.val ≠ 0) (hwaits : t.descWaits n.val (Desc.ofBytes b) = false)
    (hbme : t.bmeWaits n.val (Desc.ofBytes b) = false) {u : State} (hu : t.put (R.DMA_STS_BME_WAIT n.val) 0 = u) :
    exec (.descriptorStart n) s
      = .next ((u.setDma n.val fun x => { x with
          next := ((s.dmaSt n.val).next + 1) % u.ringSize n.val, released := x.released - 1 }).descTake n.val (Desc.ofBytes b)
            (s.dmaSt n.val).next) := by
  have hhas : (if decide (s.dmaMode n.val = 0) = true then
        decide ((s.dmaSt n.val).next ≠ s.get (R.DMA_TAIL_IDX n.val)) && !s.flag (R.DMA_STS_OWN_WAIT n.val)
      else decide ((s.dmaSt n.val).released ≠ 0)) = true := by
    by_cases hmode : s.dmaMode n.val = 0
    · rw [if_pos hmode] at havail
      simp [hmode, havail]
    · rw [if_neg hmode] at havail
      simp [hmode, havail]
  rw [exec_descriptorStart, execDescriptorStart, act_run (State.running_iff.mp hrun)]
  dsimp only
  rw [if_neg (by simp [hready]), if_neg (Bool.eq_false_iff.mp hnvm), hhas, if_neg (by decide), hentry]
  dsimp only
  rw [if_neg (by rcases hown with h | h <;> simp [h]), if_neg (Bool.eq_false_iff.mp hwaits),
    if_neg (Bool.eq_false_iff.mp hbme), hu]

end

section
variable {j : DmaJob} {js : List DmaJob} (hhead : (s.dmaSt n.val).active = j :: js)
include hhead

theorem exec_descriptorComplete_failed (hcode : j.code.isSome = true) :
    exec (.descriptorComplete n) s = .next (s.retire n.val) := by
  obtain ⟨c, hc⟩ := Option.isSome_iff_exists.mp hcode
  rw [exec_descriptorComplete, execDescriptorComplete, act_run (State.running_iff.mp hrun)]
  dsimp only
  rw [hhead]
  dsimp only
  rw [hc]

theorem exec_descriptorComplete_received (hcode : j.code = none) (hhost : j.d.hostRead.isSome = true) (hall : j.recv = j.d.len) :
    exec (.descriptorComplete n) s = .next ((s.headDone n.val 0 0 j.d.len false).retire n.val) := by
  obtain ⟨a, ha⟩ := Option.isSome_iff_exists.mp hhost
  rw [exec_descriptorComplete, execDescriptorComplete, act_run (State.running_iff.mp hrun)]
  dsimp only
  rw [hhead]
  dsimp only
  rw [hcode, ha]
  dsimp only
  rw [if_pos hall]

theorem exec_descriptorComplete_local (hcode : j.code = none) (hhost : j.d.hostRead = none)
    (hbme : State.needsHost j.d = false ∨ s.busMaster = true) :
    exec (.descriptorComplete n) s
      = .next (let p := s.moveLocal j.d j.d.len
        (p.2.headDone n.val p.1.code p.1.detail p.1.done p.1.poison).retire n.val) := by
  rw [exec_descriptorComplete, execDescriptorComplete, act_run (State.running_iff.mp hrun)]
  dsimp only
  rw [hhead]
  dsimp only
  rw [hcode, hhost]
  dsimp only
  rw [if_neg (by rcases hbme with h | h <;> simp [h])]

end

section
variable {k : Fin 4} {write : Bool} {detail : BitVec 3} {units : Nat} {j : DmaJob}
  (hjob : (s.dmaSt n.val).active[k.val]? = some j) (hcode : j.code = none)
include hjob hcode

theorem exec_dmaBusError_host (hhost : j.d.hostRead.isSome = true) :
    exec (.dmaBusError n k write detail units) s
      = .next (s.descBad n.val j.idx (if write then 5 else 4) detail.toNat (s.doneBytes n.val j)) := by
  obtain ⟨a, ha⟩ := Option.isSome_iff_exists.mp hhost
  rw [exec_dmaBusError, execDmaBusError, act_run (State.running_iff.mp hrun)]
  dsimp only
  rw [hjob]
  dsimp only
  rw [if_neg (by simp [hcode]), ha]

theorem exec_dmaBusError_local {m : Moved} {t : State} (hhost : j.d.hostRead = none)
    (hmoved : s.moveLocal j.d (min (64 * units) (j.d.len - 64)) = (m, t)) (hm : m.code = 0) :
    exec (.dmaBusError n k write detail units) s
      = .next (t.descBad n.val j.idx (if write then 5 else 4) detail.toNat (min (64 * units) (j.d.len - 64))) := by
  rw [exec_dmaBusError, execDmaBusError, act_run (State.running_iff.mp hrun)]
  dsimp only
  rw [hjob]
  dsimp only
  rw [if_neg (by simp [hcode]), hhost]
  dsimp only
  rw [hmoved]
  dsimp only
  rw [if_pos hm]

end

end

end Sys2Proof.Machine
end

section
/-! The obligation of the DMA channels of 17_dma_and_cipher.md. -/

namespace Sys2Proof.Machine

open Sys2Proof

/-- Settles O46: the lemmas of the rows; a trigger by whether there is room below TAIL. -/
theorem dmaCommandsComplete : Obligations.DmaCommandsComplete := by
  unfold Obligations.DmaCommandsComplete
  intro s n hrun
  refine ⟨fun r => ⟨fun idx => exec_dmaTailWrite_accepted hrun, exec_dmaStart_accepted hrun rfl, exec_dmaAbort_accepted hrun⟩,
    fun hpulse hnvm hmode hen => ⟨fun hroom => ?_, fun hfull => ?_⟩,
    fun hready => ⟨fun d ds => exec_descriptorStart_nvm hrun hready, fun b t hnvm havail hentry hown hwaits hbme =>
      exec_descriptorStart_ring hrun hready hnvm havail hentry hown hwaits hbme rfl⟩,
    fun j js hhead => ⟨exec_descriptorComplete_failed hrun hhead, exec_descriptorComplete_received hrun hhead,
      exec_descriptorComplete_local hrun hhead⟩,
    fun k write detail units j hjob hcode => ⟨exec_dmaBusError_host hrun hjob hcode,
      fun hhost => exec_dmaBusError_local hrun hjob hcode hhost rfl⟩⟩
  · rw [exec_dmaTrigger_taken hrun hpulse hnvm hmode hen rfl, if_pos hroom]
  · rw [exec_dmaTrigger_taken hrun hpulse hnvm hmode hen rfl, if_neg hfull.not_gt]

end Sys2Proof.Machine
end

section
/-! SUPPORT. The cipher engine (chapter 17) and memory protection (chapter 18): a dispatch, key and vector commands that are
taken, and the errors and injections of the memories. -/

namespace Sys2Proof.Machine

open Sys2Proof

section
variable {s : State} {r : Requester} {p : PageAt} {old v : Word}

theorem ciphEffect_key (hgo : v.bit 2 = true) : ciphEffect s r p 0x90 old v = s.put R.CIPH_KSTS_BUSY 1 := by
  rw [ciphEffect, if_pos ⟨rfl, hgo⟩]

theorem ciphEffect_vector (hgo : v.bit 1 = true) :
    ciphEffect s r p 0xB0 old v = (s.put R.CIPH_VSTS_BUSY 1).put R.CIPH_VSTS_DONE 0 := by
  rw [ciphEffect, if_neg (by simp), if_pos ⟨rfl, hgo⟩]

end

/-- A unit that its keys allow goes through a free pipeline (R518, R521). -/
theorem ciphDispatch_taken {t v : State} {p i : Nat} {u : CiphUnit} {bs : Bytes} (hfree : t.freePipe = some p)
    (hpick : t.pickUnit = some (i, u))
    (hout : (t.onCiph fun x => { x with queue := x.queue.eraseIdx i, last := u.port }).cipher u.op u.data = (some bs, v)) :
    t.ciphDispatch
      = ((v.onCiph fun x =>
          { x with pipes := x.pipes.put p (t.unitSlots u, v.now + cdiv ((u.op.blocks + 15) * 5) 6) }).unitDone u (some bs)).ciphSettle := by
  rw [State.ciphDispatch, hfree, hpick]
  dsimp only
  rw [hout]

section
variable {s : State} {r : Requester}

/-- The word of KCMD that starts a key command. -/
def keyWord (op klen use dom slot : Nat) : Word := BitVec.ofNat 32 (op + 4 + klen * 8 + use * 16 + dom * 64 + slot * 256)

/-- KCMD written, its command started. -/
def State.keyTook (s : State) (r : Requester) (w : Word) : State := (s.written r R.CIPH_KCMD w).put R.CIPH_KSTS_BUSY 1

/-- A key command that is taken runs (R526 to R528). -/
theorem kcmd_taken {op klen use dom slot : Nat} (run : State → State) (hidle : s.flag R.CIPH_KCMD_GO = false)
    (hacc : s.accepts ciphChecks r R.CIPH_KCMD (keyWord op klen use dom slot) = true)
    (hgo : (keyWord op klen use dom slot).bit 2 = true)
    (hheld : (s.keyTook r (keyWord op klen use dom slot)).rd R.CIPH_KCMD = keyWord op klen use dom slot)
    (hfree : (s.keyTook r (keyWord op klen use dom slot)).ciph.writes.any (·.cmd) = false) :
    s.kcmd r op klen use dom slot run = run (s.keyTook r (keyWord op klen use dom slot)) := by
  have htook : s.softWrite ciphChecks ciphEffect r R.CIPH_KCMD (keyWord op klen use dom slot)
      = s.keyTook r (keyWord op klen use dom slot) := by
    rw [softWrite_accepted hacc, show R.CIPH_KCMD % 0x1000 = 0x90 from rfl, ciphEffect_key hgo, State.keyTook]
  rw [keyWord] at htook hheld hfree ⊢
  rw [State.kcmd, if_neg (Bool.eq_false_iff.mp hidle), htook, if_pos ⟨hheld, by rw [hfree]; rfl⟩]

/-- The word of VCMD that starts a vector command. -/
def vectorWord (dec : Bool) (handle : Nat) : Word := BitVec.ofNat 32 (b2n dec + 2 + handle * 65536)

/-- VCMD written, its command started. -/
def State.vectorTook (s : State) (r : Requester) (w : Word) : State :=
  ((s.written r R.CIPH_VCMD w).put R.CIPH_VSTS_BUSY 1).put R.CIPH_VSTS_DONE 0

/-- A vector command that is taken runs (R529). -/
theorem vcmd_taken {dec : Bool} {handle : Nat} (hidle : s.flag R.CIPH_VCMD_GO = false)
    (hacc : s.accepts ciphChecks r R.CIPH_VCMD (vectorWord dec handle) = true) (hgo : (vectorWord dec handle).bit 1 = true)
    (hheld : (s.vectorTook r (vectorWord dec handle)).rd R.CIPH_VCMD = vectorWord dec handle) :
    s.vcmd r dec handle = (s.vectorTook r (vectorWord dec handle)).vcmdRun := by
  have htook : s.softWrite ciphChecks ciphEffect r R.CIPH_VCMD (vectorWord dec handle)
      = s.vectorTook r (vectorWord dec handle) := by
    rw [softWrite_accepted hacc, show R.CIPH_VCMD % 0x1000 = 0xB0 from rfl, ciphEffect_vector hgo, State.vectorTook]
  rw [vectorWord] at htook hheld ⊢
  rw [State.vcmd, if_neg (Bool.eq_false_iff.mp hidle), htook, if_pos hheld]

end

/-! ### Commands -/

section
variable {s : State} (hrun : s.running = true)
include hrun

theorem exec_uncorrectableRead_recorded {cls : Fin 10} {inst : BitVec 5} {req : Fin 8} {addr : BitVec 37} (kind : Fin 3) :
    exec (.uncorrectableRead cls inst req kind addr) s
      = .next (s.uncorrectable cls.val inst.toNat req.val kind.val addr.toNat) := by
  rw [exec_uncorrectableRead, execUncorrectableRead, act_run (State.running_iff.mp hrun)]

section
variable {cls : Fin 10} {inst : BitVec 5} {req : Fin 8} {sym : Fin 5} {addr : BitVec 37}

theorem exec_correctedError_elsewhere (hcls : cls.val < 4 ∨ 7 < cls.val) :
    exec (.correctedError cls inst req sym addr) s
      = .next (s.corrected cls.val inst.toNat req.val sym.val addr.toNat) := by
  rw [exec_correctedError, execCorrectedError, act_run (State.running_iff.mp hrun)]
  dsimp only
  rw [if_neg (by omega)]

/-- The control stores, classes 4 to 7, also count in MCL (R479). -/
theorem exec_correctedError_controlStore (hlow : 4 ≤ cls.val) (hhigh : cls.val ≤ 7) :
    exec (.correctedError cls inst req sym addr) s
      = .next ((((s.corrected cls.val inst.toNat req.val sym.val addr.toNat).bump R.MCL_ECC_CNT_CNT 1).evtB 0x90000 0x11 1).pulse
          55) := by
  rw [exec_correctedError, execCorrectedError, act_run (State.running_iff.mp hrun)]
  dsimp only
  rw [if_pos ⟨hlow, hhigh⟩]

end

theorem exec_memRecordRead_served {r : Requester} {ue : Bool} {w : Fin 3}
    (h : s.readable r ((if ue then R.MEM_UE_REC_0 else R.MEM_CE_REC_0) + 4 * w.val) = true) :
    exec (.memRecordRead r ue w) s
      = .next (s.wordRead (fun _ _ _ _ => none) memReadEffect r ((if ue then R.MEM_UE_REC_0 else R.MEM_CE_REC_0) + 4 * w.val)) := by
  rw [exec_memRecordRead, execMemRecordRead, act_run (State.running_iff.mp hrun), softRead_served h]

theorem exec_injectArm_accepted {r : Requester} {kind : BitVec 2} {staging : Bool}
    (h : s.accepts memChecks r R.MEM_INJ_CTL (BitVec.ofNat 32 (kind.toNat + 4 * b2n staging + 8)) = true) :
    exec (.injectArm r kind staging) s
      = .next (s.written r R.MEM_INJ_CTL (BitVec.ofNat 32 (kind.toNat + 4 * b2n staging + 8))) := by
  rw [exec_injectArm, execInjectArm, act_run (State.running_iff.mp hrun), softWrite_accepted h, noEffect]

section
variable {port : Fin 8} {data : Bytes} (harm : s.flag R.MEM_INJ_CTL_ARM = true)
include harm

theorem exec_injected_staging (htarget : s.flag R.MEM_INJ_CTL_TARGET = true) :
    exec (.injected port data) s
      = .next (let a := s.rd64 R.MEM_INJ_ADDR_LO % 2 ^ 37
        s.setWords (a / 4096) (a / 16 % 256) ((data ++ List.replicate 16 0).take 16) false) := by
  rw [exec_injected, execInjected, act_run (State.running_iff.mp hrun), if_pos harm]
  dsimp only
  rw [if_pos htarget]

theorem exec_injected_dram (htarget : s.flag R.MEM_INJ_CTL_TARGET = false) :
    exec (.injected port data) s
      = .next (s.dramStore port.val (s.rd64 R.MEM_INJ_ADDR_LO % 2 ^ 37) ((data ++ List.replicate 64 0).take 64) false).2 := by
  rw [exec_injected, execInjected, act_run (State.running_iff.mp hrun), if_pos harm]
  dsimp only
  rw [if_neg (Bool.eq_false_iff.mp htarget)]

end

end

end Sys2Proof.Machine
end

section
/-! The obligation of the cipher engine of 17_dma_and_cipher.md and of 18_memory_protection.md. -/

namespace Sys2Proof.Machine

open Sys2Proof

/-- Settles O47: `ciphDispatch_taken`, `kcmd_taken` and `vcmd_taken`, and the lemmas of the memories' rows. -/
theorem cipherAndMemoryCommandsComplete : Obligations.CipherAndMemoryCommandsComplete := by
  unfold Obligations.CipherAndMemoryCommandsComplete
  intro s hrun
  have hact := State.running_iff.mp hrun
  refine ⟨fun units p i u bs v hfree hpick hout => ?_, fun r slot hidle => ⟨?_, ?_, ?_⟩, fun r handle hidle => ⟨?_, ?_⟩,
    fun cls inst req addr => ⟨exec_uncorrectableRead_recorded hrun, fun sym =>
      ⟨exec_correctedError_elsewhere hrun, exec_correctedError_controlStore hrun⟩⟩,
    fun r ue w => exec_memRecordRead_served hrun, fun r kind staging => exec_injectArm_accepted hrun,
    fun port data harm => ⟨exec_injected_staging hrun harm, exec_injected_dram hrun harm⟩⟩
  · rw [exec_cipherDispatch, execCipherDispatch, act_run hact, ciphDispatch_taken hfree hpick hout]
  · rintro long dom ⟨hacc, hgo, hheld, hfree⟩
    rw [exec_unwrap, execUnwrap, act_run hact, kcmd_taken _ hidle hacc hgo hheld hfree]
    rfl
  · rintro long use key ⟨hacc, hgo, hheld, hfree⟩ _ _
    rw [exec_generate, execGenerate, act_run hact, kcmd_taken _ hidle hacc hgo hheld hfree]
    rfl
  · rintro ⟨hacc, hgo, hheld, hfree⟩
    rw [exec_clear, execClear, act_run hact, kcmd_taken _ hidle hacc hgo hheld hfree]
    rfl
  · rintro ⟨hacc, hgo, hheld, _⟩
    rw [exec_vectorEncrypt, execVectorEncrypt, act_run hact, vcmd_taken hidle hacc hgo hheld]
    rfl
  · rintro ⟨hacc, hgo, hheld, _⟩
    rw [exec_vectorDecrypt, execVectorDecrypt, act_run hact, vcmd_taken hidle hacc hgo hheld]
    rfl

end Sys2Proof.Machine
end

section
/-! SUPPORT. Fault collection (chapter 19): what accepted writes to FLT do, and the reports of faults. -/

namespace Sys2Proof.Machine

open Sys2Proof

section
variable {s : State} {r : Requester} {p : PageAt} {old v : Word}

theorem fltEffect_limp (hp : p.page = 0) (hv : v.bit 0 = true) : fltEffect s r p 0x88 old v = s.limpEnter 3 0 := by
  rw [fltEffect.eq_def, if_pos hp, if_pos rfl, if_pos hv]

theorem fltEffect_ack (hp : p.page = 0) : fltEffect s r p 0x8C old v = s.ackUpTo v.toNat := by
  rw [fltEffect.eq_def, if_pos hp, if_neg (by decide), if_pos rfl]

theorem fltEffect_ringRd (hp : p.page = 0) : fltEffect s r p 0xA0 old v = s.put R.FLT_RING_STS_FULL 0 := by
  rw [fltEffect.eq_def, if_pos hp, if_neg (by decide), if_neg (by decide), if_pos rfl]

theorem fltEffect_firstF (hp : p.page = 0) (hv : v.bit 31 = true) :
    fltEffect s r p 0x11C old v = s.onFlt fun y => { y with firstF := none } := by
  simp [fltEffect, hp, hv]

theorem fltEffect_firstU (hp : p.page = 0) (hv : v.bit 31 = true) :
    fltEffect s r p 0x13C old v = s.onFlt fun y => { y with firstU := none } := by
  simp [fltEffect, hp, hv]

theorem fltEffect_firstC (hp : p.page = 0) (hv : v.bit 31 = true) :
    fltEffect s r p 0x15C old v = s.onFlt fun y => { y with firstC := none } := by
  simp [fltEffect, hp, hv]

end

section
variable {s : State} {c : Fin 4} {p : PageAt} {old v : Word}

/-- The message that a core's firmware raises (R549). -/
def State.fwMsg (s : State) (c : Fin 4) (k : FaultClass) : FaultMsg :=
  ⟨0x800 + c.val, 0x11, k, s.get R.FLT_FW_LOC_LO_LOC + s.get R.FLT_FW_LOC_HI_LOC * 2 ^ 32, s.devTime % 2 ^ 62⟩

/-- A firmware message of class F enters HALT at once (R565). -/
theorem fltEffect_raiseF (hp : p.page ≠ 0) (hgo : v.bit 2 = true) (hcls : v.fld 0 2 = 3) :
    fltEffect s (.core c) p 0x88 old v
      = (s.put R.FLT_FW_RAISE_GO 0).haltEnter [(s.put R.FLT_FW_RAISE_GO 0).fwMsg c .f] := by
  rw [fltEffect.eq_def, if_neg hp, if_pos ⟨rfl, hgo⟩]
  dsimp only
  rw [if_pos hcls, State.fwMsg]

/-- One of class C or U goes onto the links (R552). -/
theorem fltEffect_raiseOther (hp : p.page ≠ 0) (hgo : v.bit 2 = true) (hcls : v.fld 0 2 ≠ 3) :
    fltEffect s (.core c) p 0x88 old v
      = (s.put R.FLT_FW_RAISE_GO 0).onFlt fun y =>
          { y with links := y.links ++ [(s.put R.FLT_FW_RAISE_GO 0).fwMsg c (if v.fld 0 2 = 1 then .c else .u)] } := by
  rw [fltEffect.eq_def, if_neg hp, if_pos ⟨rfl, hgo⟩]
  dsimp only
  rw [if_neg hcls, State.fwMsg]

end

/-- The oldest pending record past half of its time reports it once (R560). -/
theorem halfReport_due {s : State} {x : PendRec} {xs : List PendRec} (hpend : s.flt.pend = x :: xs)
    (hhalf : x.limit ≤ 2 * x.used) (hfirst : x.halfDone = false) :
    s.halfReport = (s.onFlt fun y => { y with pend := { x with halfDone := true } :: xs }).pulse 27 := by
  rw [State.halfReport, hpend]
  dsimp only
  rw [if_pos ⟨hhalf, by simp [hfirst]⟩]

/-! ### Commands -/

section
variable {s : State} (hrun : s.running = true)
include hrun

theorem exec_faultMessage_arrive (n : Nat) :
    exec (.faultMessage n) s
      = .next (State.drainIn 4 ((s.onFlt fun y => { y with links := y.links.drop n }).msgsArrive (s.flt.links.take n))) := by
  rw [exec_faultMessage, execFaultMessage, act_run (State.running_iff.mp hrun)]

theorem exec_fatalLine_one {m : FaultMsg} (hcls : m.cls = .f) (hkind : fatalKinds.contains m.kind = true) :
    exec (.fatalLine [m]) s = .next (s.haltEnter [m]) := by
  have hkept : ([m].filter fun m => decide (m.cls = .f) && fatalKinds.contains m.kind) = [m] :=
    List.filter_eq_self.mpr fun x hx => by rw [List.mem_singleton.mp hx, hcls, hkind]; rfl
  rw [exec_fatalLine, execFatalLine, act_run (State.running_iff.mp hrun), hkept]

theorem exec_junctionTrip_hot {temp : Nat} (hhot : 120 ≤ temp) :
    exec (.junctionTrip temp) s = .next (s.fatal .esc 0 0x0A (1 + temp % 256 * 256)) := by
  rw [exec_junctionTrip, execJunctionTrip, act_run (State.running_iff.mp hrun), if_pos hhot]

theorem exec_faultAck_accepted {r : Requester} {seq : Word} (h : s.accepts fltChecks r R.FLT_ACK seq = true) :
    exec (.faultAck r seq) s = .next ((s.written r R.FLT_ACK seq).ackUpTo seq.toNat) := by
  rw [exec_faultAck, execFaultAck, act_run (State.running_iff.mp hrun), softWrite_accepted h,
    show R.FLT_ACK % 0x1000 = 0x8C from rfl, fltEffect_ack (by decide)]

theorem exec_escHalf_due {x : PendRec} {xs : List PendRec} (hpend : s.flt.pend = x :: xs) (hhalf : x.limit ≤ 2 * x.used)
    (hfirst : x.halfDone = false) :
    exec .escHalf s = .next ((s.onFlt fun y => { y with pend := { x with halfDone := true } :: xs }).pulse 27) := by
  rw [exec_escHalf, execEscHalf, act_run (State.running_iff.mp hrun), halfReport_due hpend hhalf hfirst]

theorem exec_escalationExpire_due {x : PendRec} (hdue : (s.flt.pend.find? fun x => decide (x.limit ≤ x.used)) = some x) :
    exec .escalationExpire s = .next (s.limpEnter 1 x.seq) := by
  rw [exec_escalationExpire, execEscalationExpire, act_run (State.running_iff.mp hrun), hdue]

theorem exec_limpRequest_accepted {c : Fin 4} (h : s.accepts fltChecks (.core c) R.FLT_CTL 1 = true) :
    exec (.limpRequest c) s = .next ((s.written (.core c) R.FLT_CTL 1).limpEnter 3 0) := by
  rw [exec_limpRequest, execLimpRequest, act_run (State.running_iff.mp hrun), softWrite_accepted h,
    show R.FLT_CTL % 0x1000 = 0x88 from rfl, fltEffect_limp (by decide) rfl]

theorem exec_ringRdWrite_accepted {r : Requester} {pos : Byte}
    (h : s.accepts fltChecks r R.FLT_RING_RD (BitVec.ofNat 32 pos.toNat) = true) :
    exec (.ringRdWrite r pos) s
      = .next ((s.written r R.FLT_RING_RD (BitVec.ofNat 32 pos.toNat)).put R.FLT_RING_STS_FULL 0) := by
  rw [exec_ringRdWrite, execRingRdWrite, act_run (State.running_iff.mp hrun), softWrite_accepted h,
    show R.FLT_RING_RD % 0x1000 = 0xA0 from rfl, fltEffect_ringRd (by decide)]

section
variable {c : Fin 4} {t : State}

theorem exec_fwRaise_f (ht : (s.written (.core c) R.FLT_FW_RAISE 7).put R.FLT_FW_RAISE_GO 0 = t)
    (h : s.accepts fltChecks (.core c) R.FLT_FW_RAISE 7 = true) :
    exec (.fwRaise c 3) s = .next (t.haltEnter [t.fwMsg c .f]) := by
  rw [exec_fwRaise, execFwRaise, act_run (State.running_iff.mp hrun),
    show (BitVec.ofNat 32 ((3 : BitVec 2).toNat + 4) : Word) = 7 from rfl, softWrite_accepted h,
    show R.FLT_FW_RAISE % 0x1000 = 0x88 from rfl, fltEffect_raiseF (by decide) rfl rfl, ht]

theorem exec_fwRaise_u (ht : (s.written (.core c) R.FLT_FW_RAISE 6).put R.FLT_FW_RAISE_GO 0 = t)
    (h : s.accepts fltChecks (.core c) R.FLT_FW_RAISE 6 = true) :
    exec (.fwRaise c 2) s = .next (t.onFlt fun y => { y with links := y.links ++ [t.fwMsg c .u] }) := by
  rw [exec_fwRaise, execFwRaise, act_run (State.running_iff.mp hrun),
    show (BitVec.ofNat 32 ((2 : BitVec 2).toNat + 4) : Word) = 6 from rfl, softWrite_accepted h,
    show R.FLT_FW_RAISE % 0x1000 = 0x88 from rfl, fltEffect_raiseOther (by decide) rfl (by decide), ht, if_neg (by decide)]

theorem exec_fwRaise_c (ht : (s.written (.core c) R.FLT_FW_RAISE 5).put R.FLT_FW_RAISE_GO 0 = t)
    (h : s.accepts fltChecks (.core c) R.FLT_FW_RAISE 5 = true) :
    exec (.fwRaise c 1) s = .next (t.onFlt fun y => { y with links := y.links ++ [t.fwMsg c .c] }) := by
  rw [exec_fwRaise, execFwRaise, act_run (State.running_iff.mp hrun),
    show (BitVec.ofNat 32 ((1 : BitVec 2).toNat + 4) : Word) = 5 from rfl, softWrite_accepted h,
    show R.FLT_FW_RAISE % 0x1000 = 0x88 from rfl, fltEffect_raiseOther (by decide) rfl (by decide), ht,
    if_pos (by decide)]

end

section
variable {r : Requester} {v : Word} (hv : BitVec.ofNat 32 (2 ^ 31) = v)
include hv

theorem exec_firstSlotClear_f (h : s.accepts fltChecks r (firstOff .f) v = true) :
    exec (.firstSlotClear r .f) s = .next ((s.written r (firstOff .f) v).onFlt fun y => { y with firstF := none }) := by
  rw [exec_firstSlotClear, execFirstSlotClear, act_run (State.running_iff.mp hrun), hv, softWrite_accepted h,
    show firstOff .f % 0x1000 = 0x11C from rfl, fltEffect_firstF (by decide) (by rw [← hv]; rfl)]

theorem exec_firstSlotClear_u (h : s.accepts fltChecks r (firstOff .u) v = true) :
    exec (.firstSlotClear r .u) s = .next ((s.written r (firstOff .u) v).onFlt fun y => { y with firstU := none }) := by
  rw [exec_firstSlotClear, execFirstSlotClear, act_run (State.running_iff.mp hrun), hv, softWrite_accepted h,
    show firstOff .u % 0x1000 = 0x13C from rfl, fltEffect_firstU (by decide) (by rw [← hv]; rfl)]

theorem exec_firstSlotClear_c (h : s.accepts fltChecks r (firstOff .c) v = true) :
    exec (.firstSlotClear r .c) s = .next ((s.written r (firstOff .c) v).onFlt fun y => { y with firstC := none }) := by
  rw [exec_firstSlotClear, execFirstSlotClear, act_run (State.running_iff.mp hrun), hv, softWrite_accepted h,
    show firstOff .c % 0x1000 = 0x15C from rfl, fltEffect_firstC (by decide) (by rw [← hv]; rfl)]

end

theorem exec_faultRecordRead_ring {r : Requester} (h : s.readable r (R.FLT_REC 0) = true) :
    exec (.faultRecordRead r none) s = .next (s.wordRead fltView fltReadEffect r (R.FLT_REC 0)) := by
  rw [exec_faultRecordRead, execFaultRecordRead.eq_def, act_run (State.running_iff.mp hrun)]
  dsimp only
  rw [softRead_served h]

theorem exec_faultRecordRead_slot {r : Requester} {k : FaultClass} (h : s.readable r (firstOff k - 0x1C) = true) :
    exec (.faultRecordRead r (some k)) s = .next (s.wordRead fltView fltReadEffect r (firstOff k - 0x1C)) := by
  rw [exec_faultRecordRead, execFaultRecordRead.eq_def, act_run (State.running_iff.mp hrun)]
  dsimp only
  rw [softRead_served h]

end

end Sys2Proof.Machine
end

section
/-! The obligation of 19_fault_handling.md. -/

namespace Sys2Proof.Machine

open Sys2Proof

/-- Settles O48: the lemmas of the rows, those of FW_RAISE and of the first-fault slots by class. -/
theorem faultCommandsComplete : Obligations.FaultCommandsComplete := by
  unfold Obligations.FaultCommandsComplete
  intro s hrun
  refine ⟨exec_faultMessage_arrive hrun, fun m => exec_fatalLine_one hrun, fun temp => exec_junctionTrip_hot hrun,
    fun c cls hacc => ⟨?_, ?_, ?_⟩, fun r seq => exec_faultAck_accepted hrun, fun x xs => exec_escHalf_due hrun,
    fun x => exec_escalationExpire_due hrun, fun c => exec_limpRequest_accepted hrun, fun r k hacc => ⟨?_, ?_, ?_⟩,
    fun r pos => exec_ringRdWrite_accepted hrun,
    fun r => ⟨exec_faultRecordRead_ring hrun, fun k => exec_faultRecordRead_slot hrun⟩⟩
  · rintro rfl
    exact exec_fwRaise_f hrun rfl hacc
  · rintro rfl
    exact exec_fwRaise_u hrun rfl hacc
  · rintro rfl
    exact exec_fwRaise_c hrun rfl hacc
  · rintro rfl
    exact exec_firstSlotClear_f hrun rfl hacc
  · rintro rfl
    exact exec_firstSlotClear_u hrun rfl hacc
  · rintro rfl
    exact exec_firstSlotClear_c hrun rfl hacc

end Sys2Proof.Machine
end
